-- ==== Sys2Proof/Word.lean ====
section
/-!
DEFINITION. The words of the model: a byte, and the 64-bit word of a Dyaris register (00 R12, R13).
A register field, a sequence number, a stamp and an address are natural numbers below the power of two of their
width: the manual orders, adds and slices them as numbers; a Dyaris register is a bit vector.
-/

namespace Sys2Proof

/-- One byte of a data structure or memory (00 R13). -/
abbrev Byte := BitVec 8

/-- One 64-bit Dyaris register (04 R126). -/
abbrev Word := BitVec 64

/-- A sequence number, bits [63:48] the group epoch and [47:0] the record index (00 R9). Its order as a number is
the lexicographic order on (epoch, index). -/
abbrev Seq := Nat

/-- A stamp in Tamp format, 96 bits (00 R10). -/
abbrev Stamp := Nat

end Sys2Proof
end

