-- ==== Sys2Proof/Syntax.lean ====
section
/-!
DEFINITION. The commands of the block: one constructor for each row of the manual's table of operations and events, with
the operands a sender gives (the table gives no operand fields: what each command carries is the model's choice,
notes/assumptions/1). A command that is an event of the part says that the event comes about at this moment.
-/

namespace Sys2Proof

/-- Who sends a thread-control write or another register access. -/
inductive Requester where
  | host | roaster | jtag | thread (t : Fin 8192) | sideband
  deriving DecidableEq, Repr

/-- How a cipher task ends on its unit: clean; at the 64-byte block of output at which the two datapaths first disagree (11 R434); or at an
uncorrectable GDDR7 read after that many blocks (11 Table 11-8). -/
inductive TaskEnd where
  | clean | mismatch (block : Nat) | memErr (block : Nat)
  deriving DecidableEq, Repr

/-- A completion of a device read request: data, a UR or CA status, or poisoned data (08 R311, Table 08-16). -/
inductive Cpl where
  | data (bs : List Byte) | failed | poisoned
  deriving DecidableEq, Repr

/-- The spaces an inbound memory request can name (08 Table 08-3); PF1 BAR2 is PEER_TLP's. -/
inductive Bar where
  | pf0Bar0 | pf0Bar2 | pf0Bar4 | pf1Bar0 | pf1Bar4
  deriving DecidableEq, Repr

/-- A configuration write to PF0 or PF1 of what it holds (08 R297): Bus Master Enable set; half of a 64-bit BAR; Max Payload Size, Max Read Request Size, relaxed ordering;
ID-based ordering; tags; completion timeout; MSI-X Enable and Function Mask; TPH Requester Enable; return to D0; the AER severity. -/
inductive CfgWrite where
  | busMaster | bar (i : Fin 6) (v : BitVec 32) | devCtl (mps mrrs : Fin 6) (relaxed : Bool) | ido (on : Bool) | tags (ten fourteen : Bool)
  | timeout (value : Fin 16) (disable : Bool) | msix (enable mask : Bool) | tph (on : Bool) | d0 | severity (fatal : Fin 16777216)
  deriving DecidableEq, Repr

/-- A register of configuration space that software reads, by its name in the PCI Express Base Specification (08 R295, R297): where it lies is for the capability list to say.
`caps`: the capabilities themselves. -/
inductive CfgReg where
  | id | command | classRev | bar (i : Fin 6) | subsystem | caps | devCap | devCtl | devCap2 | devCtl2 | linkStatus | pmCap | pmCtl | msixCtl | msixTable | msixPba
  | severity | serialLo | serialHi | ari | pasid | tphCap | tphCtl
  deriving DecidableEq, Repr

/-- What the debug path writes of a halted thread (04 R160): a general register, B, the PC, or the staging buffer. -/
inductive DbgWrite where
  | reg (n : Fin 32) (v : BitVec 64) | flagB (b : Bool) | pc (v : Fin 8192) | stage (ws : List (BitVec 64))
  deriving DecidableEq, Repr

/-- A register write: of the device register space, 4 or 8 bytes; of configuration space; or by the debug path of a halted thread. -/
inductive RegWrite where
  | space (who : Requester) (off : Nat) (eight : Bool) (v : BitVec 64) | config (pf1 : Bool) (w : CfgWrite) | debug (who : Requester) (t : Fin 8192) (w : DbgWrite)
  deriving DecidableEq, Repr

/-- What the debug path reads of a halted thread (04 R160). -/
inductive DbgRead where
  | reg (n : Fin 32) | flags | pc | stage
  deriving DecidableEq, Repr

/-- A register read: of the device register space, 4 or 8 bytes; of a 32-bit register of configuration space; or by the debug path of a halted thread. -/
inductive RegRead where
  | space (who : Requester) (off : Nat) (eight : Bool) | config (pf1 : Bool) (r : CfgReg) | debug (who : Requester) (t : Fin 8192) (r : DbgRead)
  deriving DecidableEq, Repr

/-- The header of a received Ezoon frame, without its type and length (12 Table 12-2). -/
structure EzHead where
  fver : Fin 256
  src : Fin 256
  dst : Fin 256
  flags : Fin 256
  credit : Fin 256
  lseq : BitVec 32
  lack : BitVec 32
  epoch : Fin 65536
  group : BitVec 64
  deriving DecidableEq, Repr

/-- One of the redundant copies of an ONFI parameter page (07 R250): whether its integrity CRC passes, data and spare bytes per page, pages per block, blocks per LUN and
LUNs per chip enable. -/
structure ParamPage where
  crcOk : Bool
  data : Nat
  spare : Nat
  pages : Nat
  blocks : Nat
  luns : Nat
  deriving DecidableEq, Repr

/-- What a target answers to its identification (07 R250): its 8 ID bytes, byte 0 in bits 7 to 0, and the copies of its parameter page in order. -/
structure TargetId where
  ch : Fin 32
  ce : Fin 8
  id : BitVec 64
  pages : List ParamPage
  deriving DecidableEq, Repr

/-- A byte that FACTORY_MARK reads (07 R250, R276): physical block, native page, byte in the page, and its value. -/
structure MarkByte where
  blk : Nat
  page : Nat
  byte : Nat
  value : Fin 256
  deriving DecidableEq, Repr

/-- What a boot finds on the board (13 Table 13-9): the flash's write-protect input; PWR_FAIL_N at step 1; PERST#; slots whose core cannot be read as it is
loaded; whether the boot-count write fails; failing GDDR7 devices; NAND channels that fail training; LUNs on which RESET_LUN fails twice; what targets answer that identify
themselves otherwise than the NAND section says; LUN record versions, by RECORD_SERIAL, with a page that fails its CRC; map checkpoints, by serial, with an unreadable
wordline. -/
structure BootEnv where
  wp : Bool := false
  pwrFail : Bool := false
  perst : Bool := false
  badCore : List (Fin 2) := []
  countFail : Bool := false
  badGddr : List (Fin 16) := []
  dead : List (Fin 32) := []
  resets : List (Fin 32 × Fin 16) := []
  targets : List TargetId := []
  badRecs : List (Fin 32 × Fin 16 × Nat) := []
  badCkpts : List Nat := []
  deriving DecidableEq, Repr

/-- A sample of a supply rail (15 R560): its voltage in mV and current in 10 mA, whether it is within tolerance, and whether it has been out of it for more than
10 µs. -/
structure RailIn where
  mv : Fin 65536
  current : Nat
  inTol : Bool
  out10 : Bool
  deriving DecidableEq, Repr

/-- The commands, in the order of the manual's table. -/
inductive Instr where
  /-- FRAME_START (R56): A start-of-frame delimiter is captured on a port; Tamp stamps it and the port watermark is pinned at that stamp. -/
  | frameStart (p : Fin 64) (sub : Fin 3277)
  /-- FRAME_END (R93): A received frame ends; with a good FCS within MAXLEN the port posts a PENDING slot and releases the pin. -/
  | frameEnd (p : Fin 64) (data : List Byte) (good : Bool)
  /-- FIP_TIMEOUT (R98): The frame-in-progress limit expires; the port discards the frame, releases the pin and ignores the rest of it. -/
  | fipTimeout (p : Fin 64)
  /-- PORT_LINK_LOSS (R99): A port's PCS declares link loss; any frame in progress is discarded and the port becomes LEAVING. -/
  | portLinkLoss (p : Fin 64)
  /-- PORT_LEAVE (R100): A LEAVING port leaves the active set once 2 × WINDOW_NS has passed and its last slot is resolved. -/
  | portLeave (p : Fin 64)
  /-- PORT_JOIN (R101): A port joins the active set at the first tick at which every join condition holds. -/
  | portJoin (p : Fin 64)
  /-- MERGE_RELEASE (R103): The least-keyed READY head slot is offered to the merge issue lane once the window and every watermark have passed its stamp. -/
  | mergeRelease
  /-- PARSE_LATE (R104): A slot still PENDING at the parse deadline is marked DROPPED, counted and logged. -/
  | parseLate (p : Fin 64)
  /-- SEQUENCE_ISSUE (R110): In one sequencer cycle one offered record, chosen by lane parity, receives the next sequence number. -/
  | sequenceIssue
  /-- DISPATCH (R185): A record that needs a verdict is written as a dispatch message to its session's cluster channel once a credit is free. -/
  | dispatch
  /-- VERDICT_DEADLINE (R209): The verdict deadline passes without a HAND OK, and Carafe sets LATE_VALUE and VERDICT_DEVICE. -/
  | verdictDeadline
  /-- APPEND (R213): Carafe appends the next record in sequence order once its verdict is fixed; the delivery entry is produced at the same time. -/
  | append (dup : Bool)
  /-- STRIPE_OPEN (R217): Carafe opens a stripe once its NAND slots, twin slots and staging can all be allocated together. -/
  | stripeOpen
  /-- FLUSH_POINT (R219): At each flush-interval expiry a non-empty open page is closed with FLUSHED set. -/
  | flushPoint (dup : Bool)
  /-- PAGE_PROGRAM_DONE (R221): A journal page, twin or parity program ends; Carafe judges LOCAL_OK and advances L. -/
  | pageProgramDone
  /-- WATERMARK_PUBLISH (R228): Carafe writes the newest W to each slice's watermark word, spaced at least MIN_GAP_NS apart. -/
  | watermarkPublish
  /-- ARCHIVE_MIGRATE (R240): Hot stripes whose pages are all LOCAL_OK are copied into archive stripes in groups of B, with new parity. -/
  | archiveMigrate
  /-- SEGMENT_ERASE (R241): An archive segment past retention, or covered by an applied ARCHIVE_RELEASE, is erased. -/
  | segmentErase
  /-- REPLAY (R231): Carafe issues the REPLAY record as the first record of the run once L_r satisfies the mode. -/
  | replay (bad anchors : List (Nat × Nat))
  /-- POUR_DECIDE (R236): Each sequencer cycle the Pour gate decides each port's head frame: release, hold or complete with a DEP status. -/
  | pourDecide
  /-- HOLD_TIMEOUT (R237): A head frame held for HOLD_LIMIT_US is completed with HOLD_TIMEOUT. -/
  | holdTimeout
  /-- EGRESS_TRANSMIT (R238): A frame in a port's MAC queue starts transmission, alternating gated and ungated frames. -/
  | egressTransmit (p : Fin 64)
  /-- EGRESS_DONE (R366): An egress frame ends transmission or is completed by the gate or port, and EGRESS_DONE is written. -/
  | egressDone (p : Fin 64)
  /-- SNAP_TAKE (R53): A write of TMP_SNAP_CTRL.TAKE latches the timebase into TMP_SNAP_LO and TMP_SNAP_HI. -/
  | snapTake
  /-- ETIME_EVAL (R59): Once per millisecond Tamp evaluates E_time, which takes effect at a tick boundary. -/
  | etimeEval
  /-- PTP_MESSAGE_RX (R64): A PTP message on a timing port goes to Tamp and Roaster's PTP state machines and BMCA. -/
  | ptpMessageRx (k : Fin 4)
  /-- PTP_EVENT_TX (R66): A timing port transmits a PTP event message, stamped, with one-step fields rewritten. -/
  | ptpEventTx (k : Fin 4) (sub : Fin 3277) (msg : List Byte)
  /-- PPS_IN_EDGE (R69): A rising edge on PPS_IN is stamped, corrected and used as a phase sample or flagged PPS_IN_LOSS. -/
  | ppsInEdge (sub : Fin 3277)
  /-- SOURCE_LOST (R62): A Sync, announce or PPS_IN timeout expires and the selected source is lost. -/
  | sourceLost (src : Fin 6)
  /-- PPS_OUT_EDGE (R71): PPS_OUT rises at a timebase second boundary when enabled and permitted by the state. -/
  | ppsOutEdge
  /-- TIME_STEP_CONSENT (R77): The mailbox consent request is checked and, if accepted, starts a forward step or a backward correction. -/
  | timeStepConsent (sl : Fin 256)
  /-- TIME_STEP_APPLY (R76): A consented forward step is applied to the timebase at a single tick and a TIME_DISC record is produced. -/
  | timeStepApply
  /-- CORRECTION_END (R76): The remaining backward offset reaches 0 and CORRECTING ends. -/
  | correctionEnd
  /-- TIME_STEP_DECLINE (R62): The mailbox decline deselects the source and moves Tamp to HOLDOVER or FREERUN. -/
  | timeStepDecline (sl : Fin 256)
  /-- TIME_SET_TOD (R73): The mailbox request sets the timebase before stamping starts, never backward. -/
  | timeSetTod (sl : Fin 256)
  /-- TIME_START_UNLOCKED (R73): The mailbox request enables port stamping before lock, subject to the journal's highest stamp. -/
  | timeStartUnlocked (sl : Fin 256)
  /-- STAMPING_ENABLE (R73): Port stamping is enabled at the first tick after lock, once replay's highest stamp lies below the timebase. -/
  | stampingEnable
  /-- LINK_LOCK (R80): A lane's link locks and Tamp starts measuring its die parts. -/
  | linkLock (n : Fin 64)
  /-- DIE_MEASURE_DONE (R80): The die measurement at lock completes, replaces the die parts, clears the excess and sets VALID. -/
  | dieMeasureDone (n : Fin 64) (rx tx : BitVec 24)
  /-- RECAL_START (R83): The live recalibration period of a lane elapses and a measurement starts in idle. -/
  | recalStart (n : Fin 64)
  /-- RECAL_APPLY (R86): A live result is judged per direction and applied at the next inter-frame gap or rejected with excess, with a LANE_CAL record. -/
  | recalApply (n : Fin 64) (rx tx : BitVec 24)
  /-- TRACE_SUBMIT (R91): At the end of each timebase second Tamp submits that second's TRACE record as a merge candidate. -/
  | traceSubmit
  /-- ADD (R173): ALU funct 0: rd gets rs1 + rs2. -/
  | add (t : Fin 8192) (rd rs1 rs2 : Fin 32)
  /-- SUB (R173): ALU funct 1: rd gets rs1 − rs2. -/
  | sub (t : Fin 8192) (rd rs1 rs2 : Fin 32)
  /-- AND (R173): ALU funct 2: bitwise AND. -/
  | and (t : Fin 8192) (rd rs1 rs2 : Fin 32)
  /-- OR (R173): ALU funct 3: bitwise OR. -/
  | or (t : Fin 8192) (rd rs1 rs2 : Fin 32)
  /-- XOR (R173): ALU funct 4: bitwise XOR. -/
  | xor (t : Fin 8192) (rd rs1 rs2 : Fin 32)
  /-- SHL (R173): ALU funct 5: shift left. -/
  | shl (t : Fin 8192) (rd rs1 rs2 : Fin 32)
  /-- SHR (R173): ALU funct 6: logical shift right. -/
  | shr (t : Fin 8192) (rd rs1 rs2 : Fin 32)
  /-- SAR (R173): ALU funct 7: arithmetic shift right. -/
  | sar (t : Fin 8192) (rd rs1 rs2 : Fin 32)
  /-- MUL (R173): ALU funct 8: low 64 bits of the product. -/
  | mul (t : Fin 8192) (rd rs1 rs2 : Fin 32)
  /-- MULHU (R173): ALU funct 9: high 64 bits of the unsigned product. -/
  | mulhu (t : Fin 8192) (rd rs1 rs2 : Fin 32)
  /-- ADDSU (R173): ALU funct 10: unsigned saturating add, setting B on saturation. -/
  | addsu (t : Fin 8192) (rd rs1 rs2 : Fin 32)
  /-- SUBSU (R173): ALU funct 11: unsigned saturating subtract, setting B on saturation. -/
  | subsu (t : Fin 8192) (rd rs1 rs2 : Fin 32)
  /-- MIN (R173): ALU funct 12: signed minimum. -/
  | min (t : Fin 8192) (rd rs1 rs2 : Fin 32)
  /-- MAX (R173): ALU funct 13: signed maximum. -/
  | max (t : Fin 8192) (rd rs1 rs2 : Fin 32)
  /-- BSWAP (R173): ALU funct 14: byte reversal. -/
  | bswap (t : Fin 8192) (rd rs1 rs2 : Fin 32)
  /-- POPC (R173): ALU funct 15: population count. -/
  | popc (t : Fin 8192) (rd rs1 rs2 : Fin 32)
  /-- ADDI (R173): rd gets rs1 plus the sign-extended immediate. -/
  | addi (t : Fin 8192) (rd rs1 : Fin 32) (imm : Fin 65536)
  /-- ANDI (R173): rd gets rs1 AND the zero-extended immediate. -/
  | andi (t : Fin 8192) (rd rs1 : Fin 32) (imm : Fin 65536)
  /-- ORI (R173): rd gets rs1 OR the zero-extended immediate. -/
  | ori (t : Fin 8192) (rd rs1 : Fin 32) (imm : Fin 65536)
  /-- XORI (R173): rd gets rs1 XOR the zero-extended immediate. -/
  | xori (t : Fin 8192) (rd rs1 : Fin 32) (imm : Fin 65536)
  /-- SHLI (R173): Shift left by an immediate. -/
  | shli (t : Fin 8192) (rd rs1 : Fin 32) (imm : Fin 65536)
  /-- SHRI (R173): Logical shift right by an immediate. -/
  | shri (t : Fin 8192) (rd rs1 : Fin 32) (imm : Fin 65536)
  /-- SARI (R173): Arithmetic shift right by an immediate. -/
  | sari (t : Fin 8192) (rd rs1 : Fin 32) (imm : Fin 65536)
  /-- MOVZ (R173): rd gets the immediate shifted into halfword hw, other bits zero. -/
  | movz (t : Fin 8192) (rd : Fin 32) (hw : Fin 4) (z : Fin 8) (imm : Fin 65536)
  /-- MOVK (R173): The immediate replaces halfword hw of rd, other bits kept. -/
  | movk (t : Fin 8192) (rd : Fin 32) (hw : Fin 4) (z : Fin 8) (imm : Fin 65536)
  /-- BR (R174): Conditional branch by off12 when the condition holds. -/
  | br (t : Fin 8192) (rs1 rs2 : Fin 32) (cond : Fin 16) (off : Fin 4096)
  /-- JAL (R174): Jump by off13, writing the return PC to rd. -/
  | jal (t : Fin 8192) (rd : Fin 32) (z : Fin 256) (off : Fin 8192)
  /-- JR (R174): Jump to rs1[12:0], writing the return PC to rd. -/
  | jr (t : Fin 8192) (rd rs1 rs2 : Fin 32) (funct : Fin 2048)
  /-- FXT (R175): Zero-extended field extract. -/
  | fxt (t : Fin 8192) (rd rs1 : Fin 32) (pos len1 : Fin 64)
  /-- FXTS (R175): Sign-extended field extract. -/
  | fxts (t : Fin 8192) (rd rs1 : Fin 32) (pos len1 : Fin 64)
  /-- FINS (R175): Field insert into rd. -/
  | fins (t : Fin 8192) (rd rs1 : Fin 32) (pos len1 : Fin 64)
  /-- FXTB (R176): Extract up to 8 frame fields into g24 to g31 by template. -/
  | fxtb (t : Fin 8192) (rd rs1 rs2 : Fin 32) (funct : Fin 2048)
  /-- LD (R177): Load from the thread address space with the cost class of its region. -/
  | ld (t : Fin 8192) (rt base : Fin 32) (size : Fin 4) (sx be : Bool) (off : Fin 4096)
  /-- ST (R177): Store to the thread address space. -/
  | st (t : Fin 8192) (rt base : Fin 32) (size : Fin 4) (sx be : Bool) (off : Fin 4096)
  /-- AADD (R178): Atomic add on a cluster SRAM word, returning the old value. -/
  | aadd (t : Fin 8192) (rd rs1 rs2 : Fin 32) (funct : Fin 2048)
  /-- TLK (R188): Load a risk or state table entry into consecutive registers. -/
  | tlk (t : Fin 8192) (rt rs : Fin 32) (tbl : Fin 16) (w : Fin 8) (z : Fin 512)
  /-- TST (R188): Store a register into one word of a table entry. -/
  | tst (t : Fin 8192) (rt rs : Fin 32) (tbl : Fin 16) (w : Fin 8) (z : Fin 512)
  /-- RCHK (R189): Set a reason bit in rd when the mode's comparison holds. -/
  | rchk (t : Fin 8192) (rd rs1 rs2 : Fin 32) (funct : Fin 2048)
  /-- LCK (R190): Blocking lock acquire, granting at once or parking in the lock's Saucer. -/
  | lck (t : Fin 8192) (rt rs1 : Fin 32) (z : Fin 8) (imm : Fin 512)
  /-- LTRY (R190): Try lock acquire, returning busy without parking. -/
  | ltry (t : Fin 8192) (rt rs1 : Fin 32) (z : Fin 8) (imm : Fin 512)
  /-- LREL (R145): Release a lock, passing it to the Saucer's oldest request two cycles later. -/
  | lrel (t : Fin 8192) (rt rs1 : Fin 32) (z : Fin 8) (imm : Fin 512)
  /-- RSV (R149): Blocking channel reserve, granting or parking in the channel's Saucer. -/
  | rsv (t : Fin 8192) (rt rs1 : Fin 32) (z : Fin 8) (imm : Fin 512)
  /-- RSVT (R149): Try channel reserve, returning busy without parking. -/
  | rsvt (t : Fin 8192) (rt rs1 : Fin 32) (z : Fin 8) (imm : Fin 512)
  /-- STG (R150): Stage one word into the staging buffer. -/
  | stg (t : Fin 8192) (rt rs1 : Fin 32) (z : Fin 8) (imm : Fin 512)
  /-- SND (R150): Send the staged words as one message and end the reservation. -/
  | snd (t : Fin 8192) (rt rs1 : Fin 32) (z : Fin 8) (imm : Fin 512)
  /-- RCV (R151): Take the channel's head message into registers or report empty. -/
  | rcv (t : Fin 8192) (rt rs1 : Fin 32) (z : Fin 8) (imm : Fin 512)
  /-- RSVR (R192): Obtain a remote channel credit. -/
  | rsvr (t : Fin 8192) (rt rs1 : Fin 32) (z : Fin 8) (imm : Fin 512)
  /-- SNDR (R194): Send the staged words to a remote channel using the credit. -/
  | sndr (t : Fin 8192) (rt rs1 : Fin 32) (z : Fin 8) (imm : Fin 512)
  /-- WAIT (R134): Set the event mask and enter WAIT unless a masked event is pending. -/
  | wait (t : Fin 8192) (rd rs1 : Fin 32) (imm : Fin 65536)
  /-- ECLR (R195): Clear pending event bits. -/
  | eclr (t : Fin 8192) (rd rs1 : Fin 32) (imm : Fin 65536)
  /-- SIG (R196): Raise a SIG_IN or SIG_EXT event on a target thread. -/
  | sig (t : Fin 8192) (rd rs1 : Fin 32) (imm : Fin 65536)
  /-- TSET (R197): Load or stop the thread timer. -/
  | tset (t : Fin 8192) (rd rs1 : Fin 32) (imm : Fin 65536)
  /-- STAMP (R198): Read the timebase as a stamp into two registers. -/
  | stamp (t : Fin 8192) (rd rs1 : Fin 32) (imm : Fin 65536)
  /-- MFS (R199): Read a thread state value selected by sel. -/
  | mfs (t : Fin 8192) (rd rs1 : Fin 32) (imm : Fin 65536)
  /-- FGET (R180): Take the frame in a binding and write its descriptor. -/
  | fget (t : Fin 8192) (rd rs1 : Fin 32) (imm : Fin 65536)
  /-- MFILL (R181): Release the binding and send a fill of the frame's slot toward the merge store. -/
  | mfill (t : Fin 8192) (rd rs1 rs2 : Fin 32) (funct : Fin 2048)
  /-- MDROP (R181): Release the binding and send a drop of the frame's slot toward the merge store. -/
  | mdrop (t : Fin 8192) (rd rs1 rs2 : Fin 32) (funct : Fin 2048)
  /-- SLOT_FILL_ARRIVE (R183): An MFILL or MDROP reaches the merge store and sets READY or DROPPED, or yields LATE or TYPE. -/
  | slotFillArrive (t : Fin 8192)
  /-- HAND (R186): Send a verdict for a sequence number toward Carafe. -/
  | hand (t : Fin 8192) (rd rs1 rs2 : Fin 32) (funct : Fin 2048)
  /-- HAND_ARRIVE (R186): A HAND reaches Carafe and attaches the verdict or answers LATE, DUP or NOT_OWNER. -/
  | handArrive (t : Fin 8192)
  /-- RGET (R202): Take the head entry of a bound submission ring into engine data memory. -/
  | rget (t : Fin 8192) (rd rs1 rs2 : Fin 32) (funct : Fin 2048)
  /-- DMA (R200): Start a copy described by a DMA descriptor. -/
  | dma (t : Fin 8192) (rd rs1 rs2 : Fin 32) (funct : Fin 2048)
  /-- DMA_COMPLETE (R200): A copy completes and raises DMA, or raises DMA_ERR on an error response. -/
  | dmaComplete (t : Fin 8192) (err : Bool)
  /-- STOP (R203): Return the thread to IDLE unless it holds resources. -/
  | stop (t : Fin 8192) (z : Fin 67108864)
  /-- BKPT (R204): Halt the thread when debug is enabled. -/
  | bkpt (t : Fin 8192) (z : Fin 67108864)
  /-- ACCESS_COMPLETE (R122): A variable-class access returns and the thread leaves MEMWAIT at its next slot. -/
  | accessComplete (t : Fin 8192) (err : Bool)
  /-- THREAD_WAKE (R135): A raised event that meets a waiting thread's mask wakes it at its slot three or more cycles later. -/
  | threadWake (t : Fin 8192)
  /-- THREAD_TIMER_EXPIRE (R197): The thread timer reaches zero and raises TIMER. -/
  | threadTimerExpire (t : Fin 8192)
  /-- EVENT_STALL (R141): A wait group stalled for 4,096 cycles raises an event-stall fault to the supervisor or Roaster. -/
  | eventStall (k : Fin 64) (w : Fin 15)
  /-- CHAN_LEASE_EXPIRE (R152): A channel reservation's lease expires; it is revoked, passed on and the holder takes CHAN_LEASE_LOST. -/
  | chanLeaseExpire (k : Fin 64) (c : Fin 256)
  /-- CHAN_REMOTE_ARRIVE (R151): A message from outside the cluster arrives at the spine port and becomes visible 8 cycles later. -/
  | chanRemoteArrive (k : Fin 64) (c : Fin 256)
  /-- FRAME_TO_BINDING (R179): A port copies a complete frame into a free binding and raises FRAME for the bound thread. -/
  | frameToBinding (p : Fin 64)
  /-- DYE_START (R128): A START write moves an IDLE or FAULT thread to RUN at ENTRY_PC. -/
  | dyeStart (t : Fin 8192) (who : Requester)
  /-- DYE_RESET (R130): A RESET write returns a thread to IDLE and releases its locks, reservation and bindings. -/
  | dyeReset (t : Fin 8192) (who : Requester)
  /-- DYE_HALT (R159): A HALT write halts the thread at its next instruction boundary. -/
  | dyeHalt (t : Fin 8192) (who : Requester)
  /-- DYE_RESUME (R161): A RESUME write returns a halted thread to RUN or WAIT. -/
  | dyeResume (t : Fin 8192) (who : Requester)
  /-- DYE_STEP (R162): A STEP write runs a halted thread for one instruction and halts it again. -/
  | dyeStep (t : Fin 8192) (who : Requester)
  /-- CLU_ESCALATE_RAISE (R156): The supervisor's RAISE write passes CODE to Roaster. -/
  | cluEscalateRaise (k : Fin 64) (who : Requester)
  /-- DRIP_DISPATCH (R261): At an operation boundary a context dispatches its next queued operation by class and age. -/
  | dripDispatch (c : Fin 32) (l : Fin 16)
  /-- DRIP_NOP (R263): Micro-op NOP. -/
  | dripNop (c : Fin 32) (l : Fin 16) (a : Fin 1024) (b : Fin 65536) (w : BitVec 32)
  /-- DRIP_CMD (R263): Micro-op CMD: one command cycle. -/
  | dripCmd (c : Fin 32) (l : Fin 16) (a : Fin 1024) (b : Fin 65536) (w : BitVec 32)
  /-- DRIP_ADDR (R263): Micro-op ADDR: address cycles. -/
  | dripAddr (c : Fin 32) (l : Fin 16) (a : Fin 1024) (b : Fin 65536) (w : BitVec 32)
  /-- DRIP_LIT (R263): Micro-op LIT: literal data-out cycles. -/
  | dripLit (c : Fin 32) (l : Fin 16) (a : Fin 1024) (b : Fin 65536) (w : BitVec 32)
  /-- DRIP_TBL (R263): Micro-op TBL: data-out cycles from a table row. -/
  | dripTbl (c : Fin 32) (l : Fin 16) (a : Fin 1024) (b : Fin 65536) (w : BitVec 32)
  /-- DRIP_BSET (R263): Micro-op BSET: set the buffer cursor. -/
  | dripBset (c : Fin 32) (l : Fin 16) (a : Fin 1024) (b : Fin 65536) (w : BitVec 32)
  /-- DRIP_DOUT (R263): Micro-op DOUT: start a data-out transfer from the buffer. -/
  | dripDout (c : Fin 32) (l : Fin 16) (a : Fin 1024) (b : Fin 65536) (w : BitVec 32)
  /-- DRIP_DIN (R263): Micro-op DIN: start a data-in transfer with optional decode. -/
  | dripDin (c : Fin 32) (l : Fin 16) (a : Fin 1024) (b : Fin 65536) (w : BitVec 32)
  /-- DRIP_WAITC (R264): Micro-op WAITC: begin waiting on a condition. -/
  | dripWaitc (c : Fin 32) (l : Fin 16) (a : Fin 1024) (b : Fin 65536) (w : BitVec 32)
  /-- DRIP_DELAY (R263): Micro-op DELAY: wait C cycles keeping the bus. -/
  | dripDelay (c : Fin 32) (l : Fin 16) (a : Fin 1024) (b : Fin 65536) (w : BitVec 32)
  /-- DRIP_BR (R265): Micro-op BR: branch on a condition. -/
  | dripBr (c : Fin 32) (l : Fin 16) (a : Fin 1024) (b : Fin 65536) (w : BitVec 32)
  /-- DRIP_CALL (R263): Micro-op CALL: push and jump. -/
  | dripCall (c : Fin 32) (l : Fin 16) (a : Fin 1024) (b : Fin 65536) (w : BitVec 32)
  /-- DRIP_RET (R263): Micro-op RET: pop the stack. -/
  | dripRet (c : Fin 32) (l : Fin 16) (a : Fin 1024) (b : Fin 65536) (w : BitVec 32)
  /-- DRIP_LDC (R263): Micro-op LDC: load a loop counter. -/
  | dripLdc (c : Fin 32) (l : Fin 16) (a : Fin 1024) (b : Fin 65536) (w : BitVec 32)
  /-- DRIP_BUSREL (R262): Micro-op BUSREL: release the channel bus. -/
  | dripBusrel (c : Fin 32) (l : Fin 16) (a : Fin 1024) (b : Fin 65536) (w : BitVec 32)
  /-- DRIP_SRD (R263): Micro-op SRD: read one status byte. -/
  | dripSrd (c : Fin 32) (l : Fin 16) (a : Fin 1024) (b : Fin 65536) (w : BitVec 32) (sr : Byte)
  /-- DRIP_END (R263): Micro-op END: end the operation with a status to its owner at an operation boundary. -/
  | dripEnd (c : Fin 32) (l : Fin 16) (a : Fin 1024) (b : Fin 65536) (w : BitVec 32)
  /-- DRIP_WAITC_DONE (R264): A WAITC condition comes to hold and the context continues. -/
  | dripWaitcDone (c : Fin 32) (l : Fin 16)
  /-- DRIP_WAITC_TIMEOUT (R264): A WAITC timeout expires and the operation ends with TIMEOUT. -/
  | dripWaitcTimeout (c : Fin 32) (l : Fin 16)
  /-- DRIP_DELAY_EXPIRE (R263): A DELAY's cycle count expires and the context continues. -/
  | dripDelayExpire (c : Fin 32) (l : Fin 16)
  /-- DRIP_TRANSFER_DONE (R263): A DIN or DOUT transfer completes. -/
  | dripTransferDone (c : Fin 32) (l : Fin 16) (data : List Byte)
  /-- DRIP_DECODE_READY (R265): A hard or soft decode result becomes ready for a waiting BR. -/
  | dripDecodeReady (c : Fin 32) (l : Fin 16) (errors : Fin 18433) (data : List Byte)
  /-- DRIP_BUS_GRANT (R262): A context parked in the bus Saucer is granted the bus, oldest first. -/
  | dripBusGrant (c : Fin 32)
  /-- DRIP_SUSPEND (R270): A SUSPEND write stops all dispatch at the next boundaries. -/
  | dripSuspend (c : Fin 32) (on : Bool)
  /-- DRIP_ABORT (R271): An ABORT write completes every queued operation with ABORTED at each context's next boundary. -/
  | dripAbort (c : Fin 32)
  /-- DRIP_SWAP (R274): A SWAP write makes later dispatches use the standby microcode bank. -/
  | dripSwap (c : Fin 32)
  /-- LUN_FORMAT (R276): A LUN without a valid record is formatted from its factory markers. -/
  | lunFormat (c : Fin 32) (l : Fin 16) (marks : List MarkByte) (fails : List Nat)
  /-- BLOCK_SUBSTITUTE (R279): A logical block is moved to a spare physical block and a new LUN record is written. -/
  | blockSubstitute (c : Fin 32) (l : Fin 16) (b : Fin 16384) (eraseFails progFails : Nat) (uncorr : List Nat)
  /-- RETENTION_SWEEP (R281): The paced sweep reads the next block as BACKGROUND and triggers refresh where needed. -/
  | retentionSweep (c : Fin 32) (l : Fin 16)
  /-- NAND_RETIRE_CHANNEL (R287): The admin mailbox request retires a channel from the stripe plan. -/
  | nandRetireChannel (sl : Fin 256)
  /-- REHOME (R290): Carafe re-homes pages of a retired channel or lost LUN into re-home stripes as background work. -/
  | rehome
  /-- READ_COMPLETION (R311): A completion for a device read request arrives and is accepted; the read is handed over when whole. -/
  | readCompletion (tag : Fin 16384) (c : Cpl)
  /-- COMPLETION_TIMEOUT (R315): A device read request times out; the read fails and its tag is quarantined. -/
  | completionTimeout (tag : Fin 16384)
  /-- TAG_QUARANTINE_END (R315): A quarantined tag's further timeout period ends and the tag is reused. -/
  | tagQuarantineEnd (tag : Fin 16384)
  /-- INBOUND_BAR_ACCESS (R300): An inbound memory request to PF0 BAR0 is checked and takes effect or receives Unsupported Request. -/
  | inboundBarAccess (bar : Bar) (off len : Nat) (data : Option (List Byte))
  /-- REGISTER_WRITE (R15): A write to a register with no row of its own acts per field type. -/
  | registerWrite (w : RegWrite)
  /-- ROC_READ (R15): A read of an ROC field returns and clears it. -/
  | rocRead (r : RegRead)
  /-- GO (R320): A GO write to an IDLE mailbox copies the request and enters BUSY. -/
  | go (sl : Fin 256)
  /-- ACK (R320): An ACK write to a DONE mailbox returns it to IDLE. -/
  | ack (sl : Fin 256)
  /-- MAILBOX_DONE (R320): The owner's response is written, the mailbox enters DONE and the vector is sent. -/
  | mailboxDone (sl : Fin 256)
  /-- ECHO (R323): The mailbox request returns its payload unchanged. -/
  | echo (sl : Fin 256)
  /-- SLICE_INFO (R323): The mailbox request returns the slice's number, epoch, PASID and state. -/
  | sliceInfo (sl : Fin 256)
  /-- SLICE_RESET (R326): The mailbox request starts a drain or squash reset of a slice in the background. -/
  | sliceReset (sl : Fin 256)
  /-- SLICE_DRAIN_DONE (R327): A draining slice's fetched work and reads complete, its epoch advances and it enters STOPPED. -/
  | sliceDrainDone (n : Fin 256)
  /-- SQUASH (R328): A squash discards the slice's unoffered entries, writes and reads, advances its epoch and enters STOPPED. -/
  | squash (n : Fin 256)
  /-- DRAIN_LIMIT_EXPIRE (R329): A drain not done within DRAIN_LIMIT_US continues as a squash and logs DRAIN_ESCALATED. -/
  | drainLimitExpire (n : Fin 256)
  /-- PF1_FLR (R331): An FLR of PF1 stops PF1 traffic and squashes every enabled slice. -/
  | pf1Flr
  /-- PF0_FLR (R332): An FLR of PF0 resets its configuration space and mailbox handshakes. -/
  | pf0Flr
  /-- PF1_D3HOT (R333): PF1 entering D3hot acts on the slices as an FLR of PF1. -/
  | pf1D3hot
  /-- BUS_MASTER_CLEAR (R333): Clearing PF1's Bus Master Enable acts on the slices as an FLR of PF1. -/
  | busMasterClear
  /-- PCIE_LINK_LOSS (R333): Loss of the data link acts on the slices as an FLR of PF1. -/
  | pcieLinkLoss
  /-- ENDPOINT_RESET (R539): PERST# or a received hot reset resets both functions and the peer windows and takes the link down. -/
  | endpointReset (perst : Bool)
  /-- PCI_WIN_COMMIT (R335): A GO write checks the shadow windows and, unless refused, makes them the active set two cycles later. -/
  | pciWinCommit
  /-- PEER_TLP (R334): A TLP to PF1 BAR2 is translated by the active windows to GDDR7 or a doorbell, or refused. -/
  | peerTlp (rid : Fin 65536) (off : Fin 68719476736) (len : Nat) (data : Option (List Byte))
  /-- SUB_TAIL (R354): A SUB_TAIL write announces entries by moving the tail A or is ignored. -/
  | subTail (r : Fin 32768) (v : BitVec 64)
  /-- PUSH_DATA (R357): A PUSH_DATA write stores pushed entry words and records them as written. -/
  | pushData (r : Fin 32768) (off : Fin 512) (data : List Byte)
  /-- PUSH_GO (R357): A PUSH_GO write takes the pushed entry, falls back to a tail announcement, or is discarded. -/
  | pushGo (r : Fin 32768) (v : BitVec 64)
  /-- DLV_RELEASE (R371): A DLV_RELEASE write returns delivery ring space, drains the backlog and may arm interrupts. -/
  | dlvRelease (q : Fin 32768) (v : BitVec 64)
  /-- FETCH_GRANT (R362): The fetch arbiter issues a read grant of announced granules for a ring in its round. -/
  | fetchGrant
  /-- AHEAD_POLL (R359): An AHEAD ring's poll interval expires and it reads word 0 at H. -/
  | aheadPoll (r : Fin 32768)
  /-- ENTRY_ARRIVE (R355): A submission entry with all its bytes arrives, is stamped, checked and returned. -/
  | entryArrive (r : Fin 32768)
  /-- REFETCH (R360): After RETRY_NS the device re-reads an entry read with OWN = 0, or puts the ring in ERROR. -/
  | refetch (r : Fin 32768)
  /-- DELIVER_GROUP (R369): A delivery entry group is written to its ring when it fits, otherwise backlogged or overflowed. -/
  | deliverGroup
  /-- COAL_TIMER (R375): COAL_NS passes on an armed ring and the MSI-X message is sent. -/
  | coalTimer (q : Fin 32768)
  /-- RING_RESTART (R380): The mailbox request restarts a ring and for delivery writes RING_EVENT and resumes from the cursor. -/
  | ringRestart (sl : Fin 256)
  /-- RING_STATE (R384): The mailbox request returns a ring's state, indices and backlog. -/
  | ringState (sl : Fin 256)
  /-- RING_RESUME (R382): The mailbox request moves an OVERFLOW delivery ring back to RUN without a new epoch. -/
  | ringResume (sl : Fin 256)
  /-- READ (R404): Storage READ of a block or export namespace, ordered after overlapping earlier writes. -/
  | read (dup : List Nat)
  /-- WRITE (R402): Storage WRITE reads its host data and places units into open wordlines. -/
  | write (dup : Bool)
  /-- FLUSH (R403): Storage FLUSH closes the namespace's open wordlines at once. -/
  | flush
  /-- DEALLOCATE (R402): Storage DEALLOCATE places trim entries for its ranges. -/
  | deallocate
  /-- IDENTIFY (R409): Returns the controller, namespace or active namespace structure. -/
  | identify
  /-- GET_LOG_PAGE (R410): Returns a log page, clearing deferred errors when asked. -/
  | getLogPage
  /-- SET_FEATURES (R411): Sets a device or namespace feature until reset. -/
  | setFeatures
  /-- GET_FEATURES (R411): Returns a feature's current or default value. -/
  | getFeatures
  /-- FW_DOWNLOAD (R412): Copies image data into the download buffer. -/
  | fwDownload
  /-- FW_COMMIT (R412): Roaster checks the downloaded image and writes it to the slot not booted. -/
  | fwCommit (flashOk : Bool)
  /-- GATHER_EXPIRE (R391): GATHER_US passes on an open wordline and it is programmed early. -/
  | gatherExpire (g : Fin 512)
  /-- WORDLINE_PROGRAM_DONE (R392): A BLOCK wordline program ends; on pass the summary is applied to the map, on fail the units are placed again. -/
  | wordlineProgramDone
  /-- STORAGE_DONE (R405): A storage command completes and its STORAGE_DONE entry is written. -/
  | storageDone
  /-- BLOCK_RELOCATE (R394): Relocation copies a still-mapped unit to reclaim space as background work. -/
  | blockRelocate (g : Fin 512)
  /-- MAP_CHECKPOINT (R396): Every MAP_CKPT_GIB the whole map is written and a pointer page is written to the anchors. -/
  | mapCheckpoint
  /-- CTX_LOAD (R423): Loads an unpinned cipher context in clear, import, saved or derive form. -/
  | ctxLoad (sl : Fin 256)
  /-- CTX_SAVE (R427): Returns a context image or a saved blob. -/
  | ctxSave (sl : Fin 256)
  /-- CTX_DESTROY (R423): Empties an unpinned context. -/
  | ctxDestroy (sl : Fin 256)
  /-- IMPORT_KEY (R423): Returns the import public key and the serial number. -/
  | importKey (sl : Fin 256)
  /-- JOB_POLL (R440): The array reads a job queue entry's CTRL, repeating every POLL_NS while OWN is 0. -/
  | jobPoll (q : Fin 64)
  /-- JOB_DISPATCH (R443): A job is read, checked in order and started on a unit, or ended with a dispatch status. -/
  | jobDispatch
  /-- JOB_COMPLETE (R441): A job's outputs, nonce and tag are written, then CTRL with OWN = 0 and STATUS, in queue order. -/
  | jobComplete (q : Fin 64) (how : TaskEnd)
  /-- EZN_LINK_TRAIN (R452): A link end finishes training and enters HELLO. -/
  | eznLinkTrain (k : Fin 4)
  /-- IDLE (R455): An IDLE frame is received, carrying credits and LACK. -/
  | idle (k : Fin 4) (h : EzHead) (crcOk : Bool)
  /-- RECORDS (R462): A RECORDS frame is received and its records appended in sequence order. -/
  | records (k : Fin 4) (h : EzHead) (payload : List Byte) (crcOk : Bool)
  /-- CONFIRM (R463): A CONFIRM frame updates the follower's C on the primary. -/
  | confirm (k : Fin 4) (h : EzHead) (payload : List Byte) (crcOk : Bool)
  /-- WMARK (R460): A WMARK frame gives a follower the primary's W to publish. -/
  | wmark (k : Fin 4) (h : EzHead) (payload : List Byte) (crcOk : Bool)
  /-- STATE (R452): A STATE frame updates the member's view of its peer and may bring the link UP. -/
  | state (k : Fin 4) (h : EzHead) (payload : List Byte) (crcOk : Bool)
  /-- CLAIM (R469): A CLAIM frame is judged and a VOTE granted or refused. -/
  | claim (k : Fin 4) (h : EzHead) (payload : List Byte) (crcOk : Bool)
  /-- VOTE (R470): A VOTE frame counts toward the candidate's threshold. -/
  | vote (k : Fin 4) (h : EzHead) (payload : List Byte) (crcOk : Bool)
  /-- CLOSE (R473): A CLOSE frame makes the member truncate, write its marker and become FOLLOWER. -/
  | close (k : Fin 4) (h : EzHead) (payload : List Byte) (crcOk : Bool)
  /-- RESYNC_CTL (R482): A RESYNC_CTL frame starts a catch-up or declares the member IN_SYNC. -/
  | resyncCtl (k : Fin 4) (h : EzHead) (payload : List Byte) (crcOk : Bool)
  /-- EZN_RESEND_TIMER (R454): 2 µs without LACK progress, or a NAK, resends unacknowledged frames. -/
  | eznResendTimer (k : Fin 4)
  /-- EZN_LINK_DOWN (R456): A link end loses lock or exhausts resends and its frames move to another link. -/
  | eznLinkDown (k : Fin 4) (lock : Bool)
  /-- EZN_IDLE_TIMER (R455): 1 µs without a frame on an UP link sends IDLE. -/
  | eznIdleTimer (k : Fin 4)
  /-- HB_TIMER (R466): Every HB_US a member sends STATE on every UP link. -/
  | hbTimer
  /-- PRIMARY_TIMEOUT (R466): PRIMARY_TMO_US without a frame from the primary puts a follower in ELECTING. -/
  | primaryTimeout
  /-- ELECT_WAIT_EXPIRE (R468): ELECT_WAIT_US expires and the member picks a candidate, claiming if it is the candidate. -/
  | electWaitExpire
  /-- CLAIM_RETRY (R470): 2 × ELECT_WAIT_US without enough votes lets the candidate claim again with a higher epoch. -/
  | claimRetry
  /-- FOLLOWER_TIMEOUT (R465): A member silent or not confirming past its limit is made DETACHED. -/
  | followerTimeout (m : Fin 4)
  /-- NEW_EPOCH_OPEN (R474): Once the marker is LOCAL_OK and enough followers exist, the new primary opens the epoch at index 0. -/
  | newEpochOpen
  /-- FORM_TIMEOUT (R479): FORM_S passes at group start without hearing P*, and members elect. -/
  | formTimeout
  /-- GROUP_STATUS (R489): Returns the member's STATE payload. -/
  | groupStatus (sl : Fin 256)
  /-- GROUP_HANDOVER (R477): Moves the primary role to a named follower. -/
  | groupHandover (sl : Fin 256)
  /-- GROUP_PROMOTE (R478): Forces promotion of the receiving member without votes. -/
  | groupPromote (sl : Fin 256)
  /-- GROUP_RESYNC (R481): Starts a member's catch-up stream from a chosen record. -/
  | groupResync (sl : Fin 256)
  /-- GROUP_RAISE_LEVEL (R486): Issues a FEATURE_LEVEL record to raise the group level. -/
  | groupRaiseLevel (sl : Fin 256)
  /-- APPLY_SECTION (R513): Checks a committed section and applies it at its safe point. -/
  | applySection (sl : Fin 256)
  /-- SAFE_POINT (R513): A section's safe point is reached; Roaster writes its fields and issues CONFIG_APPLIED. -/
  | safePoint
  /-- APPLY_LIMIT_EXPIRE (R513): APPLY_LIMIT_MS passes before the safe point and the apply answers ABANDONED. -/
  | applyLimitExpire
  /-- SECTION_WRITE (R511): Writes 512 bytes into a section's standby copy. -/
  | sectionWrite (sl : Fin 256) (flashOk : Bool)
  /-- SECTION_COMMIT (R512): Checks the standby copy and writes its commit record. -/
  | sectionCommit (sl : Fin 256) (flashOk : Bool)
  /-- SECTION_INFO (R510): Returns a section's generations and source. -/
  | sectionInfo (sl : Fin 256)
  /-- IMAGE_WRITE (R512): Writes 512 bytes into the slot not booted. -/
  | imageWrite (sl : Fin 256) (flashOk : Bool)
  /-- IMAGE_COMMIT (R512): Checks the image and writes the slot's commit record. -/
  | imageCommit (sl : Fin 256) (flashOk : Bool)
  /-- BOOT_STATUS (R510): Returns RST_STATUS, RST_SLOT and RST_KL. -/
  | bootStatus (sl : Fin 256)
  /-- ATTEST (R510): Builds and signs an attestation record, or returns bytes of the last one. -/
  | attest (sl : Fin 256)
  /-- JTAG_DEBUG (R507): The first JTAG access to Roaster's debug port locks the keys and empties device contexts. -/
  | jtagDebug
  /-- ERROR_DETECT (R522): A block detects an error and its log takes a first or second record, counts, warns or declares fatal. -/
  | errorDetect (log : Fin 128) (code : Fin 65536) (cls : Fin 5) (sub : Fin 256) (info : BitVec 64)
  /-- ERR_ACK (R523): A write of 1 to FIRST_VALID acknowledges a log's first record. -/
  | errAck (n : Fin 128)
  /-- ESC_WAIT_EXPIRE (R530): ESC_WAIT_MS passes without the source acknowledging, and its unit is declared fatal. -/
  | escWaitExpire
  /-- CLUSTER_REMAP (R548): A fatal cluster's sessions are copied to its fallback under an issue hold, or take NOMAP. -/
  | clusterRemap (k : Fin 64) (readFail : Bool)
  /-- DEVICE_FATAL_RESET (R533): After a device fatal, once NAND operations end, the device warm-resets or halts. -/
  | deviceFatalReset (env : BootEnv)
  /-- WATCHDOG (R540): Roaster's watchdog expires and a warm reset with RESET_TYPE 6 follows. -/
  | watchdog (rpc : BitVec 32)
  /-- DEVICE_RESET (R541): The mailbox request warm- or cold-resets the device after its response. -/
  | deviceReset (sl : Fin 256)
  /-- DOMAIN_RESET (R543): The mailbox request resets a cluster, spine, lane group, cipher array or Ezoon domain. -/
  | domainReset (sl : Fin 256)
  /-- LANE_RECAL (R544): The mailbox request starts a live lane measurement and answers on its outcome. -/
  | laneRecal (sl : Fin 256) (idle : Bool)
  /-- ERR_INJECT (R544): The mailbox request enters a synthetic error into a log. -/
  | errInject (sl : Fin 256)
  /-- POWER_ON_RESET (R535): VDD_AON rises and the whole device, always-on island included, resets. -/
  | powerOnReset (env : BootEnv)
  /-- COLD_RESET (R535): RESET_N or a cold request resets the device, keeping always-on state. -/
  | coldReset (pin : Bool) (env : BootEnv)
  /-- WARM_RESET (R577): A warm reset resets switched domains after in-progress NAND operations end. -/
  | warmReset (env : BootEnv)
  /-- POWER_FAIL (R561): PWR_FAIL_N asserts; programs finish, most domains power off and the device heads for PWR_SAFE. -/
  | powerFail
  /-- PWR_SAFE (R561): Every NAND operation has ended after power failure; PWR_SAFE rises and the device halts. -/
  | pwrSafe
  /-- REFCLK_LOSS (R555): REFCLK or the root PLL is lost; the timebase moves to the backup oscillator and the device is fatal. -/
  | refclkLoss (root : Bool)
  /-- ROOT_PLL_RELOCK (R555): The root PLL locks again and the timebase returns to it at a tick boundary. -/
  | rootPllRelock (env : BootEnv)
  /-- PLL_UNLOCK (R556): A PHY-local PLL loses lock and its interface acts as at link loss. -/
  | pllUnlock (domain : Fin 25) (us : BitVec 32)
  /-- RAIL_SAMPLE (R560): Each millisecond the rails are sampled and an out-of-tolerance rail records RAIL_FAULT. -/
  | railSample (rails : List RailIn)
  /-- TEMP_SAMPLE (R564): Each millisecond the sensors are read and TEMP_WARN or TEMP_CRIT is recorded. -/
  | tempSample (temps : List Int)
  /-- THERMTRIP (R564): At 125 °C the analogue comparator asserts THERMTRIP_N. -/
  | thermtrip
  /-- GET_STATUS (R569): Sideband command returning status registers. -/
  | getStatus (pec : Bool)
  /-- GET_TEMP (R569): Sideband command returning temperatures. -/
  | getTemp (pec : Bool)
  /-- GET_POWER (R569): Sideband command returning rail readings. -/
  | getPower (pec : Bool)
  /-- GET_LIFE (R569): Sideband command returning a channel's life data. -/
  | getLife (c : Fin 256) (pec : Bool)
  /-- GET_ERRORS (R569): Sideband command returning error summaries. -/
  | getErrors (pec : Bool)
  /-- GET_LOG (R569): Sideband command returning one log's records. -/
  | getLog (n : Fin 256) (pec : Bool)
  /-- ACK_LOG (R571): Sideband command acknowledging a log's first record. -/
  | ackLog (n : Fin 256) (pec : Bool)
  /-- SIDEBAND_RESET (R572): Sideband RESET command: warm, cold or PCIe domain reset at the stop condition. -/
  | sidebandReset (kind : Fin 256) (confirm : BitVec 32) (pec : Bool)
  /-- GET_IDENTITY (R569): Sideband command returning device identity. -/
  | getIdentity (pec : Bool)
  /-- GET_CLOCKS (R569): Sideband command returning clock status. -/
  | getClocks (pec : Bool)
  /-- GET_DOMAINS (R569): Sideband command returning power domain states. -/
  | getDomains (pec : Bool)
  /-- ALERT_RESPONSE (R570): The target answers the SMBus Alert Response Address with its own address. -/
  | alertResponse
  /-- TIMEBASE_TICK (R51): At each 0.8 ns tick of the 1.25 GHz timebase clock the timebase advances and every port recomputes its watermark. -/
  | timebaseTick
  /-- FRAME_PASSES_MAXLEN (R96): A frame in progress passes MAXLEN, so it is discarded as BAD_FRAME and its pin is released before it ends. -/
  | framePassesMaxlen (p : Fin 64)
  /-- CONFIRM_SEND (R463): The 0.2 µs spacing on a link ends and the newest held L is sent as CONFIRM. -/
  | confirmSend (k : Fin 4)
  /-- WMARK_SEND (R463): The 0.5 µs spacing on a link ends and the newest held W is sent as WMARK. -/
  | wmarkSend (k : Fin 4)
  /-- CATCH_UP_SEND (R482): The primary sends the next part of a member's catch-up stream from staging or its NAND journal, paced to RESYNC_MBPS. -/
  | catchUpSend (m : Fin 4)
  /-- STATUS_POLL (R264): While a WAITC STATUS waits, each POLL_NS the channel repeats the status read. -/
  | statusPoll (c : Fin 32) (l : Fin 16) (sr : Byte)
  /-- PLL_RELOCK (R556): A PHY-local PLL that lost lock locks again and its interface may resume. -/
  | pllRelock (domain : Fin 25)
  /-- CHANNEL_PLL_TIMEOUT (R556): An ONFI group PLL stays unlocked for 10 ms and its channels are lost under R286. -/
  | channelPllTimeout (group : Fin 4)
  /-- PCIE_LINK_UP (R296): PCIe link training completes and the data link layer comes up at the negotiated rate and width. -/
  | pcieLinkUp (speed : Fin 3) (width : Fin 5) (flit : Bool)
  /-- PERST_DEASSERT (R539): PERST# is deasserted and the PCIe link starts training within 1 ms. -/
  | perstDeassert
  /-- POWER_FAIL_CLEAR (R561): PWR_FAIL_N has been deasserted for 10 ms, so a held boot leaves step 1. -/
  | powerFailClear (env : BootEnv)
  /-- FLR_COMPLETE (R331): At 1 ms after an FLR the function's configuration space holds its reset values and it accepts requests again. -/
  | flrComplete (pf1 : Bool)
  /-- DEVICE_RESET_ACK_TIMEOUT (R541): 10 ms after a DEVICE_RESET response reaches DONE without an ACK, the reset begins. -/
  | deviceResetAckTimeout
  deriving DecidableEq, Repr

end Sys2Proof
end

