-- ==== Sys2Proof/Decode.lean ====
section
/-!
DEFINITION. Words that spell commands. No row of the manual's table of operations has bits of its own, but the manual gives two instruction words: the 32-bit words of a
Dyaris thread (05 R166, R168, R169; Tables 05-1 to 05-15) and the 64-bit microwords of a Drip sequencer (07 R263; Table 07-5). A word that spells none is an undefined
encoding.
-/

namespace Sys2Proof

/-- The instruction that a 32-bit word spells for thread `t` (05 R169). A word that spells one may still hold a field that its meaning refuses as undefined (05 R168). -/
def decodeDyaris (t : Fin 8192) (w : Nat) : Option Instr :=
  let f := fun (hi lo : Nat) => w / 2 ^ lo % 2 ^ (hi - lo + 1)
  let rd : Fin 32 := Fin.ofNat 32 (f 25 21)
  let r1 : Fin 32 := Fin.ofNat 32 (f 20 16)
  let r2 : Fin 32 := Fin.ofNat 32 (f 15 11)
  let fn : Fin 2048 := Fin.ofNat 2048 (f 10 0)
  let im : Fin 65536 := Fin.ofNat 65536 (f 15 0)
  match f 31 26 with
  | 0 => match f 10 0 with
    | 0 => some (.add t rd r1 r2) | 1 => some (.sub t rd r1 r2) | 2 => some (.and t rd r1 r2) | 3 => some (.or t rd r1 r2) | 4 => some (.xor t rd r1 r2)
    | 5 => some (.shl t rd r1 r2) | 6 => some (.shr t rd r1 r2) | 7 => some (.sar t rd r1 r2) | 8 => some (.mul t rd r1 r2) | 9 => some (.mulhu t rd r1 r2)
    | 10 => some (.addsu t rd r1 r2) | 11 => some (.subsu t rd r1 r2) | 12 => some (.min t rd r1 r2) | 13 => some (.max t rd r1 r2)
    | 14 => some (.bswap t rd r1 r2) | 15 => some (.popc t rd r1 r2) | _ => none
  | 1 => some (.addi t rd r1 im) | 2 => some (.andi t rd r1 im) | 3 => some (.ori t rd r1 im) | 4 => some (.xori t rd r1 im)
  | 5 => some (.shli t rd r1 im) | 6 => some (.shri t rd r1 im) | 7 => some (.sari t rd r1 im)
  | 8 => some (.movz t rd (Fin.ofNat 4 (f 20 19)) (Fin.ofNat 8 (f 18 16)) im)
  | 9 => some (.movk t rd (Fin.ofNat 4 (f 20 19)) (Fin.ofNat 8 (f 18 16)) im)
  | 0x0C => some (.br t rd r1 (Fin.ofNat 16 (f 15 12)) (Fin.ofNat 4096 (f 11 0)))
  | 0x0D => some (.jal t rd (Fin.ofNat 256 (f 20 13)) (Fin.ofNat 8192 (f 12 0)))
  | 0x0E => some (.jr t rd r1 r2 fn)
  | 0x0F => match f 3 0 with
    | 0 => some (.fxt t rd r1 (Fin.ofNat 64 (f 15 10)) (Fin.ofNat 64 (f 9 4)))
    | 1 => some (.fxts t rd r1 (Fin.ofNat 64 (f 15 10)) (Fin.ofNat 64 (f 9 4)))
    | 2 => some (.fins t rd r1 (Fin.ofNat 64 (f 15 10)) (Fin.ofNat 64 (f 9 4))) | _ => none
  | 0x10 => some (.ld t rd r1 (Fin.ofNat 4 (f 15 14)) (f 13 13 == 1) (f 12 12 == 1) (Fin.ofNat 4096 (f 11 0)))
  | 0x11 => some (.st t rd r1 (Fin.ofNat 4 (f 15 14)) (f 13 13 == 1) (f 12 12 == 1) (Fin.ofNat 4096 (f 11 0)))
  | 0x12 => some (.aadd t rd r1 r2 fn)
  | 0x13 => some (.fxtb t rd r1 r2 fn)
  | 0x14 => some (.tlk t rd r1 (Fin.ofNat 16 (f 15 12)) (Fin.ofNat 8 (f 11 9)) (Fin.ofNat 512 (f 8 0)))
  | 0x15 => some (.tst t rd r1 (Fin.ofNat 16 (f 15 12)) (Fin.ofNat 8 (f 11 9)) (Fin.ofNat 512 (f 8 0)))
  | 0x16 => some (.rchk t rd r1 r2 fn)
  | 0x18 => let z : Fin 8 := Fin.ofNat 8 (f 11 9); let i : Fin 512 := Fin.ofNat 512 (f 8 0)
    match f 15 12 with
    | 0 => some (.lck t rd r1 z i) | 1 => some (.ltry t rd r1 z i) | 2 => some (.lrel t rd r1 z i) | _ => none
  | 0x19 => let z : Fin 8 := Fin.ofNat 8 (f 11 9); let i : Fin 512 := Fin.ofNat 512 (f 8 0)
    match f 15 12 with
    | 0 => some (.rsv t rd r1 z i) | 1 => some (.rsvt t rd r1 z i) | 2 => some (.stg t rd r1 z i) | 3 => some (.snd t rd r1 z i)
    | 4 => some (.rcv t rd r1 z i) | 5 => some (.rsvr t rd r1 z i) | 6 => some (.sndr t rd r1 z i) | _ => none
  | 0x1A => some (.wait t rd r1 im) | 0x1B => some (.eclr t rd r1 im) | 0x1C => some (.sig t rd r1 im) | 0x1D => some (.tset t rd r1 im)
  | 0x1E => some (.stamp t rd r1 im) | 0x1F => some (.mfs t rd r1 im) | 0x20 => some (.fget t rd r1 im)
  | 0x21 => some (.mfill t rd r1 r2 fn) | 0x22 => some (.mdrop t rd r1 r2 fn) | 0x23 => some (.hand t rd r1 r2 fn) | 0x24 => some (.rget t rd r1 r2 fn)
  | 0x25 => some (.dma t rd r1 r2 fn) | 0x26 => some (.stop t (Fin.ofNat 67108864 (f 25 0))) | 0x27 => some (.bkpt t (Fin.ofNat 67108864 (f 25 0)))
  | _ => none

/-- The micro-operation that a 64-bit microword spells for context `l` of channel `c` (07 R263); `sr`: the status byte that the target answers to an SRD. UOP values from
0x11 on are reserved. -/
def decodeDrip (c : Fin 32) (l : Fin 16) (sr : BitVec 8) (w : Nat) : Option Instr :=
  let a : Fin 1024 := Fin.ofNat 1024 (w / 2 ^ 48)
  let b : Fin 65536 := Fin.ofNat 65536 (w / 2 ^ 32)
  let v : BitVec 32 := BitVec.ofNat 32 w
  match w / 2 ^ 58 % 64 with
  | 0x00 => some (.dripNop c l a b v)
  | 0x01 => some (.dripCmd c l a b v)
  | 0x02 => some (.dripAddr c l a b v)
  | 0x03 => some (.dripLit c l a b v)
  | 0x04 => some (.dripTbl c l a b v)
  | 0x05 => some (.dripBset c l a b v)
  | 0x06 => some (.dripDout c l a b v)
  | 0x07 => some (.dripDin c l a b v)
  | 0x08 => some (.dripWaitc c l a b v)
  | 0x09 => some (.dripDelay c l a b v)
  | 0x0A => some (.dripBr c l a b v)
  | 0x0B => some (.dripCall c l a b v)
  | 0x0C => some (.dripRet c l a b v)
  | 0x0D => some (.dripLdc c l a b v)
  | 0x0E => some (.dripBusrel c l a b v)
  | 0x0F => some (.dripSrd c l a b v sr)
  | 0x10 => some (.dripEnd c l a b v)
  | _ => none

/-- The command that a word of `nbits` bits spells: an instruction of thread 0, or a micro-operation of context 0 of channel 0, whose status byte reads as 0. -/
def decodeTableWord (nbits w : Nat) : Option Instr :=
  if nbits = 32 then decodeDyaris 0 w else if nbits = 64 then decodeDrip 0 0 0 w else none

end Sys2Proof
end

