-- ==== Sys2Proof/Config.lean ====
section
/-!
DEFINITION. What an implementation fixes and the manual leaves open: constants with no body. Nothing in Lean can evaluate
them, so whatever is proved holds for every value of them (notes/assumptions/4).
-/

namespace Sys2Proof.Config

/-- The free values of the model: the `n`-th value drawn at an open point of the manual (`n` is State.free, which every
draw advances). -/
opaque free : Nat → Nat

/-- The free integers of the model, drawn like `free`. -/
opaque freeInt : Nat → Int

/-- The 16-byte label of the save key, fixed in the mask ROM (11 R426). -/
opaque saveLabel : List Byte

/-- The contents of Roaster's 256 KiB mask ROM, which only their measurement shows (13 R490, R509). -/
opaque rom : List Byte

end Sys2Proof.Config
end

