-- ==== Sys2Proof/Machine/FMap.lean ====
section
/-!
DEFINITION. Sparse tables: a list of (key, value) pairs with strictly rising keys, in which a key that is not listed
holds the table's default value and no listed value equals it. Equal tables are equal lists. A memory is such a table of bytes
(Host.Cell): its default is the byte that an address reads as when nothing has written it.
-/

namespace Sys2Proof.Machine

/-- A sparse table. -/
abbrev FMap (β : Type) := List (Nat × β)

/-- The value listed for key `k`. -/
def FMap.look {β : Type} : FMap β → Nat → Option β
  | [], _ => none
  | (j, v) :: m, k => if j = k then some v else FMap.look m k

/-- The value at key `k`: the listed one, or the default `d`. -/
def FMap.get {β : Type} (d : β) (m : FMap β) (k : Nat) : β := (FMap.look m k).getD d

/-- The table without key `k`. -/
def FMap.del {β : Type} : FMap β → Nat → FMap β
  | [], _ => []
  | (j, v) :: m, k => if j = k then FMap.del m k else (j, v) :: FMap.del m k

/-- The table with `v` listed at `k`, in key order. -/
def FMap.ins {β : Type} : FMap β → Nat → β → FMap β
  | [], k, v => [(k, v)]
  | (j, w) :: m, k, v =>
    if k < j then (k, v) :: (j, w) :: m
    else if k = j then (k, v) :: m
    else (j, w) :: FMap.ins m k v

/-- Write `v` at key `k` of a table with default `d`, in the canonical form. -/
def FMap.set {β : Type} [DecidableEq β] (d : β) (m : FMap β) (k : Nat) (v : β) : FMap β :=
  if v = d then FMap.del m k else FMap.ins m k v

/-- Change the value at key `k` by `f`. -/
def FMap.upd {β : Type} [DecidableEq β] (d : β) (m : FMap β) (k : Nat) (f : β → β) : FMap β :=
  FMap.set d m k (f (FMap.get d m k))

/-- The keys are strictly rising, all at or above `lo`. -/
def FMap.sortedFrom {β : Type} : Nat → FMap β → Bool
  | _, [] => true
  | lo, (j, _) :: m => decide (lo ≤ j) && FMap.sortedFrom (j + 1) m

/-- The keys are strictly rising. -/
def FMap.sorted {β : Type} (m : FMap β) : Bool := FMap.sortedFrom 0 m

/-- The canonical form: strictly rising keys, and no entry equal to the default `d`. -/
def FMap.wf {β : Type} [DecidableEq β] (d : β) (m : FMap β) : Bool :=
  FMap.sorted m && m.all (fun e => decide (e.2 ≠ d))

/-- A byte memory in which an address that nothing has written reads 0 (DESIGN CHOICE, notes/assumptions/3). -/
abbrev Memory := FMap Byte

/-- The byte at an address. -/
def Memory.read (m : Memory) (a : Nat) : Byte := FMap.get 0 m a

/-- Write one byte. -/
def Memory.write (m : Memory) (a : Nat) (b : Byte) : Memory := FMap.set 0 m a b

/-- `n` bytes from address `a` up. -/
def Memory.readBytes (m : Memory) (a : Nat) : Nat → List Byte
  | 0 => []
  | n + 1 => Memory.read m a :: Memory.readBytes m (a + 1) n

/-- Bytes written from address `a` up. -/
def Memory.writeBytes (m : Memory) (a : Nat) : List Byte → Memory
  | [] => m
  | b :: bs => Memory.writeBytes (Memory.write m a b) (a + 1) bs

/-- The canonical form of a memory: addresses strictly rising, no entry equal to what an unlisted address reads as. -/
def Memory.wf (m : Memory) : Bool := FMap.wf (0 : Byte) m

end Sys2Proof.Machine
end

