-- ==== Sys2Proof/Machine/Regs.lean ====
section
/-!
DEFINITION. The device register space of PF0 BAR0 (08 R299, Table 08-4), field by field, from the register tables of
every chapter: the place of each field and the value its Reset column gives it. A field whose Reset column says "cfg"
carries the default its description states, or 0 where none is stated (00 R19; DEDUCED, notes/assumptions/2).
A field of register NAME is NAME.FIELD, with the unit's index (cluster, engine, channel) and then the register's own index
as arguments. Below the fields stands the table of the registers, by which a software read or write is decoded (00 R14, R15).
-/

namespace Sys2Proof.Machine

/-- A register field: its key (8 times the register's byte offset in BAR0, plus its lowest bit), its width in bits and
the value of its Reset column. -/
structure Fld where
  key : Nat
  width : Nat
  rst : Nat
  deriving DecidableEq, Repr

/-- The register type codes of 00 Table 00-8 (R15). -/
inductive FTy where
  | RO | RW | RW1C | W1P | ROC | RWS | LCK
  deriving DecidableEq, Repr

/-- One field of a row of the register table. -/
structure RegField where
  lo : Nat
  width : Nat
  ty : FTy
  rst : Nat
  deriving DecidableEq, Repr

/-- One row of the register table: byte offset, the (stride, count) of each index, outermost first, width in bits. -/
structure RegRow where
  name : String
  base : Nat
  dims : List (Nat × Nat)
  bits : Nat
  fields : List RegField
  deriving DecidableEq, Repr

abbrev TMP_SNAP_CTRL.TAKE : Fld := ⟨0x0 * 8 + 0, 1, 0⟩
abbrev TMP_SNAP_CTRL.VALID : Fld := ⟨0x0 * 8 + 1, 1, 0⟩
abbrev TMP_SNAP_LO.STAMP_LO : Fld := ⟨0x8 * 8 + 0, 64, 0⟩
abbrev TMP_SNAP_HI.STAMP_HI : Fld := ⟨0x10 * 8 + 0, 32, 0⟩
abbrev TMP_RATE.ADJ : Fld := ⟨0x20 * 8 + 0, 40, 0⟩
abbrev TMP_RATE.SLEWING : Fld := ⟨0x20 * 8 + 40, 1, 0⟩
abbrev TMP_EBOUND.E_REF_PS : Fld := ⟨0x30 * 8 + 0, 32, 4294967295⟩
abbrev TMP_EBOUND.E_HOLD_PS : Fld := ⟨0x30 * 8 + 32, 32, 4294967295⟩
abbrev TMP_STATUS.STATE : Fld := ⟨0x18 * 8 + 0, 3, 0⟩
abbrev TMP_STATUS.SOURCE : Fld := ⟨0x18 * 8 + 3, 3, 0⟩
abbrev TMP_STATUS.CLASS_NOW : Fld := ⟨0x18 * 8 + 6, 4, 15⟩
abbrev TMP_STATUS.STAMPING : Fld := ⟨0x18 * 8 + 10, 1, 0⟩
abbrev TMP_STATUS.BEHIND_JOURNAL : Fld := ⟨0x18 * 8 + 11, 1, 0⟩
abbrev TMP_STATUS.UTC_MISMATCH : Fld := ⟨0x18 * 8 + 12, 1, 0⟩
abbrev TMP_STATUS.LCAL_REJECT : Fld := ⟨0x18 * 8 + 13, 1, 0⟩
abbrev TMP_STATUS.PPS_IN_LOSS : Fld := ⟨0x18 * 8 + 14, 1, 0⟩
abbrev TMP_STATUS.HOLD_S : Fld := ⟨0x18 * 8 + 16, 32, 0⟩
abbrev TMP_OFFSET.THETA : Fld := ⟨0x28 * 8 + 0, 48, 0⟩
abbrev TMP_OFFSET.SAMPLES : Fld := ⟨0x28 * 8 + 48, 16, 0⟩
abbrev TMP_CNT.CLASS15_STAMPS : Fld := ⟨0x38 * 8 + 0, 32, 0⟩
abbrev TMP_CNT.RECAL_ABANDONED : Fld := ⟨0x38 * 8 + 32, 16, 0⟩
abbrev TMP_CNT.RECAL_REJECTED : Fld := ⟨0x38 * 8 + 48, 16, 0⟩
abbrev TMP_PTP_CFG.DOMAIN (k : Nat) : Fld := ⟨(0x100 + 0x10 * k) * 8 + 0, 8, 0⟩
abbrev TMP_PTP_CFG.TRANSPORT (k : Nat) : Fld := ⟨(0x100 + 0x10 * k) * 8 + 8, 2, 0⟩
abbrev TMP_PTP_CFG.ONE_STEP (k : Nat) : Fld := ⟨(0x100 + 0x10 * k) * 8 + 10, 1, 0⟩
abbrev TMP_PTP_CFG.SLAVE_ONLY (k : Nat) : Fld := ⟨(0x100 + 0x10 * k) * 8 + 11, 1, 0⟩
abbrev TMP_PTP_CFG.L1SYNC_EN (k : Nat) : Fld := ⟨(0x100 + 0x10 * k) * 8 + 12, 1, 0⟩
abbrev TMP_PTP_CFG.LOG_ANN (k : Nat) : Fld := ⟨(0x100 + 0x10 * k) * 8 + 16, 3, 0⟩
abbrev TMP_PTP_CFG.LOG_SYNC (k : Nat) : Fld := ⟨(0x100 + 0x10 * k) * 8 + 19, 4, 0⟩
abbrev TMP_PTP_CFG.LOG_DREQ (k : Nat) : Fld := ⟨(0x100 + 0x10 * k) * 8 + 23, 4, 0⟩
abbrev TMP_PTP_CFG.ASYM_PS (k : Nat) : Fld := ⟨(0x100 + 0x10 * k) * 8 + 32, 32, 0⟩
abbrev TMP_PTP_STAT.PORT_STATE (k : Nat) : Fld := ⟨(0x108 + 0x10 * k) * 8 + 0, 4, 1⟩
abbrev TMP_PTP_STAT.L1_STATE (k : Nat) : Fld := ⟨(0x108 + 0x10 * k) * 8 + 4, 4, 0⟩
abbrev TMP_PTP_STAT.STEPS_REMOVED (k : Nat) : Fld := ⟨(0x108 + 0x10 * k) * 8 + 8, 8, 0⟩
abbrev TMP_PTP_STAT.SYNC_RX (k : Nat) : Fld := ⟨(0x108 + 0x10 * k) * 8 + 32, 32, 0⟩
abbrev TMP_SRC_CFG.TPORT0 : Fld := ⟨0x40 * 8 + 0, 6, 0⟩
abbrev TMP_SRC_CFG.TPORT0_EN : Fld := ⟨0x40 * 8 + 6, 1, 0⟩
abbrev TMP_SRC_CFG.TPORT1 : Fld := ⟨0x40 * 8 + 8, 6, 0⟩
abbrev TMP_SRC_CFG.TPORT1_EN : Fld := ⟨0x40 * 8 + 14, 1, 0⟩
abbrev TMP_SRC_CFG.TPORT2 : Fld := ⟨0x40 * 8 + 16, 6, 0⟩
abbrev TMP_SRC_CFG.TPORT2_EN : Fld := ⟨0x40 * 8 + 22, 1, 0⟩
abbrev TMP_SRC_CFG.TPORT3 : Fld := ⟨0x40 * 8 + 24, 6, 0⟩
abbrev TMP_SRC_CFG.TPORT3_EN : Fld := ⟨0x40 * 8 + 30, 1, 0⟩
abbrev TMP_SRC_CFG.PPS_MODE : Fld := ⟨0x40 * 8 + 32, 2, 0⟩
abbrev TMP_ACC_CFG.A_GM_PS : Fld := ⟨0x48 * 8 + 0, 16, 0⟩
abbrev TMP_ACC_CFG.A_PATH_PS : Fld := ⟨0x48 * 8 + 16, 16, 0⟩
abbrev TMP_ACC_CFG.A_PPS_PS : Fld := ⟨0x48 * 8 + 32, 16, 0⟩
abbrev TMP_SERVO_CFG.BW_MHZ : Fld := ⟨0x58 * 8 + 0, 8, 0⟩
abbrev TMP_SERVO_CFG.LOCK_N : Fld := ⟨0x58 * 8 + 8, 4, 0⟩
abbrev TMP_SERVO_CFG.LOCK_THR_PS : Fld := ⟨0x58 * 8 + 16, 16, 0⟩
abbrev TMP_PPS_CFG.OUT_EN : Fld := ⟨0x70 * 8 + 0, 1, 0⟩
abbrev TMP_PPS_CFG.OUT_IN_HOLD : Fld := ⟨0x70 * 8 + 1, 1, 0⟩
abbrev TMP_PPS_CFG.OUT_IN_UNTRACE : Fld := ⟨0x70 * 8 + 2, 1, 0⟩
abbrev TMP_PPS_CFG.WIDTH_US : Fld := ⟨0x70 * 8 + 8, 20, 0⟩
abbrev TMP_PPS_COMP.IN_COMP_PS : Fld := ⟨0x78 * 8 + 0, 32, 0⟩
abbrev TMP_PPS_COMP.OUT_COMP_PS : Fld := ⟨0x78 * 8 + 32, 32, 0⟩
abbrev TMP_PPS_IN_ERR.ERR_PS : Fld := ⟨0x80 * 8 + 0, 32, 0⟩
abbrev TMP_HOLD_CFG.Y0 : Fld := ⟨0x50 * 8 + 0, 16, 0⟩
abbrev TMP_HOLD_CFG.AGE : Fld := ⟨0x50 * 8 + 16, 16, 0⟩
abbrev TMP_HOLD_CFG.MAX_HOLD_H : Fld := ⟨0x50 * 8 + 32, 16, 0⟩
abbrev TMP_STEP.DELTA_NS : Fld := ⟨0x60 * 8 + 0, 64, 0⟩
abbrev TMP_STEP_ID.ID : Fld := ⟨0x68 * 8 + 0, 32, 0⟩
abbrev TMP_LCAL_RX.BOARD (n : Nat) : Fld := ⟨(0x1000 + 0x20 * n) * 8 + 0, 32, 0⟩
abbrev TMP_LCAL_RX.UNC (n : Nat) : Fld := ⟨(0x1000 + 0x20 * n) * 8 + 32, 16, 0⟩
abbrev TMP_LCAL_TX.BOARD (n : Nat) : Fld := ⟨(0x1008 + 0x20 * n) * 8 + 0, 32, 0⟩
abbrev TMP_LCAL_TX.UNC (n : Nat) : Fld := ⟨(0x1008 + 0x20 * n) * 8 + 32, 16, 0⟩
abbrev TMP_LDIE.RX_DIE (n : Nat) : Fld := ⟨(0x1010 + 0x20 * n) * 8 + 0, 24, 0⟩
abbrev TMP_LDIE.TX_DIE (n : Nat) : Fld := ⟨(0x1010 + 0x20 * n) * 8 + 24, 24, 0⟩
abbrev TMP_LDIE.GEN (n : Nat) : Fld := ⟨(0x1010 + 0x20 * n) * 8 + 48, 8, 0⟩
abbrev TMP_LDIE.VALID (n : Nat) : Fld := ⟨(0x1010 + 0x20 * n) * 8 + 56, 1, 0⟩
abbrev TMP_LDIE.REJECT (n : Nat) : Fld := ⟨(0x1010 + 0x20 * n) * 8 + 57, 1, 0⟩
abbrev TMP_LEXCESS.RX_EXCESS_PS (n : Nat) : Fld := ⟨(0x1018 + 0x20 * n) * 8 + 0, 16, 0⟩
abbrev TMP_LEXCESS.TX_EXCESS_PS (n : Nat) : Fld := ⟨(0x1018 + 0x20 * n) * 8 + 16, 16, 0⟩
abbrev TMP_RECAL_CFG.PERIOD_S : Fld := ⟨0x88 * 8 + 0, 8, 0⟩
abbrev TMP_RECAL_CFG.LIMIT_PS : Fld := ⟨0x88 * 8 + 8, 16, 500⟩
abbrev TMP_TRC_SEQ.SEQ : Fld := ⟨0x90 * 8 + 0, 64, 0⟩
abbrev SEQ_PORT.EN (p : Nat) : Fld := ⟨(0x12000 + 0x10 * p) * 8 + 0, 1, 0⟩
abbrev SEQ_PORT.SPEED (p : Nat) : Fld := ⟨(0x12000 + 0x10 * p) * 8 + 1, 3, 0⟩
abbrev SEQ_PORT.FEC (p : Nat) : Fld := ⟨(0x12000 + 0x10 * p) * 8 + 4, 2, 0⟩
abbrev SEQ_PORT.LANES_LOG2 (p : Nat) : Fld := ⟨(0x12000 + 0x10 * p) * 8 + 6, 2, 0⟩
abbrev SEQ_PORT.LANE0 (p : Nat) : Fld := ⟨(0x12000 + 0x10 * p) * 8 + 8, 6, 0⟩
abbrev SEQ_PORT.MAXLEN (p : Nat) : Fld := ⟨(0x12000 + 0x10 * p) * 8 + 16, 14, 1518⟩
abbrev SEQ_CFG.WINDOW_NS : Fld := ⟨0x10000 * 8 + 0, 14, 150⟩
abbrev SEQ_CFG.GUARD_PS : Fld := ⟨0x10000 * 8 + 16, 16, 500⟩
abbrev SEQ_CFG.PARSE_LIMIT_NS : Fld := ⟨0x10000 * 8 + 32, 17, 1000⟩
abbrev SEQ_CFG.ROLL_LOG2 : Fld := ⟨0x10000 * 8 + 50, 6, 48⟩
abbrev SEQ_STATUS.HOLD_PORT : Fld := ⟨0x10008 * 8 + 0, 6, 0⟩
abbrev SEQ_STATUS.HOLD_VALID : Fld := ⟨0x10008 * 8 + 6, 1, 0⟩
abbrev SEQ_STATUS.HELD_BY_PARSE : Fld := ⟨0x10008 * 8 + 7, 1, 0⟩
abbrev SEQ_STATUS.ROLL_NEAR : Fld := ⟨0x10008 * 8 + 8, 1, 0⟩
abbrev SEQ_STATUS.EPOCH_EXHAUSTED : Fld := ⟨0x10008 * 8 + 9, 1, 0⟩
abbrev SEQ_STATUS.SHARED_FREE : Fld := ⟨0x10008 * 8 + 32, 16, 49088⟩
abbrev SEQ_ACTIVE.ACTIVE : Fld := ⟨0x10010 * 8 + 0, 64, 0⟩
abbrev SEQ_NEXT.NEXT : Fld := ⟨0x10018 * 8 + 0, 64, 0⟩
abbrev SEQ_LAST_REL.STAMP_LO : Fld := ⟨0x10020 * 8 + 0, 64, 0⟩
abbrev SEQ_TIE.TIE_HEAD : Fld := ⟨0x10028 * 8 + 0, 6, 0⟩
abbrev SEQ_TIE.LIST_P : Fld := ⟨0x10028 * 8 + 8, 7, 0⟩
abbrev SEQ_TIE.SECOND : Fld := ⟨0x10028 * 8 + 16, 48, 0⟩
abbrev SEQ_CNT.TIES : Fld := ⟨0x10030 * 8 + 0, 32, 0⟩
abbrev SEQ_CNT.PARSE_LATE : Fld := ⟨0x10030 * 8 + 32, 16, 0⟩
abbrev SEQ_CNT.ROLLS : Fld := ⟨0x10030 * 8 + 48, 16, 0⟩
abbrev SEQ_ISSUED.ISSUED : Fld := ⟨0x10038 * 8 + 0, 64, 0⟩
abbrev SEQ_PWM.W_LO (p : Nat) : Fld := ⟨(0x11000 + 0x20 * p) * 8 + 0, 64, 0⟩
abbrev SEQ_PST.ACTIVE (p : Nat) : Fld := ⟨(0x11008 + 0x20 * p) * 8 + 0, 1, 0⟩
abbrev SEQ_PST.LINK (p : Nat) : Fld := ⟨(0x11008 + 0x20 * p) * 8 + 1, 1, 0⟩
abbrev SEQ_PST.PINNED (p : Nat) : Fld := ⟨(0x11008 + 0x20 * p) * 8 + 2, 1, 0⟩
abbrev SEQ_PST.JOINING (p : Nat) : Fld := ⟨(0x11008 + 0x20 * p) * 8 + 3, 1, 0⟩
abbrev SEQ_PST.LEAVING (p : Nat) : Fld := ⟨(0x11008 + 0x20 * p) * 8 + 4, 1, 0⟩
abbrev SEQ_PST.SLOTS (p : Nat) : Fld := ⟨(0x11008 + 0x20 * p) * 8 + 8, 17, 0⟩
abbrev SEQ_PST.FIP_LIMIT_NS (p : Nat) : Fld := ⟨(0x11008 + 0x20 * p) * 8 + 32, 32, 0⟩
abbrev SEQ_PCNT0.CANDIDATES (p : Nat) : Fld := ⟨(0x11010 + 0x20 * p) * 8 + 0, 32, 0⟩
abbrev SEQ_PCNT0.PARSE_DROP (p : Nat) : Fld := ⟨(0x11010 + 0x20 * p) * 8 + 32, 16, 0⟩
abbrev SEQ_PCNT0.BAD_FRAME (p : Nat) : Fld := ⟨(0x11010 + 0x20 * p) * 8 + 48, 16, 0⟩
abbrev SEQ_PCNT1.FIP_TIMEOUT (p : Nat) : Fld := ⟨(0x11018 + 0x20 * p) * 8 + 0, 16, 0⟩
abbrev SEQ_PCNT1.LINK_CUT (p : Nat) : Fld := ⟨(0x11018 + 0x20 * p) * 8 + 16, 16, 0⟩
abbrev SEQ_PCNT1.JOIN_DISCARD (p : Nat) : Fld := ⟨(0x11018 + 0x20 * p) * 8 + 32, 16, 0⟩
abbrev SEQ_PCNT1.NO_SLOT (p : Nat) : Fld := ⟨(0x11018 + 0x20 * p) * 8 + 48, 16, 0⟩
abbrev DYE_STATE.STATE (g : Nat) : Fld := ⟨(0x1010000 + 0x20000 * (g / 16) + 0x1000 * (g % 16)) * 8 + 0, 32, 0⟩
abbrev DYE_CYCLE.CYCLE (g : Nat) : Fld := ⟨(0x1010008 + 0x20000 * (g / 16) + 0x1000 * (g % 16)) * 8 + 0, 64, 0⟩
abbrev DYE_TCTL.START (g s : Nat) : Fld := ⟨(0x1010100 + 0x20000 * (g / 16) + 0x1000 * (g % 16) + 0x40 * s) * 8 + 0, 1, 0⟩
abbrev DYE_TCTL.RESET (g s : Nat) : Fld := ⟨(0x1010100 + 0x20000 * (g / 16) + 0x1000 * (g % 16) + 0x40 * s) * 8 + 1, 1, 0⟩
abbrev DYE_TCTL.HALT (g s : Nat) : Fld := ⟨(0x1010100 + 0x20000 * (g / 16) + 0x1000 * (g % 16) + 0x40 * s) * 8 + 2, 1, 0⟩
abbrev DYE_TCTL.RESUME (g s : Nat) : Fld := ⟨(0x1010100 + 0x20000 * (g / 16) + 0x1000 * (g % 16) + 0x40 * s) * 8 + 3, 1, 0⟩
abbrev DYE_TCTL.STEP (g s : Nat) : Fld := ⟨(0x1010100 + 0x20000 * (g / 16) + 0x1000 * (g % 16) + 0x40 * s) * 8 + 4, 1, 0⟩
abbrev DYE_TCTL.ENTRY_PC (g s : Nat) : Fld := ⟨(0x1010100 + 0x20000 * (g / 16) + 0x1000 * (g % 16) + 0x40 * s) * 8 + 8, 13, 0⟩
abbrev DYE_TPC.PC (g s : Nat) : Fld := ⟨(0x1010108 + 0x20000 * (g / 16) + 0x1000 * (g % 16) + 0x40 * s) * 8 + 0, 13, 0⟩
abbrev DYE_TSTAT.LOCKS_HELD (g s : Nat) : Fld := ⟨(0x1010128 + 0x20000 * (g / 16) + 0x1000 * (g % 16) + 0x40 * s) * 8 + 0, 4, 0⟩
abbrev DYE_TSTAT.RESERVING (g s : Nat) : Fld := ⟨(0x1010128 + 0x20000 * (g / 16) + 0x1000 * (g % 16) + 0x40 * s) * 8 + 4, 1, 0⟩
abbrev DYE_TSTAT.CHAN (g s : Nat) : Fld := ⟨(0x1010128 + 0x20000 * (g / 16) + 0x1000 * (g % 16) + 0x40 * s) * 8 + 5, 8, 0⟩
abbrev DYE_TSTAT.HALTED_IN_WAIT (g s : Nat) : Fld := ⟨(0x1010128 + 0x20000 * (g / 16) + 0x1000 * (g % 16) + 0x40 * s) * 8 + 13, 1, 0⟩
abbrev CLU_GWIN.BASE_4K (k j : Nat) : Fld := ⟨(0x1000200 + 0x20000 * k + 0x8 * j) * 8 + 0, 24, 0⟩
abbrev CLU_GWIN.SIZE_4K (k j : Nat) : Fld := ⟨(0x1000200 + 0x20000 * k + 0x8 * j) * 8 + 24, 24, 0⟩
abbrev CLU_GWIN.WE (k j : Nat) : Fld := ⟨(0x1000200 + 0x20000 * k + 0x8 * j) * 8 + 48, 1, 0⟩
abbrev CLU_GWIN.EN (k j : Nat) : Fld := ⟨(0x1000200 + 0x20000 * k + 0x8 * j) * 8 + 49, 1, 0⟩
abbrev DYE_TWAIT.WMASK (g s : Nat) : Fld := ⟨(0x1010110 + 0x20000 * (g / 16) + 0x1000 * (g % 16) + 0x40 * s) * 8 + 0, 32, 0⟩
abbrev DYE_TWAIT.PEND (g s : Nat) : Fld := ⟨(0x1010110 + 0x20000 * (g / 16) + 0x1000 * (g % 16) + 0x40 * s) * 8 + 32, 32, 0⟩
/-- CLU_WGRP.GROUP of thread `t` of cluster `k` (chapter 04). -/
abbrev CLU_WGRP.GROUP (k t : Nat) : Fld := ⟨(0x1000100 + 0x20000 * k + 0x8 * (t / 16)) * 8 + 4 * (t % 16), 4, 15⟩
abbrev CLU_STALL.GROUP (k : Nat) : Fld := ⟨(0x1000300 + 0x20000 * k) * 8 + 0, 4, 0⟩
abbrev CLU_STALL.VALID (k : Nat) : Fld := ⟨(0x1000300 + 0x20000 * k) * 8 + 4, 1, 0⟩
abbrev CLU_STALL.TO_ROASTER (k : Nat) : Fld := ⟨(0x1000300 + 0x20000 * k) * 8 + 5, 1, 0⟩
abbrev CLU_STALL.CLUSTER (k : Nat) : Fld := ⟨(0x1000300 + 0x20000 * k) * 8 + 8, 6, 0⟩
abbrev CLU_STALL.CYCLE_LO (k : Nat) : Fld := ⟨(0x1000300 + 0x20000 * k) * 8 + 32, 32, 0⟩
abbrev CLU_STALL_MEMB.MEMB (k j : Nat) : Fld := ⟨(0x1000308 + 0x20000 * k + 0x8 * j) * 8 + 0, 64, 0⟩
abbrev CLU_STALL_SNAP.WMASK (k i : Nat) : Fld := ⟨(0x1000800 + 0x20000 * k + 0x8 * i) * 8 + 0, 32, 0⟩
abbrev CLU_STALL_SNAP.PEND (k i : Nat) : Fld := ⟨(0x1000800 + 0x20000 * k + 0x8 * i) * 8 + 32, 32, 0⟩
abbrev CLU_LOCK_ERR.LOCK (k : Nat) : Fld := ⟨(0x1000400 + 0x20000 * k) * 8 + 0, 9, 0⟩
abbrev CLU_LOCK_ERR.VALID (k : Nat) : Fld := ⟨(0x1000400 + 0x20000 * k) * 8 + 9, 1, 0⟩
abbrev CLU_LOCK_ERR.KIND (k : Nat) : Fld := ⟨(0x1000400 + 0x20000 * k) * 8 + 10, 2, 0⟩
abbrev CLU_LOCK_ERR.THREAD (k : Nat) : Fld := ⟨(0x1000400 + 0x20000 * k) * 8 + 12, 7, 0⟩
abbrev CLU_LOCK_ERR.PC (k : Nat) : Fld := ⟨(0x1000400 + 0x20000 * k) * 8 + 32, 13, 0⟩
abbrev CLU_LOCK_OWN.OWNER (k n : Nat) : Fld := ⟨(0x1001000 + 0x20000 * k + 0x4 * n) * 8 + 0, 7, 0⟩
abbrev CLU_LOCK_OWN.HELD (k n : Nat) : Fld := ⟨(0x1001000 + 0x20000 * k + 0x4 * n) * 8 + 7, 1, 0⟩
abbrev CLU_LOCK_OWN.WAITERS (k n : Nat) : Fld := ⟨(0x1001000 + 0x20000 * k + 0x4 * n) * 8 + 8, 8, 0⟩
abbrev CLU_CFG.SUPV_ENGINE (k : Nat) : Fld := ⟨(0x1000000 + 0x20000 * k) * 8 + 0, 4, 0⟩
abbrev CLU_CFG.SUPV_SLOT (k : Nat) : Fld := ⟨(0x1000000 + 0x20000 * k) * 8 + 4, 3, 0⟩
abbrev CLU_CFG.LEASE_US (k : Nat) : Fld := ⟨(0x1000000 + 0x20000 * k) * 8 + 8, 24, 1000⟩
abbrev CLU_CHAN_CFG.READER (k c : Nat) : Fld := ⟨(0x1002000 + 0x20000 * k + 0x10 * c) * 8 + 0, 7, 0⟩
abbrev CLU_CHAN_CFG.EXT_WRITER (k c : Nat) : Fld := ⟨(0x1002000 + 0x20000 * k + 0x10 * c) * 8 + 7, 1, 0⟩
abbrev CLU_CHAN_CFG.EN (k c : Nat) : Fld := ⟨(0x1002000 + 0x20000 * k + 0x10 * c) * 8 + 8, 1, 0⟩
abbrev CLU_CHAN_CFG.DEPTH (k c : Nat) : Fld := ⟨(0x1002000 + 0x20000 * k + 0x10 * c) * 8 + 10, 6, 0⟩
abbrev CLU_CHAN_CFG.WGRP_MASK (k c : Nat) : Fld := ⟨(0x1002000 + 0x20000 * k + 0x10 * c) * 8 + 32, 16, 0⟩
abbrev CLU_CHAN_STAT.COUNT (k c : Nat) : Fld := ⟨(0x1002008 + 0x20000 * k + 0x10 * c) * 8 + 0, 6, 0⟩
abbrev CLU_CHAN_STAT.RESERVED (k c : Nat) : Fld := ⟨(0x1002008 + 0x20000 * k + 0x10 * c) * 8 + 6, 1, 0⟩
abbrev CLU_CHAN_STAT.HOLDER (k c : Nat) : Fld := ⟨(0x1002008 + 0x20000 * k + 0x10 * c) * 8 + 7, 7, 0⟩
abbrev CLU_CHAN_STAT.SAUCER (k c : Nat) : Fld := ⟨(0x1002008 + 0x20000 * k + 0x10 * c) * 8 + 16, 8, 0⟩
abbrev CLU_CHAN_STAT.LEASES_REVOKED (k c : Nat) : Fld := ⟨(0x1002008 + 0x20000 * k + 0x10 * c) * 8 + 32, 16, 0⟩
abbrev CLU_ESCALATE.CODE (k : Nat) : Fld := ⟨(0x1000008 + 0x20000 * k) * 8 + 0, 16, 0⟩
abbrev CLU_ESCALATE.RAISE (k : Nat) : Fld := ⟨(0x1000008 + 0x20000 * k) * 8 + 16, 1, 0⟩
abbrev DYE_TFLT.CAUSE (g s : Nat) : Fld := ⟨(0x1010118 + 0x20000 * (g / 16) + 0x1000 * (g % 16) + 0x40 * s) * 8 + 0, 8, 0⟩
abbrev DYE_TFLT.VALID (g s : Nat) : Fld := ⟨(0x1010118 + 0x20000 * (g / 16) + 0x1000 * (g % 16) + 0x40 * s) * 8 + 8, 1, 0⟩
abbrev DYE_TFLT.LEASE_PENDING (g s : Nat) : Fld := ⟨(0x1010118 + 0x20000 * (g / 16) + 0x1000 * (g % 16) + 0x40 * s) * 8 + 9, 1, 0⟩
abbrev DYE_TFLT.PC (g s : Nat) : Fld := ⟨(0x1010118 + 0x20000 * (g / 16) + 0x1000 * (g % 16) + 0x40 * s) * 8 + 16, 13, 0⟩
abbrev DYE_TFADDR.ADDR (g s : Nat) : Fld := ⟨(0x1010120 + 0x20000 * (g / 16) + 0x1000 * (g % 16) + 0x40 * s) * 8 + 0, 48, 0⟩
abbrev DYE_TFADDR.INFO (g s : Nat) : Fld := ⟨(0x1010120 + 0x20000 * (g / 16) + 0x1000 * (g % 16) + 0x40 * s) * 8 + 48, 16, 0⟩
abbrev DYE_DBG.DBG_EN (g : Nat) : Fld := ⟨(0x1010010 + 0x20000 * (g / 16) + 0x1000 * (g % 16)) * 8 + 0, 1, 0⟩
abbrev DYE_DBG.HALT_ON_FAULT (g : Nat) : Fld := ⟨(0x1010010 + 0x20000 * (g / 16) + 0x1000 * (g % 16)) * 8 + 1, 1, 0⟩
abbrev DYE_BRK.PC (g k : Nat) : Fld := ⟨(0x1010020 + 0x20000 * (g / 16) + 0x1000 * (g % 16) + 0x8 * k) * 8 + 0, 13, 0⟩
abbrev DYE_BRK.SLOTS (g k : Nat) : Fld := ⟨(0x1010020 + 0x20000 * (g / 16) + 0x1000 * (g % 16) + 0x8 * k) * 8 + 16, 8, 0⟩
abbrev DYE_BRK.EN (g k : Nat) : Fld := ⟨(0x1010020 + 0x20000 * (g / 16) + 0x1000 * (g % 16) + 0x8 * k) * 8 + 24, 1, 0⟩
abbrev DYE_FRM.PORT (g k : Nat) : Fld := ⟨(0x1010400 + 0x20000 * (g / 16) + 0x1000 * (g % 16) + 0x8 * k) * 8 + 0, 6, 0⟩
abbrev DYE_FRM.EN (g k : Nat) : Fld := ⟨(0x1010400 + 0x20000 * (g / 16) + 0x1000 * (g % 16) + 0x8 * k) * 8 + 6, 1, 0⟩
abbrev DYE_FRM.SLOT (g k : Nat) : Fld := ⟨(0x1010400 + 0x20000 * (g / 16) + 0x1000 * (g % 16) + 0x8 * k) * 8 + 8, 3, 0⟩
abbrev DYE_FRM.BASE (g k : Nat) : Fld := ⟨(0x1010400 + 0x20000 * (g / 16) + 0x1000 * (g % 16) + 0x8 * k) * 8 + 16, 16, 0⟩
abbrev DYE_FRM.SIZE (g k : Nat) : Fld := ⟨(0x1010400 + 0x20000 * (g / 16) + 0x1000 * (g % 16) + 0x8 * k) * 8 + 32, 16, 0⟩
abbrev CLU_TBL.BASE_64 (k t : Nat) : Fld := ⟨(0x1000500 + 0x20000 * k + 0x10 * t) * 8 + 0, 14, 0⟩
abbrev CLU_TBL.ENTRY (k t : Nat) : Fld := ⟨(0x1000500 + 0x20000 * k + 0x10 * t) * 8 + 14, 2, 0⟩
abbrev CLU_TBL.EN (k t : Nat) : Fld := ⟨(0x1000500 + 0x20000 * k + 0x10 * t) * 8 + 16, 1, 0⟩
abbrev CLU_TBL.COUNT (k t : Nat) : Fld := ⟨(0x1000500 + 0x20000 * k + 0x10 * t) * 8 + 32, 24, 0⟩
abbrev CLU_TBLS.RES (k t : Nat) : Fld := ⟨(0x1000508 + 0x20000 * k + 0x10 * t) * 8 + 0, 24, 0⟩
abbrev CLU_TBLS.SPILL_4K (k t : Nat) : Fld := ⟨(0x1000508 + 0x20000 * k + 0x10 * t) * 8 + 24, 24, 0⟩
abbrev CRF_CFG.MODE : Fld := ⟨0x20000 * 8 + 0, 2, 0⟩
abbrev CRF_CFG.PROT : Fld := ⟨0x20000 * 8 + 2, 1, 0⟩
abbrev CRF_CFG.FLUSH_NS : Fld := ⟨0x20000 * 8 + 4, 20, 10000⟩
abbrev CRF_CFG.CKPT_STRIPES : Fld := ⟨0x20000 * 8 + 24, 8, 64⟩
abbrev CRF_CFG.KEY_ID : Fld := ⟨0x20000 * 8 + 32, 16, 0⟩
abbrev CRF_CFG.SEAL_CTX : Fld := ⟨0x20000 * 8 + 48, 8, 0⟩
abbrev CRF_STATUS.MODE_OLD : Fld := ⟨0x20008 * 8 + 0, 2, 0⟩
abbrev CRF_STATUS.BOUNDARY_PENDING : Fld := ⟨0x20008 * 8 + 2, 1, 0⟩
abbrev CRF_STATUS.SHORT_FOLLOWERS : Fld := ⟨0x20008 * 8 + 3, 1, 0⟩
abbrev CRF_STATUS.REPLAYING : Fld := ⟨0x20008 * 8 + 4, 1, 0⟩
abbrev CRF_STATUS.JOURNAL_FULL : Fld := ⟨0x20008 * 8 + 5, 1, 0⟩
abbrev CRF_STATUS.ARCHIVE_LOW : Fld := ⟨0x20008 * 8 + 6, 1, 0⟩
abbrev CRF_STATUS.POWER_FAIL : Fld := ⟨0x20008 * 8 + 7, 1, 0⟩
abbrev CRF_STATUS.KEYS_LOCKED : Fld := ⟨0x20008 * 8 + 8, 1, 0⟩
abbrev CRF_STATUS.WM_VALID : Fld := ⟨0x20008 * 8 + 9, 1, 0⟩
abbrev CRF_STATUS.PENDING_VERDICTS : Fld := ⟨0x20008 * 8 + 32, 16, 0⟩
abbrev CRF_JOURNAL_ID.ID : Fld := ⟨0x20010 * 8 + 0, 64, 0⟩
abbrev CRF_STRIPE.NEXT : Fld := ⟨0x20018 * 8 + 0, 64, 0⟩
abbrev CRF_SERIAL.NEXT : Fld := ⟨0x20020 * 8 + 0, 64, 0⟩
abbrev CRF_VERDICT_CFG.DEADLINE_NS : Fld := ⟨0x20028 * 8 + 0, 17, 2000⟩
abbrev CRF_VERDICT_CFG.LATE_VALUE : Fld := ⟨0x20028 * 8 + 32, 16, 65535⟩
abbrev CRF_VERDICT_CFG.NOMAP_VALUE : Fld := ⟨0x20028 * 8 + 48, 16, 65534⟩
abbrev CRF_STAGE.BASE_4K : Fld := ⟨0x20030 * 8 + 0, 24, 0⟩
abbrev CRF_STAGE.SIZE_4K : Fld := ⟨0x20030 * 8 + 24, 24, 16384⟩
abbrev CRF_PUB_CFG.MIN_GAP_NS : Fld := ⟨0x20038 * 8 + 0, 16, 0⟩
abbrev CRF_WMARK.SEQ : Fld := ⟨0x20100 * 8 + 0, 64, 0⟩
abbrev CRF_LOCAL.SEQ : Fld := ⟨0x20108 * 8 + 0, 64, 0⟩
abbrev CRF_CONF.SEQ (k : Nat) : Fld := ⟨(0x20110 + 0x8 * k) * 8 + 0, 64, 0⟩
abbrev CRF_BOUNDARY.SEQ : Fld := ⟨0x20128 * 8 + 0, 64, 0⟩
abbrev CRF_APPEND.NEXT : Fld := ⟨0x20130 * 8 + 0, 64, 0⟩
abbrev CRF_CNT0.PAGES : Fld := ⟨0x20200 * 8 + 0, 32, 0⟩
abbrev CRF_CNT0.TWINS : Fld := ⟨0x20200 * 8 + 32, 32, 0⟩
abbrev CRF_CNT1.FLUSH_PADS : Fld := ⟨0x20208 * 8 + 0, 32, 0⟩
abbrev CRF_CNT1.PARITY : Fld := ⟨0x20208 * 8 + 32, 32, 0⟩
abbrev CRF_CNT2.VERDICT_LATE : Fld := ⟨0x20210 * 8 + 0, 16, 0⟩
abbrev CRF_CNT2.VERDICT_NOMAP : Fld := ⟨0x20210 * 8 + 16, 16, 0⟩
abbrev CRF_CNT2.RELOCATED : Fld := ⟨0x20210 * 8 + 32, 16, 0⟩
abbrev CRF_CNT2.PROG_FAIL : Fld := ⟨0x20210 * 8 + 48, 16, 0⟩
abbrev CRF_REPLAY.RESUME : Fld := ⟨0x20310 * 8 + 0, 64, 0⟩
abbrev CRF_REPLAY_STAT.PAGES_READ : Fld := ⟨0x20318 * 8 + 0, 24, 0⟩
abbrev CRF_REPLAY_STAT.VOID_PAGES : Fld := ⟨0x20318 * 8 + 24, 16, 0⟩
abbrev CRF_REPLAY_STAT.REBUILT : Fld := ⟨0x20318 * 8 + 40, 16, 0⟩
abbrev PRG_CFG.HOLD_LIMIT_US : Fld := ⟨0x30000 * 8 + 0, 24, 0⟩
abbrev PRG_STATUS.HELD : Fld := ⟨0x30008 * 8 + 0, 19, 0⟩
abbrev PRG_STATUS.FULL : Fld := ⟨0x30008 * 8 + 19, 1, 0⟩
abbrev PRG_STATUS.BUF_MIB : Fld := ⟨0x30008 * 8 + 32, 11, 0⟩
abbrev PRG_WM.SEQ : Fld := ⟨0x30010 * 8 + 0, 64, 0⟩
abbrev PRG_CNT.SENT : Fld := ⟨0x30018 * 8 + 0, 32, 0⟩
abbrev PRG_CNT.DEP_VOID : Fld := ⟨0x30018 * 8 + 32, 8, 0⟩
abbrev PRG_CNT.DEP_BAD : Fld := ⟨0x30018 * 8 + 40, 8, 0⟩
abbrev PRG_CNT.PORT_DOWN : Fld := ⟨0x30018 * 8 + 48, 8, 0⟩
abbrev PRG_CNT.HOLD_TIMEOUT : Fld := ⟨0x30018 * 8 + 56, 8, 0⟩
abbrev PRG_BUF.BASE_4K : Fld := ⟨0x30020 * 8 + 0, 24, 0⟩
abbrev PRG_PORT.HELD (p : Nat) : Fld := ⟨(0x31000 + 0x10 * p) * 8 + 0, 19, 0⟩
abbrev PRG_PORT.HEAD_WAIT_NS (p : Nat) : Fld := ⟨(0x31000 + 0x10 * p) * 8 + 32, 32, 0⟩
abbrev PRG_PHEAD.DEP (p : Nat) : Fld := ⟨(0x31008 + 0x10 * p) * 8 + 0, 64, 0⟩
abbrev PRG_CLOSE.INDEX (k : Nat) : Fld := ⟨(0x32000 + 0x8 * k) * 8 + 0, 48, 0⟩
abbrev PRG_CLOSE.EPOCH (k : Nat) : Fld := ⟨(0x32000 + 0x8 * k) * 8 + 48, 16, 0⟩
abbrev PRG_CLOSE_FLAGS.ROLL : Fld := ⟨0x32200 * 8 + 0, 64, 0⟩
abbrev PRG_CLOSE_VALID.VALID : Fld := ⟨0x32208 * 8 + 0, 64, 0⟩
abbrev CRF_RET_CFG.RET_DAYS : Fld := ⟨0x20300 * 8 + 0, 16, 2557⟩
abbrev CRF_RET_CFG.HOT_RESERVE : Fld := ⟨0x20300 * 8 + 16, 16, 256⟩
abbrev CRF_RET_CFG.ARCH_WARN_PCT : Fld := ⟨0x20300 * 8 + 32, 7, 10⟩
abbrev CRF_ARCH_STAT.HOT_FREE : Fld := ⟨0x20308 * 8 + 0, 24, 0⟩
abbrev CRF_ARCH_STAT.ARCH_FREE : Fld := ⟨0x20308 * 8 + 24, 20, 0⟩
abbrev CRF_ARCH_STAT.NEXT_SEG : Fld := ⟨0x20308 * 8 + 44, 20, 0⟩
abbrev NDC_CFG.RATE (c : Nat) : Fld := ⟨(0x100000 + 0x4000 * c) * 8 + 0, 3, 0⟩
abbrev NDC_CFG.EN (c : Nat) : Fld := ⟨(0x100000 + 0x4000 * c) * 8 + 3, 1, 0⟩
abbrev NDC_CFG.CE_MASK (c : Nat) : Fld := ⟨(0x100000 + 0x4000 * c) * 8 + 4, 8, 0⟩
abbrev NDC_CFG.TWO_LUN (c : Nat) : Fld := ⟨(0x100000 + 0x4000 * c) * 8 + 12, 1, 0⟩
abbrev NDC_CFG.BPC (c : Nat) : Fld := ⟨(0x100000 + 0x4000 * c) * 8 + 13, 3, 0⟩
abbrev NDC_GEOM.PAGES_NATIVE (c : Nat) : Fld := ⟨(0x100008 + 0x4000 * c) * 8 + 0, 13, 0⟩
abbrev NDC_GEOM.PLANES_LOG2 (c : Nat) : Fld := ⟨(0x100008 + 0x4000 * c) * 8 + 13, 2, 0⟩
abbrev NDC_GEOM.BLK_SHIFT (c : Nat) : Fld := ⟨(0x100008 + 0x4000 * c) * 8 + 16, 5, 0⟩
abbrev NDC_GEOM.LUN_SHIFT (c : Nat) : Fld := ⟨(0x100008 + 0x4000 * c) * 8 + 21, 5, 0⟩
abbrev NDC_GEOM.BLOCKS (c : Nat) : Fld := ⟨(0x100008 + 0x4000 * c) * 8 + 32, 15, 0⟩
abbrev NDC_TIMING.TCA (c : Nat) : Fld := ⟨(0x100010 + 0x4000 * c) * 8 + 0, 8, 4⟩
abbrev NDC_TIMING.TWB (c : Nat) : Fld := ⟨(0x100010 + 0x4000 * c) * 8 + 8, 8, 0⟩
abbrev NDC_TIMING.POLL_NS (c : Nat) : Fld := ⟨(0x100010 + 0x4000 * c) * 8 + 16, 16, 500⟩
abbrev NDC_TIMING.DEF_TMO (c : Nat) : Fld := ⟨(0x100010 + 0x4000 * c) * 8 + 32, 32, 12500000⟩
abbrev NDC_ID.ID (c : Nat) : Fld := ⟨(0x100040 + 0x4000 * c) * 8 + 0, 64, 0⟩
abbrev NDC_ID_MASK.MASK (c : Nat) : Fld := ⟨(0x100048 + 0x4000 * c) * 8 + 0, 64, 0⟩
abbrev NDC_ENDUR.SLC_CYCLES (c : Nat) : Fld := ⟨(0x100050 + 0x4000 * c) * 8 + 0, 32, 0⟩
abbrev NDC_ENDUR.NATIVE_CYCLES (c : Nat) : Fld := ⟨(0x100050 + 0x4000 * c) * 8 + 32, 32, 0⟩
abbrev NDC_OPMAX.LONGEST_US (c : Nat) : Fld := ⟨(0x100058 + 0x4000 * c) * 8 + 0, 16, 0⟩
abbrev NDC_MARK.PAGE (c k : Nat) : Fld := ⟨(0x100060 + 0x4000 * c + 0x8 * k) * 8 + 0, 13, 0⟩
abbrev NDC_MARK.EN (c k : Nat) : Fld := ⟨(0x100060 + 0x4000 * c + 0x8 * k) * 8 + 13, 1, 0⟩
abbrev NDC_MARK.BYTE (c k : Nat) : Fld := ⟨(0x100060 + 0x4000 * c + 0x8 * k) * 8 + 16, 15, 0⟩
abbrev NDC_MARK.GOOD (c k : Nat) : Fld := ⟨(0x100060 + 0x4000 * c + 0x8 * k) * 8 + 32, 8, 0⟩
abbrev DRP_CTRL.SUSPEND (c : Nat) : Fld := ⟨(0x102000 + 0x4000 * c) * 8 + 0, 1, 0⟩
abbrev DRP_CTRL.ABORT (c : Nat) : Fld := ⟨(0x102000 + 0x4000 * c) * 8 + 1, 1, 0⟩
abbrev DRP_CTRL.SWAP (c : Nat) : Fld := ⟨(0x102000 + 0x4000 * c) * 8 + 2, 1, 0⟩
abbrev DRP_STAT.SUSPENDED (c : Nat) : Fld := ⟨(0x102008 + 0x4000 * c) * 8 + 0, 1, 0⟩
abbrev DRP_STAT.ACTIVE_BANK (c : Nat) : Fld := ⟨(0x102008 + 0x4000 * c) * 8 + 1, 1, 0⟩
abbrev DRP_STAT.SWAP_PENDING (c : Nat) : Fld := ⟨(0x102008 + 0x4000 * c) * 8 + 2, 1, 0⟩
abbrev DRP_STAT.STANDBY_VALID (c : Nat) : Fld := ⟨(0x102008 + 0x4000 * c) * 8 + 3, 1, 0⟩
abbrev DRP_STAT.CTX_BUSY (c : Nat) : Fld := ⟨(0x102008 + 0x4000 * c) * 8 + 16, 16, 0⟩
abbrev DRP_STAT.UCODE_ID (c : Nat) : Fld := ⟨(0x102008 + 0x4000 * c) * 8 + 32, 32, 0⟩
abbrev DRP_ENTRY.PC (c k : Nat) : Fld := ⟨(0x102040 + 0x4000 * c + 0x4 * k) * 8 + 0, 12, 0⟩
abbrev DRP_ENTRY.VALID (c k : Nat) : Fld := ⟨(0x102040 + 0x4000 * c + 0x4 * k) * 8 + 12, 1, 0⟩
abbrev DRP_CTX.PC (c l : Nat) : Fld := ⟨(0x102100 + 0x4000 * c + 0x8 * l) * 8 + 0, 12, 0⟩
abbrev DRP_CTX.STATE (c l : Nat) : Fld := ⟨(0x102100 + 0x4000 * c + 0x8 * l) * 8 + 12, 3, 0⟩
abbrev DRP_CTX.BANK (c l : Nat) : Fld := ⟨(0x102100 + 0x4000 * c + 0x8 * l) * 8 + 15, 1, 0⟩
abbrev DRP_CTX.KIND (c l : Nat) : Fld := ⟨(0x102100 + 0x4000 * c + 0x8 * l) * 8 + 16, 4, 0⟩
abbrev DRP_CTX.QUEUED (c l : Nat) : Fld := ⟨(0x102100 + 0x4000 * c + 0x8 * l) * 8 + 20, 4, 0⟩
abbrev DRP_CTX.LC0 (c l : Nat) : Fld := ⟨(0x102100 + 0x4000 * c + 0x8 * l) * 8 + 24, 6, 0⟩
abbrev DRP_CTX.OP_CYCLES (c l : Nat) : Fld := ⟨(0x102100 + 0x4000 * c + 0x8 * l) * 8 + 32, 32, 0⟩
abbrev DRP_FAULT.PC (c : Nat) : Fld := ⟨(0x102200 + 0x4000 * c) * 8 + 0, 12, 0⟩
abbrev DRP_FAULT.VALID (c : Nat) : Fld := ⟨(0x102200 + 0x4000 * c) * 8 + 12, 1, 0⟩
abbrev DRP_FAULT.CTX (c : Nat) : Fld := ⟨(0x102200 + 0x4000 * c) * 8 + 13, 4, 0⟩
abbrev DRP_FAULT.CAUSE (c : Nat) : Fld := ⟨(0x102200 + 0x4000 * c) * 8 + 17, 3, 0⟩
abbrev DRP_FAULT.BANK (c : Nat) : Fld := ⟨(0x102200 + 0x4000 * c) * 8 + 20, 1, 0⟩
abbrev DRP_FAULT.WORD_HI (c : Nat) : Fld := ⟨(0x102200 + 0x4000 * c) * 8 + 32, 32, 0⟩
abbrev NDC_REF_CFG.SCAN_DAYS (c : Nat) : Fld := ⟨(0x100030 + 0x4000 * c) * 8 + 0, 8, 14⟩
abbrev NDC_REF_CFG.REFRESH_LVL (c : Nat) : Fld := ⟨(0x100030 + 0x4000 * c) * 8 + 8, 6, 8⟩
abbrev NDC_REF_CFG.RETIRE_LVL (c : Nat) : Fld := ⟨(0x100030 + 0x4000 * c) * 8 + 14, 6, 24⟩
abbrev NDC_REF_CFG.CORR_THR (c : Nat) : Fld := ⟨(0x100030 + 0x4000 * c) * 8 + 20, 8, 90⟩
abbrev NDC_REF_CFG.REFRESH_DAYS (c : Nat) : Fld := ⟨(0x100030 + 0x4000 * c) * 8 + 28, 12, 90⟩
abbrev NDC_REF_CFG.MAX_MBPS (c : Nat) : Fld := ⟨(0x100030 + 0x4000 * c) * 8 + 40, 16, 200⟩
abbrev NDC_REF_STAT.REFRESHED (c : Nat) : Fld := ⟨(0x100038 + 0x4000 * c) * 8 + 0, 32, 0⟩
abbrev NDC_REF_STAT.OLDEST_SWEEP_DAY (c : Nat) : Fld := ⟨(0x100038 + 0x4000 * c) * 8 + 32, 16, 0⟩
abbrev NDC_LUN_CFG.REGION (c l : Nat) : Fld := ⟨(0x100100 + 0x4000 * c + 0x10 * l) * 8 + 0, 2, 0⟩
abbrev NDC_LUN_CFG.PRESENT (c l : Nat) : Fld := ⟨(0x100100 + 0x4000 * c + 0x10 * l) * 8 + 2, 1, 0⟩
abbrev NDC_LUN_CFG.SPARE_PCT (c l : Nat) : Fld := ⟨(0x100100 + 0x4000 * c + 0x10 * l) * 8 + 8, 8, 7⟩
abbrev NDC_LUN_STAT.LOST (c l : Nat) : Fld := ⟨(0x100108 + 0x4000 * c + 0x10 * l) * 8 + 0, 1, 0⟩
abbrev NDC_LUN_STAT.REHOMING (c l : Nat) : Fld := ⟨(0x100108 + 0x4000 * c + 0x10 * l) * 8 + 1, 1, 0⟩
abbrev NDC_LUN_STAT.GROWN_BAD (c l : Nat) : Fld := ⟨(0x100108 + 0x4000 * c + 0x10 * l) * 8 + 16, 16, 0⟩
abbrev NDC_LUN_STAT.SPARE_FREE (c l : Nat) : Fld := ⟨(0x100108 + 0x4000 * c + 0x10 * l) * 8 + 32, 16, 0⟩
abbrev NDC_LUN_STAT.LIFE_PCT (c l : Nat) : Fld := ⟨(0x100108 + 0x4000 * c + 0x10 * l) * 8 + 48, 8, 0⟩
abbrev NDC_LIFE.SLC_ERASES (c l : Nat) : Fld := ⟨(0x100200 + 0x4000 * c + 0x8 * l) * 8 + 0, 32, 0⟩
abbrev NDC_LIFE.NATIVE_ERASES (c l : Nat) : Fld := ⟨(0x100200 + 0x4000 * c + 0x8 * l) * 8 + 32, 32, 0⟩
abbrev NDC_STAT.READY (c : Nat) : Fld := ⟨(0x100018 + 0x4000 * c) * 8 + 0, 1, 0⟩
abbrev NDC_STAT.RETIRED (c : Nat) : Fld := ⟨(0x100018 + 0x4000 * c) * 8 + 1, 1, 0⟩
abbrev NDC_STAT.TRAIN_FAIL (c : Nat) : Fld := ⟨(0x100018 + 0x4000 * c) * 8 + 2, 1, 0⟩
abbrev NDC_STAT.PLAN_MEMBER (c : Nat) : Fld := ⟨(0x100018 + 0x4000 * c) * 8 + 3, 1, 0⟩
abbrev NDC_STAT.REHOME_DONE (c : Nat) : Fld := ⟨(0x100018 + 0x4000 * c) * 8 + 4, 1, 0⟩
abbrev NDC_STAT.ID_MISMATCH (c : Nat) : Fld := ⟨(0x100018 + 0x4000 * c) * 8 + 8, 8, 0⟩
abbrev NDC_STAT.LUN_LOST (c : Nat) : Fld := ⟨(0x100018 + 0x4000 * c) * 8 + 16, 16, 0⟩
abbrev NDC_CNT0.READS (c : Nat) : Fld := ⟨(0x100020 + 0x4000 * c) * 8 + 0, 32, 0⟩
abbrev NDC_CNT0.PROGRAMS (c : Nat) : Fld := ⟨(0x100020 + 0x4000 * c) * 8 + 32, 32, 0⟩
abbrev NDC_CNT1.ERASES (c : Nat) : Fld := ⟨(0x100028 + 0x4000 * c) * 8 + 0, 16, 0⟩
abbrev NDC_CNT1.RETRIES (c : Nat) : Fld := ⟨(0x100028 + 0x4000 * c) * 8 + 16, 16, 0⟩
abbrev NDC_CNT1.UNCORR (c : Nat) : Fld := ⟨(0x100028 + 0x4000 * c) * 8 + 32, 12, 0⟩
abbrev NDC_CNT1.TIMEOUTS (c : Nat) : Fld := ⟨(0x100028 + 0x4000 * c) * 8 + 44, 8, 0⟩
abbrev NDC_CNT1.FAILS (c : Nat) : Fld := ⟨(0x100028 + 0x4000 * c) * 8 + 52, 8, 0⟩
abbrev NDC_CNT1.ILLEGALS (c : Nat) : Fld := ⟨(0x100028 + 0x4000 * c) * 8 + 60, 4, 0⟩
abbrev PCI_LINK.SPEED : Fld := ⟨0x80000 * 8 + 0, 4, 0⟩
abbrev PCI_LINK.WIDTH : Fld := ⟨0x80000 * 8 + 4, 6, 0⟩
abbrev PCI_LINK.FLIT : Fld := ⟨0x80000 * 8 + 10, 1, 0⟩
abbrev PCI_LINK.UP : Fld := ⟨0x80000 * 8 + 11, 1, 0⟩
abbrev PCI_LINK.RETRAINS : Fld := ⟨0x80000 * 8 + 16, 16, 0⟩
abbrev PCI_DMA_CFG.MAX_RD : Fld := ⟨0x80008 * 8 + 0, 3, 2⟩
abbrev PCI_TAG_CFG.RING_RSV : Fld := ⟨0x80010 * 8 + 0, 14, 2048⟩
abbrev PCI_TAG_CFG.SLICE_MAX : Fld := ⟨0x80010 * 8 + 16, 14, 1024⟩
abbrev PCI_TAG_STAT.IN_USE : Fld := ⟨0x80018 * 8 + 0, 14, 0⟩
abbrev PCI_TAG_STAT.QUARANTINED : Fld := ⟨0x80018 * 8 + 16, 14, 0⟩
abbrev PCI_TAG_STAT.TIMEOUTS : Fld := ⟨0x80018 * 8 + 32, 16, 0⟩
abbrev PCI_TAG_STAT.UNEXPECTED : Fld := ⟨0x80018 * 8 + 48, 16, 0⟩
abbrev SLC_CFG.PASID (s : Nat) : Fld := ⟨(0x90000 + 0x20 * s) * 8 + 0, 20, 0⟩
abbrev SLC_CFG.PASID_EN (s : Nat) : Fld := ⟨(0x90000 + 0x20 * s) * 8 + 20, 1, 0⟩
abbrev SLC_CFG.ADMIN (s : Nat) : Fld := ⟨(0x90000 + 0x20 * s) * 8 + 21, 1, 0⟩
abbrev SLC_CFG.EN (s : Nat) : Fld := ⟨(0x90000 + 0x20 * s) * 8 + 22, 1, 0⟩
abbrev SLC_CFG.TPH_EN (s : Nat) : Fld := ⟨(0x90000 + 0x20 * s) * 8 + 23, 1, 0⟩
abbrev SLC_CFG.ST (s : Nat) : Fld := ⟨(0x90000 + 0x20 * s) * 8 + 24, 8, 0⟩
abbrev SLC_WM.EN (s : Nat) : Fld := ⟨(0x90008 + 0x20 * s) * 8 + 0, 1, 0⟩
abbrev SLC_WM.ADDR (s : Nat) : Fld := ⟨(0x90008 + 0x20 * s) * 8 + 3, 61, 0⟩
abbrev SLC_STAT.DELIVERY_EPOCH (s : Nat) : Fld := ⟨(0x90010 + 0x20 * s) * 8 + 0, 32, 0⟩
abbrev SLC_STAT.STATE (s : Nat) : Fld := ⟨(0x90010 + 0x20 * s) * 8 + 32, 3, 0⟩
abbrev SLC_STAT.ESCALATED (s : Nat) : Fld := ⟨(0x90010 + 0x20 * s) * 8 + 35, 1, 0⟩
abbrev SLC_STAT.TAGS (s : Nat) : Fld := ⟨(0x90010 + 0x20 * s) * 8 + 48, 14, 0⟩
abbrev SLC_CNT.DB_DISCARD (s : Nat) : Fld := ⟨(0x90018 + 0x20 * s) * 8 + 0, 32, 0⟩
abbrev SLC_CNT.SQUASHED (s : Nat) : Fld := ⟨(0x90018 + 0x20 * s) * 8 + 32, 16, 0⟩
abbrev SLC_CNT.RESETS (s : Nat) : Fld := ⟨(0x90018 + 0x20 * s) * 8 + 48, 16, 0⟩
abbrev PCI_PEER_AREA.BASE_4K : Fld := ⟨0x80100 * 8 + 0, 24, 0⟩
abbrev PCI_PEER_AREA.SIZE_4K : Fld := ⟨0x80100 * 8 + 24, 24, 0⟩
abbrev PCI_WIN_COMMIT.GO : Fld := ⟨0x80108 * 8 + 0, 1, 0⟩
abbrev PCI_WIN_COMMIT.REFUSED : Fld := ⟨0x80108 * 8 + 1, 1, 0⟩
abbrev PCI_WIN_COMMIT.REASON : Fld := ⟨0x80108 * 8 + 2, 3, 0⟩
abbrev PCI_WIN_EPOCH.EPOCH : Fld := ⟨0x80110 * 8 + 0, 32, 0⟩
abbrev PCI_WIN_LOG.OFFSET : Fld := ⟨0x80118 * 8 + 0, 36, 0⟩
abbrev PCI_WIN_LOG.VALID : Fld := ⟨0x80118 * 8 + 36, 1, 0⟩
abbrev PCI_WIN_LOG.CAUSE : Fld := ⟨0x80118 * 8 + 37, 3, 0⟩
abbrev PCI_WIN_LOG.RID : Fld := ⟨0x80118 * 8 + 40, 16, 0⟩
abbrev PCI_WIN_LOG.COUNT : Fld := ⟨0x80118 * 8 + 56, 8, 0⟩
abbrev PCI_WINA.EN (k : Nat) : Fld := ⟨(0x81000 + 0x20 * k) * 8 + 0, 1, 0⟩
abbrev PCI_WINA.RD (k : Nat) : Fld := ⟨(0x81000 + 0x20 * k) * 8 + 1, 1, 0⟩
abbrev PCI_WINA.WR (k : Nat) : Fld := ⟨(0x81000 + 0x20 * k) * 8 + 2, 1, 0⟩
abbrev PCI_WINA.KIND (k : Nat) : Fld := ⟨(0x81000 + 0x20 * k) * 8 + 4, 2, 0⟩
abbrev PCI_WINA.BAR_4K (k : Nat) : Fld := ⟨(0x81000 + 0x20 * k) * 8 + 16, 24, 0⟩
abbrev PCI_WINA.SIZE_4K (k : Nat) : Fld := ⟨(0x81000 + 0x20 * k) * 8 + 40, 24, 0⟩
abbrev PCI_WINT.TGT_4K (k : Nat) : Fld := ⟨(0x81008 + 0x20 * k) * 8 + 0, 24, 0⟩
abbrev PCI_WINT.SLICE (k : Nat) : Fld := ⟨(0x81008 + 0x20 * k) * 8 + 24, 8, 0⟩
abbrev PCI_WINR.RID (k : Nat) : Fld := ⟨(0x81010 + 0x20 * k) * 8 + 0, 16, 0⟩
abbrev PCI_WINR.RID_MASK (k : Nat) : Fld := ⟨(0x81010 + 0x20 * k) * 8 + 16, 16, 0⟩
abbrev HQ_RSEL.RING : Fld := ⟨0x40018 * 8 + 0, 15, 0⟩
abbrev HQ_RSEL.DIR : Fld := ⟨0x40018 * 8 + 15, 1, 0⟩
abbrev HQ_RDESC.WORD (k : Nat) : Fld := ⟨(0x40020 + 0x8 * k) * 8 + 0, 64, 0⟩
abbrev HQ_RSTATE.STATE : Fld := ⟨0x40040 * 8 + 0, 3, 0⟩
abbrev HQ_RSTATE.CAUSE : Fld := ⟨0x40040 * 8 + 4, 2, 0⟩
abbrev HQ_RSTATE.BACKLOG_KIB : Fld := ⟨0x40040 * 8 + 32, 32, 0⟩
abbrev HQ_RIDX.INDEX_A : Fld := ⟨0x40048 * 8 + 0, 32, 0⟩
abbrev HQ_RIDX.INDEX_B : Fld := ⟨0x40048 * 8 + 32, 32, 0⟩
abbrev HQ_RLAST.SEQ : Fld := ⟨0x40050 * 8 + 0, 64, 0⟩
abbrev HQ_CFG.RETRY_NS : Fld := ⟨0x40000 * 8 + 0, 16, 1000⟩
abbrev HQ_CFG.RETRY_MAX : Fld := ⟨0x40000 * 8 + 16, 4, 4⟩
abbrev HQ_STATUS.LANE_HOLD : Fld := ⟨0x40010 * 8 + 0, 1, 0⟩
abbrev HQ_STATUS.GATE_HOLD : Fld := ⟨0x40010 * 8 + 1, 1, 0⟩
abbrev HQ_STATUS.ARRIVAL_Q : Fld := ⟨0x40010 * 8 + 16, 14, 0⟩
abbrev HQ_STATUS.POOL_FREE_MIB : Fld := ⟨0x40010 * 8 + 32, 32, 0⟩
abbrev HQ_BKLG.BASE_4K : Fld := ⟨0x40008 * 8 + 0, 24, 0⟩
abbrev HQ_BKLG.SIZE_4K : Fld := ⟨0x40008 * 8 + 24, 24, 0⟩
abbrev HQ_SBKLG.USED_KIB (s : Nat) : Fld := ⟨(0x41000 + 0x8 * s) * 8 + 0, 23, 0⟩
abbrev HQ_SBKLG.LIMIT_MIB (s : Nat) : Fld := ⟨(0x41000 + 0x8 * s) * 8 + 32, 13, 4096⟩
abbrev HQ_CNT0.ARRIVED : Fld := ⟨0x40100 * 8 + 0, 32, 0⟩
abbrev HQ_CNT0.PUSH_FALLBACK : Fld := ⟨0x40100 * 8 + 32, 16, 0⟩
abbrev HQ_CNT0.REFUSED : Fld := ⟨0x40100 * 8 + 48, 16, 0⟩
abbrev HQ_CNT1.DB_IGNORED : Fld := ⟨0x40108 * 8 + 0, 16, 0⟩
abbrev HQ_CNT1.DB_BAD_WRITE : Fld := ⟨0x40108 * 8 + 16, 16, 0⟩
abbrev HQ_CNT1.REFETCH : Fld := ⟨0x40108 * 8 + 32, 16, 0⟩
abbrev HQ_CNT1.OVERFLOWS : Fld := ⟨0x40108 * 8 + 48, 16, 0⟩
abbrev HQ_BLK_CFG.MAX_OUT : Fld := ⟨0x60000 * 8 + 0, 14, 8192⟩
abbrev HQ_BLK_CFG.RING_MAX : Fld := ⟨0x60000 * 8 + 16, 10, 256⟩
abbrev HQ_BLK_CFG.OP_PCT : Fld := ⟨0x60000 * 8 + 26, 6, 12⟩
abbrev HQ_BLK_CFG.GATHER_US : Fld := ⟨0x60000 * 8 + 32, 14, 100⟩
abbrev HQ_BLK_CFG.BG_SHARE_PCT : Fld := ⟨0x60000 * 8 + 46, 6, 20⟩
abbrev HQ_BLK_CFG.MAP_CKPT_GIB : Fld := ⟨0x60000 * 8 + 52, 12, 64⟩
abbrev HQ_BLK_MAP.BASE_4K : Fld := ⟨0x60008 * 8 + 0, 24, 0⟩
abbrev HQ_BLK_MAP.SIZE_4K : Fld := ⟨0x60008 * 8 + 24, 24, 0⟩
abbrev HQ_BLK_STAT.READY : Fld := ⟨0x60010 * 8 + 0, 1, 0⟩
abbrev HQ_BLK_STAT.CKPT_FALLBACK : Fld := ⟨0x60010 * 8 + 1, 1, 0⟩
abbrev HQ_BLK_STAT.OUTSTANDING : Fld := ⟨0x60010 * 8 + 16, 14, 0⟩
abbrev HQ_BLK_STAT.FEAT_SETS : Fld := ⟨0x60010 * 8 + 32, 16, 0⟩
abbrev HQ_BLK_NS.EN (n : Nat) : Fld := ⟨(0x60100 + 0x10 * n) * 8 + 0, 1, 0⟩
abbrev HQ_BLK_NS.ENC (n : Nat) : Fld := ⟨(0x60100 + 0x10 * n) * 8 + 1, 1, 0⟩
abbrev HQ_BLK_NS.WP (n : Nat) : Fld := ⟨(0x60100 + 0x10 * n) * 8 + 2, 1, 0⟩
abbrev HQ_BLK_NS.OWNER (n : Nat) : Fld := ⟨(0x60100 + 0x10 * n) * 8 + 8, 8, 0⟩
abbrev HQ_BLK_NS.CTX (n : Nat) : Fld := ⟨(0x60100 + 0x10 * n) * 8 + 16, 8, 0⟩
abbrev HQ_BLK_NS.SIZE (n : Nat) : Fld := ⟨(0x60100 + 0x10 * n) * 8 + 24, 40, 0⟩
abbrev HQ_BLK_ATT.RO_SLICES (n k : Nat) : Fld := ⟨(0x60200 + 0x20 * n + 0x8 * k) * 8 + 0, 64, 0⟩
abbrev HQ_BLK_CNT0.READS : Fld := ⟨0x60020 * 8 + 0, 32, 0⟩
abbrev HQ_BLK_CNT0.WRITES : Fld := ⟨0x60020 * 8 + 32, 32, 0⟩
abbrev HQ_BLK_CNT1.WL_RETRY : Fld := ⟨0x60028 * 8 + 0, 16, 0⟩
abbrev HQ_BLK_CNT1.UNREC : Fld := ⟨0x60028 * 8 + 16, 16, 0⟩
abbrev HQ_BLK_CNT1.DEFERRED : Fld := ⟨0x60028 * 8 + 32, 16, 0⟩
abbrev HQ_BLK_CNT1.RELOC_DISCARD : Fld := ⟨0x60028 * 8 + 48, 16, 0⟩
abbrev CPH_STATUS.BOOT_COUNT : Fld := ⟨0xa0000 * 8 + 0, 32, 0⟩
abbrev CPH_STATUS.NONCE_READY : Fld := ⟨0xa0000 * 8 + 32, 1, 0⟩
abbrev CPH_STATUS.COUNT_RESTART : Fld := ⟨0xa0000 * 8 + 33, 1, 0⟩
abbrev CPH_STATUS.KEYS_LOCKED : Fld := ⟨0xa0000 * 8 + 34, 1, 0⟩
abbrev CPH_STATUS.IN_SERVICE : Fld := ⟨0xa0000 * 8 + 35, 7, 0⟩
abbrev CPH_STATUS.FUSES : Fld := ⟨0xa0000 * 8 + 42, 6, 0⟩
abbrev CPH_NONCE_NEXT.NEXT : Fld := ⟨0xa0008 * 8 + 0, 64, 0⟩
abbrev CPH_JQA.BASE_4K (q : Nat) : Fld := ⟨(0xa1000 + 0x20 * q) * 8 + 0, 24, 0⟩
abbrev CPH_JQA.ENTRIES_LOG2 (q : Nat) : Fld := ⟨(0xa1000 + 0x20 * q) * 8 + 24, 5, 0⟩
abbrev CPH_JQA.EN (q : Nat) : Fld := ⟨(0xa1000 + 0x20 * q) * 8 + 29, 1, 0⟩
abbrev CPH_JQA.CTX_LO (q : Nat) : Fld := ⟨(0xa1000 + 0x20 * q) * 8 + 30, 8, 0⟩
abbrev CPH_JQA.CTX_HI (q : Nat) : Fld := ⟨(0xa1000 + 0x20 * q) * 8 + 38, 8, 0⟩
abbrev CPH_JQD.DATA_BASE_4K (q : Nat) : Fld := ⟨(0xa1008 + 0x20 * q) * 8 + 0, 24, 0⟩
abbrev CPH_JQD.DATA_SIZE_4K (q : Nat) : Fld := ⟨(0xa1008 + 0x20 * q) * 8 + 24, 24, 0⟩
abbrev CPH_JQS.NEXT (q : Nat) : Fld := ⟨(0xa1010 + 0x20 * q) * 8 + 0, 16, 0⟩
abbrev CPH_JQS.IN_FLIGHT (q : Nat) : Fld := ⟨(0xa1010 + 0x20 * q) * 8 + 16, 16, 0⟩
abbrev CPH_JQS.JOBS (q : Nat) : Fld := ⟨(0xa1010 + 0x20 * q) * 8 + 32, 32, 0⟩
abbrev CPH_CFG.POLL_NS : Fld := ⟨0xa0010 * 8 + 0, 16, 500⟩
abbrev CPH_CFG.SEAL_UNITS : Fld := ⟨0xa0010 * 8 + 16, 7, 16⟩
abbrev CPH_CFG.OOS_THR : Fld := ⟨0xa0010 * 8 + 24, 4, 1⟩
abbrev CPH_UNIT_OOS.OOS (k : Nat) : Fld := ⟨(0xa0018 + 0x8 * k) * 8 + 0, 64, 0⟩
abbrev CPH_CSEL.CTX : Fld := ⟨0xa0028 * 8 + 0, 8, 0⟩
abbrev CPH_CINFO.LOADED : Fld := ⟨0xa0030 * 8 + 0, 1, 0⟩
abbrev CPH_CINFO.LOCKED : Fld := ⟨0xa0030 * 8 + 1, 1, 0⟩
abbrev CPH_CINFO.PINNED : Fld := ⟨0xa0030 * 8 + 2, 1, 0⟩
abbrev CPH_CINFO.SOURCE : Fld := ⟨0xa0030 * 8 + 3, 2, 0⟩
abbrev CPH_CINFO.EXPORTABLE : Fld := ⟨0xa0030 * 8 + 5, 1, 0⟩
abbrev CPH_CINFO.NONCE_EXT : Fld := ⟨0xa0030 * 8 + 6, 1, 0⟩
abbrev CPH_CINFO.FULL : Fld := ⟨0xa0030 * 8 + 7, 1, 0⟩
abbrev CPH_CINFO.USAGE : Fld := ⟨0xa0030 * 8 + 8, 8, 0⟩
abbrev CPH_CINFO.KEY_ID : Fld := ⟨0xa0030 * 8 + 16, 16, 0⟩
abbrev CPH_CINFO.TASKS : Fld := ⟨0xa0030 * 8 + 32, 32, 0⟩
abbrev CPH_DUP_LOG.UNIT : Fld := ⟨0xa0038 * 8 + 0, 7, 0⟩
abbrev CPH_DUP_LOG.VALID : Fld := ⟨0xa0038 * 8 + 7, 1, 0⟩
abbrev CPH_DUP_LOG.OPC : Fld := ⟨0xa0038 * 8 + 8, 8, 0⟩
abbrev CPH_DUP_LOG.CTX : Fld := ⟨0xa0038 * 8 + 16, 8, 0⟩
abbrev CPH_CNT0.TASKS : Fld := ⟨0xa0040 * 8 + 0, 32, 0⟩
abbrev CPH_CNT0.AUTH_FAIL : Fld := ⟨0xa0040 * 8 + 32, 16, 0⟩
abbrev CPH_CNT0.DUP_MISMATCH : Fld := ⟨0xa0040 * 8 + 48, 16, 0⟩
abbrev CPH_CNT1.SEALS : Fld := ⟨0xa0048 * 8 + 0, 32, 0⟩
abbrev CPH_CNT1.RESEALS : Fld := ⟨0xa0048 * 8 + 32, 16, 0⟩
abbrev CPH_CNT1.LOCKED_TASKS : Fld := ⟨0xa0048 * 8 + 48, 16, 0⟩
abbrev EZN_CFG.MEMBERS : Fld := ⟨0xb0000 * 8 + 0, 3, 1⟩
abbrev EZN_CFG.MEMBER : Fld := ⟨0xb0000 * 8 + 3, 2, 0⟩
abbrev EZN_CFG.SPLIT_A : Fld := ⟨0xb0000 * 8 + 5, 1, 0⟩
abbrev EZN_CFG.SPLIT_B : Fld := ⟨0xb0000 * 8 + 6, 1, 0⟩
abbrev EZN_CFG.PRIMARY0 : Fld := ⟨0xb0000 * 8 + 8, 2, 0⟩
abbrev EZN_CFG.RESYNC_MBPS : Fld := ⟨0xb0000 * 8 + 16, 16, 10000⟩
abbrev EZN_GROUP_ID.ID : Fld := ⟨0xb0008 * 8 + 0, 64, 0⟩
abbrev EZN_TMO.HB_US : Fld := ⟨0xb0010 * 8 + 0, 8, 10⟩
abbrev EZN_TMO.PRIMARY_TMO_US : Fld := ⟨0xb0010 * 8 + 8, 16, 500⟩
abbrev EZN_TMO.ELECT_WAIT_US : Fld := ⟨0xb0010 * 8 + 24, 16, 200⟩
abbrev EZN_TMO.FOLLOWER_TMO_US : Fld := ⟨0xb0010 * 8 + 40, 16, 2000⟩
abbrev EZN_TMO.FORM_S : Fld := ⟨0xb0010 * 8 + 56, 8, 5⟩
abbrev EZN_STATUS.ROLE : Fld := ⟨0xb0018 * 8 + 0, 3, 0⟩
abbrev EZN_STATUS.BACKFILL_DONE : Fld := ⟨0xb0018 * 8 + 3, 1, 0⟩
abbrev EZN_STATUS.SEES_PRIMARY : Fld := ⟨0xb0018 * 8 + 4, 1, 0⟩
abbrev EZN_STATUS.PRIMARY : Fld := ⟨0xb0018 * 8 + 5, 2, 0⟩
abbrev EZN_STATUS.ISLAND_LOST : Fld := ⟨0xb0018 * 8 + 7, 1, 0⟩
abbrev EZN_STATUS.LEVEL : Fld := ⟨0xb0018 * 8 + 8, 8, 1⟩
abbrev EZN_STATUS.LEVEL_FLOOR : Fld := ⟨0xb0018 * 8 + 16, 8, 1⟩
abbrev EZN_STATUS.EPOCH : Fld := ⟨0xb0018 * 8 + 32, 16, 0⟩
abbrev EZN_STATUS.VOTED_EPOCH : Fld := ⟨0xb0018 * 8 + 48, 16, 0⟩
abbrev EZN_LEVEL.LEVEL_MIN : Fld := ⟨0xb0020 * 8 + 0, 8, 0⟩
abbrev EZN_LEVEL.LEVEL_MAX : Fld := ⟨0xb0020 * 8 + 8, 8, 0⟩
abbrev EZN_LEVEL.GROUP_MAX : Fld := ⟨0xb0020 * 8 + 16, 8, 0⟩
abbrev EZN_LEVEL.RAISE_PENDING : Fld := ⟨0xb0020 * 8 + 24, 1, 0⟩
abbrev EZN_LINK_CFG.EN (k : Nat) : Fld := ⟨(0xb0100 + 0x10 * k) * 8 + 0, 1, 0⟩
abbrev EZN_LINK_CFG.PEER (k : Nat) : Fld := ⟨(0xb0100 + 0x10 * k) * 8 + 1, 2, 0⟩
abbrev EZN_LINK_STAT.STATE (k : Nat) : Fld := ⟨(0xb0108 + 0x10 * k) * 8 + 0, 2, 0⟩
abbrev EZN_LINK_STAT.CREDITS (k : Nat) : Fld := ⟨(0xb0108 + 0x10 * k) * 8 + 8, 8, 0⟩
abbrev EZN_LINK_STAT.RETRAINS (k : Nat) : Fld := ⟨(0xb0108 + 0x10 * k) * 8 + 16, 16, 0⟩
abbrev EZN_LINK_STAT.RESENDS (k : Nat) : Fld := ⟨(0xb0108 + 0x10 * k) * 8 + 32, 16, 0⟩
abbrev EZN_LINK_STAT.CRC_ERR (k : Nat) : Fld := ⟨(0xb0108 + 0x10 * k) * 8 + 48, 16, 0⟩
abbrev EZN_MEMBER.ROLE (m : Nat) : Fld := ⟨(0xb0200 + 0x10 * m) * 8 + 0, 3, 0⟩
abbrev EZN_MEMBER.PRESENT (m : Nat) : Fld := ⟨(0xb0200 + 0x10 * m) * 8 + 3, 1, 0⟩
abbrev EZN_MEMBER.LOST_PRIMARY (m : Nat) : Fld := ⟨(0xb0200 + 0x10 * m) * 8 + 4, 1, 0⟩
abbrev EZN_MEMBER.BACKFILL_DONE (m : Nat) : Fld := ⟨(0xb0200 + 0x10 * m) * 8 + 5, 1, 0⟩
abbrev EZN_MEMBER.SLOT (m : Nat) : Fld := ⟨(0xb0200 + 0x10 * m) * 8 + 6, 2, 0⟩
abbrev EZN_MEMBER.SLOT_VALID (m : Nat) : Fld := ⟨(0xb0200 + 0x10 * m) * 8 + 8, 1, 0⟩
abbrev EZN_MEMBER.LEVEL_MAX (m : Nat) : Fld := ⟨(0xb0200 + 0x10 * m) * 8 + 16, 8, 0⟩
abbrev EZN_MEMBER.LEVEL_MIN (m : Nat) : Fld := ⟨(0xb0200 + 0x10 * m) * 8 + 24, 8, 0⟩
abbrev EZN_MEMBER.EPOCH (m : Nat) : Fld := ⟨(0xb0200 + 0x10 * m) * 8 + 32, 16, 0⟩
abbrev EZN_MEMBER_L.L (m : Nat) : Fld := ⟨(0xb0208 + 0x10 * m) * 8 + 0, 64, 0⟩
abbrev EZN_RESYNC.FROM : Fld := ⟨0xb0300 * 8 + 0, 64, 0⟩
abbrev EZN_RESYNC_POS.NEXT : Fld := ⟨0xb0308 * 8 + 0, 64, 0⟩
abbrev EZN_CNT.PROMOTIONS : Fld := ⟨0xb0400 * 8 + 0, 16, 0⟩
abbrev EZN_CNT.DETACHES : Fld := ⟨0xb0400 * 8 + 16, 16, 0⟩
abbrev EZN_CNT.REORDER_WAITS : Fld := ⟨0xb0400 * 8 + 32, 16, 0⟩
abbrev EZN_CNT.BAD_FRAMES : Fld := ⟨0xb0400 * 8 + 48, 16, 0⟩
abbrev RST_STATUS.STATE : Fld := ⟨0xc0000 * 8 + 0, 3, 0⟩
abbrev RST_STATUS.STEP : Fld := ⟨0xc0000 * 8 + 3, 4, 0⟩
abbrev RST_STATUS.KEYS_RELEASED : Fld := ⟨0xc0000 * 8 + 7, 1, 0⟩
abbrev RST_STATUS.KEYS_LOCKED : Fld := ⟨0xc0000 * 8 + 8, 1, 0⟩
abbrev RST_STATUS.GEN_TIE : Fld := ⟨0xc0000 * 8 + 9, 1, 0⟩
abbrev RST_STATUS.CORE_FALLBACK : Fld := ⟨0xc0000 * 8 + 10, 1, 0⟩
abbrev RST_STATUS.SECTION_FALLBACK : Fld := ⟨0xc0000 * 8 + 11, 1, 0⟩
abbrev RST_STATUS.BOOT_US : Fld := ⟨0xc0000 * 8 + 32, 32, 0⟩
abbrev RST_SLOT.BOOTED : Fld := ⟨0xc0008 * 8 + 0, 2, 0⟩
abbrev RST_SLOT.A_VALID : Fld := ⟨0xc0008 * 8 + 2, 1, 0⟩
abbrev RST_SLOT.B_VALID : Fld := ⟨0xc0008 * 8 + 3, 1, 0⟩
abbrev RST_SLOT.RECOVERY_WHY : Fld := ⟨0xc0008 * 8 + 4, 4, 0⟩
abbrev RST_SLOT.REQ_SECTION : Fld := ⟨0xc0008 * 8 + 8, 8, 0⟩
abbrev RST_GEN_A.GEN : Fld := ⟨0xc0010 * 8 + 0, 64, 0⟩
abbrev RST_GEN_B.GEN : Fld := ⟨0xc0018 * 8 + 0, 64, 0⟩
abbrev RST_REV.REVISION : Fld := ⟨0xc0020 * 8 + 0, 32, 0⟩
abbrev RST_KL.SEGMENT_CRC : Fld := ⟨0xc0028 * 8 + 0, 1, 0⟩
abbrev RST_KL.BOOT_COUNT_WRITE : Fld := ⟨0xc0028 * 8 + 1, 1, 0⟩
abbrev RST_KL.COUNT_EXHAUSTED : Fld := ⟨0xc0028 * 8 + 2, 1, 0⟩
abbrev RST_KL.JTAG_DEBUG : Fld := ⟨0xc0028 * 8 + 3, 1, 0⟩
abbrev RST_KL.SEGMENT : Fld := ⟨0xc0028 * 8 + 8, 8, 0⟩
abbrev RST_KL.IS_SECTION : Fld := ⟨0xc0028 * 8 + 16, 1, 0⟩
abbrev CFG_CTRL.APPLY_LIMIT_MS : Fld := ⟨0xc8000 * 8 + 0, 16, 100⟩
abbrev CFG_APPLY.BUSY : Fld := ⟨0xc8008 * 8 + 0, 1, 0⟩
abbrev CFG_APPLY.WAITING : Fld := ⟨0xc8008 * 8 + 1, 1, 0⟩
abbrev CFG_APPLY.SECTION_ID : Fld := ⟨0xc8008 * 8 + 8, 8, 0⟩
abbrev CFG_APPLY.LAST_STATUS : Fld := ⟨0xc8008 * 8 + 16, 16, 0⟩
abbrev CFG_APPLY.APPLIES : Fld := ⟨0xc8008 * 8 + 32, 32, 0⟩
abbrev CFG_SEC_SEL.ID : Fld := ⟨0xc8010 * 8 + 0, 8, 0⟩
abbrev CFG_SEC_GEN.GEN : Fld := ⟨0xc8018 * 8 + 0, 64, 0⟩
abbrev CFG_SEC_INFO.SOURCE : Fld := ⟨0xc8020 * 8 + 0, 2, 0⟩
abbrev CFG_SEC_INFO.NEWER_COMMITTED : Fld := ⟨0xc8020 * 8 + 2, 1, 0⟩
abbrev CFG_SEC_INFO.SKIPPED : Fld := ⟨0xc8020 * 8 + 3, 1, 0⟩
abbrev CFG_SEC_INFO.CRC_LOCKED : Fld := ⟨0xc8020 * 8 + 4, 1, 0⟩
abbrev CFG_SEC_INFO.APPLIES : Fld := ⟨0xc8020 * 8 + 8, 8, 0⟩
abbrev CFG_QDRAIN.REQ : Fld := ⟨0xc8028 * 8 + 0, 4, 0⟩
abbrev CFG_QDRAIN.DONE : Fld := ⟨0xc8028 * 8 + 4, 4, 0⟩
abbrev CFG_FLASH.WP : Fld := ⟨0xc8030 * 8 + 0, 1, 0⟩
abbrev CFG_FLASH.DESC_DEFAULT : Fld := ⟨0xc8030 * 8 + 1, 1, 0⟩
abbrev CFG_FLASH.DESC_COPY : Fld := ⟨0xc8030 * 8 + 2, 1, 0⟩
abbrev CFG_FLASH.FLASH_MIB : Fld := ⟨0xc8030 * 8 + 16, 16, 0⟩
abbrev CFG_FLASH.WRITE_FAILS : Fld := ⟨0xc8030 * 8 + 32, 16, 0⟩
abbrev CFG_DLBUF.BASE_4K : Fld := ⟨0xc8038 * 8 + 0, 24, 0⟩
abbrev ERR_CFG.AUTO_ACK : Fld := ⟨0xd0000 * 8 + 0, 1, 1⟩
abbrev ERR_CFG.FATAL_HALT : Fld := ⟨0xd0000 * 8 + 1, 1, 0⟩
abbrev ERR_CFG.ESC_WAIT_MS : Fld := ⟨0xd0000 * 8 + 16, 16, 10⟩
abbrev ERR_CFG.CORR_WARN : Fld := ⟨0xd0000 * 8 + 32, 32, 1000⟩
abbrev ERR_SUM.FIRST (k : Nat) : Fld := ⟨(0xd0008 + 0x8 * k) * 8 + 0, 64, 0⟩
abbrev ERR_FATAL.FATAL (k : Nat) : Fld := ⟨(0xd0018 + 0x8 * k) * 8 + 0, 64, 0⟩
abbrev ERR_RESET.LAST_TYPE : Fld := ⟨0xd0028 * 8 + 0, 4, 0⟩
abbrev ERR_RESET.WARM : Fld := ⟨0xd0028 * 8 + 16, 16, 0⟩
abbrev ERR_RESET.COLD : Fld := ⟨0xd0028 * 8 + 32, 16, 0⟩
abbrev ERR_RESET.FATAL : Fld := ⟨0xd0028 * 8 + 48, 16, 0⟩
abbrev ERR_IRQ.EN : Fld := ⟨0xd0030 * 8 + 0, 8, 0⟩
abbrev ERR_STAT.FIRST_VALID (n : Nat) : Fld := ⟨(0xd1000 + 0x80 * n) * 8 + 0, 1, 0⟩
abbrev ERR_STAT.SECOND_VALID (n : Nat) : Fld := ⟨(0xd1000 + 0x80 * n) * 8 + 1, 1, 0⟩
abbrev ERR_STAT.ESCALATED (n : Nat) : Fld := ⟨(0xd1000 + 0x80 * n) * 8 + 2, 1, 0⟩
abbrev ERR_STAT.FATAL (n : Nat) : Fld := ⟨(0xd1000 + 0x80 * n) * 8 + 3, 1, 0⟩
abbrev ERR_STAT.THIRD (n : Nat) : Fld := ⟨(0xd1000 + 0x80 * n) * 8 + 8, 16, 0⟩
abbrev ERR_STAT.TOTAL (n : Nat) : Fld := ⟨(0xd1000 + 0x80 * n) * 8 + 32, 32, 0⟩
abbrev ERR_FIRST.CODE (n : Nat) : Fld := ⟨(0xd1008 + 0x80 * n) * 8 + 0, 16, 0⟩
abbrev ERR_FIRST.CLASS (n : Nat) : Fld := ⟨(0xd1008 + 0x80 * n) * 8 + 16, 3, 0⟩
abbrev ERR_FIRST.INJECTED (n : Nat) : Fld := ⟨(0xd1008 + 0x80 * n) * 8 + 19, 1, 0⟩
abbrev ERR_FIRST.NESTED (n : Nat) : Fld := ⟨(0xd1008 + 0x80 * n) * 8 + 20, 1, 0⟩
abbrev ERR_FIRST.SUB (n : Nat) : Fld := ⟨(0xd1008 + 0x80 * n) * 8 + 24, 8, 0⟩
abbrev ERR_FIRST_INFO.INFO (n : Nat) : Fld := ⟨(0xd1010 + 0x80 * n) * 8 + 0, 64, 0⟩
abbrev ERR_FIRST_TIME.NS (n : Nat) : Fld := ⟨(0xd1018 + 0x80 * n) * 8 + 0, 32, 0⟩
abbrev ERR_FIRST_TIME.SEC (n : Nat) : Fld := ⟨(0xd1018 + 0x80 * n) * 8 + 32, 32, 0⟩
abbrev ERR_CNT.CORRECTED (n : Nat) : Fld := ⟨(0xd1038 + 0x80 * n) * 8 + 0, 32, 0⟩
abbrev ERR_CNT.UNCORRECTED (n : Nat) : Fld := ⟨(0xd1038 + 0x80 * n) * 8 + 32, 16, 0⟩
abbrev ERR_CNT.WARNINGS (n : Nat) : Fld := ⟨(0xd1038 + 0x80 * n) * 8 + 48, 16, 0⟩
abbrev ERR_WARN.CODE (n : Nat) : Fld := ⟨(0xd1040 + 0x80 * n) * 8 + 0, 16, 0⟩
abbrev ERR_WARN.SUB (n : Nat) : Fld := ⟨(0xd1040 + 0x80 * n) * 8 + 16, 8, 0⟩
abbrev ERR_WARN.VALID (n : Nat) : Fld := ⟨(0xd1040 + 0x80 * n) * 8 + 24, 1, 0⟩
abbrev ERR_WARN.INFO (n : Nat) : Fld := ⟨(0xd1040 + 0x80 * n) * 8 + 32, 32, 0⟩
abbrev ERR_CLU_FB.FB_CLUSTER (k : Nat) : Fld := ⟨(0xd0100 + 0x8 * k) * 8 + 0, 6, 0⟩
abbrev ERR_CLU_FB.EN (k : Nat) : Fld := ⟨(0xd0100 + 0x8 * k) * 8 + 6, 1, 0⟩
abbrev ERR_CLU_FB.FB_BASE (k : Nat) : Fld := ⟨(0xd0100 + 0x8 * k) * 8 + 8, 24, 0⟩
abbrev PWR_PROFILE.BALANCED : Fld := ⟨0xe0000 * 8 + 0, 4, 0⟩
abbrev PWR_DOM.ON (k : Nat) : Fld := ⟨(0xe0008 + 0x8 * k) * 8 + 0, 64, 0⟩
abbrev CLK_STATUS.LOCK : Fld := ⟨0xe8000 * 8 + 0, 25, 0⟩
abbrev CLK_STATUS.ON_BACKUP : Fld := ⟨0xe8000 * 8 + 25, 1, 0⟩
abbrev CLK_CNT.UNLOCKS : Fld := ⟨0xe8008 * 8 + 0, 32, 0⟩
abbrev CLK_CNT.REFCLK_LOSSES : Fld := ⟨0xe8008 * 8 + 32, 16, 0⟩
abbrev CLK_RECCLK.SLOT : Fld := ⟨0xe8010 * 8 + 0, 2, 0⟩
abbrev CLK_RECCLK.FOLLOW : Fld := ⟨0xe8010 * 8 + 2, 1, 0⟩
abbrev CLK_RECCLK.EN : Fld := ⟨0xe8010 * 8 + 3, 1, 0⟩
abbrev PWR_LIMIT.TEMP_WARN_C : Fld := ⟨0xe0018 * 8 + 0, 8, 95⟩
abbrev PWR_LIMIT.POWER_WARN_W : Fld := ⟨0xe0018 * 8 + 8, 16, 320⟩
/-- PWR_TEMP.SENSOR of sensor `i` (chapter 15). -/
abbrev PWR_TEMP.SENSOR (i : Nat) : Fld := ⟨(0xe0020 + 0x8 * (i / 4)) * 8 + 16 * (i % 4), 16, 0⟩
abbrev PWR_RAIL.MV (i : Nat) : Fld := ⟨(0xe0040 + 0x8 * i) * 8 + 0, 16, 0⟩
abbrev PWR_RAIL.CURRENT (i : Nat) : Fld := ⟨(0xe0040 + 0x8 * i) * 8 + 16, 16, 0⟩
abbrev PWR_RAIL.IN_TOL (i : Nat) : Fld := ⟨(0xe0040 + 0x8 * i) * 8 + 32, 1, 0⟩
abbrev PWR_STATUS.POWER_FAIL : Fld := ⟨0xe0080 * 8 + 0, 1, 0⟩
abbrev PWR_STATUS.PWR_SAFE : Fld := ⟨0xe0080 * 8 + 1, 1, 0⟩
abbrev PWR_STATUS.THERM_WARN : Fld := ⟨0xe0080 * 8 + 2, 1, 0⟩
abbrev PWR_STATUS.HOTTEST : Fld := ⟨0xe0080 * 8 + 8, 3, 0⟩
abbrev PWR_STATUS.POWER_DW : Fld := ⟨0xe0080 * 8 + 32, 16, 0⟩
abbrev PCI_SWINA.EN (k : Nat) : Fld := ⟨(0x81200 + 0x20 * k) * 8 + 0, 1, 0⟩
abbrev PCI_SWINA.RD (k : Nat) : Fld := ⟨(0x81200 + 0x20 * k) * 8 + 1, 1, 0⟩
abbrev PCI_SWINA.WR (k : Nat) : Fld := ⟨(0x81200 + 0x20 * k) * 8 + 2, 1, 0⟩
abbrev PCI_SWINA.KIND (k : Nat) : Fld := ⟨(0x81200 + 0x20 * k) * 8 + 4, 2, 0⟩
abbrev PCI_SWINA.BAR_4K (k : Nat) : Fld := ⟨(0x81200 + 0x20 * k) * 8 + 16, 24, 0⟩
abbrev PCI_SWINA.SIZE_4K (k : Nat) : Fld := ⟨(0x81200 + 0x20 * k) * 8 + 40, 24, 0⟩
abbrev PCI_SWINT.TGT_4K (k : Nat) : Fld := ⟨(0x81208 + 0x20 * k) * 8 + 0, 24, 0⟩
abbrev PCI_SWINT.SLICE (k : Nat) : Fld := ⟨(0x81208 + 0x20 * k) * 8 + 24, 8, 0⟩
abbrev PCI_SWINR.RID (k : Nat) : Fld := ⟨(0x81210 + 0x20 * k) * 8 + 0, 16, 0⟩
abbrev PCI_SWINR.RID_MASK (k : Nat) : Fld := ⟨(0x81210 + 0x20 * k) * 8 + 16, 16, 0⟩
abbrev ERR_SECOND.CODE (n : Nat) : Fld := ⟨(0xd1020 + 0x80 * n) * 8 + 0, 16, 0⟩
abbrev ERR_SECOND.CLASS (n : Nat) : Fld := ⟨(0xd1020 + 0x80 * n) * 8 + 16, 3, 0⟩
abbrev ERR_SECOND.INJECTED (n : Nat) : Fld := ⟨(0xd1020 + 0x80 * n) * 8 + 19, 1, 0⟩
abbrev ERR_SECOND.NESTED (n : Nat) : Fld := ⟨(0xd1020 + 0x80 * n) * 8 + 20, 1, 0⟩
abbrev ERR_SECOND.SUB (n : Nat) : Fld := ⟨(0xd1020 + 0x80 * n) * 8 + 24, 8, 0⟩
abbrev ERR_SECOND_INFO.INFO (n : Nat) : Fld := ⟨(0xd1028 + 0x80 * n) * 8 + 0, 64, 0⟩
abbrev ERR_SECOND_TIME.NS (n : Nat) : Fld := ⟨(0xd1030 + 0x80 * n) * 8 + 0, 32, 0⟩
abbrev ERR_SECOND_TIME.SEC (n : Nat) : Fld := ⟨(0xd1030 + 0x80 * n) * 8 + 32, 32, 0⟩
abbrev ERR_WARN_TIME.NS (n : Nat) : Fld := ⟨(0xd1048 + 0x80 * n) * 8 + 0, 32, 0⟩
abbrev ERR_WARN_TIME.SEC (n : Nat) : Fld := ⟨(0xd1048 + 0x80 * n) * 8 + 32, 32, 0⟩

/-! The rows of the register table, block by block of Table 08-4. -/

def regRowsTMP_0 : List RegRow := [
  ⟨"TMP_SNAP_CTRL", 0x0, [], 32, [⟨0, 1, .W1P, 0⟩, ⟨1, 1, .RO, 0⟩]⟩,
  ⟨"TMP_SNAP_LO", 0x8, [], 64, [⟨0, 64, .RO, 0⟩]⟩,
  ⟨"TMP_SNAP_HI", 0x10, [], 32, [⟨0, 32, .RO, 0⟩]⟩,
  ⟨"TMP_RATE", 0x20, [], 64, [⟨0, 40, .RO, 0⟩, ⟨40, 1, .RO, 0⟩]⟩,
  ⟨"TMP_EBOUND", 0x30, [], 64, [⟨0, 32, .RO, 4294967295⟩, ⟨32, 32, .RO, 4294967295⟩]⟩,
  ⟨"TMP_STATUS", 0x18, [], 64, [⟨0, 3, .RO, 0⟩, ⟨3, 3, .RO, 0⟩, ⟨6, 4, .RO, 15⟩, ⟨10, 1, .RO, 0⟩, ⟨11, 1, .RO, 0⟩, ⟨12, 1, .RW1C, 0⟩, ⟨13, 1, .RW1C, 0⟩, ⟨14, 1, .RW1C, 0⟩, ⟨16, 32, .RO, 0⟩]⟩,
  ⟨"TMP_OFFSET", 0x28, [], 64, [⟨0, 48, .RO, 0⟩, ⟨48, 16, .RO, 0⟩]⟩,
  ⟨"TMP_CNT", 0x38, [], 64, [⟨0, 32, .ROC, 0⟩, ⟨32, 16, .ROC, 0⟩, ⟨48, 16, .ROC, 0⟩]⟩,
  ⟨"TMP_PTP_CFG", 0x100, [(0x10, 4)], 64, [⟨0, 8, .LCK, 0⟩, ⟨8, 2, .LCK, 0⟩, ⟨10, 1, .LCK, 0⟩, ⟨11, 1, .LCK, 0⟩, ⟨12, 1, .LCK, 0⟩, ⟨16, 3, .LCK, 0⟩, ⟨19, 4, .LCK, 0⟩, ⟨23, 4, .LCK, 0⟩, ⟨32, 32, .LCK, 0⟩]⟩,
  ⟨"TMP_PTP_STAT", 0x108, [(0x10, 4)], 64, [⟨0, 4, .RO, 1⟩, ⟨4, 4, .RO, 0⟩, ⟨8, 8, .RO, 0⟩, ⟨32, 32, .RO, 0⟩]⟩,
  ⟨"TMP_SRC_CFG", 0x40, [], 64, [⟨0, 6, .LCK, 0⟩, ⟨6, 1, .LCK, 0⟩, ⟨8, 6, .LCK, 0⟩, ⟨14, 1, .LCK, 0⟩, ⟨16, 6, .LCK, 0⟩, ⟨22, 1, .LCK, 0⟩, ⟨24, 6, .LCK, 0⟩, ⟨30, 1, .LCK, 0⟩, ⟨32, 2, .LCK, 0⟩]⟩,
  ⟨"TMP_ACC_CFG", 0x48, [], 64, [⟨0, 16, .LCK, 0⟩, ⟨16, 16, .LCK, 0⟩, ⟨32, 16, .LCK, 0⟩]⟩]

def regRowsTMP_1 : List RegRow := [
  ⟨"TMP_SERVO_CFG", 0x58, [], 32, [⟨0, 8, .LCK, 0⟩, ⟨8, 4, .LCK, 0⟩, ⟨16, 16, .LCK, 0⟩]⟩,
  ⟨"TMP_PPS_CFG", 0x70, [], 64, [⟨0, 1, .LCK, 0⟩, ⟨1, 1, .LCK, 0⟩, ⟨2, 1, .LCK, 0⟩, ⟨8, 20, .LCK, 0⟩]⟩,
  ⟨"TMP_PPS_COMP", 0x78, [], 64, [⟨0, 32, .LCK, 0⟩, ⟨32, 32, .LCK, 0⟩]⟩,
  ⟨"TMP_PPS_IN_ERR", 0x80, [], 32, [⟨0, 32, .RO, 0⟩]⟩,
  ⟨"TMP_HOLD_CFG", 0x50, [], 64, [⟨0, 16, .LCK, 0⟩, ⟨16, 16, .LCK, 0⟩, ⟨32, 16, .LCK, 0⟩]⟩,
  ⟨"TMP_STEP", 0x60, [], 64, [⟨0, 64, .RO, 0⟩]⟩,
  ⟨"TMP_STEP_ID", 0x68, [], 32, [⟨0, 32, .RO, 0⟩]⟩,
  ⟨"TMP_LCAL_RX", 0x1000, [(0x20, 64)], 64, [⟨0, 32, .LCK, 0⟩, ⟨32, 16, .LCK, 0⟩]⟩,
  ⟨"TMP_LCAL_TX", 0x1008, [(0x20, 64)], 64, [⟨0, 32, .LCK, 0⟩, ⟨32, 16, .LCK, 0⟩]⟩,
  ⟨"TMP_LDIE", 0x1010, [(0x20, 64)], 64, [⟨0, 24, .RO, 0⟩, ⟨24, 24, .RO, 0⟩, ⟨48, 8, .RO, 0⟩, ⟨56, 1, .RO, 0⟩, ⟨57, 1, .RW1C, 0⟩]⟩,
  ⟨"TMP_LEXCESS", 0x1018, [(0x20, 64)], 32, [⟨0, 16, .RO, 0⟩, ⟨16, 16, .RO, 0⟩]⟩,
  ⟨"TMP_RECAL_CFG", 0x88, [], 32, [⟨0, 8, .LCK, 0⟩, ⟨8, 16, .LCK, 500⟩]⟩]

def regRowsTMP_2 : List RegRow := [
  ⟨"TMP_TRC_SEQ", 0x90, [], 64, [⟨0, 64, .RO, 0⟩]⟩]

def regRowsSEQ_0 : List RegRow := [
  ⟨"SEQ_PORT", 0x12000, [(0x10, 64)], 64, [⟨0, 1, .LCK, 0⟩, ⟨1, 3, .LCK, 0⟩, ⟨4, 2, .LCK, 0⟩, ⟨6, 2, .LCK, 0⟩, ⟨8, 6, .LCK, 0⟩, ⟨16, 14, .LCK, 1518⟩]⟩,
  ⟨"SEQ_CFG", 0x10000, [], 64, [⟨0, 14, .LCK, 150⟩, ⟨16, 16, .LCK, 500⟩, ⟨32, 17, .LCK, 1000⟩, ⟨50, 6, .LCK, 48⟩]⟩,
  ⟨"SEQ_STATUS", 0x10008, [], 64, [⟨0, 6, .RO, 0⟩, ⟨6, 1, .RO, 0⟩, ⟨7, 1, .RO, 0⟩, ⟨8, 1, .RO, 0⟩, ⟨9, 1, .RO, 0⟩, ⟨32, 16, .RO, 49088⟩]⟩,
  ⟨"SEQ_ACTIVE", 0x10010, [], 64, [⟨0, 64, .RO, 0⟩]⟩,
  ⟨"SEQ_NEXT", 0x10018, [], 64, [⟨0, 64, .RO, 0⟩]⟩,
  ⟨"SEQ_LAST_REL", 0x10020, [], 64, [⟨0, 64, .RO, 0⟩]⟩,
  ⟨"SEQ_TIE", 0x10028, [], 64, [⟨0, 6, .RO, 0⟩, ⟨8, 7, .RO, 0⟩, ⟨16, 48, .RO, 0⟩]⟩,
  ⟨"SEQ_CNT", 0x10030, [], 64, [⟨0, 32, .ROC, 0⟩, ⟨32, 16, .ROC, 0⟩, ⟨48, 16, .RO, 0⟩]⟩,
  ⟨"SEQ_ISSUED", 0x10038, [], 64, [⟨0, 64, .RO, 0⟩]⟩,
  ⟨"SEQ_PWM", 0x11000, [(0x20, 64)], 64, [⟨0, 64, .RO, 0⟩]⟩,
  ⟨"SEQ_PST", 0x11008, [(0x20, 64)], 64, [⟨0, 1, .RO, 0⟩, ⟨1, 1, .RO, 0⟩, ⟨2, 1, .RO, 0⟩, ⟨3, 1, .RO, 0⟩, ⟨4, 1, .RO, 0⟩, ⟨8, 17, .RO, 0⟩, ⟨32, 32, .RO, 0⟩]⟩,
  ⟨"SEQ_PCNT0", 0x11010, [(0x20, 64)], 64, [⟨0, 32, .ROC, 0⟩, ⟨32, 16, .ROC, 0⟩, ⟨48, 16, .ROC, 0⟩]⟩]

def regRowsSEQ_1 : List RegRow := [
  ⟨"SEQ_PCNT1", 0x11018, [(0x20, 64)], 64, [⟨0, 16, .ROC, 0⟩, ⟨16, 16, .ROC, 0⟩, ⟨32, 16, .ROC, 0⟩, ⟨48, 16, .ROC, 0⟩]⟩]

def regRowsDYE : List RegRow := [
  ⟨"DYE_STATE", 0x1010000, [(0x20000, 64), (0x1000, 16)], 64, [⟨0, 32, .RO, 0⟩]⟩,
  ⟨"DYE_CYCLE", 0x1010008, [(0x20000, 64), (0x1000, 16)], 64, [⟨0, 64, .RO, 0⟩]⟩,
  ⟨"DYE_TCTL", 0x1010100, [(0x20000, 64), (0x1000, 16), (0x40, 8)], 64, [⟨0, 1, .W1P, 0⟩, ⟨1, 1, .W1P, 0⟩, ⟨2, 1, .W1P, 0⟩, ⟨3, 1, .W1P, 0⟩, ⟨4, 1, .W1P, 0⟩, ⟨8, 13, .RW, 0⟩]⟩,
  ⟨"DYE_TPC", 0x1010108, [(0x20000, 64), (0x1000, 16), (0x40, 8)], 32, [⟨0, 13, .RO, 0⟩]⟩,
  ⟨"DYE_TSTAT", 0x1010128, [(0x20000, 64), (0x1000, 16), (0x40, 8)], 64, [⟨0, 4, .RO, 0⟩, ⟨4, 1, .RO, 0⟩, ⟨5, 8, .RO, 0⟩, ⟨13, 1, .RO, 0⟩]⟩,
  ⟨"DYE_TWAIT", 0x1010110, [(0x20000, 64), (0x1000, 16), (0x40, 8)], 64, [⟨0, 32, .RO, 0⟩, ⟨32, 32, .RO, 0⟩]⟩,
  ⟨"DYE_TFLT", 0x1010118, [(0x20000, 64), (0x1000, 16), (0x40, 8)], 64, [⟨0, 8, .RO, 0⟩, ⟨8, 1, .RW1C, 0⟩, ⟨9, 1, .RW1C, 0⟩, ⟨16, 13, .RO, 0⟩]⟩,
  ⟨"DYE_TFADDR", 0x1010120, [(0x20000, 64), (0x1000, 16), (0x40, 8)], 64, [⟨0, 48, .RO, 0⟩, ⟨48, 16, .RO, 0⟩]⟩,
  ⟨"DYE_DBG", 0x1010010, [(0x20000, 64), (0x1000, 16)], 32, [⟨0, 1, .LCK, 0⟩, ⟨1, 1, .RW, 0⟩]⟩,
  ⟨"DYE_BRK", 0x1010020, [(0x20000, 64), (0x1000, 16), (0x8, 4)], 64, [⟨0, 13, .RW, 0⟩, ⟨16, 8, .RW, 0⟩, ⟨24, 1, .RW, 0⟩]⟩,
  ⟨"DYE_FRM", 0x1010400, [(0x20000, 64), (0x1000, 16), (0x8, 8)], 64, [⟨0, 6, .LCK, 0⟩, ⟨6, 1, .LCK, 0⟩, ⟨8, 3, .LCK, 0⟩, ⟨16, 16, .LCK, 0⟩, ⟨32, 16, .LCK, 0⟩]⟩]

def regRowsCLU_0 : List RegRow := [
  ⟨"CLU_GWIN", 0x1000200, [(0x20000, 64), (0x8, 4)], 64, [⟨0, 24, .LCK, 0⟩, ⟨24, 24, .LCK, 0⟩, ⟨48, 1, .LCK, 0⟩, ⟨49, 1, .LCK, 0⟩]⟩,
  ⟨"CLU_WGRP", 0x1000100, [(0x20000, 64), (0x8, 8)], 64, [⟨0, 4, .LCK, 15⟩, ⟨4, 4, .LCK, 15⟩, ⟨8, 4, .LCK, 15⟩, ⟨12, 4, .LCK, 15⟩, ⟨16, 4, .LCK, 15⟩, ⟨20, 4, .LCK, 15⟩, ⟨24, 4, .LCK, 15⟩, ⟨28, 4, .LCK, 15⟩, ⟨32, 4, .LCK, 15⟩, ⟨36, 4, .LCK, 15⟩, ⟨40, 4, .LCK, 15⟩, ⟨44, 4, .LCK, 15⟩, ⟨48, 4, .LCK, 15⟩, ⟨52, 4, .LCK, 15⟩, ⟨56, 4, .LCK, 15⟩, ⟨60, 4, .LCK, 15⟩]⟩,
  ⟨"CLU_STALL", 0x1000300, [(0x20000, 64)], 64, [⟨0, 4, .RO, 0⟩, ⟨4, 1, .RW1C, 0⟩, ⟨5, 1, .RO, 0⟩, ⟨8, 6, .RO, 0⟩, ⟨32, 32, .RO, 0⟩]⟩,
  ⟨"CLU_STALL_MEMB", 0x1000308, [(0x20000, 64), (0x8, 2)], 64, [⟨0, 64, .RO, 0⟩]⟩,
  ⟨"CLU_STALL_SNAP", 0x1000800, [(0x20000, 64), (0x8, 128)], 64, [⟨0, 32, .RO, 0⟩, ⟨32, 32, .RO, 0⟩]⟩,
  ⟨"CLU_LOCK_ERR", 0x1000400, [(0x20000, 64)], 64, [⟨0, 9, .RO, 0⟩, ⟨9, 1, .RW1C, 0⟩, ⟨10, 2, .RO, 0⟩, ⟨12, 7, .RO, 0⟩, ⟨32, 13, .RO, 0⟩]⟩,
  ⟨"CLU_LOCK_OWN", 0x1001000, [(0x20000, 64), (0x4, 512)], 32, [⟨0, 7, .RO, 0⟩, ⟨7, 1, .RO, 0⟩, ⟨8, 8, .RO, 0⟩]⟩,
  ⟨"CLU_CFG", 0x1000000, [(0x20000, 64)], 64, [⟨0, 4, .LCK, 0⟩, ⟨4, 3, .LCK, 0⟩, ⟨8, 24, .LCK, 1000⟩]⟩,
  ⟨"CLU_CHAN_CFG", 0x1002000, [(0x20000, 64), (0x10, 256)], 64, [⟨0, 7, .LCK, 0⟩, ⟨7, 1, .LCK, 0⟩, ⟨8, 1, .LCK, 0⟩, ⟨10, 6, .LCK, 0⟩, ⟨32, 16, .LCK, 0⟩]⟩,
  ⟨"CLU_CHAN_STAT", 0x1002008, [(0x20000, 64), (0x10, 256)], 64, [⟨0, 6, .RO, 0⟩, ⟨6, 1, .RO, 0⟩, ⟨7, 7, .RO, 0⟩, ⟨16, 8, .RO, 0⟩, ⟨32, 16, .ROC, 0⟩]⟩,
  ⟨"CLU_ESCALATE", 0x1000008, [(0x20000, 64)], 32, [⟨0, 16, .RW, 0⟩, ⟨16, 1, .W1P, 0⟩]⟩,
  ⟨"CLU_TBL", 0x1000500, [(0x20000, 64), (0x10, 16)], 64, [⟨0, 14, .LCK, 0⟩, ⟨14, 2, .LCK, 0⟩, ⟨16, 1, .LCK, 0⟩, ⟨32, 24, .LCK, 0⟩]⟩]

def regRowsCLU_1 : List RegRow := [
  ⟨"CLU_TBLS", 0x1000508, [(0x20000, 64), (0x10, 16)], 64, [⟨0, 24, .LCK, 0⟩, ⟨24, 24, .LCK, 0⟩]⟩]

def regRowsCRF_0 : List RegRow := [
  ⟨"CRF_CFG", 0x20000, [], 64, [⟨0, 2, .LCK, 0⟩, ⟨2, 1, .LCK, 0⟩, ⟨4, 20, .LCK, 10000⟩, ⟨24, 8, .LCK, 64⟩, ⟨32, 16, .LCK, 0⟩, ⟨48, 8, .LCK, 0⟩]⟩,
  ⟨"CRF_STATUS", 0x20008, [], 64, [⟨0, 2, .RO, 0⟩, ⟨2, 1, .RO, 0⟩, ⟨3, 1, .RO, 0⟩, ⟨4, 1, .RO, 0⟩, ⟨5, 1, .RO, 0⟩, ⟨6, 1, .RO, 0⟩, ⟨7, 1, .RO, 0⟩, ⟨8, 1, .RO, 0⟩, ⟨9, 1, .RO, 0⟩, ⟨32, 16, .RO, 0⟩]⟩,
  ⟨"CRF_JOURNAL_ID", 0x20010, [], 64, [⟨0, 64, .LCK, 0⟩]⟩,
  ⟨"CRF_STRIPE", 0x20018, [], 64, [⟨0, 64, .RO, 0⟩]⟩,
  ⟨"CRF_SERIAL", 0x20020, [], 64, [⟨0, 64, .RO, 0⟩]⟩,
  ⟨"CRF_VERDICT_CFG", 0x20028, [], 64, [⟨0, 17, .LCK, 2000⟩, ⟨32, 16, .LCK, 65535⟩, ⟨48, 16, .LCK, 65534⟩]⟩,
  ⟨"CRF_STAGE", 0x20030, [], 64, [⟨0, 24, .LCK, 0⟩, ⟨24, 24, .LCK, 16384⟩]⟩,
  ⟨"CRF_PUB_CFG", 0x20038, [], 32, [⟨0, 16, .LCK, 0⟩]⟩,
  ⟨"CRF_WMARK", 0x20100, [], 64, [⟨0, 64, .RO, 0⟩]⟩,
  ⟨"CRF_LOCAL", 0x20108, [], 64, [⟨0, 64, .RO, 0⟩]⟩,
  ⟨"CRF_CONF", 0x20110, [(0x8, 3)], 64, [⟨0, 64, .RO, 0⟩]⟩,
  ⟨"CRF_BOUNDARY", 0x20128, [], 64, [⟨0, 64, .RO, 0⟩]⟩]

def regRowsCRF_1 : List RegRow := [
  ⟨"CRF_APPEND", 0x20130, [], 64, [⟨0, 64, .RO, 0⟩]⟩,
  ⟨"CRF_CNT0", 0x20200, [], 64, [⟨0, 32, .ROC, 0⟩, ⟨32, 32, .ROC, 0⟩]⟩,
  ⟨"CRF_CNT1", 0x20208, [], 64, [⟨0, 32, .ROC, 0⟩, ⟨32, 32, .ROC, 0⟩]⟩,
  ⟨"CRF_CNT2", 0x20210, [], 64, [⟨0, 16, .ROC, 0⟩, ⟨16, 16, .ROC, 0⟩, ⟨32, 16, .ROC, 0⟩, ⟨48, 16, .ROC, 0⟩]⟩,
  ⟨"CRF_REPLAY", 0x20310, [], 64, [⟨0, 64, .RO, 0⟩]⟩,
  ⟨"CRF_REPLAY_STAT", 0x20318, [], 64, [⟨0, 24, .RO, 0⟩, ⟨24, 16, .RO, 0⟩, ⟨40, 16, .RO, 0⟩]⟩,
  ⟨"CRF_RET_CFG", 0x20300, [], 64, [⟨0, 16, .LCK, 2557⟩, ⟨16, 16, .LCK, 256⟩, ⟨32, 7, .LCK, 10⟩]⟩,
  ⟨"CRF_ARCH_STAT", 0x20308, [], 64, [⟨0, 24, .RO, 0⟩, ⟨24, 20, .RO, 0⟩, ⟨44, 20, .RO, 0⟩]⟩]

def regRowsPRG : List RegRow := [
  ⟨"PRG_CFG", 0x30000, [], 32, [⟨0, 24, .LCK, 0⟩]⟩,
  ⟨"PRG_STATUS", 0x30008, [], 64, [⟨0, 19, .RO, 0⟩, ⟨19, 1, .RO, 0⟩, ⟨32, 11, .RO, 0⟩]⟩,
  ⟨"PRG_WM", 0x30010, [], 64, [⟨0, 64, .RO, 0⟩]⟩,
  ⟨"PRG_CNT", 0x30018, [], 64, [⟨0, 32, .ROC, 0⟩, ⟨32, 8, .ROC, 0⟩, ⟨40, 8, .ROC, 0⟩, ⟨48, 8, .ROC, 0⟩, ⟨56, 8, .ROC, 0⟩]⟩,
  ⟨"PRG_BUF", 0x30020, [], 64, [⟨0, 24, .LCK, 0⟩]⟩,
  ⟨"PRG_PORT", 0x31000, [(0x10, 64)], 64, [⟨0, 19, .RO, 0⟩, ⟨32, 32, .RO, 0⟩]⟩,
  ⟨"PRG_PHEAD", 0x31008, [(0x10, 64)], 64, [⟨0, 64, .RO, 0⟩]⟩,
  ⟨"PRG_CLOSE", 0x32000, [(0x8, 64)], 64, [⟨0, 48, .RO, 0⟩, ⟨48, 16, .RO, 0⟩]⟩,
  ⟨"PRG_CLOSE_FLAGS", 0x32200, [], 64, [⟨0, 64, .RO, 0⟩]⟩,
  ⟨"PRG_CLOSE_VALID", 0x32208, [], 64, [⟨0, 64, .RO, 0⟩]⟩]

def regRowsNDC_0 : List RegRow := [
  ⟨"NDC_CFG", 0x100000, [(0x4000, 32)], 64, [⟨0, 3, .LCK, 0⟩, ⟨3, 1, .LCK, 0⟩, ⟨4, 8, .LCK, 0⟩, ⟨12, 1, .LCK, 0⟩, ⟨13, 3, .LCK, 0⟩]⟩,
  ⟨"NDC_GEOM", 0x100008, [(0x4000, 32)], 64, [⟨0, 13, .LCK, 0⟩, ⟨13, 2, .LCK, 0⟩, ⟨16, 5, .LCK, 0⟩, ⟨21, 5, .LCK, 0⟩, ⟨32, 15, .LCK, 0⟩]⟩,
  ⟨"NDC_TIMING", 0x100010, [(0x4000, 32)], 64, [⟨0, 8, .LCK, 4⟩, ⟨8, 8, .LCK, 0⟩, ⟨16, 16, .LCK, 500⟩, ⟨32, 32, .LCK, 12500000⟩]⟩,
  ⟨"NDC_ID", 0x100040, [(0x4000, 32)], 64, [⟨0, 64, .LCK, 0⟩]⟩,
  ⟨"NDC_ID_MASK", 0x100048, [(0x4000, 32)], 64, [⟨0, 64, .LCK, 0⟩]⟩,
  ⟨"NDC_ENDUR", 0x100050, [(0x4000, 32)], 64, [⟨0, 32, .LCK, 0⟩, ⟨32, 32, .LCK, 0⟩]⟩,
  ⟨"NDC_OPMAX", 0x100058, [(0x4000, 32)], 32, [⟨0, 16, .LCK, 0⟩]⟩,
  ⟨"NDC_MARK", 0x100060, [(0x4000, 32), (0x8, 4)], 64, [⟨0, 13, .LCK, 0⟩, ⟨13, 1, .LCK, 0⟩, ⟨16, 15, .LCK, 0⟩, ⟨32, 8, .LCK, 0⟩]⟩,
  ⟨"NDC_REF_CFG", 0x100030, [(0x4000, 32)], 64, [⟨0, 8, .LCK, 14⟩, ⟨8, 6, .LCK, 8⟩, ⟨14, 6, .LCK, 24⟩, ⟨20, 8, .LCK, 90⟩, ⟨28, 12, .LCK, 90⟩, ⟨40, 16, .LCK, 200⟩]⟩,
  ⟨"NDC_REF_STAT", 0x100038, [(0x4000, 32)], 64, [⟨0, 32, .ROC, 0⟩, ⟨32, 16, .RO, 0⟩]⟩,
  ⟨"NDC_LUN_CFG", 0x100100, [(0x4000, 32), (0x10, 16)], 64, [⟨0, 2, .LCK, 0⟩, ⟨2, 1, .LCK, 0⟩, ⟨8, 8, .LCK, 7⟩]⟩,
  ⟨"NDC_LUN_STAT", 0x100108, [(0x4000, 32), (0x10, 16)], 64, [⟨0, 1, .RO, 0⟩, ⟨1, 1, .RO, 0⟩, ⟨16, 16, .RO, 0⟩, ⟨32, 16, .RO, 0⟩, ⟨48, 8, .RO, 0⟩]⟩]

def regRowsNDC_1 : List RegRow := [
  ⟨"NDC_LIFE", 0x100200, [(0x4000, 32), (0x8, 16)], 64, [⟨0, 32, .RO, 0⟩, ⟨32, 32, .RO, 0⟩]⟩,
  ⟨"NDC_STAT", 0x100018, [(0x4000, 32)], 64, [⟨0, 1, .RO, 0⟩, ⟨1, 1, .RO, 0⟩, ⟨2, 1, .RO, 0⟩, ⟨3, 1, .RO, 0⟩, ⟨4, 1, .RO, 0⟩, ⟨8, 8, .RO, 0⟩, ⟨16, 16, .RO, 0⟩]⟩,
  ⟨"NDC_CNT0", 0x100020, [(0x4000, 32)], 64, [⟨0, 32, .ROC, 0⟩, ⟨32, 32, .ROC, 0⟩]⟩,
  ⟨"NDC_CNT1", 0x100028, [(0x4000, 32)], 64, [⟨0, 16, .ROC, 0⟩, ⟨16, 16, .ROC, 0⟩, ⟨32, 12, .ROC, 0⟩, ⟨44, 8, .ROC, 0⟩, ⟨52, 8, .ROC, 0⟩, ⟨60, 4, .ROC, 0⟩]⟩]

def regRowsDRP : List RegRow := [
  ⟨"DRP_CTRL", 0x102000, [(0x4000, 32)], 32, [⟨0, 1, .RW, 0⟩, ⟨1, 1, .W1P, 0⟩, ⟨2, 1, .W1P, 0⟩]⟩,
  ⟨"DRP_STAT", 0x102008, [(0x4000, 32)], 64, [⟨0, 1, .RO, 0⟩, ⟨1, 1, .RO, 0⟩, ⟨2, 1, .RO, 0⟩, ⟨3, 1, .RO, 0⟩, ⟨16, 16, .RO, 0⟩, ⟨32, 32, .RO, 0⟩]⟩,
  ⟨"DRP_ENTRY", 0x102040, [(0x4000, 32), (0x4, 16)], 32, [⟨0, 12, .RO, 0⟩, ⟨12, 1, .RO, 0⟩]⟩,
  ⟨"DRP_CTX", 0x102100, [(0x4000, 32), (0x8, 16)], 64, [⟨0, 12, .RO, 0⟩, ⟨12, 3, .RO, 0⟩, ⟨15, 1, .RO, 0⟩, ⟨16, 4, .RO, 0⟩, ⟨20, 4, .RO, 0⟩, ⟨24, 6, .RO, 0⟩, ⟨32, 32, .RO, 0⟩]⟩,
  ⟨"DRP_FAULT", 0x102200, [(0x4000, 32)], 64, [⟨0, 12, .RO, 0⟩, ⟨12, 1, .RW1C, 0⟩, ⟨13, 4, .RO, 0⟩, ⟨17, 3, .RO, 0⟩, ⟨20, 1, .RO, 0⟩, ⟨32, 32, .RO, 0⟩]⟩]

def regRowsPCI_0 : List RegRow := [
  ⟨"PCI_LINK", 0x80000, [], 64, [⟨0, 4, .RO, 0⟩, ⟨4, 6, .RO, 0⟩, ⟨10, 1, .RO, 0⟩, ⟨11, 1, .RO, 0⟩, ⟨16, 16, .RO, 0⟩]⟩,
  ⟨"PCI_DMA_CFG", 0x80008, [], 32, [⟨0, 3, .LCK, 2⟩]⟩,
  ⟨"PCI_TAG_CFG", 0x80010, [], 64, [⟨0, 14, .LCK, 2048⟩, ⟨16, 14, .LCK, 1024⟩]⟩,
  ⟨"PCI_TAG_STAT", 0x80018, [], 64, [⟨0, 14, .RO, 0⟩, ⟨16, 14, .RO, 0⟩, ⟨32, 16, .ROC, 0⟩, ⟨48, 16, .ROC, 0⟩]⟩,
  ⟨"PCI_PEER_AREA", 0x80100, [], 64, [⟨0, 24, .LCK, 0⟩, ⟨24, 24, .LCK, 0⟩]⟩,
  ⟨"PCI_WIN_COMMIT", 0x80108, [], 32, [⟨0, 1, .W1P, 0⟩, ⟨1, 1, .RW1C, 0⟩, ⟨2, 3, .RO, 0⟩]⟩,
  ⟨"PCI_WIN_EPOCH", 0x80110, [], 32, [⟨0, 32, .RO, 0⟩]⟩,
  ⟨"PCI_WIN_LOG", 0x80118, [], 64, [⟨0, 36, .RO, 0⟩, ⟨36, 1, .RW1C, 0⟩, ⟨37, 3, .RO, 0⟩, ⟨40, 16, .RO, 0⟩, ⟨56, 8, .ROC, 0⟩]⟩,
  ⟨"PCI_WINA", 0x81000, [(0x20, 16)], 64, [⟨0, 1, .RO, 0⟩, ⟨1, 1, .RO, 0⟩, ⟨2, 1, .RO, 0⟩, ⟨4, 2, .RO, 0⟩, ⟨16, 24, .RO, 0⟩, ⟨40, 24, .RO, 0⟩]⟩,
  ⟨"PCI_WINT", 0x81008, [(0x20, 16)], 64, [⟨0, 24, .RO, 0⟩, ⟨24, 8, .RO, 0⟩]⟩,
  ⟨"PCI_WINR", 0x81010, [(0x20, 16)], 64, [⟨0, 16, .RO, 0⟩, ⟨16, 16, .RO, 0⟩]⟩,
  ⟨"PCI_SWINA", 0x81200, [(0x20, 16)], 64, [⟨0, 1, .RW, 0⟩, ⟨1, 1, .RW, 0⟩, ⟨2, 1, .RW, 0⟩, ⟨4, 2, .RW, 0⟩, ⟨16, 24, .RW, 0⟩, ⟨40, 24, .RW, 0⟩]⟩]

def regRowsPCI_1 : List RegRow := [
  ⟨"PCI_SWINT", 0x81208, [(0x20, 16)], 64, [⟨0, 24, .RW, 0⟩, ⟨24, 8, .RW, 0⟩]⟩,
  ⟨"PCI_SWINR", 0x81210, [(0x20, 16)], 64, [⟨0, 16, .RW, 0⟩, ⟨16, 16, .RW, 0⟩]⟩]

def regRowsSLC : List RegRow := [
  ⟨"SLC_CFG", 0x90000, [(0x20, 256)], 64, [⟨0, 20, .LCK, 0⟩, ⟨20, 1, .LCK, 0⟩, ⟨21, 1, .LCK, 0⟩, ⟨22, 1, .LCK, 0⟩, ⟨23, 1, .LCK, 0⟩, ⟨24, 8, .LCK, 0⟩]⟩,
  ⟨"SLC_WM", 0x90008, [(0x20, 256)], 64, [⟨0, 1, .LCK, 0⟩, ⟨3, 61, .LCK, 0⟩]⟩,
  ⟨"SLC_STAT", 0x90010, [(0x20, 256)], 64, [⟨0, 32, .RO, 0⟩, ⟨32, 3, .RO, 0⟩, ⟨35, 1, .RO, 0⟩, ⟨48, 14, .RO, 0⟩]⟩,
  ⟨"SLC_CNT", 0x90018, [(0x20, 256)], 64, [⟨0, 32, .ROC, 0⟩, ⟨32, 16, .ROC, 0⟩, ⟨48, 16, .RO, 0⟩]⟩]

def regRowsHQ_0 : List RegRow := [
  ⟨"HQ_RSEL", 0x40018, [], 32, [⟨0, 15, .RW, 0⟩, ⟨15, 1, .RW, 0⟩]⟩,
  ⟨"HQ_RDESC", 0x40020, [(0x8, 4)], 64, [⟨0, 64, .RO, 0⟩]⟩,
  ⟨"HQ_RSTATE", 0x40040, [], 64, [⟨0, 3, .RO, 0⟩, ⟨4, 2, .RO, 0⟩, ⟨32, 32, .RO, 0⟩]⟩,
  ⟨"HQ_RIDX", 0x40048, [], 64, [⟨0, 32, .RO, 0⟩, ⟨32, 32, .RO, 0⟩]⟩,
  ⟨"HQ_RLAST", 0x40050, [], 64, [⟨0, 64, .RO, 0⟩]⟩,
  ⟨"HQ_CFG", 0x40000, [], 64, [⟨0, 16, .LCK, 1000⟩, ⟨16, 4, .LCK, 4⟩]⟩,
  ⟨"HQ_STATUS", 0x40010, [], 64, [⟨0, 1, .RO, 0⟩, ⟨1, 1, .RO, 0⟩, ⟨16, 14, .RO, 0⟩, ⟨32, 32, .RO, 0⟩]⟩,
  ⟨"HQ_BKLG", 0x40008, [], 64, [⟨0, 24, .LCK, 0⟩, ⟨24, 24, .LCK, 0⟩]⟩,
  ⟨"HQ_SBKLG", 0x41000, [(0x8, 256)], 64, [⟨0, 23, .RO, 0⟩, ⟨32, 13, .LCK, 4096⟩]⟩,
  ⟨"HQ_CNT0", 0x40100, [], 64, [⟨0, 32, .ROC, 0⟩, ⟨32, 16, .ROC, 0⟩, ⟨48, 16, .ROC, 0⟩]⟩,
  ⟨"HQ_CNT1", 0x40108, [], 64, [⟨0, 16, .ROC, 0⟩, ⟨16, 16, .ROC, 0⟩, ⟨32, 16, .ROC, 0⟩, ⟨48, 16, .ROC, 0⟩]⟩,
  ⟨"HQ_BLK_CFG", 0x60000, [], 64, [⟨0, 14, .LCK, 8192⟩, ⟨16, 10, .LCK, 256⟩, ⟨26, 6, .LCK, 12⟩, ⟨32, 14, .LCK, 0⟩, ⟨46, 6, .LCK, 0⟩, ⟨52, 12, .LCK, 64⟩]⟩]

def regRowsHQ_1 : List RegRow := [
  ⟨"HQ_BLK_MAP", 0x60008, [], 64, [⟨0, 24, .LCK, 0⟩, ⟨24, 24, .LCK, 0⟩]⟩,
  ⟨"HQ_BLK_STAT", 0x60010, [], 64, [⟨0, 1, .RO, 0⟩, ⟨1, 1, .RO, 0⟩, ⟨16, 14, .RO, 0⟩, ⟨32, 16, .RO, 0⟩]⟩,
  ⟨"HQ_BLK_NS", 0x60100, [(0x10, 16)], 64, [⟨0, 1, .LCK, 0⟩, ⟨1, 1, .LCK, 0⟩, ⟨2, 1, .RO, 0⟩, ⟨8, 8, .LCK, 0⟩, ⟨16, 8, .LCK, 0⟩, ⟨24, 40, .LCK, 0⟩]⟩,
  ⟨"HQ_BLK_ATT", 0x60200, [(0x20, 16), (0x8, 4)], 64, [⟨0, 64, .LCK, 0⟩]⟩,
  ⟨"HQ_BLK_CNT0", 0x60020, [], 64, [⟨0, 32, .ROC, 0⟩, ⟨32, 32, .ROC, 0⟩]⟩,
  ⟨"HQ_BLK_CNT1", 0x60028, [], 64, [⟨0, 16, .ROC, 0⟩, ⟨16, 16, .ROC, 0⟩, ⟨32, 16, .ROC, 0⟩, ⟨48, 16, .ROC, 0⟩]⟩]

def regRowsCPH : List RegRow := [
  ⟨"CPH_STATUS", 0xa0000, [], 64, [⟨0, 32, .RO, 0⟩, ⟨32, 1, .RO, 0⟩, ⟨33, 1, .RO, 0⟩, ⟨34, 1, .RO, 0⟩, ⟨35, 7, .RO, 0⟩, ⟨42, 6, .RO, 0⟩]⟩,
  ⟨"CPH_NONCE_NEXT", 0xa0008, [], 64, [⟨0, 64, .RO, 0⟩]⟩,
  ⟨"CPH_JQA", 0xa1000, [(0x20, 64)], 64, [⟨0, 24, .LCK, 0⟩, ⟨24, 5, .LCK, 0⟩, ⟨29, 1, .LCK, 0⟩, ⟨30, 8, .LCK, 0⟩, ⟨38, 8, .LCK, 0⟩]⟩,
  ⟨"CPH_JQD", 0xa1008, [(0x20, 64)], 64, [⟨0, 24, .LCK, 0⟩, ⟨24, 24, .LCK, 0⟩]⟩,
  ⟨"CPH_JQS", 0xa1010, [(0x20, 64)], 64, [⟨0, 16, .RO, 0⟩, ⟨16, 16, .RO, 0⟩, ⟨32, 32, .ROC, 0⟩]⟩,
  ⟨"CPH_CFG", 0xa0010, [], 64, [⟨0, 16, .LCK, 500⟩, ⟨16, 7, .LCK, 16⟩, ⟨24, 4, .LCK, 1⟩]⟩,
  ⟨"CPH_UNIT_OOS", 0xa0018, [(0x8, 2)], 64, [⟨0, 64, .RO, 0⟩]⟩,
  ⟨"CPH_CSEL", 0xa0028, [], 32, [⟨0, 8, .RW, 0⟩]⟩,
  ⟨"CPH_CINFO", 0xa0030, [], 64, [⟨0, 1, .RO, 0⟩, ⟨1, 1, .RO, 0⟩, ⟨2, 1, .RO, 0⟩, ⟨3, 2, .RO, 0⟩, ⟨5, 1, .RO, 0⟩, ⟨6, 1, .RO, 0⟩, ⟨7, 1, .RO, 0⟩, ⟨8, 8, .RO, 0⟩, ⟨16, 16, .RO, 0⟩, ⟨32, 32, .RO, 0⟩]⟩,
  ⟨"CPH_DUP_LOG", 0xa0038, [], 64, [⟨0, 7, .RO, 0⟩, ⟨7, 1, .RW1C, 0⟩, ⟨8, 8, .RO, 0⟩, ⟨16, 8, .RO, 0⟩]⟩,
  ⟨"CPH_CNT0", 0xa0040, [], 64, [⟨0, 32, .ROC, 0⟩, ⟨32, 16, .ROC, 0⟩, ⟨48, 16, .ROC, 0⟩]⟩,
  ⟨"CPH_CNT1", 0xa0048, [], 64, [⟨0, 32, .ROC, 0⟩, ⟨32, 16, .ROC, 0⟩, ⟨48, 16, .ROC, 0⟩]⟩]

def regRowsEZN : List RegRow := [
  ⟨"EZN_CFG", 0xb0000, [], 64, [⟨0, 3, .LCK, 1⟩, ⟨3, 2, .LCK, 0⟩, ⟨5, 1, .LCK, 0⟩, ⟨6, 1, .LCK, 0⟩, ⟨8, 2, .LCK, 0⟩, ⟨16, 16, .LCK, 10000⟩]⟩,
  ⟨"EZN_GROUP_ID", 0xb0008, [], 64, [⟨0, 64, .LCK, 0⟩]⟩,
  ⟨"EZN_TMO", 0xb0010, [], 64, [⟨0, 8, .LCK, 10⟩, ⟨8, 16, .LCK, 500⟩, ⟨24, 16, .LCK, 200⟩, ⟨40, 16, .LCK, 2000⟩, ⟨56, 8, .LCK, 5⟩]⟩,
  ⟨"EZN_STATUS", 0xb0018, [], 64, [⟨0, 3, .RO, 0⟩, ⟨3, 1, .RO, 0⟩, ⟨4, 1, .RO, 0⟩, ⟨5, 2, .RO, 0⟩, ⟨7, 1, .RO, 0⟩, ⟨8, 8, .RO, 1⟩, ⟨16, 8, .RO, 1⟩, ⟨32, 16, .RO, 0⟩, ⟨48, 16, .RO, 0⟩]⟩,
  ⟨"EZN_LEVEL", 0xb0020, [], 32, [⟨0, 8, .RO, 0⟩, ⟨8, 8, .RO, 0⟩, ⟨16, 8, .RO, 0⟩, ⟨24, 1, .RO, 0⟩]⟩,
  ⟨"EZN_LINK_CFG", 0xb0100, [(0x10, 4)], 32, [⟨0, 1, .LCK, 0⟩, ⟨1, 2, .LCK, 0⟩]⟩,
  ⟨"EZN_LINK_STAT", 0xb0108, [(0x10, 4)], 64, [⟨0, 2, .RO, 0⟩, ⟨8, 8, .RO, 0⟩, ⟨16, 16, .RO, 0⟩, ⟨32, 16, .ROC, 0⟩, ⟨48, 16, .ROC, 0⟩]⟩,
  ⟨"EZN_MEMBER", 0xb0200, [(0x10, 4)], 64, [⟨0, 3, .RO, 0⟩, ⟨3, 1, .RO, 0⟩, ⟨4, 1, .RO, 0⟩, ⟨5, 1, .RO, 0⟩, ⟨6, 2, .RO, 0⟩, ⟨8, 1, .RO, 0⟩, ⟨16, 8, .RO, 0⟩, ⟨24, 8, .RO, 0⟩, ⟨32, 16, .RO, 0⟩]⟩,
  ⟨"EZN_MEMBER_L", 0xb0208, [(0x10, 4)], 64, [⟨0, 64, .RO, 0⟩]⟩,
  ⟨"EZN_RESYNC", 0xb0300, [], 64, [⟨0, 64, .RO, 0⟩]⟩,
  ⟨"EZN_RESYNC_POS", 0xb0308, [], 64, [⟨0, 64, .RO, 0⟩]⟩,
  ⟨"EZN_CNT", 0xb0400, [], 64, [⟨0, 16, .RO, 0⟩, ⟨16, 16, .ROC, 0⟩, ⟨32, 16, .ROC, 0⟩, ⟨48, 16, .ROC, 0⟩]⟩]

def regRowsRST : List RegRow := [
  ⟨"RST_STATUS", 0xc0000, [], 64, [⟨0, 3, .RO, 0⟩, ⟨3, 4, .RO, 0⟩, ⟨7, 1, .RO, 0⟩, ⟨8, 1, .RO, 0⟩, ⟨9, 1, .RO, 0⟩, ⟨10, 1, .RO, 0⟩, ⟨11, 1, .RO, 0⟩, ⟨32, 32, .RO, 0⟩]⟩,
  ⟨"RST_SLOT", 0xc0008, [], 64, [⟨0, 2, .RO, 0⟩, ⟨2, 1, .RO, 0⟩, ⟨3, 1, .RO, 0⟩, ⟨4, 4, .RO, 0⟩, ⟨8, 8, .RO, 0⟩]⟩,
  ⟨"RST_GEN_A", 0xc0010, [], 64, [⟨0, 64, .RO, 0⟩]⟩,
  ⟨"RST_GEN_B", 0xc0018, [], 64, [⟨0, 64, .RO, 0⟩]⟩,
  ⟨"RST_REV", 0xc0020, [], 32, [⟨0, 32, .RO, 0⟩]⟩,
  ⟨"RST_KL", 0xc0028, [], 32, [⟨0, 1, .RO, 0⟩, ⟨1, 1, .RO, 0⟩, ⟨2, 1, .RO, 0⟩, ⟨3, 1, .RO, 0⟩, ⟨8, 8, .RO, 0⟩, ⟨16, 1, .RO, 0⟩]⟩]

def regRowsCFG : List RegRow := [
  ⟨"CFG_CTRL", 0xc8000, [], 32, [⟨0, 16, .LCK, 100⟩]⟩,
  ⟨"CFG_APPLY", 0xc8008, [], 64, [⟨0, 1, .RO, 0⟩, ⟨1, 1, .RO, 0⟩, ⟨8, 8, .RO, 0⟩, ⟨16, 16, .RO, 0⟩, ⟨32, 32, .RO, 0⟩]⟩,
  ⟨"CFG_SEC_SEL", 0xc8010, [], 32, [⟨0, 8, .RW, 0⟩]⟩,
  ⟨"CFG_SEC_GEN", 0xc8018, [], 64, [⟨0, 64, .RO, 0⟩]⟩,
  ⟨"CFG_SEC_INFO", 0xc8020, [], 64, [⟨0, 2, .RO, 0⟩, ⟨2, 1, .RO, 0⟩, ⟨3, 1, .RO, 0⟩, ⟨4, 1, .RO, 0⟩, ⟨8, 8, .RO, 0⟩]⟩,
  ⟨"CFG_QDRAIN", 0xc8028, [], 32, [⟨0, 4, .RO, 0⟩, ⟨4, 4, .RO, 0⟩]⟩,
  ⟨"CFG_FLASH", 0xc8030, [], 64, [⟨0, 1, .RO, 0⟩, ⟨1, 1, .RO, 0⟩, ⟨2, 1, .RO, 0⟩, ⟨16, 16, .RO, 0⟩, ⟨32, 16, .ROC, 0⟩]⟩,
  ⟨"CFG_DLBUF", 0xc8038, [], 64, [⟨0, 24, .LCK, 0⟩]⟩]

def regRowsERR_0 : List RegRow := [
  ⟨"ERR_CFG", 0xd0000, [], 64, [⟨0, 1, .LCK, 1⟩, ⟨1, 1, .LCK, 0⟩, ⟨16, 16, .LCK, 10⟩, ⟨32, 32, .LCK, 1000⟩]⟩,
  ⟨"ERR_SUM", 0xd0008, [(0x8, 2)], 64, [⟨0, 64, .RO, 0⟩]⟩,
  ⟨"ERR_FATAL", 0xd0018, [(0x8, 2)], 64, [⟨0, 64, .RO, 0⟩]⟩,
  ⟨"ERR_RESET", 0xd0028, [], 64, [⟨0, 4, .RO, 0⟩, ⟨16, 16, .RO, 0⟩, ⟨32, 16, .RO, 0⟩, ⟨48, 16, .RO, 0⟩]⟩,
  ⟨"ERR_IRQ", 0xd0030, [], 32, [⟨0, 8, .RW, 0⟩]⟩,
  ⟨"ERR_STAT", 0xd1000, [(0x80, 128)], 64, [⟨0, 1, .RW1C, 0⟩, ⟨1, 1, .RW1C, 0⟩, ⟨2, 1, .RO, 0⟩, ⟨3, 1, .RO, 0⟩, ⟨8, 16, .RO, 0⟩, ⟨32, 32, .RO, 0⟩]⟩,
  ⟨"ERR_FIRST", 0xd1008, [(0x80, 128)], 64, [⟨0, 16, .RO, 0⟩, ⟨16, 3, .RO, 0⟩, ⟨19, 1, .RO, 0⟩, ⟨20, 1, .RO, 0⟩, ⟨24, 8, .RO, 0⟩]⟩,
  ⟨"ERR_FIRST_INFO", 0xd1010, [(0x80, 128)], 64, [⟨0, 64, .RO, 0⟩]⟩,
  ⟨"ERR_FIRST_TIME", 0xd1018, [(0x80, 128)], 64, [⟨0, 32, .RO, 0⟩, ⟨32, 32, .RO, 0⟩]⟩,
  ⟨"ERR_CNT", 0xd1038, [(0x80, 128)], 64, [⟨0, 32, .ROC, 0⟩, ⟨32, 16, .ROC, 0⟩, ⟨48, 16, .ROC, 0⟩]⟩,
  ⟨"ERR_WARN", 0xd1040, [(0x80, 128)], 64, [⟨0, 16, .RO, 0⟩, ⟨16, 8, .RO, 0⟩, ⟨24, 1, .RW1C, 0⟩, ⟨32, 32, .RO, 0⟩]⟩,
  ⟨"ERR_CLU_FB", 0xd0100, [(0x8, 64)], 64, [⟨0, 6, .LCK, 0⟩, ⟨6, 1, .LCK, 0⟩, ⟨8, 24, .LCK, 0⟩]⟩]

def regRowsERR_1 : List RegRow := [
  ⟨"ERR_SECOND", 0xd1020, [(0x80, 128)], 64, [⟨0, 16, .RO, 0⟩, ⟨16, 3, .RO, 0⟩, ⟨19, 1, .RO, 0⟩, ⟨20, 1, .RO, 0⟩, ⟨24, 8, .RO, 0⟩]⟩,
  ⟨"ERR_SECOND_INFO", 0xd1028, [(0x80, 128)], 64, [⟨0, 64, .RO, 0⟩]⟩,
  ⟨"ERR_SECOND_TIME", 0xd1030, [(0x80, 128)], 64, [⟨0, 32, .RO, 0⟩, ⟨32, 32, .RO, 0⟩]⟩,
  ⟨"ERR_WARN_TIME", 0xd1048, [(0x80, 128)], 64, [⟨0, 32, .RO, 0⟩, ⟨32, 32, .RO, 0⟩]⟩]

def regRowsPWR : List RegRow := [
  ⟨"PWR_PROFILE", 0xe0000, [], 32, [⟨0, 4, .LCK, 0⟩]⟩,
  ⟨"PWR_DOM", 0xe0008, [(0x8, 2)], 64, [⟨0, 64, .RO, 0⟩]⟩,
  ⟨"PWR_LIMIT", 0xe0018, [], 64, [⟨0, 8, .LCK, 95⟩, ⟨8, 16, .LCK, 320⟩]⟩,
  ⟨"PWR_TEMP", 0xe0020, [(0x8, 2)], 64, [⟨0, 16, .RO, 0⟩, ⟨16, 16, .RO, 0⟩, ⟨32, 16, .RO, 0⟩, ⟨48, 16, .RO, 0⟩]⟩,
  ⟨"PWR_RAIL", 0xe0040, [(0x8, 8)], 64, [⟨0, 16, .RO, 0⟩, ⟨16, 16, .RO, 0⟩, ⟨32, 1, .RO, 0⟩]⟩,
  ⟨"PWR_STATUS", 0xe0080, [], 64, [⟨0, 1, .RO, 0⟩, ⟨1, 1, .RO, 0⟩, ⟨2, 1, .RO, 0⟩, ⟨8, 3, .RO, 0⟩, ⟨32, 16, .RO, 0⟩]⟩]

def regRowsCLK : List RegRow := [
  ⟨"CLK_STATUS", 0xe8000, [], 64, [⟨0, 25, .RO, 0⟩, ⟨25, 1, .RO, 0⟩]⟩,
  ⟨"CLK_CNT", 0xe8008, [], 64, [⟨0, 32, .ROC, 0⟩, ⟨32, 16, .RO, 0⟩]⟩,
  ⟨"CLK_RECCLK", 0xe8010, [], 32, [⟨0, 2, .LCK, 0⟩, ⟨2, 1, .LCK, 0⟩, ⟨3, 1, .LCK, 0⟩]⟩]

/-- Every register of the device register space. -/
def regTable : List RegRow :=
  regRowsTMP_0 ++ regRowsTMP_1 ++ regRowsTMP_2 ++ regRowsSEQ_0 ++ regRowsSEQ_1 ++ regRowsDYE ++ regRowsCLU_0 ++ regRowsCLU_1 ++ regRowsCRF_0 ++ regRowsCRF_1 ++ regRowsPRG ++ regRowsNDC_0 ++ regRowsNDC_1 ++ regRowsDRP ++ regRowsPCI_0 ++ regRowsPCI_1 ++ regRowsSLC ++ regRowsHQ_0 ++ regRowsHQ_1 ++ regRowsCPH ++ regRowsEZN ++ regRowsRST ++ regRowsCFG ++ regRowsERR_0 ++ regRowsERR_1 ++ regRowsPWR ++ regRowsCLK

end Sys2Proof.Machine
end

