-- ==== Sys2Proof/WellFormed.lean ====
section
/-!
DEFINITION. Which commands a sender can form: the bounds that the operand types do not already carry (notes/assumptions/1). The meanings are total: a command that no
sender can form has an effect too, on what it does carry.
-/

namespace Sys2Proof

/-- A memory request carries or asks for 1 to 4,096 bytes (PCI Express Base Specification). -/
def tlpBytes (n : Nat) : Bool := decide (1 ≤ n) && decide (n ≤ 4096)

/-- A command that a sender can form: every rail (15 Table 15-3) and every sensor (15 R563) has its sample, memory requests have a length that a TLP can have. -/
def Instr.wf : Instr → Bool
  | .railSample rails => rails.length == 8
  | .tempSample temps => temps.length == 8
  | .inboundBarAccess _ _ len data => tlpBytes (match data with | some d => d.length | none => len)
  | .peerTlp _ _ len data => tlpBytes (match data with | some d => d.length | none => len)
  | _ => true

end Sys2Proof
end

