-- ==== Sys2Proof/Machine/State.lean ====
section
/-!
DEFINITION. The state of the block, as plain data, and the state after reset. Every register field of the register space
has its one home in `State.regs` (the generated fields of Regs.lean) unless it is read from one of the structures below,
and every structure below is what the chapter it names gives the machine besides its registers. INVENTORY.md lists each.
-/

namespace Sys2Proof.Machine

/-- The part the state describes (00 R3). -/
inductive Part where
  | YL9640 | YL9632
  deriving DecidableEq, Repr

/-- What the block puts on its interfaces. -/
inductive Out where
  /-- a posted write to host memory for a slice: RO and IDO, the PASID it carries and the steering tag of its processing hint (08 R304, R316, R317) -/
  | hostWrite (slice addr : Nat) (data : List Byte) (ro ido : Bool) (pasid hint : Option Nat)
  /-- an MSI-X message of function `fn` -/
  | msix (fn vector : Nat)
  /-- an error of 08 Table 08-16 that function `fn` reports through AER: 0 correctable, 1 non-fatal, 2 fatal (08 R339) -/
  | aer (fn code severity : Nat)
  /-- a device read request for a slice, and the PASID it carries -/
  | hostRead (tag slice addr len : Nat) (pasid : Option Nat)
  /-- a completion of an inbound read, or its absence as Unsupported Request -/
  | completion (data : Option (List Byte))
  /-- a configuration request receives Request Retry Status (08 R331) -/
  | retry (fn : Nat)
  /-- an Ethernet frame starts on a port -/
  | frame (port : Nat) (data : List Byte)
  /-- the frame in transmission on a port ends with an invalid FCS (01 R49) -/
  | frameCut (port : Nat)
  /-- an IEEE 1588 event message leaves timing slot `k` with the stamp Tamp reports -/
  | ptp (k : Nat) (data : List Byte) (stamp : Stamp)
  /-- an IEEE 1588 general message leaves timing slot `k` -/
  | ptpGeneral (k : Nat) (data : List Byte)
  /-- PPS_OUT rises at the boundary of this TAI second; it falls -/
  | ppsOut (second : Nat)
  | ppsFall
  /-- an Ezoon frame leaves link end `k`: its header and its payload (12 R453) -/
  | ezoon (k : Nat) (head payload : List Byte)
  /-- a command cycle, address cycles or data cycles to chip enable `ce` of NAND channel `c` (07 R263) -/
  | nandCmd (c ce : Nat) (b : Byte)
  | nandAddr (c ce : Nat) (bs : List Byte)
  | nandData (c ce : Nat) (bs : List Byte)
  /-- the debug path answers its requester: the words read; none: access denied (04 R158, R160) -/
  | debug (words : Option (List Word))
  /-- the management sideband answers with a status and data -/
  | sideband (status : Nat) (data : List Byte)
  deriving DecidableEq, Repr

/-! ### Records (06 R207) -/

/-- A record: the header fields of 06 Table 06-1 and the payload. `flags` is the FLAGS byte. A host-lane record also carries the
entry it came from: its ring, TAG (none: not known after a replay) and entry number, and an EGRESS record its whole frame. -/
structure Rec where
  seq : Seq := 0
  stamp : Stamp := 0
  port : Nat := 0
  typ : Nat := 0
  session : Nat := 0
  verdict : Nat := 0
  depends : Seq := 0
  slice : Nat := 0
  flags : Nat := 0
  payload : List Byte := []
  ring : Nat := 0
  tag : Option Nat := some 0
  entry : Nat := 0
  frame : List Byte := []
  /-- the cluster that its request for a verdict was dispatched to (05 R186) -/
  mapped : Option Nat := none
  /-- this member sequenced it, as against a record mirrored to it (12 R462) -/
  mine : Bool := false
  deriving DecidableEq, Repr

/-! ### Tamp (chapter 02) -/

/-- A consented correction or step (02 R76). -/
structure Consent where
  deltaNs : Int
  stepId : Nat
  slice : Nat
  tag : Nat
  deriving DecidableEq, Repr

/-- What Tamp gathers for the TRACE record of the present second (02 Table 02-7). -/
structure TraceAcc where
  second : Nat := 0
  worst : Nat := 255
  best : Nat := 255
  flags : Nat := 0
  sum : Int := 0
  sumSq : Nat := 0
  maxAbs : Nat := 0
  samples : Nat := 0
  holdMax : Option Nat := none
  ppsErr : Nat := 0
  lcalMask : Nat := 0
  class15 : Nat := 0
  stamps : Nat := 0
  deriving DecidableEq, Repr

/-- The data set that an Announce carries (IEEE 1588-2019 13.5): the grandmaster's identity, clockClass, clockAccuracy, variance and priorities, stepsRemoved,
currentUtcOffset (none: not valid), timeSource; and the sender's port identity. -/
structure Announce where
  gm : Nat
  steps : Nat := 0
  utc : Option Int := none
  accuracy : Nat := 0xFE
  cls : Nat := 248
  variance : Nat := 0xFFFF
  prio1 : Nat := 128
  prio2 : Nat := 128
  source : Nat := 0xA0
  sender : Nat := 0
  deriving DecidableEq, Repr

/-- A master heard on a timing slot: its last Announce, and the ticks of that and of the one before. -/
structure Foreign where
  ann : Announce
  at_ : Nat
  prev : Option Nat := none
  deriving DecidableEq, Repr

/-- Roaster's IEEE 1588 state of a timing slot, beside TMP_PTP_STAT (02 R64). Times are in units of the timebase. -/
structure PtpSlot where
  /-- messages received and not yet handled: the delimiter's stamp and the message (01 R22) -/
  inbox : List (Stamp × List Byte) := []
  /-- the masters heard; the sender followed, and its last Announce -/
  foreign : List Foreign := []
  parent : Option Nat := none
  ann : Option Announce := none
  /-- a two-step Sync that waits for its Follow_Up: sequenceId, reception, correction -/
  sync : Option (Nat × Nat × Int) := none
  /-- the last complete Sync: its origin plus corrections, and its reception -/
  last : Option (Int × Nat) := none
  /-- the last Delay_Req sent: sequenceId, transmission -/
  dreq : Option (Nat × Nat) := none
  /-- twice the mean path delay -/
  delay : Option Int := none
  /-- the last offset sample less what the timebase has been moved by since power-on (R69), in units of the timebase -/
  offset : Int := 0
  /-- a Sync or announce timeout since the last Sync (R62) -/
  lost : Bool := false
  /-- the tick of the last Announce sent, and the count of Announces and of L1_SYNC messages sent -/
  announced : Option Nat := none
  sent : Nat := 0
  deriving DecidableEq, Repr

/-- The receive and transmit constants of a lane and the port mode they hold for, plus 1; 0 for none (02 R79). -/
structure LaneCal where
  rxBoard : Nat
  rxUnc : Nat
  txBoard : Nat
  txUnc : Nat
  mode : Nat
  deriving DecidableEq, Repr

/-- Tamp, beside its registers. -/
structure Tamp where
  /-- the timebase, in units of 2⁻⁸⁰/5 ns: a tick of 0.8 ns × (1 + ADJ × 2⁻⁴⁸) is a whole number of them (R50, R51) -/
  tb : Nat := 0
  /-- the last offset samples, newest first, at most 16, in units of 2⁻¹² ns (R61) -/
  samples : List Int := []
  /-- consecutive samples within LOCK_THR_PS (R62) -/
  lockRun : Nat := 0
  /-- a lock has occurred since the timebase started -/
  everLocked : Bool := false
  /-- the present selection was made within a holdover period (R61) -/
  selInHold : Bool := false
  /-- a holdover period runs (R72), and its milliseconds so far -/
  inHold : Bool := false
  holdMs : Nat := 0
  /-- E_entry and E_time, in units of 2⁻¹² ps; none: no E_time (R60) -/
  eEntry : Option Nat := none
  eTime : Option Nat := none
  eIsHold : Bool := false
  /-- an E_time evaluated and not yet in effect, and whether it is E_hold (R59) -/
  eNext : Option (Option Nat × Bool) := none
  /-- the timebase has seen its first source sample; port stamping was enabled since power-up (R73) -/
  firstSample : Bool := false
  stampedEver : Bool := false
  /-- a TIME_START_UNLOCKED request stands (R73) -/
  startUnlocked : Bool := false
  /-- the highest stamp that replay reported; none: replay has not reported (R73) -/
  highStamp : Option Stamp := none
  /-- the declined sources, each until one of its samples shows |θ| ≤ 1 ms (Table 02-4) -/
  declined : List Nat := []
  /-- the source was deselected during a correction, which takes effect when the correction ends (R62) -/
  dropped : Bool := false
  /-- PPS_IN is not lost (R70); the stamp of its last edge (R54) -/
  ppsOk : Bool := false
  ppsStamp : Stamp := 0
  /-- the timing slots (R64) -/
  ptp : FMap PtpSlot := []
  /-- what settings, steps and corrections have moved the timebase by since power-on, in units of tb (R69, R73, R76) -/
  moved : Int := 0
  /-- the accepted forward step not yet applied (R76) -/
  step : Option Consent := none
  /-- the correction that runs: its consent, the source it was consented for, the offset still to remove (units of tb) -/
  corr : Option (Consent × Nat × Nat) := none
  /-- the leap-second table: TAI second of effect, new offset (R65) -/
  leap : List (Nat × Int) := []
  /-- per lane: the port mode that the lane calibration section records, plus 1; 0 for none (R79) -/
  laneMode : FMap Nat := []
  /-- lanes whose link is locked; lanes measured at lock; the lane under live measurement (R80, R83) -/
  laneUp : FMap Bool := []
  measuring : FMap Bool := []
  recal : Option Nat := none
  /-- per lane: the tick of its last measurement (R83) -/
  measured : FMap Nat := []
  /-- LANE_RECAL requests waiting on a lane: lane, slice (14 R544) -/
  recalReq : List (Nat × Nat × Nat) := []
  /-- a lane calibration section waits for each lane's next gap (R88) -/
  calPending : FMap (Option LaneCal) := []
  /-- the second whose TRACE record is being gathered -/
  trace : TraceAcc := {}
  traceOpen : Bool := false
  firstAfter : Bool := false
  /-- applied lane changes since the timebase started (LCAL_GEN) -/
  lcalGen : Nat := 0
  /-- records committed and not yet posted (R91, R94) -/
  waiting : List Rec := []
  /-- the last second whose PPS_OUT edge was decided, and while PPS_OUT is high the tick at which it falls (R71) -/
  ppsSecond : Nat := 0
  ppsFalls : Option Nat := none
  deriving DecidableEq, Repr

/-! ### Fair merge (chapter 03) -/

/-- The state of a slot (03 R93). -/
inductive SlotState where
  | pending | ready | dropped
  deriving DecidableEq, Repr

/-- A slot of the merge store: its stamp and state, whether it came from the shared pool, and its candidate. -/
structure Slot where
  stamp : Stamp
  st : SlotState
  shared : Bool
  cand : Rec
  /-- the frame's bytes (05 R179, R182), and whether a binding has received them -/
  data : List Byte := []
  copied : Bool := true
  deriving DecidableEq, Repr

/-- A frame in progress on a port: its stamp, and whether it was captured before the port joined (03 R101). -/
structure Frame where
  stamp : Stamp
  early : Bool
  deriving DecidableEq, Repr

/-- The tie list of one TAI second (03 R106): the ports enabled at its start, and those enabled during it. -/
structure TieList where
  second : Nat
  list : List Nat
  deriving DecidableEq, Repr

/-- A fill (or drop) on its way to the merge store (05 R181 to R183): the thread, the slot it names and the control word. -/
structure FillReq where
  thread : Nat
  port : Nat
  stamp : Stamp
  drop : Bool
  control : Nat
  /-- the thread was reset after it issued the request: its response is discarded (05 R172) -/
  dead : Bool := false
  deriving DecidableEq, Repr

/-- The merge sequencer, beside its registers. -/
structure Merge where
  /-- the slots of each source, oldest first; source 64 is Tamp -/
  slots : FMap (List Slot) := []
  /-- frames in progress, oldest first, per port -/
  frames : FMap (List Frame) := []
  /-- the binding that each port's rotation served last, plus 1 (05 R179) -/
  rotation : FMap Nat := []
  /-- fills and drops on their way to the merge store, oldest first (05 R181) -/
  fills : List FillReq := []
  /-- port watermarks in stamp layout, all 96 bits (R95) -/
  wm : FMap Nat := []
  /-- the timebase at a LEAVING port's loss (R100) -/
  lossAt : FMap Nat := []
  /-- the stamp of the last released record (R101) -/
  lastRel : Option Stamp := none
  /-- the records offered by the merge lane, by device blocks and by the host lane, oldest first (R92; 06 R208) -/
  lane : List Rec := []
  device : List Rec := []
  host : List Rec := []
  /-- the sequencer cycle number (R108) -/
  cycle : Nat := 0
  /-- replay has set the epoch and SEQ_NEXT (R111) -/
  open_ : Bool := false
  /-- issue holds in force: a section apply at its safe point, a cluster remap (13 R514, 14 R548) -/
  hold : Bool := false
  /-- tie lists, newest first -/
  ties : List TieList := []
  /-- dispatch messages that wait for a credit of their session's channel (05 R185) -/
  dispatch : List Rec := []
  deriving DecidableEq, Repr

/-! ### Dyaris (chapters 04, 05) -/

/-- Thread states (04 Table 04-4). -/
inductive ThState where
  | idle | run | memwait | wait | halt | fault
  deriving DecidableEq, Repr

/-- A variable-class access in flight (04 R122): what its return does. -/
inductive Access where
  /-- a load of `n` bytes into register `rt` -/
  | load (rt addr n : Nat) (sx be : Bool)
  /-- a store of `n` bytes -/
  | store (addr n val : Nat) (be : Bool)
  /-- a lookup of `n` words of a spilled entry at a GDDR7 byte into registers from `rt` -/
  | lookup (rt addr n : Nat)
  /-- a write of one word of a spilled entry at a GDDR7 byte -/
  | spill (addr val : Nat)
  /-- a request whose answer has not been decided yet (MFILL, MDROP, HAND): the register its status goes to -/
  | status (rd : Nat)
  /-- the answer: registers to write, and B -/
  | done (writes : List (Nat × Nat)) (b : Option Bool)
  /-- an error response, with the fault record's ADDR and INFO -/
  | err (addr info : Nat)
  deriving DecidableEq, Repr

/-- A thread's reservation (04 R149, R153; 05 R194). -/
inductive Rsv where
  | loc (c : Nat)
  | remote (k c : Nat)
  deriving DecidableEq, Repr

/-- What a parked thread waits for (04 R146, R149). -/
inductive Park where
  | lock (n : Nat)
  | chan (c : Nat)
  deriving DecidableEq, Repr

/-- A copy outstanding (05 Table 05-16). -/
structure Dma where
  src : Nat
  dst : Nat
  len : Nat
  tag : Nat
  deriving DecidableEq, Repr

/-- A frame descriptor a thread took with FGET and may still use (05 R184): its word, and the slot it names. -/
structure Desc where
  word : Nat
  port : Nat
  stamp : Stamp
  deriving DecidableEq, Repr

/-- A thread (04 R126). -/
structure Thread where
  st : ThState := .idle
  /-- g1 to g31, by number; a register not listed holds 0; g0 is never listed (05 R167) -/
  g : FMap Word := []
  b : Bool := false
  pc : Nat := 0
  wmask : Nat := 0
  pend : Nat := 0
  /-- the engine round at which the timer reaches zero; 0: stopped (05 R197) -/
  timer : Nat := 0
  stage : List Word := []
  rsv : Option Rsv := none
  locks : List Nat := []
  acc : Option Access := none
  park : Option Park := none
  dmas : List Dma := []
  /-- a lost lease's channel, and the tags of failed copies, oldest first, due at an issue boundary (04 R152; 05 R201, R206) -/
  leaseLost : Option Nat := none
  dmaErr : List Nat := []
  haltReq : Bool := false
  haltedInWait : Bool := false
  /-- one instruction, then halt (04 R162); the next instruction issues past its breakpoint -/
  stepping : Bool := false
  passBrk : Bool := false
  rcvLen : Nat := 0
  descs : List Desc := []
  deriving DecidableEq, Repr

/-- A lock of a cluster: its owner (a cluster thread number) and its Saucer, oldest first (04 R145, R146). -/
structure Lock where
  owner : Option Nat := none
  saucer : List Nat := []
  deriving DecidableEq, Repr

/-- A cluster channel: visible messages and messages at the spine port not yet visible, oldest first; the holder of its local
reservation (cluster thread number), and the tick of its grant, from which its lease runs; its Saucer; credits given to writers outside the cluster (04 R148
to R153). -/
structure Chan where
  msgs : List (List Word) := []
  inflight : List (List Word) := []
  holder : Option Nat := none
  granted : Nat := 0
  saucer : List Nat := []
  credits : Nat := 0
  deriving DecidableEq, Repr

/-- The state of a frame binding (05 R179, R180): free, or holding a frame. -/
structure Binding where
  full : Bool := false
  taken : Bool := false
  port : Nat := 0
  stamp : Stamp := 0
  len : Nat := 0
  deriving DecidableEq, Repr

/-- A HAND on its way to Carafe (05 R186). -/
structure HandReq where
  thread : Nat
  seq : Seq
  verdict : Nat
  dead : Bool := false
  deriving DecidableEq, Repr

/-- A session range of the session map (05 R185; 13): sessions `first` to `first + count − 1` belong to the cluster and channel. -/
structure SessRange where
  cluster : Nat
  chan : Nat
  first : Nat
  count : Nat
  index : Nat
  deriving DecidableEq, Repr

/-- An 8-byte word of an engine memory or cluster SRAM that holds an uncorrectable error: cluster × 33 + memory instance, the word's byte address ÷ 8, and whether the
error record of its detection still stands for the access that met it (04 Table 04-7; 14 Table 14-4; notes/assumptions/13). -/
structure BadWord where
  mem : Nat
  word : Nat
  logged : Bool := true
  deriving DecidableEq, Repr

/-- The engines and clusters. Threads by global number; memories by engine or cluster; locks by cluster × 512 + n; channels by
cluster × 256 + c; bindings by engine × 8 + k; wait groups by cluster × 16 + group. -/
structure Dyaris where
  threads : FMap Thread := []
  imem : FMap Memory := []
  dmem : FMap Memory := []
  sram : FMap Memory := []
  locks : FMap Lock := []
  chans : FMap Chan := []
  binds : FMap Binding := []
  /-- stall episodes already reported (04 R141) -/
  stalled : FMap Bool := []
  /-- the tick at which each engine's domain left reset, and at which each supervisor last faulted, plus 1 (04; 14 R531) -/
  base : FMap Nat := []
  supvAt : FMap Nat := []
  /-- HANDs on their way to Carafe, oldest first -/
  hands : List HandReq := []
  sessions : List SessRange := []
  /-- session ranges moved by a cluster remap: from a failed cluster to its fallback with an index offset; none: NOMAP (14 R548) -/
  remaps : FMap (Option (Nat × Nat)) := []
  bad : List BadWord := []
  deriving DecidableEq, Repr

/-! ### Mailboxes (chapter 08) -/

/-- The state of a mailbox (08 R320). -/
inductive MbState where
  | idle | busy | done
  deriving DecidableEq, Repr

/-- A slice's mailbox. -/
structure Mailbox where
  req : Memory := []
  rsp : Memory := []
  irqEn : Bool := false
  st : MbState := .idle
  overrun : Bool := false
  aborted : Bool := false
  lastOp : Nat := 0
  requests : Nat := 0
  /-- the copied request: envelope and payload -/
  cur : List Byte := []
  /-- the place of its GO among all GO writes (R324) -/
  order : Nat := 0
  /-- the owner has begun the request -/
  taken : Bool := false
  /-- an FLR of PF0 cut the request's answer off (R332) -/
  cut : Bool := false
  /-- the owner's response: status and payload -/
  ans : Option (Nat × List Byte) := none
  deriving DecidableEq, Repr

/-! ### Carafe and the Pour gate (chapter 06) -/

/-- A record issued and not yet appended (06 R209, R213): the tick of its issue, and its verdict once fixed. -/
structure Issued where
  r : Rec
  tick : Nat
  verdict : Option Nat := none
  deriving DecidableEq, Repr

/-- A stripe plan (06 R216): its identifier, the mask of its channels and its width. -/
structure Plan where
  id : Nat := 0
  mask : Nat := 0
  width : Nat := 0
  deriving DecidableEq, Repr

/-- What a copy of a page is (06 R218, R222, R578). -/
inductive CopyKind where
  | home | twin | reloc | relocTwin | moved
  deriving DecidableEq, Repr

/-- How far a program has come, and whether the slot reads: `never`, it was never dispatched and reads as ERASED; `unread`, it passed and reads as UNCORR for good. -/
inductive ProgState where
  | waiting | pass | fail | never | unread
  deriving DecidableEq, Repr

/-- One copy of a page: where it lies, and its program's state. -/
structure Copy where
  kind : CopyKind
  ch : Nat
  lun : Nat
  blk : Nat
  page : Nat
  st : ProgState := .waiting
  deriving DecidableEq, Repr

/-- An entry of the closed-epoch table (06 R236). -/
structure Closed where
  epoch : Nat
  index : Nat
  roll : Bool
  deriving DecidableEq, Repr

/-- A closed journal page (06 R215, R234): the fields of Tables 06-4 and 06-5, its records (or its marker block), and its copies.
`live` is false once a failover or a forced promotion has truncated it. -/
structure JPage where
  kind : Nat := 1
  fver : Nat := 1
  pflags : Nat := 0
  journal : Nat := 0
  stripe : Nat := 0
  pos : Nat := 0
  width : Nat := 0
  ch : Nat := 0
  twinCh : Nat := 255
  first : Seq := 0
  last : Seq := 0
  plan : Nat := 0
  recs : List Rec := []
  marker : List Byte := []
  tag : List Byte := []
  nonce : List Byte := []
  keyId : Nat := 0
  hardening : Nat := 0
  chain : List Byte := []
  copies : List Copy := []
  /-- the sequence number above which its records are void, where a truncation falls inside the page (R232; 12 R472) -/
  cut : Option Seq := none
  deriving DecidableEq, Repr

/-- A hot stripe that has been opened (06 R216, R217): its plan, the slots allocated for its data positions, twins and parity, the serials
of its closed pages by position, and its parity page. -/
structure Stripe where
  no : Nat
  plan : Plan
  home : List Copy := []
  twin : List Copy := []
  parity : Copy
  parityIssued : Bool := false
  /-- the parity page failed, and the stripe's twins replace it (R578) -/
  replaced : Bool := false
  pages : List Nat := []
  staged : Bool := true
  migrated : Bool := false
  /-- it was open at a reset and is never completed (R230) -/
  ended : Bool := false
  deriving DecidableEq, Repr

/-- A native wordline of an archive group: its channel, LUN, logical block and first page. -/
structure ASlot where
  ch : Nat
  lun : Nat
  blk : Nat
  page : Nat := 0
  deriving DecidableEq, Repr

/-- An archive stripe (06 R240; 07 R257, R290): its plan, the hot stripe it was migrated from, the serials of its data pages (k × 2⁶⁴ added for the k-th
journal of the part, where that is no longer in use), the channels whose program has passed; the newest STAMP in it; the archive stripes whose lost pages a re-home stripe holds, in rank order. -/
structure ArchStripe where
  plan : Plan
  stripe : Nat := 0
  pages : List Nat := []
  passed : List Nat := []
  newest : Stamp := 0
  ranks : List Nat := []
  /-- the wordlines that hold its pages -/
  slots : List ASlot := []
  /-- a re-home stripe: the channel whose pages of the stripes in `ranks` it holds (07 R290) -/
  part : Option Nat := none
  /-- a stripe of index pages: the affected archive stripes that it lists (07 R292) -/
  index : List Nat := []
  /-- channels of which its page can no longer be read or rebuilt (07 R280) -/
  unread : List Nat := []
  deriving DecidableEq, Repr

/-- A re-home event (07 R292): its anchor entry, the affected archive stripes in rank order once they are known, and how far it is: 0 waiting for the
old plan's hot stripes, 1 written, 2 complete. -/
structure Rehome where
  ch : Nat
  kind : Nat
  lun : Nat
  width : Nat
  plan : Nat
  first : Nat
  index : Nat
  count : Nat
  ranks : List Nat := []
  done : Nat := 0
  deriving DecidableEq, Repr

/-- The page being filled: its records; the seal unit and the nonce that its seal took at page open (11 R445); the format version in force
when it opened (R215). -/
structure OpenPage where
  recs : List Rec := []
  unit : Nat := 0
  nonce : Option (List Byte) := none
  /-- its seal was lost, and is to be started again (11 R446) -/
  unsealed : Bool := false
  fver : Nat := 1
  /-- the cipher context and the key identifier in force when it opened (13 Table 13-8) -/
  ctx : Nat := 0
  keyId : Nat := 0
  deriving DecidableEq, Repr

/-- An open durability change: the change of flush interval or protection mode that waits for a stripe boundary (06 R219, R228). -/
structure Pending where
  prot : Nat
  flush : Nat
  ckpt : Nat
  deriving DecidableEq, Repr

/-- An anchor page on the medium (07 R258, Table 07-4): where it lies, its ANCHOR_SERIAL and bytes, and its program's state. -/
structure Anchor where
  ch : Nat
  lun : Nat
  blk : Nat
  page : Nat
  serial : Nat
  bytes : List Byte
  st : ProgState := .waiting
  deriving DecidableEq, Repr

/-- The fields of a LUN_PTR entry (07 Table 07-4). -/
structure LunPtr where
  stripeBlk : Nat := 0
  stripePg : Nat := 0
  sideBlk : Nat := 0
  sidePg : Nat := 0
  alloc : Nat := 0
  deriving DecidableEq, Repr

/-- A CHECKPOINT that no anchor names yet (07 R258): its sequence number, the serial of the page that holds it, its STRIPE_NO, and LUN_PTR. -/
structure Ckpt where
  seq : Seq
  serial : Nat
  stripe : Nat
  ptrs : FMap LunPtr := []
  deriving DecidableEq, Repr

/-- Carafe, beside its registers. -/
structure Carafe where
  /-- records issued and not yet appended, in sequence order -/
  issued : List Issued := []
  plan : Plan := {}
  /-- hot stripes opened, newest first -/
  stripes : List Stripe := []
  cur : OpenPage := {}
  /-- a member's own records that wait for an open stripe to take them as LOCAL_RECORD marker pages (12 R464) -/
  locals : List Rec := []
  /-- closed pages by PAGE_SERIAL, as staging and NAND hold them -/
  pages : FMap JPage := []
  /-- the serial of the last page of the run of LOCAL_OK pages, whose LAST_SEQ is L (06 R227); none: no page is LOCAL_OK yet -/
  link : Option Nat := none
  /-- that run holds a record, so L has a value -/
  hasL : Bool := false
  /-- the pages have been read and L_r taken in this run (R230) -/
  read : Bool := false
  /-- pages that a REPLAY record makes void, by serial (R232) -/
  voids : List Nat := []
  /-- the tick from which flush points are counted, and of the last one (R219) -/
  flushBase : Nat := 0
  flushAt : Nat := 0
  pending : Option Pending := none
  /-- stripes opened since the last CHECKPOINT -/
  sinceCkpt : Nat := 0
  /-- archive stripes by number, the next one, and the next hot stripe to migrate (R240) -/
  arch : FMap ArchStripe := []
  nextArch : Nat := 0
  nextMig : Nat := 0
  /-- earlier journals, newest first: JOURNAL_ID and archived pages (R243) -/
  earlier : List (Nat × FMap JPage) := []
  /-- segments erased; segments that an applied ARCHIVE_RELEASE covers (R241) -/
  erased : List Nat := []
  released : List Nat := []
  /-- the anchor pages on the medium, newest first -/
  anchors : List Anchor := []
  /-- the always-on island's ANCHOR_SERIAL and copy of an anchor's first 64 bytes; none: it has lost power since (07 R258) -/
  island : Option (Nat × List Byte) := none
  /-- CHECKPOINT records whose page is not LOCAL_OK yet, oldest first -/
  ckpts : List Ckpt := []
  rehomes : List Rehome := []
  /-- JOURNAL_LOSS as it was found: stripe number, and the PAGE_SERIAL range (07 R280) -/
  losses : List (Nat × Nat × Nat) := []
  /-- Carafe has submitted the reads of a migration (true) or of a re-home event (false), and waits for them (07 R260, R288) -/
  reading : Option Bool := none
  /-- slices whose watermark word is due whatever it holds (08 R325); the value last written to each word, plus 1, and the tick of that write, plus 1
  (R228) -/
  wordDue : FMap Bool := []
  wordVal : FMap Nat := []
  wordAt : FMap Nat := []
  deriving DecidableEq, Repr

/-- An egress frame in the Pour gate or a MAC queue (06 R236; 09 R349): `entry` is its place among its ring's entries. -/
structure EFrame where
  seq : Seq := 0
  dep : Seq := 0
  data : List Byte
  ring : Nat
  tag : Nat
  slice : Nat
  stamp : Stamp
  entry : Nat
  gated : Bool
  deriving DecidableEq, Repr

/-- An egress port: held frames, and the tick at which the head became head; released and ungated frames in the MAC queue; the frame in
transmission; the kind sent last (06 R236 to R238). -/
structure EPort where
  held : List EFrame := []
  since : Nat := 0
  gatedQ : List EFrame := []
  ungatedQ : List EFrame := []
  tx : Option EFrame := none
  lastGated : Bool := false
  deriving DecidableEq, Repr

/-! ### NAND channels (chapter 07) -/

/-- Who submitted an operation, and what it is for (07 R260). -/
inductive OpTag where
  /-- copy number `i` of the page with this serial -/
  | page (serial i : Nat)
  | parity (stripe : Nat)
  /-- the wordline of an archive wordline group that begins with this archive stripe -/
  | arch (first : Nat)
  /-- an erase of a HOT block, or of the BLOCK or ARCHIVE block, that its owner has freed -/
  | erase (blk : Nat)
  /-- a block wordline (10 R391) -/
  | wordline (id : Nat)
  /-- the channel's own operation: recovery, identification, records, refresh -/
  | own (n : Nat)
  /-- an anchor page, by ANCHOR_SERIAL and channel (07 R258) -/
  | anchor (serial ch : Nat)
  /-- page `k` of a LUN record version, by RECORD_SERIAL (07 R253) -/
  | record (serial k : Nat)
  /-- a read of block storage: for the command of this number, or for the relocation of a LUN, by its global number -/
  | read (id : Nat)
  | relocRead (lun : Nat)
  /-- the pointer page of the map checkpoint of this WRITE_SERIAL, or the erase of the anchor block before it (10 R396) -/
  | mapPtr (serial : Nat) (erase : Bool)
  /-- a read of the retention sweep (07 R281) -/
  | sweep
  /-- a read of Carafe: copy `i` of a hot page, or channel `c`'s page of archive stripe `a` (07 R288) -/
  | hotRead (serial i : Nat)
  | archRead (a c : Nat)
  deriving DecidableEq, Repr

/-- An operation (07 R260): kind, logical block and page, column, buffer contents and whether the owner has supplied them all, retry start
level, class (0 JOURNAL, 1 HOST, 2 BACKGROUND), and the tick at which it was queued. -/
structure NandOp where
  kind : Nat
  tag : OpTag
  blk : Nat := 0
  /-- `blk` is a physical block: a record block (07 R252) -/
  raw : Bool := false
  page : Nat := 0
  col : Nat := 0
  data : List Byte := []
  filled : Bool := true
  level : Nat := 0
  cls : Nat := 0
  at_ : Nat := 0
  deriving DecidableEq, Repr

/-- An operation that has ended: its status, and for a read the largest corrected count, the level that succeeded and the data. -/
structure NandDone where
  ch : Nat
  lun : Nat
  op : NandOp
  status : Nat
  corrected : Nat := 0
  level : Nat := 0
  data : List Byte := []
  deriving DecidableEq, Repr

/-- What a context does (07 DRP_CTX). -/
inductive CtxSt where
  | idle | issuing | waiting | parked | transfer
  deriving DecidableEq, Repr

/-- A Drip context (07 R260 to R266). -/
structure Ctx where
  op : Option NandOp := none
  queue : List NandOp := []
  st : CtxSt := .idle
  pc : Nat := 0
  bank : Nat := 0
  lc : List Nat := [0, 0, 0, 0]
  stack : List Nat := []
  cursor : Nat := 0
  sr : Nat := 0
  buf : List Byte := []
  /-- the condition and timeout word of the WAITC or DELAY that runs; the status read of a WAITC STATUS has been made in its form -/
  wait : Option (Nat × Nat × Nat) := none
  polled : Bool := false
  /-- the ticks at which the present wait began, of its last status read, of the last command cycle, and at which the operation was dispatched -/
  waitAt : Nat := 0
  pollAt : Nat := 0
  cmdAt : Nat := 0
  began : Nat := 0
  /-- the DIN in transfer: its mode, its length, and where in the buffer it began; decodes that run, oldest first, with the tick at which their last byte came; sense
  captures since the dispatch -/
  din : Option (Nat × Nat × Nat) := none
  decs : List (Nat × Nat × Nat × Nat) := []
  senses : Nat := 0
  /-- the last decode: every codeword corrected, largest corrected count; the last DIN read an ERASED page -/
  decOk : Bool := true
  decBits : Nat := 0
  erased : Bool := false
  /-- operations at the head of the queue that an ABORT completes at the next boundary -/
  aborts : Nat := 0
  /-- the target needs a RESET_LUN, or an IDENT, before the next dispatch; resets that failed in a row -/
  needReset : Bool := false
  needIdent : Bool := false
  resetFails : Nat := 0
  deriving DecidableEq, Repr

/-- A microcode bank (07 R274, Table 07-11): tables by 512 t + 8 r + k, microwords by PC. -/
structure Bank where
  id : Nat := 0
  used : Nat := 0
  entry : FMap Nat := []
  rows : FMap Nat := []
  table : FMap Nat := []
  words : FMap Nat := []
  deriving DecidableEq, Repr

/-- A LUN record version (07 R252, R253): what its ten pages hold, the record block it lies in (0 or 1 of the two), and the pages of it that are not programmed
yet. -/
structure LunRec where
  serial : Nat
  blk : Nat := 0
  left : Nat := 10
  failed : Bool := false
  defects : FMap Nat := []
  map : FMap Nat := []
  logical : Nat := 0
  erases : FMap Nat := []
  days : FMap Nat := []
  deriving DecidableEq, Repr

/-- A substitution that waits for its record version (07 R279): the logical block, its old and new physical blocks, the version's serial, and whether the old block
stays bad. -/
structure Subst where
  blk : Nat
  old : Nat
  new : Nat
  serial : Nat
  broken : Bool
  deriving DecidableEq, Repr

/-- A LUN (07 R252 to R256, R281, R284). `map` holds physical + 1 by logical block. -/
structure Lun where
  valid : Bool := false
  defects : FMap Nat := []
  map : FMap Nat := []
  logical : Nat := 0
  spares : List Nat := []
  erases : FMap Nat := []
  days : FMap Nat := []
  serial : Nat := 0
  /-- the record block in use (0 or 1 of the two), versions written to it, and the versions on the medium, newest first -/
  recBlk : Nat := 0
  recUsed : Nat := 0
  recs : List LunRec := []
  subst : Option Subst := none
  /-- logical blocks that are not erased; of these, those that their owner has freed and whose erase failed (R277) -/
  used : FMap Bool := []
  freed : List Nat := []
  stripeBlk : Option Nat := none
  stripePg : Nat := 0
  sideBlk : Option Nat := none
  sidePg : Nat := 0
  alloc : Nat := 0
  /-- the anchor block in use (0 or 1), and pages written to it -/
  anchorBlk : Nat := 0
  anchorPg : Nat := 0
  sweepDay : Option Nat := none
  sweepAt : Nat := 0
  /-- pages of the block that the sweep reads whose results are still to come -/
  sweepLeft : Nat := 0
  level : Nat := 0
  /-- logical blocks that a sweep found due for refresh (R282) -/
  refresh : List Nat := []
  warned80 : Bool := false
  warned95 : Bool := false
  deriving DecidableEq, Repr

/-- The NAND channels: contexts and LUNs by 16 c + l, banks by 2 c + b. -/
structure Nand where
  ctx : FMap Ctx := []
  lun : FMap Lun := []
  bank : FMap Bank := []
  bus : FMap (Option Nat) := []
  saucer : FMap (List Nat) := []
  rotor : FMap Nat := []
  /-- operations that their owner has issued and no context has queued yet, oldest first: channel, LUN, operation (R272) -/
  todo : List (Nat × Nat × NandOp) := []
  /-- operations that have ended, oldest first, not yet taken by their owner -/
  done : List NandDone := []
  /-- LUN_PTR as it stood when the last stripe was opened (Table 07-4) -/
  ptrsOpen : FMap LunPtr := []
  /-- the life counts have been lost with the island's power, until a boot restores them (R284) -/
  lifeLost : Bool := false
  /-- channels lost, as against retired by request (R287, R288) -/
  lost : List Nat := []
  /-- a NAND_RETIRE_CHANNEL answer that waits for its STRIPE_PLAN record: slice, PLAN_ID -/
  retireAns : List (Nat × Nat) := []
  deriving DecidableEq, Repr

/-! ### Ezoon (chapter 12) -/

/-- A frame of a link end (12 R453): type, flags, payload, and how often it has been resent in a row. -/
structure LinkFrame where
  lseq : Nat := 0
  ftype : Nat
  flags : Nat := 0
  payload : List Byte := []
  tries : Nat := 0
  deriving DecidableEq, Repr

/-- A link end (12 R454 to R457, R463): the last LSEQ sent and the last received in order; frames sent and not acknowledged, and frames that wait for
a credit, oldest first; receive buffers freed since the last frame sent; a NAK to send; the ticks of the last frame sent and of the last progress of
LACK; the values of C and W held for the spacing, and the ticks of the last ones sent. -/
structure LinkEnd where
  sent : Nat := 0
  rcvd : Nat := 0
  unacked : List LinkFrame := []
  waiting : List LinkFrame := []
  freed : Nat := 0
  nak : Bool := false
  txAt : Nat := 0
  ackAt : Nat := 0
  conf : Option Seq := none
  confAt : Nat := 0
  wm : Option Seq := none
  wmAt : Nat := 0
  deriving DecidableEq, Repr

/-- What this device knows of another member, beside EZN_MEMBER (12 R459, R465, R480 to R483): the tick at which a frame was last heard; its
confirmation C and the tick of its last advance; the next record to send to it; its STATE payload as last reported; whether its catch-up
stream has started and began at the oldest retained record. -/
structure Member where
  heard : Option Nat := none
  /-- the tick at which a STATE frame was last heard -/
  stateAt : Option Nat := none
  conf : Option Seq := none
  confAt : Nat := 0
  next : Option Seq := none
  state : List Byte := []
  joining : Bool := false
  started : Bool := false
  backfill : Bool := false
  paidAt : Nat := 0
  deriving DecidableEq, Repr

/-- A claim in progress (12 R470): its epoch, the members that have granted it and the tick at which it was sent. -/
structure Claim where
  epoch : Nat
  votes : List Nat := []
  at_ : Nat := 0
  deriving DecidableEq, Repr

/-- The Ezoon function, beside its registers. -/
structure Ezn where
  links : FMap LinkEnd := []
  members : FMap Member := []
  /-- records received above the next expected one, by frame, oldest first: link end and records (12 R457) -/
  gaps : List (Nat × List Rec) := []
  /-- records received in order and not yet appended; a FLUSH follows them -/
  inbox : List Rec := []
  flush : Bool := false
  /-- the next record that this member expects of the primary -/
  expect : Option Seq := none
  /-- an EPOCH_CLOSE marker page that is not LOCAL_OK yet: its serial, the epoch it closes, and whether this member writes it as the new primary
  (12 R471, R473); the new epoch waits for its marker or for its followers (12 R474, R475) -/
  closing : Option (Nat × Closed × Bool) := none
  /-- a marker page that waits for an open stripe: its block, CLOSING, and the same of `closing` -/
  mark : Option (List Byte × Seq × Closed × Bool) := none
  /-- a MODE_CHANGE record that the new epoch opens with (12 R475) -/
  modeRec : Option (List Byte) := none
  wait : Bool := false
  /-- the ticks of the last STATE sent, of the present election's start, and of the group start; the present claim -/
  hbAt : Nat := 0
  electAt : Nat := 0
  formAt : Nat := 0
  claim : Option Claim := none
  /-- the highest W received from a primary (12 R471); a primary has been heard since the island powered up (12 R469) -/
  lastW : Option Seq := none
  /-- a handover in progress: the mailbox to answer, the target, and whether the target has been named in STATE (12 R477); a raise whose answer waits -/
  handover : Option (Nat × Nat × Bool) := none
  raising : Option Nat := none
  /-- FEATURE_LEVEL records sequenced and not yet in force: level, sequence number (12 R487) -/
  levels : List (Nat × Seq) := []
  deriving DecidableEq, Repr

/-! ### Host queue unit (chapter 09) -/

/-- Ring states (09 Table 09-12). -/
inductive RState where
  | disabled | stopped | run | error | overflow
  deriving DecidableEq, Repr

/-- A ring descriptor (09 Table 09-1). -/
structure RDesc where
  w0 : Nat := 0
  w1 : Nat := 0
  w2 : Nat := 0
  w3 : Nat := 0
  deriving DecidableEq, Repr

/-- A submission entry whose bytes are in the device and which waits for its indirect buffer (09 R355). -/
structure Waiting where
  index : Nat
  bytes : List Byte
  deriving DecidableEq, Repr

/-- An entry that has arrived and whose completion has not been written (09 R368). -/
structure OpenEntry where
  entry : Nat
  fence : Bool
  index : Nat := 0
  tag : Nat := 0
  stamp : Stamp := 0
  deriving DecidableEq, Repr

/-- A submission ring (09 R354 to R363). -/
structure SubRing where
  st : RState := .disabled
  cause : Nat := 0
  h : Nat := 0
  a : Nat := 0
  f : Nat := 0
  push : FMap Byte := []
  pushed : Nat := 0
  /-- granules read and not yet part of an arrived entry: the bytes from H on -/
  got : List Byte := []
  /-- grants and poll reads outstanding -/
  grants : Nat := 0
  polling : Bool := false
  /-- when the last poll completed (R359) -/
  polledAt : Option Nat := none
  retries : Nat := 0
  /-- the head entry is to be read again, since the tick `readAt` (R360) -/
  refetch : Bool := false
  readAt : Nat := 0
  /-- the head entry waits for its indirect read -/
  indirect : Option Waiting := none
  indData : Option (List Byte) := none
  /-- entries given a number so far; those whose completion is not written -/
  count : Nat := 0
  open_ : List OpenEntry := []
  /-- THREAD entries that RGET has not taken (09 Table 09-7), and among them the PADs and refused entries whose return waits for theirs (R356) -/
  ready : List (List Byte × Nat) := []
  last : Seq := 0
  /-- Pour gate reservations of the grants outstanding (09 Table 09-7) -/
  reserved : Nat := 0
  deriving DecidableEq, Repr

/-- What one delivery group carries (09 R365, R366). -/
inductive Group where
  | record (r : Rec)
  | done (opc hi tag lo : Nat) (stamp : Stamp) (ring : Nat)
  | event (kind point lost : Nat)
  | storage (words : List Nat)
  deriving DecidableEq, Repr

/-- A delivery ring (09 R371 to R375, R380, R382). -/
structure DlvRing where
  st : RState := .disabled
  wd : Nat := 0
  rd : Nat := 0
  backlog : List Group := []
  armed : Bool := false
  /-- groups handed over since the last message, and the tick of the first -/
  since : Nat := 0
  sinceAt : Nat := 0
  count : Nat := 0
  last : Seq := 0
  lost : Nat := 0
  /-- ends of the groups written and not yet released -/
  bounds : List Nat := []
  /-- completions held while the ring is stopped -/
  held : List Group := []
  /-- a RING_RESUME waits for the backlog to drain: the point it resumes from -/
  resuming : Option Seq := none
  /-- resume points of the events that stopped the ring; none for the third case of 01 R40 -/
  stops : List (Option Seq) := []
  /-- groups that a restart or resume delivers from staging and the journal, ahead of every later group (R380 to R382); records below
  `floor` are not delivered in this epoch -/
  redo : List Group := []
  floor : Seq := 0
  /-- replay found no durable record: the next restart delivers from the new JOURNAL_START on (06 R579) -/
  anew : Bool := false
  deriving DecidableEq, Repr

/-- What an arrived slice entry still has under way, for a drain (08 R327). -/
structure SliceRun where
  /-- 0 RUN, 1 DRAINING, 2 SQUASHING, 3 STOPPED, 4 DISABLED -/
  st : Nat := 4
  /-- SLICE_RESET in progress: the mailbox to answer, the tick at which it began and the limit in µs -/
  asker : Option Nat := none
  began : Nat := 0
  limit : Nat := 0
  squashed : Nat := 0
  /-- the reset is part of an apply (09 R344) -/
  apply : Bool := false
  deriving DecidableEq, Repr

/-- The host queue unit, beside its registers. Descriptors: submission ring r at r, delivery ring r at 32768 + r. -/
structure HostQ where
  desc : FMap RDesc := []
  sub : FMap SubRing := []
  dlv : FMap DlvRing := []
  slices : FMap SliceRun := []
  /-- groups produced and not yet written: delivery ring and group, oldest first -/
  out : List (Nat × Group) := []
  /-- the arbiter: the ring it visits and the grants left there -/
  arbRing : Nat := 0
  arbLeft : Nat := 0
  deriving DecidableEq, Repr

/-! ### PCIe endpoint (chapter 08) -/

/-- What a device read is for. -/
inductive Purpose where
  | grant (ring index granules : Nat)
  | poll (ring index : Nat)
  | indirect (ring : Nat)
  | storage (id : Nat)
  deriving DecidableEq, Repr

/-- One read request of a device read (08 R311). -/
structure ReadReq where
  addr : Nat
  len : Nat
  /-- its tag, and the tick of its issue -/
  tag : Option Nat := none
  at_ : Nat := 0
  got : List Byte := []
  deriving DecidableEq, Repr

/-- A device read: its purpose, slice, requests and whether the slice has abandoned it. -/
structure HostRead where
  purpose : Purpose
  slice : Nat
  reqs : List ReadReq
  dead : Bool := false
  /-- a squash abandoned it: its tags are quarantined until its completions arrive or time out (R328) -/
  squashed : Bool := false
  deriving DecidableEq, Repr

/-- The configuration-space fields of a function that software writes (08 R297, R304, R310 to R314, R331, R333); their reset values are those of the PCI Express Base
Specification (PRESUMED, notes/assumptions/42). -/
structure PcieFn where
  busMaster : Bool := false
  /-- the BARs, by their 32-bit halves -/
  bars : FMap Nat := []
  /-- MSI-X Enable and Function Mask -/
  msixEn : Bool := false
  msixMask : Bool := false
  mps : Nat := 0
  mrrs : Nat := 2
  relaxed : Bool := true
  ido : Bool := false
  ext10 : Bool := false
  ext14 : Bool := false
  ctoValue : Nat := 0
  ctoDisable : Bool := false
  tph : Bool := false
  d3 : Bool := false
  /-- the AER severity: bit c makes code c of Table 08-16 fatal (08 R339; reset value PRESUMED, notes/assumptions/42) -/
  fatal : Nat := 0xC00000
  /-- an FLR runs, since the tick `flrAt` -/
  flr : Bool := false
  flrAt : Nat := 0
  deriving DecidableEq, Repr

/-- The endpoint, beside its registers. -/
structure Pci where
  fn0 : PcieFn := {}
  fn1 : PcieFn := {}
  reads : List HostRead := []
  /-- quarantined tags, each with the tick at which its request timed out (R315) -/
  quarantine : List (Nat × Nat) := []
  /-- MSI-X tables, by byte of the BAR, with each Mask bit complemented: a vector is masked at reset; and the vectors that are pending (PBA) -/
  msix0 : Memory := []
  msix1 : Memory := []
  pend0 : FMap Bool := []
  pend1 : FMap Bool := []
  /-- PERST# is asserted; the link has been up since cold reset -/
  perst : Bool := false
  trained : Bool := false
  deriving DecidableEq, Repr

/-! ### Block storage (chapter 10) -/

/-- A storage command outstanding (10 R399, R415): its submission ring, entry number, index, TAG, slice, the 64 bytes of its entry and its arrival
stamp. `phase`: 0 arrived, 1 its host data or list is being read, 2 its data is in the device, 3 its units or entries are placed or its reads are submitted, 4 ended. -/
structure BlkCmd where
  id : Nat
  ring : Nat
  entry : Nat
  index : Nat
  tag : Nat
  slice : Nat
  opc : Nat
  nsid : Nat
  bytes : List Byte
  stamp : Stamp
  phase : Nat := 0
  segs : List (Nat × Nat) := []
  data : List Byte := []
  /-- its namespace was write-protected when it arrived (R411) -/
  wp : Bool := false
  /-- SCT, SC and RESULT once it has ended -/
  sct : Nat := 0
  sc : Nat := 0
  result : Nat := 0
  deriving DecidableEq, Repr

/-- What a wordline carries (10 Table 10-2): a data unit, or a trim entry, and the command that placed it; a relocated unit names the map entry it
was copied from. -/
inductive WlItem where
  | unit (nsid lba cmd : Nat) (data : List Byte) (source : Option Nat)
  | trim (nsid slba nlb cmd : Nat)
  deriving DecidableEq, Repr

/-- An open or programming wordline of a BLOCK LUN (10 R390 to R392): what it carries, how often it has been tried. -/
structure Wl where
  ch : Nat := 0
  lun : Nat := 0
  blk : Nat := 0
  page : Nat := 0
  items : List WlItem := []
  tries : Nat := 0
  serial : Nat := 0
  since : Nat := 0
  /-- KIND 2: a piece of the map checkpoint of this WRITE_SERIAL (R396) -/
  map : Option (Nat × List Byte) := none
  deriving DecidableEq, Repr

/-- An entry of a deferred error log (10 Table 10-8). -/
structure DefErr where
  id : Nat
  nsid : Nat
  cause : Nat
  slba : Nat
  nlb : Nat
  stamp : Stamp
  glun : Nat
  deriving DecidableEq, Repr

/-- A slice's deferred error log (10 R407, R408). -/
structure DefLog where
  ents : List DefErr := []
  lost : Nat := 0
  next : Nat := 0
  /-- an error was found since the last STORAGE_DONE of the slice -/
  flag : Bool := false
  deriving DecidableEq, Repr

/-- A map checkpoint: the WRITE_SERIAL it holds up to, its map, how many of its wordlines have not passed, and the locations of those that have (10 R396, R397). -/
structure BlkCkpt where
  serial : Nat
  map : Memory
  left : Nat := 0
  wls : List Nat := []
  deriving DecidableEq, Repr

/-- The block function, beside its registers. -/
structure Blk where
  cmds : List BlkCmd := []
  nextId : Nat := 0
  /-- open wordlines by global LUN; wordlines programming, by number; the last LUN of the rotation -/
  openWl : FMap Wl := []
  prog : FMap Wl := []
  nextWl : Nat := 0
  rot : Nat := 0
  /-- the last WRITE_SERIAL -/
  serial : Nat := 0
  /-- passed wordlines by location: ((channel × 16 + LUN) × 16384 + block) × 4096 + first page -/
  done : FMap Wl := []
  /-- bytes placed since the last checkpoint; the checkpoint being written; the complete ones, newest first; pages written of the map anchor blocks of a LUN, by global number -/
  placed : Nat := 0
  ckpt : Option BlkCkpt := none
  ckpts : List BlkCkpt := []
  anchorPgs : FMap Nat := []
  /-- feature values set since reset (10 R411) -/
  gather : Option Nat := none
  share : Option Nat := none
  logs : FMap DefLog := []
  /-- 512-byte units read and written; unsafe shutdowns; media errors -/
  unitsRead : Nat := 0
  unitsWritten : Nat := 0
  unsafe_ : Nat := 0
  mediaErrs : Nat := 0
  hostReads : Nat := 0
  hostWrites : Nat := 0
  deriving DecidableEq, Repr

/-! ### Cipher units (chapter 11) -/

/-- A cipher context (11 R419). -/
structure CCtx where
  loaded : Bool := false
  locked : Bool := false
  pinned : Bool := false
  source : Nat := 0
  usage : Nat := 0
  attr : Nat := 0
  keyId : Nat := 0
  label : List Byte := []
  key : List Byte := []
  tasks : Nat := 0
  deriving DecidableEq, Repr

/-- A cipher unit: its block of issue-counter values, and its mismatches since its domain powered up (11 R431, R435). -/
structure CUnit where
  next : Nat := 0
  left : Nat := 0
  dups : Nat := 0
  deriving DecidableEq, Repr

/-- A job dispatched and not yet completed (11 R440, R441): its entry, its unit, its status once it has ended, and the context it uses. -/
structure Job where
  queue : Nat
  index : Nat
  unit : Nat
  entry : List Byte
  status : Option Nat := none
  ctx : CCtx := {}
  nonce : List Byte := []
  deriving DecidableEq, Repr

/-- The cipher array, beside its registers. -/
structure Cipher where
  ctxs : FMap CCtx := []
  units : FMap CUnit := []
  jobs : List Job := []
  /-- entries found with OWN = 1 whose rest has been read: queue, index -/
  polled : List (Nat × Nat) := []
  /-- when a queue's next entry was last found with OWN = 0 (R440) -/
  polledAt : FMap Nat := []
  /-- the queue whose job was dispatched last (R449) -/
  rotor : Nat := 63
  deriving DecidableEq, Repr

/-- What the die's fuses hold (11 R418, R425, R430; 13): the serial number, the private identity and import keys, the root key, the restart
fuses burned and the debug lock. -/
structure Fuses where
  serial : Nat := 0
  identity : Nat := 1
  importKey : Nat := 1
  rootKey : List Byte := List.replicate 32 0
  restart : Nat := 0
  debugLock : Bool := false
  deriving DecidableEq, Repr

/-! ### Errors (chapter 14) -/

/-- The units that can be declared fatal (14 Table 14-3). -/
inductive FatalUnit where
  | core | tamp | pcie | cipherUnit (k : Nat) | cipherArray | link (k : Nat) | ezoon | gddr | power
  | laneGroup (g : Nat) | netHalf (h : Nat) | channel (c : Nat) | cluster (k : Nat) | nothing
  deriving DecidableEq, Repr

/-- Error handling, beside the ERR_ registers. -/
structure Errs where
  fatal : List FatalUnit := []
  /-- the device is fatal (14 R533) -/
  device : Bool := false
  /-- the device is halted: after a device fatal, after a power failure, or at TEMP_CRIT (14 R533; 15 R561, R564) -/
  halted : Bool := false
  /-- the reset in progress waits for NAND operations to end: its RESET_TYPE (14 R577) -/
  pend : Option Nat := none
  /-- a DEVICE_RESET that begins at the ACK of its response: its mailbox and RESET_TYPE (14 R541) -/
  ask : Option (Nat × Nat) := none
  /-- the tick of that response's DONE -/
  askAt : Option Nat := none
  /-- the tick at which log 0 took the ESCALATION that is its first record (14 R530) -/
  escAt : Nat := 0
  /-- per log: the timebase second in which CORRECTED errors were last counted, and how many (14 R527) -/
  corr : FMap (Nat × Nat) := []
  /-- GDDR7 devices that are lost (14 R547) -/
  gddrLost : List Nat := []
  deriving DecidableEq, Repr

/-! ### Roaster (chapter 13) -/

/-- A section in force (13 R502): its generation, where it came from (1 image, 2 copy 0, 3 copy 1), its header and payload, live applies of it since
reset, and whether a candidate was skipped, or it was loaded under R503. -/
structure SecForce where
  gen : Nat := 0
  source : Nat := 0
  bytes : List Byte := []
  applies : Nat := 0
  skipped : Bool := false
  crcLocked : Bool := false
  deriving DecidableEq, Repr

/-- A measurement entry (13 R509, Table 13-11). -/
structure Measure where
  kind : Nat
  id : Nat
  len : Nat
  gen : Nat
  hash : List Byte
  deriving DecidableEq, Repr

/-- An APPLY_SECTION that waits for its safe point (13 R513): the section, its source and bytes, the mailbox to answer, and the slices that it drains. -/
structure Apply where
  id : Nat
  gen : Nat
  source : Nat
  bytes : List Byte
  asker : Nat
  slices : List Nat := []
  /-- the tick at which the wait for the safe point began -/
  at_ : Nat := 0
  deriving DecidableEq, Repr

/-- Roaster, beside the RST_ and CFG_ registers. -/
structure Roaster where
  /-- the configuration flash, each byte as its complement: an erased byte reads 0xFF -/
  flash : Memory := []
  /-- GDDR7 and PHY presets (Table 13-8, BOARD) -/
  presets : Memory := []
  secs : FMap SecForce := []
  measures : List Measure := []
  /-- the last attestation record built (R510) -/
  record : List Byte := []
  apply : Option Apply := none
  /-- the boot count held in the always-on island (11 R429); none: lost -/
  island : Option Nat := none
  /-- job queues that are not polled, and contexts that no task dispatches on, while a CIPHER section waits (R515) -/
  quietQ : List Nat := []
  quietC : List Nat := []
  /-- the booted image (R500) -/
  imageGen : Nat := 0
  /-- the fused units that the boot status reports as absent (00 R4) -/
  absent : List FatalUnit := []
  deriving DecidableEq, Repr

/-! ### Power and clocks (chapter 15) -/

/-- Power and clock control, beside the PWR_ and CLK_ registers. -/
structure Power where
  /-- PWR_FAIL_N is asserted; a boot waits at step 1 for it, with the RESET_TYPE it started with (R561) -/
  fail : Bool := false
  hold : Option Nat := none
  /-- THERMTRIP_N is asserted (R564) -/
  trip : Bool := false
  /-- the ticks of the last TEMP_WARN and POWER_WARN -/
  tempAt : Option Nat := none
  powerAt : Option Nat := none
  /-- per clock domain: the tick at which its PLL last lost lock (R556) -/
  pllAt : FMap Nat := []
  /-- SMB_ADDR[2:0] (R569) -/
  smbAddr : Nat := 0
  deriving DecidableEq, Repr

/-- Why a step stops the machine: the manual stops no step, so no meaning answers with a fault. -/
inductive Fault where
  /-- raised by nobody: what no sender can form WellFormed.lean refuses, and a meaning is total on it all the same; safe -/
  | illFormed
  deriving DecidableEq, Repr

/-- Why a step is refused. -/
inductive Refusal where
  /-- raised by an arm of exec whose command has no meaning yet; safe -/
  | notModelled (mnemonic : String)
  deriving DecidableEq, Repr

/-- The state of the block. -/
structure State where
  /-- the commands that wait, first in, first out -/
  pending : List Instr := []
  part : Part := .YL9640
  /-- register fields, by key; a field not listed holds its reset value -/
  regs : FMap Nat := []
  /-- draws of free values so far (the model's own field) -/
  free : Nat := 0
  /-- what the block has put on its interfaces, newest first -/
  out : List Out := []
  /-- GDDR7 (04 Table 04-5) -/
  gddr : Memory := []
  /-- timebase ticks since power-on -/
  ticks : Nat := 0
  tamp : Tamp := {}
  merge : Merge := {}
  dy : Dyaris := {}
  crf : Carafe := {}
  /-- egress ports (06 R236); the closed-epoch table, newest first, in the always-on island -/
  eports : FMap EPort := []
  closed : List Closed := []
  nand : Nand := {}
  ezn : Ezn := {}
  hq : HostQ := {}
  pci : Pci := {}
  blk : Blk := {}
  cipher : Cipher := {}
  fuses : Fuses := {}
  mbox : FMap Mailbox := []
  /-- GO writes taken so far (08 R324) -/
  goCount : Nat := 0
  err : Errs := {}
  ro : Roaster := {}
  pw : Power := {}
  deriving DecidableEq, Repr

/-- The state right after reset. -/
def State.reset : State := {}

end Sys2Proof.Machine
end

