-- ==== Sys2Proof/Machine/Ops.lean ====
section
/-!
DEFINITION. The operations every block shares: register fields, the interfaces' output, free values, the time, the error
logs (14 R518 to R533) and the mailbox service (08 R319 to R324).
-/

namespace Sys2Proof.Machine

/-! ### Register fields -/

/-- The value of a field (00 R14). -/
def State.rd (s : State) (f : Fld) : Nat := FMap.get f.rst s.regs f.key

/-- A field set by hardware, cut to its width. -/
def State.wr (s : State) (f : Fld) (v : Nat) : State := { s with regs := FMap.set f.rst s.regs f.key (v % 2 ^ f.width) }

/-- A one-bit field as a Bool. -/
def State.flag (s : State) (f : Fld) : Bool := s.rd f == 1

/-- A one-bit field set from a Bool. -/
def State.wrB (s : State) (f : Fld) (b : Bool) : State := s.wr f (b2n b)

/-- A signed field (two's complement in the field's width). -/
def State.rdInt (s : State) (f : Fld) : Int := toInt f.width (s.rd f)

/-- One more in a saturating counter (00 R17). -/
def State.count (s : State) (f : Fld) : State := s.wr f (satInc f.width (s.rd f))

/-- `k` more in a saturating counter (00 R17). -/
def State.countBy (s : State) (f : Fld) (k : Nat) : State := s.wr f (satAdd f.width (s.rd f) k)

/-- Bit `i` of a field set or cleared. -/
def State.wrBit (s : State) (f : Fld) (i : Nat) (b : Bool) : State := s.wr f (setBits (s.rd f) i 1 (b2n b))

/-! ### Output and free values -/

/-- Put one item on an interface. -/
def State.emit (s : State) (o : Out) : State := { s with out := o :: s.out }

/-- Function `fn` of the endpoint (0 PF0, 1 PF1), and its MSI-X vectors (08 Table 08-2). -/
def State.pcieFn (s : State) (fn : Nat) : PcieFn := if fn = 0 then s.pci.fn0 else s.pci.fn1
def vectorsOf (fn : Nat) : Nat := if fn = 0 then 288 else 2048

/-- Vector `v` of a function is masked, by its entry's Mask bit or by the Function Mask (08 R297). -/
def State.vectorMasked (s : State) (fn v : Nat) : Bool :=
  (s.pcieFn fn).msixMask || !bitAt (Memory.read (if fn = 0 then s.pci.msix0 else s.pci.msix1) (16 * v + 12)).toNat 0

/-- A function's vectors that are pending; vector `v` pending or not. -/
def State.pendingOf (s : State) (fn : Nat) : FMap Bool := if fn = 0 then s.pci.pend0 else s.pci.pend1
def State.setPend (s : State) (fn v : Nat) (b : Bool) : State :=
  if fn = 0 then { s with pci := { s.pci with pend0 := FMap.set false s.pci.pend0 v b } } else { s with pci := { s.pci with pend1 := FMap.set false s.pci.pend1 v b } }

/-- Send MSI-X vector `v` of function `fn`: a masked one becomes pending; none is sent while MSI-X is disabled (08 R297; PCI Express Base Specification, notes/assumptions/42). -/
def State.msix (s : State) (fn v : Nat) : State :=
  if !(s.pcieFn fn).msixEn then s else if s.vectorMasked fn v then s.setPend fn v true else s.emit (.msix fn v)

/-- Pending vectors that are no longer masked are sent. -/
def State.sendPending (s : State) (fn : Nat) : State :=
  if !(s.pcieFn fn).msixEn then s
  else (s.pendingOf fn).foldl (fun s e => if s.vectorMasked fn e.1 then s else (s.setPend fn e.1 false).emit (.msix fn e.1)) s

/-- The next free value (notes/assumptions/4). -/
def State.freeVal (s : State) : Nat := Config.free s.free

/-- The next free integer (notes/assumptions/4). -/
def State.freeValInt (s : State) : Int := Config.freeInt s.free

/-- A free value has been drawn. -/
def State.drew (s : State) : State := { s with free := s.free + 1 }

/-! ### Units and modes -/

/-- Cluster `k` is present on the part (00 R3). -/
def State.hasCluster (s : State) (k : Nat) : Bool := s.part == .YL9640 || decide (k % 16 < 12)

/-- Network lane `n` is present on the part (00 R3). -/
def State.hasLane (s : State) (n : Nat) : Bool := s.part == .YL9640 || decide (n < 48)

/-- NAND channel `c` is present on the part (00 R3). -/
def State.hasChannel (s : State) (c : Nat) : Bool := s.part == .YL9640 || decide (c < 24)

/-- A unit has been declared fatal and not been reset (14 R532). -/
def State.isFatal (s : State) (u : FatalUnit) : Bool := s.err.fatal.contains u

/-- The device runs: the boot has ended in RUN (13 R505), the device is not fatal (14 R533), and no power failure has been signalled (15 R561). -/
def State.run (s : State) : Bool := s.rd RST_STATUS.STATE == 1 && !s.err.device && !s.flag PWR_STATUS.POWER_FAIL

/-- The device is in recovery mode (13 R508). -/
def State.recovery (s : State) : Bool := s.rd RST_STATUS.STATE == 2

/-- The member sequences: SOLO, PRIMARY or HANDING_OVER (12 R459, R460). -/
def State.sequencing (s : State) : Bool :=
  s.rd EZN_STATUS.ROLE == 0 || s.rd EZN_STATUS.ROLE == 1 || s.rd EZN_STATUS.ROLE == 6

/-- A primary in MIRRORED or QUORUM whose Ezoon domain is fatal issues nothing (14 Table 14-9). -/
def State.ezStop (s : State) : Bool := s.isFatal .ezoon && decide (2 ≤ s.rd EZN_CFG.MEMBERS) && s.rd CRF_CFG.MODE != 0

/-- Intake is open: ports may join and HOSTLANE rings receive (12 R460, R475, R477). -/
def State.intake (s : State) : Bool := s.sequencing && s.rd EZN_STATUS.ROLE != 6 && !s.ezn.wait && !s.ezStop

/-! ### Time (02 R50, R55) -/

/-- One nanosecond in units of the timebase. -/
def tbNs : Nat := 5 * 2 ^ 80

/-- The TAI second of a timebase value. -/
def tbSec (t : Nat) : Nat := t / (tbNs * 1000000000)

/-- A timebase value in stamp layout with class 0, cut to 2⁻¹² ns (00 R10). -/
def tbLayout (t : Nat) : Nat :=
  let u := t / (5 * 2 ^ 68)
  (u / (4096 * 1000000000)) * 2 ^ 48 + (u / 4096 % 1000000000) * 2 ^ 16 + (u % 4096) * 16

/-- The stamp of a timebase value: rounded to the nearest 0.125 ns, halves upward (02 R55), with a class. -/
def stampOf (t cls : Nat) : Stamp :=
  let g := (t + 5 * 2 ^ 76) / (5 * 2 ^ 77)
  (g / 8000000000) * 2 ^ 48 + (g / 8 % 1000000000) * 2 ^ 16 + (g % 8) * 0x200 * 16 + cls % 16

/-- The timebase value that a stamp names. -/
def stampTb (st : Stamp) : Nat :=
  (bits st 48 48 * 1000000000 + bits st 16 32) * tbNs + bits st 4 12 * (5 * 2 ^ 68)

/-- The part of a stamp that orders it: bits [95:4] (00 R10). -/
def stampKey (st : Stamp) : Nat := st / 16

/-- The stamp of the present time with the class of TMP_STATUS.CLASS_NOW (02 R53, R54). -/
def State.nowStamp (s : State) : Stamp := stampOf s.tamp.tb (s.rd TMP_STATUS.CLASS_NOW)

/-! ### Device records -/

/-- A device record enters the host lane ahead of any host record (06 R208); it carries its issue time when issued. -/
def State.deviceRec (s : State) (typ : Nat) (payload : List Byte) (flags : Nat := 0) : State :=
  { s with merge := { s.merge with device := s.merge.device ++ [{ port := 0xFE, typ := typ, payload := payload, flags := flags }] } }

/-! ### Errors (14 R518 to R534) -/

/-- The unit that a fatal error with this code and SUB in a log makes fatal (14 Table 14-3). -/
def unitOf (log code sub : Nat) : FatalUnit :=
  if log = 1 then .tamp
  else if 2 ≤ log ∧ log ≤ 5 then .core
  else if log = 6 ∨ log = 7 then .pcie
  else if log = 8 then (if code = 0x0801 ∨ code = 0x0802 then .cipherUnit sub else .cipherArray)
  else if log = 9 then (if code = 0x0901 then .link sub else .ezoon)
  else if log = 10 then .gddr
  else if log = 11 then .power
  else if log = 12 ∨ log = 13 then (if code = 0x0C01 then .laneGroup sub else .netHalf (log - 12))
  else if 16 ≤ log ∧ log < 48 then .channel (log - 16)
  else if 48 ≤ log ∧ log < 112 then .cluster (log - 48)
  else .nothing

/-- The unit of a record of log 0 is the unit of the log it names (14 Table 14-3, Table 14-4). -/
def unitOfRecord (log code sub info : Nat) : FatalUnit :=
  if log = 0 then
    (if code = 1 then unitOf sub (bits info 0 16) (bits info 16 8)
     else if 2 ≤ code ∧ code ≤ 4 then .cluster sub
     else .core)
  else unitOf log code sub

/-- The log of a unit. -/
def logOf : FatalUnit → Nat
  | .core => 2 | .tamp => 1 | .pcie => 6 | .cipherUnit _ => 8 | .cipherArray => 8 | .link _ => 9 | .ezoon => 9
  | .gddr => 10 | .power => 11 | .laneGroup g => 12 + g / 4 | .netHalf h => 12 + h | .channel c => 16 + c
  | .cluster k => 48 + k | .nothing => 0

/-- The loss of a unit stops the whole device (14 R533). -/
def stopsDevice : FatalUnit → Bool
  | .core | .tamp | .gddr | .power => true
  | _ => false

/-- Send error vector 256 + `v` when it is enabled (14 R534). -/
def State.errVector (s : State) (v : Nat) : State :=
  if bitAt (s.rd ERR_IRQ.EN) v then s.msix 0 (256 + v) else s

/-- The seconds and nanoseconds of a record's TIME (14 R522). -/
def State.timeWord (s : State) : Nat × Nat :=
  let u := s.tamp.tb / tbNs
  (u / 1000000000 % 2 ^ 32, u % 1000000000)

/-- Switch a power domain (15 Table 15-1). -/
def State.power (s : State) (d : Nat) (on : Bool) : State := s.wrBit (PWR_DOM.ON (d / 64)) (d % 64) on

/-- The power domain that goes off with a unit when it is declared fatal (R532); a cluster's goes off once its tables have been read, and a unit whose loss stops the device
keeps its domain until the reset (R533). -/
def domOf : FatalUnit → Option Nat
  | .netHalf h => some (72 + h)
  | .ezoon => some 74
  | .pcie => some 75
  | .cipherArray => some 77
  | _ => none

/-- Every unit whose own loss follows from another unit's (a device-wide stop). -/
def State.declareFatal (s : State) (u : FatalUnit) : State :=
  if u = .nothing ∨ s.isFatal u then s
  else
    let n := logOf u
    let s := { s with err := { s.err with fatal := u :: s.err.fatal, device := s.err.device || stopsDevice u } }
    let s := s.wrBit (ERR_FATAL.FATAL (n / 64)) (n % 64) true
    let s := s.wrB (ERR_STAT.FATAL n) true
    (match domOf u with | some d => s.power d false | none => s).errVector 2

/-- Write a first record (14 R522). -/
def State.firstRecord (s : State) (n code cls sub info : Nat) (inj : Bool) : State :=
  let (sec, ns) := s.timeWord
  let s := ((((s.wr (ERR_FIRST.CODE n) code).wr (ERR_FIRST.CLASS n) cls).wrB (ERR_FIRST.INJECTED n) inj).wr
    (ERR_FIRST.NESTED n) 0).wr (ERR_FIRST.SUB n) sub
  let s := ((s.wr (ERR_FIRST_INFO.INFO n) info).wr (ERR_FIRST_TIME.NS n) ns).wr (ERR_FIRST_TIME.SEC n) sec
  let s := (s.wr (ERR_STAT.FIRST_VALID n) 1).wrBit (ERR_SUM.FIRST (n / 64)) (n % 64) true
  let s : State := if n = 0 then { s with err := { s.err with escAt := s.ticks } } else s
  s.errVector 0

/-- Write a second record (14 R522). -/
def State.secondRecord (s : State) (n code cls sub info : Nat) (inj : Bool) : State :=
  let (sec, ns) := s.timeWord
  let s := ((((s.wr (ERR_SECOND.CODE n) code).wr (ERR_SECOND.CLASS n) cls).wrB (ERR_SECOND.INJECTED n) inj).wr
    (ERR_SECOND.NESTED n) 1).wr (ERR_SECOND.SUB n) sub
  let s := ((s.wr (ERR_SECOND_INFO.INFO n) info).wr (ERR_SECOND_TIME.NS n) ns).wr (ERR_SECOND_TIME.SEC n) sec
  (s.wr (ERR_STAT.SECOND_VALID n) 1).errVector 1

/-- Clear a log's first record (14 R523); Roaster then acknowledges its own ESCALATION record of that log (14 R530). -/
def State.clearFirst (s : State) (n : Nat) : State :=
  let s := (s.wr (ERR_STAT.FIRST_VALID n) 0).wrBit (ERR_SUM.FIRST (n / 64)) (n % 64) false
  if n ≠ 0 ∧ s.rd (ERR_STAT.FIRST_VALID 0) = 1 ∧ s.rd (ERR_FIRST.CODE 0) = 1 ∧ s.rd (ERR_FIRST.SUB 0) = n then
    (s.wr (ERR_STAT.FIRST_VALID 0) 0).wrBit (ERR_SUM.FIRST 0) 0 false
  else s

/-- The codes whose record Roaster acknowledges at once (14 Table 14-4). -/
def ackAtOnce (n code : Nat) : Bool := (n == 2 && code == 0x0201) || (n == 6 && decide (code < 0x17))

/-- A WARNING in log `n` (14 R526). -/
def State.warn (s : State) (n code sub info : Nat) : State :=
  let (sec, ns) := s.timeWord
  let s := ((s.wr (ERR_WARN.CODE n) code).wr (ERR_WARN.SUB n) sub).wr (ERR_WARN.INFO n) info
  let s := ((s.wr (ERR_WARN.VALID n) 1).wr (ERR_WARN_TIME.NS n) ns).wr (ERR_WARN_TIME.SEC n) sec
  (s.count (ERR_CNT.WARNINGS n)).errVector 3

/-- One UNCORRECTED (3), DEFERRED (4) or FATAL (5) error in log `n`, without the escalation (14 R522, R532). -/
def State.logCore (s : State) (n code cls sub info : Nat) (inj : Bool) : State :=
  let s := (s.count (ERR_STAT.TOTAL n)).count (ERR_CNT.UNCORRECTED n)
  let u := unitOfRecord n code sub info
  if s.isFatal u && n != 0 then s
  else if s.rd (ERR_STAT.FIRST_VALID n) = 0 then s.firstRecord n code cls sub info inj
  else if s.rd (ERR_STAT.SECOND_VALID n) = 0 then
    let s := s.secondRecord n code cls sub info inj
    if n = 0 then (if inj then s.warn 0 7 (if code = 1 then sub else 0) (if code = 1 then info % 2 ^ 24 else code + sub % 256 * 65536) else s.declareFatal u) else s.wrB (ERR_STAT.ESCALATED n) true
  else s.count (ERR_STAT.THIRD n)

/-- One error of a class from 3 to 5 in log `n` (14 R522): the log's own record, the escalation to log 0 that a second
record brings, and the fatal unit. -/
def State.logError (s : State) (n code cls sub info : Nat) (inj : Bool := false) : State :=
  let second := n != 0 && s.rd (ERR_STAT.FIRST_VALID n) == 1 && s.rd (ERR_STAT.SECOND_VALID n) == 0
    && !s.isFatal (unitOfRecord n code sub info)
  let s := s.logCore n code cls sub info inj
  let s := if second then s.logCore 0 1 3 n (code % 65536 + (sub % 256) * 65536) inj else s
  let s := if cls = 5 then
      (if inj then s.warn 0 7 n (code % 65536 + (sub % 256) * 65536) else s.declareFatal (unitOfRecord n code sub info))
    else s
  if ackAtOnce n code && s.flag ERR_CFG.AUTO_ACK && !second then s.clearFirst n else s

/-- A nested error (04 R142; 11 R435) escalates also where its log's first record has been acknowledged, so that it takes the first record (14 R523): by an ESCALATION in
log 0, or in log 0 itself by declaring its unit fatal (14 R522; DEDUCED, notes/assumptions/12). -/
def State.nestFirst (s : State) (n : Nat) (u : FatalUnit) (first : Bool) : State :=
  if !first then s
  else if n = 0 then s.declareFatal u
  else (s.wrB (ERR_STAT.ESCALATED n) true).logError 0 1 3 n (s.rd (ERR_FIRST.CODE n) + s.rd (ERR_FIRST.SUB n) % 256 * 65536)

/-- An error of 08 Table 08-16 is reported through AER, with the severity that the function's registers set; AER has no error for code 0x15, and an advisory
one is reported as correctable unless it is set fatal (08 R339; notes/assumptions/42). -/
def State.aer (s : State) (code fn : Nat) : State :=
  let f := s.pcieFn fn
  if 1 ≤ code ∧ code ≤ 3 then s.emit (.aer fn code 0)
  else if code < 0x10 ∨ 0x17 < code ∨ code = 0x15 then s
  else s.emit (.aer fn code (if bitAt f.fatal code then 2 else if code = 0x13 then 0 else 1))

/-- Roaster acknowledges a MEM_UNCORR or READ_UNCORR record once its requester has had its error response (14 Table 14-4). -/
def State.ackMem (s : State) (logs : List Nat) : State :=
  logs.foldl (fun s n =>
    if s.flag ERR_CFG.AUTO_ACK && s.flag (ERR_STAT.FIRST_VALID n) && (s.rd (ERR_FIRST.CODE n) == 0x00F1 || s.rd (ERR_FIRST.CODE n) == 0x0A02) then s.clearFirst n
    else s) s

/-! ### The merge store (03 R93, R94) -/

/-- The slots of source `p` (64 is Tamp), oldest first. -/
def State.slotsOf (s : State) (p : Nat) : List Slot := FMap.get [] s.merge.slots p

/-- The slots of source `p` written back. -/
def State.setSlots (s : State) (p : Nat) (l : List Slot) : State :=
  { s with merge := { s.merge with slots := FMap.set [] s.merge.slots p l } }

/-- The reserve of a source (03 R94). -/
def reserveOf (p : Nat) : Nat := if p = 64 then 64 else 256

/-- Where a new slot of source `p` comes from: its reserve (false), the shared pool (true), or nowhere (03 R94). -/
def State.slotPool (s : State) (p : Nat) : Option Bool :=
  if ((s.slotsOf p).filter (fun t => !t.shared)).length < reserveOf p then some false
  else if 0 < s.rd SEQ_STATUS.SHARED_FREE then some true
  else none

/-- Post a slot of source `p`, taken from the pool that `slotPool` names (03 R93, R94). -/
def State.postSlot (s : State) (p : Nat) (stamp : Stamp) (st : SlotState) (cand : Rec) (shared : Bool)
    (data : List Byte := []) (copied : Bool := true) : State :=
  let s := s.setSlots p (s.slotsOf p ++ [{ stamp := stamp, st := st, shared := shared, cand := cand, data := data, copied := copied }])
  if shared then s.wr SEQ_STATUS.SHARED_FREE (s.rd SEQ_STATUS.SHARED_FREE - 1) else s

/-- A slot returns to its pool (03 R94). -/
def State.freeSlot (s : State) (t : Slot) : State :=
  if t.shared then s.wr SEQ_STATUS.SHARED_FREE (s.rd SEQ_STATUS.SHARED_FREE + 1) else s

/-- Tamp posts the records it has committed, in order, while slots are free and the merge sequencer issues (02 R91; 03 R93, R94). -/
def State.postTamp (s : State) : List Rec → State
  | [] => { s with tamp := { s.tamp with waiting := [] } }
  | r :: rs =>
    match (if s.merge.open_ then s.slotPool 64 else none) with
    | some sh => State.postTamp (s.postSlot 64 r.stamp .ready r sh) rs
    | none => { s with tamp := { s.tamp with waiting := r :: rs } }

/-- Tamp posts what waits, as slots free (03 R94). -/
def State.flushTamp (s : State) : State := s.postTamp s.tamp.waiting

/-- Tamp commits a record and posts it when it can (02 R90; 03 R94). During a reset and until replay ends it keeps the record (02 R91); after that a member that is
not primary discards it (12 R460). -/
def State.tampRec (s : State) (r : Rec) : State := if s.sequencing || !s.merge.open_ then s.postTamp (s.tamp.waiting ++ [r]) else s

/-! ### Mailbox service (08 R319 to R324) -/

/-- The mailbox of slice `sl`. -/
def State.mb (s : State) (sl : Nat) : Mailbox := FMap.get {} s.mbox sl

/-- A mailbox written back. -/
def State.setMb (s : State) (sl : Nat) (m : Mailbox) : State := { s with mbox := FMap.set {} s.mbox sl m }

/-- The owner of an opcode: its range of 08 Table 08-11. -/
def opOwner (op : Nat) : Nat := op / 256

/-- The opcode, length and payload of the copied request (08 Table 08-9). -/
def Mailbox.op (m : Mailbox) : Nat := field m.cur 0 2
def Mailbox.len (m : Mailbox) : Nat := field m.cur 2 2
def Mailbox.payload (m : Mailbox) : List Byte := slice m.cur 16 (m.len)

/-- Slice `sl` holds a request with opcode `op` that its owner has not begun, and no earlier request waits for that owner
(08 R324); the device is in RUN or RECOVERY. A fatal halt ends by a reset request (14 R533). -/
def State.mbReady (s : State) (sl op : Nat) : Bool :=
  let m := s.mb sl
  (s.run || s.recovery || (s.err.halted && op == 0x0500 && !s.flag PWR_STATUS.POWER_FAIL)) && m.st == .busy && !m.taken && m.op == op &&
    s.mbox.all (fun e => e.1 == sl || !(e.2.st == .busy && !e.2.taken && opOwner e.2.op == opOwner op && decide (e.2.order < m.order)))

/-- The statuses other than OK that carry a payload: CHECK_FAILED of APPLY_SECTION and SECTION_COMMIT, CURSOR_AHEAD and CURSOR_GONE of RING_RESTART, CURSOR_GONE of
RING_RESUME (08 R321). -/
def hasPayload (op status : Nat) : Bool :=
  status == 0 || [(0x0200, 0x0102), (0x0202, 0x0101), (0x0400, 0x0103), (0x0400, 0x0104), (0x0402, 0x0102)].contains (op, status)

/-- The owner's response is fixed: MAILBOX_DONE writes it (08 R320, R321). -/
def State.answer (s : State) (sl status : Nat) (payload : List Byte) : State :=
  let m := s.mb sl
  if m.st == .busy then s.setMb sl { m with taken := true, ans := some (status, if hasPayload m.op status then payload else []) } else s

/-- The slice may send requests, and is an admin slice (08 R322, R324). -/
def State.sliceOn (s : State) (sl : Nat) : Bool := if s.recovery then sl == 0 else s.flag (SLC_CFG.EN sl)
def State.sliceAdmin (s : State) (sl : Nat) : Bool := if s.recovery then sl == 0 else s.flag (SLC_CFG.ADMIN sl)

/-- Serve one mailbox request: the checks of 08 R322 in their order, then the owner's own `f` on the payload, which gives
the state and, if the request is answered at once, its status and response payload. -/
def State.serve (s : State) (sl op : Nat) (lenOk : Nat → Bool) (admin recOk : Bool)
    (f : State → List Byte → State × Option (Nat × List Byte)) : State :=
  if !s.mbReady sl op then s
  else if !s.sliceOn sl then s.answer sl 3 []
  else if s.recovery && !recOk then s.answer sl 4 []
  else if !lenOk (s.mb sl).len then s.answer sl 2 []
  else if admin && !s.sliceAdmin sl then s.answer sl 3 []
  else
    let pl := (s.mb sl).payload
    let s := s.setMb sl { s.mb sl with taken := true }
    match f s pl with
    | (s', some (st, rsp)) => s'.answer sl st rsp
    | (s', none) => s'

/-- Unit `u` is withdrawn (R435). -/
def State.unitOut (s : State) (u : Nat) : Bool :=
  bitAt (s.rd (CPH_UNIT_OOS.OOS (u / 64))) (u % 64) || s.isFatal (.cipherUnit u)

/-- The units in service, lowest first. -/
def State.unitsIn (s : State) : List Nat := (List.range 96).filter (fun u => !s.unitOut u)

/-- The entries of a LEAP_TABLE payload (R211). -/
def leapEntries (pl : List Byte) : List (Nat × Int) :=
  (List.range (pl.length / 8)).map (fun i => (field pl (8 * i) 6, toInt 16 (field pl (8 * i + 6) 2)))

end Sys2Proof.Machine
end

