-- ==== Sys2Proof/Machine/Nand.lean ====
section
/-!
DEFINITION. NAND channels as their owners see them (chapter 07): regions, slots of the journal's pSLC region (R251, R254 to R256), and the operations
that wait for a context (R260, R272). The sequencers themselves are in Drip.lean.
-/

namespace Sys2Proof.Machine

def State.ctx (s : State) (c l : Nat) : Ctx := FMap.get {} s.nand.ctx (16 * c + l)
def State.setCtx (s : State) (c l : Nat) (x : Ctx) : State := { s with nand := { s.nand with ctx := FMap.set {} s.nand.ctx (16 * c + l) x } }
def State.lun (s : State) (c l : Nat) : Lun := FMap.get {} s.nand.lun (16 * c + l)
def State.setLun (s : State) (c l : Nat) (x : Lun) : State := { s with nand := { s.nand with lun := FMap.set {} s.nand.lun (16 * c + l) x } }
def State.bank (s : State) (c b : Nat) : Bank := FMap.get {} s.nand.bank (2 * c + b)
def State.setBank (s : State) (c b : Nat) (x : Bank) : State := { s with nand := { s.nand with bank := FMap.set {} s.nand.bank (2 * c + b) x } }

/-- LUN `l` of channel `c` is lost (R286). -/
def State.lunLost (s : State) (c l : Nat) : Bool := bitAt (s.rd (NDC_STAT.LUN_LOST c)) l

/-- The present LUNs of a region that are not lost, in ascending LUN index: H_c for region 1, A_c for 2 (R254, R257). -/
def State.region (s : State) (c r : Nat) : List Nat :=
  (List.range 16).filter (fun l => s.flag (NDC_LUN_CFG.PRESENT c l) && s.rd (NDC_LUN_CFG.REGION c l) == r && !s.lunLost c l)

/-- The channel works: READY, not retired, not fatal (R248, R287). -/
def State.chanUp (s : State) (c : Nat) : Bool := s.flag (NDC_STAT.READY c) && !s.flag (NDC_STAT.RETIRED c) && !s.isFatal (.channel c)

/-- The channel still answers reads: READY, not lost; one that was retired by request does until its data has been re-homed (R288). -/
def State.chanReads (s : State) (c : Nat) : Bool := s.flag (NDC_STAT.READY c) && !s.nand.lost.contains c && !s.isFatal (.channel c)

/-- The physical block of a logical block: the map's, or the record blocks and unmapped blocks as they are numbered (R252). -/
def Lun.phys (x : Lun) (b : Nat) : Nat := let m := FMap.get 0 x.map b; if m = 0 then b else m - 1

/-- The physical block that an operation names. -/
def Lun.physOf (x : Lun) (o : NandOp) : Nat := if o.raw then o.blk else x.phys o.blk

/-- pSLC pages of a block (NDC_GEOM). -/
def State.slcPages (s : State) (c : Nat) : Nat := s.rd (NDC_GEOM.PAGES_NATIVE c) / s.rd (NDC_CFG.BPC c)

/-- The element of a list at index `i` modulo its length. -/
def pick (l : List Nat) (i : Nat) : Option Nat := l[i % l.length]?

/-- The next page of a hot LUN's open stripe block, or of its open side block; a full block is replaced by the erased logical block at the
cursor, anchor blocks skipped (R254 to R256). None: that block is not erased, or the LUN has no map. -/
def State.takeSlot (s : State) (c l : Nat) (side : Bool) : Option (Nat × Nat × State) :=
  let x := s.lun c l
  let blk := if side then x.sideBlk else x.stripeBlk
  let pg := if side then x.sidePg else x.stripePg
  let put := fun (x : Lun) b p => s.setLun c l (if side then { x with sideBlk := some b, sidePg := p } else { x with stripeBlk := some b, stripePg := p })
  let fresh := fun _ : Unit =>
    let b := if x.alloc < 2 then 2 else x.alloc
    if !x.valid || decide (x.logical ≤ b) || FMap.get false x.used b then none
    else some (b, 0, put { x with used := FMap.set false x.used b true, alloc := if b + 1 < x.logical then b + 1 else 2 } b 1)
  match blk with
  | some b => if pg < s.slcPages c then some (b, pg, put x b (pg + 1)) else fresh ()
  | none => fresh ()

/-- The owner of an operation (R260): 0 Carafe, 1 block storage, 2 the channel itself. -/
def OpTag.owner : OpTag → Nat
  | .page .. | .parity _ | .arch _ | .erase _ | .anchor .. | .hotRead .. | .archRead .. => 0
  | .wordline _ | .read _ | .relocRead _ | .mapPtr .. => 1
  | .own _ | .record .. | .sweep => 2

/-- Carafe's programs of HOT pages queued or in progress on a context (R272). -/
def Ctx.hotProgs (x : Ctx) : Nat := ((x.queue ++ x.op.toList).filter (fun o => o.kind == 5 && o.tag.owner == 0)).length

/-- The context can take the operation: its queue of 8 has room, and a HOT program of Carafe is at most the second (R260, R272). -/
def Ctx.takes (x : Ctx) (o : NandOp) : Bool := decide (x.queue.length < 8) && (o.kind != 5 || o.tag.owner != 0 || decide (x.hotProgs < 2))

/-- The channels act as at power failure: on the signal, and when the device is fatal (R272; 06 R233; 14 R533). -/
def State.failing (s : State) : Bool := s.flag CRF_STATUS.POWER_FAIL || s.err.device

/-- Operations that wait for their contexts are queued in the order of issue; an operation behind one of its owner that waits for the same LUN waits too. After a
power-failure signal nothing more is queued (06 R233). -/
def State.fillQueues (s : State) : State :=
  if s.failing then s
  else s.nand.todo.foldl (fun s t =>
    let (c, l, o) := t
    let x := s.ctx c l
    if x.takes o && !s.nand.todo.any (fun u => u.1 == c && u.2.1 == l && u.2.2.tag.owner == o.tag.owner) then s.setCtx c l { x with queue := x.queue ++ [{ o with at_ := s.ticks }] }
    else { s with nand := { s.nand with todo := s.nand.todo ++ [t] } })
    { s with nand := { s.nand with todo := [] } }

/-- An owner submits an operation (R260). -/
def State.submit (s : State) (c l : Nat) (o : NandOp) : State :=
  { s with nand := { s.nand with todo := s.nand.todo ++ [(c, l, o)] } }.fillQueues

/-- A page is read for an owner: in the mode of its region, from the retry level that last succeeded there (R260, R278). -/
def State.readPage (s : State) (c l : Nat) (tag : OpTag) (blk page cls : Nat) : State :=
  s.submit c l { kind := if s.rd (NDC_LUN_CFG.REGION c l) = 1 then 3 else 4, tag := tag, blk := blk, page := page, level := (s.lun c l).level, cls := cls }

/-- Operations with a tag that `p` names have not ended. -/
def State.waitsFor (s : State) (p : OpTag → Bool) : Bool :=
  s.nand.todo.any (fun t => p t.2.2.tag) || s.nand.ctx.any (fun e => (e.2.queue ++ e.2.op.toList).any (fun o => p o.tag))

/-- The results with a tag that `p` names, which their owner takes; a read that was ABORTED, or ended with TIMEOUT or ILLEGAL, is submitted again. -/
def State.takeDone (s : State) (p : OpTag → Bool) : List NandDone × State :=
  let mine := s.nand.done.filter (fun d => p d.op.tag)
  let again := mine.filter (fun d => (d.status == 3 || d.status == 4 || d.status == 5) && s.chanReads d.ch && !s.lunLost d.ch d.lun)
  let s : State := { s with nand := { s.nand with done := s.nand.done.filter (fun d => !p d.op.tag || (!again.isEmpty && !again.contains d)) } }
  if again.isEmpty then (mine, s) else ([], again.foldl (fun s d => s.submit d.ch d.lun d.op) s)

/-- An operation with a tag that `p` names has been dispatched. -/
def State.wasDispatched (s : State) (p : OpTag → Bool) : Bool :=
  s.nand.ctx.any (fun e => e.2.op.elim false (fun o => p o.tag)) || s.nand.done.any (fun d => p d.op.tag && d.status != 4)

/-- Operations with a tag that `p` names that have not been dispatched, and results that no one takes, are gone. -/
def State.forget (s : State) (p : OpTag → Bool) : State :=
  let keep := fun (o : NandOp) => !p o.tag
  { s with nand := { s.nand with todo := s.nand.todo.filter (fun t => keep t.2.2), done := s.nand.done.filter (fun d => keep d.op),
                                 ctx := s.nand.ctx.map (fun (e : Nat × Ctx) => (e.1, { e.2 with queue := e.2.queue.filter keep })) } }

/-- The command that a unit or trim entry of a wordline belongs to. -/
def WlItem.cmd : WlItem → Nat
  | .unit _ _ c _ _ => c
  | .trim _ _ _ c => c

/-- Life of a LUN in percent of its region's endurance (R285). -/
def State.lifePct (s : State) (c l : Nat) : Nat :=
  let x := s.lun c l
  let good := s.rd (NDC_GEOM.BLOCKS c) - (x.defects.filter (fun d => d.2 == 1 || d.2 == 2)).length
  let hot := s.rd (NDC_LUN_CFG.REGION c l) == 1
  let erases := if hot then s.rd (NDC_LIFE.SLC_ERASES c l) else s.rd (NDC_LIFE.NATIVE_ERASES c l)
  let endur := if hot then s.rd (NDC_ENDUR.SLC_CYCLES c) else s.rd (NDC_ENDUR.NATIVE_CYCLES c)
  if good * endur = 0 then 0 else min 255 (100 * erases / (good * endur))

/-- The life percentage is shown, with its warnings at 80 % and 95 %, once each per LUN (R285). -/
def State.showLife (s : State) (c l : Nat) : State :=
  let p := s.lifePct c l
  let s := s.wr (NDC_LUN_STAT.LIFE_PCT c l) p
  let x := s.lun c l
  let s := if 80 ≤ p ∧ !x.warned80 then (s.setLun c l { s.lun c l with warned80 := true }).warn (16 + c) 0x1005 l p else s
  if 95 ≤ p ∧ !x.warned95 then (s.setLun c l { s.lun c l with warned95 := true }).warn (16 + c) 0x1005 l p else s

/-- A life count becomes at least `n` (R284). -/
def State.raiseTo (s : State) (f : Fld) (n : Nat) : State := s.wr f (min (2 ^ 32 - 1) (max (s.rd f) n))

/-- Count `n` erases of a LUN in their mode (R284). -/
def State.countErases (s : State) (c l n : Nat) (native : Bool) : State :=
  let s := s.countBy (NDC_CNT1.ERASES c) n
  (if native then s.countBy (NDC_LIFE.NATIVE_ERASES c l) n else s.countBy (NDC_LIFE.SLC_ERASES c l) n).showLife c l

end Sys2Proof.Machine
end

