-- ==== Sys2Proof/Machine/BlkMap.lean ====
section
/-!
DEFINITION. The block map (10 R387), wordline summaries (R390 to R392), the deferred error log (R407, R408), the loss of a BLOCK LUN (R398) and the map's
rebuild (R396, R397).
-/

namespace Sys2Proof.Machine

/-- The byte of GDDR7 at which the entries of namespace `n` (NSID n + 1) begin: namespaces lie in NSID order (DESIGN CHOICE, notes/assumptions/71). -/
def State.mapBase (s : State) (n : Nat) : Nat :=
  s.rd HQ_BLK_MAP.BASE_4K * 4096 + 8 * ((List.range n).map (fun i => if s.flag (HQ_BLK_NS.EN i) then s.rd (HQ_BLK_NS.SIZE i) else 0)).sum

def State.mapAddr (s : State) (nsid lba : Nat) : Nat := s.mapBase (nsid - 1) + 8 * lba
def State.mapEntry (s : State) (nsid lba : Nat) : Nat := leNat (Memory.readBytes s.gddr (s.mapAddr nsid lba) 8)
def State.setMap (s : State) (nsid lba v : Nat) : State := { s with gddr := Memory.writeBytes s.gddr (s.mapAddr nsid lba) (leBytes 8 v) }

def entValid (e : Nat) : Bool := bitAt e 0
def entPoison (e : Nat) : Bool := bitAt e 1
def entCh (e : Nat) : Nat := bits e 2 5
def entLun (e : Nat) : Nat := bits e 7 4
def entBlk (e : Nat) : Nat := bits e 11 14
def entPage (e : Nat) : Nat := bits e 25 12
def entUnit (e : Nat) : Nat := bits e 37 2

/-- The location fields of an entry. -/
def entLoc (e : Nat) : Nat := e / 4

/-- A valid entry for unit `u` of a wordline. -/
def Wl.ent (w : Wl) (u : Nat) : Nat := 1 + 4 * w.ch + 128 * w.lun + 2 ^ 11 * w.blk + 2 ^ 25 * (w.page + u / 4) + 2 ^ 37 * (u % 4)

/-- The LBAs whose entries are not zero, in NSID and LBA order, with their entries. -/
def State.mapped (s : State) : List (Nat × Nat × Nat) :=
  (List.range 16).flatMap fun n =>
    if !s.flag (HQ_BLK_NS.EN n) then []
    else
      let lo := s.mapBase n
      let hi := lo + 8 * s.rd (HQ_BLK_NS.SIZE n)
      (((s.gddr.filter (fun e => decide (lo ≤ e.1) && decide (e.1 < hi))).map (fun e => (e.1 - lo) / 8)).eraseDups).map
        (fun lba => (n + 1, lba, s.mapEntry (n + 1) lba))

/-- LBAs `slba` on, `nlb` of them, are deallocated. -/
def State.trim (s : State) (nsid slba nlb : Nat) : State :=
  let lo := s.mapAddr nsid slba
  { s with gddr := s.gddr.filter (fun e => decide (e.1 < lo) || decide (lo + 8 * nlb ≤ e.1)) }

/-! ### Wordlines -/

def wlKey (ch lun blk page : Nat) : Nat := ((ch * 16 + lun) * 16384 + blk) * 4096 + page
def Wl.key (w : Wl) : Nat := wlKey w.ch w.lun w.blk w.page

/-- The data units of a wordline, in placement order. -/
def Wl.units (w : Wl) : List WlItem := w.items.filter (fun i => match i with | .unit .. => true | .trim .. => false)

/-- The wordline that holds an entry's unit. -/
def State.wlOf (s : State) (e : Nat) : Option Wl :=
  let b := s.rd (NDC_CFG.BPC (entCh e))
  FMap.look s.blk.done (wlKey (entCh e) (entLun e) (entBlk e) (entPage e - entPage e % b))

/-- The data of an entry's unit on the medium. -/
def State.unitData (s : State) (e : Nat) : Option (List Byte) :=
  (s.wlOf e).bind fun w =>
    match (w.units)[4 * (entPage e - w.page) + entUnit e]? with
    | some (.unit _ _ _ d _) => some d
    | _ => none

/-- Apply a passed wordline's summary to the map, in entry order (R392); a relocated unit only if its LBA still lies where it was copied from (R394), and `live` counts
the copies that are discarded. An entry of NSID 0 is one that a later write has replaced for good. -/
def State.applyItems (s : State) (w : Wl) (live : Bool) : List WlItem → Nat → State
  | [], _ => s
  | .unit nsid lba _ _ src :: is, u =>
    let cur := s.mapEntry nsid lba
    let s := if nsid = 0 then s
      else match src with
        | none => s.setMap nsid lba (w.ent u)
        | some e => if entLoc cur = entLoc e ∧ entValid cur then s.setMap nsid lba (w.ent u + 2 * b2n (entPoison cur))
          else if live then s.count HQ_BLK_CNT1.RELOC_DISCARD else s
    State.applyItems s w live is (u + 1)
  | .trim nsid slba nlb _ :: is, u => State.applyItems (s.trim nsid slba nlb) w live is u

def State.applyWl (s : State) (w : Wl) (live : Bool) : State := s.applyItems w live w.items 0

/-! ### Deferred errors (R407, R408) -/

/-- Add an error to the owner slice's log; DEFERRED goes with the next STORAGE_DONE of that slice. -/
def State.deferred (s : State) (nsid cause slba nlb glun : Nat) : State :=
  let sl := s.rd (HQ_BLK_NS.OWNER (nsid - 1))
  let g : DefLog := FMap.get {} s.blk.logs sl
  let e : DefErr := { id := g.next, nsid := nsid, cause := cause, slba := slba, nlb := nlb, stamp := s.nowStamp, glun := glun }
  let g : DefLog := if g.ents.length < 64 then { g with ents := g.ents ++ [e], next := g.next + 1, flag := true } else { g with lost := satInc 32 g.lost, flag := true }
  let s := { s with blk := { s.blk with logs := FMap.set {} s.blk.logs sl g } }
  s.count HQ_BLK_CNT1.DEFERRED

/-- Runs of consecutive LBAs of one namespace: NSID, first LBA, length. -/
def runsOf : List (Nat × Nat) → List (Nat × Nat × Nat)
  | [] => []
  | (n, a) :: rest =>
    match runsOf rest with
    | (m, b, k) :: more => if m = n ∧ b = a + 1 then (n, a, k + 1) :: more else (n, a, 1) :: (m, b, k) :: more
    | [] => [(n, a, 1)]

/-- POISON every LBA mapped to a place that `p` names, with one deferred error for each run (R398); `cause`: 1 a sweep or refresh, 3 a loss. -/
def State.poison (s : State) (cause glun : Nat) (p : Nat → Bool) : State :=
  let hit := s.mapped.filter (fun x => entValid x.2.2 && p x.2.2)
  let s := hit.foldl (fun s x => s.setMap x.1 x.2.1 (setBits x.2.2 1 1 1)) s
  (runsOf (hit.map (fun x => (x.1, x.2.1)))).foldl (fun s r => s.deferred r.1 cause r.2.1 r.2.2 glun) s

/-- A BLOCK LUN is lost. -/
def State.poisonLun (s : State) (c l : Nat) : State :=
  if s.rd (NDC_LUN_CFG.REGION c l) = 3 then s.poison 3 (16 * c + l) (fun e => entCh e == c && entLun e == l) else s

/-! ### Rebuild (R396, R397) -/

/-- The wordlines of a map checkpoint can be read. -/
def State.ckptReads (s : State) (k : BlkCkpt) : Bool :=
  k.wls.all (fun n => (FMap.look s.blk.done n).elim false (fun w => s.chanReads w.ch && !s.lunLost w.ch w.lun && (s.lun w.ch w.lun).valid))

/-- After a reset: the newest complete checkpoint whose wordlines read well, then the summaries above its serial, in serial order. -/
def State.rebuildMap (s : State) (bad : List Nat) : State :=
  let base := s.mapBase 0
  let ck := s.blk.ckpts.find? (fun k => s.ckptReads k && !bad.contains k.serial)
  let s : State := { s with gddr := match ck with | some k => k.map.foldl (fun m (e : Nat × Byte) => Memory.write m (base + e.1) e.2) s.gddr | none => s.gddr }
  let from_ := match ck with | some k => k.serial | none => 0
  let ws : List Wl := sortBy (fun (a b : Wl) => decide (a.serial ≤ b.serial)) (s.blk.done.map (fun (e : Nat × Wl) => e.2))
  let s : State := (ws.filter (fun (w : Wl) => decide (from_ < w.serial))).foldl (fun (s : State) (w : Wl) => s.applyWl w false) s
  let top := ws.foldl (fun a (w : Wl) => max a w.serial) from_
  let s : State := { s with blk := { s.blk with serial := top } }
  (s.wrB HQ_BLK_STAT.CKPT_FALLBACK (match s.blk.ckpts with | k :: _ => (match ck with | some j => decide (j.serial ≠ k.serial) | none => true) | [] => false)).wr
    HQ_BLK_STAT.READY 1

end Sys2Proof.Machine
end

