-- ==== Sys2Proof/Machine/Crypto.lean ====
section
/-!
DEFINITION. The algorithms that the manual names by their standards (11 Table 11-1, R418): SHA-384 (FIPS 180-4), HKDF (RFC 5869), AES-256
with GCM and GMAC (SP 800-38D), XTS (IEEE 1619) and KWP (RFC 5649), and ECDH and ECDSA on P-384. The manual names the standards and does not
repeat them: what stands here is theirs (PRESUMED, notes/assumptions/30).
-/

namespace Sys2Proof.Machine

/-! ### SHA-384 -/

/-- The round constants. -/
def shaK : List Word :=
  [0x428a2f98d728ae22, 0x7137449123ef65cd, 0xb5c0fbcfec4d3b2f, 0xe9b5dba58189dbbc, 0x3956c25bf348b538, 0x59f111f1b605d019, 0x923f82a4af194f9b, 0xab1c5ed5da6d8118] ++
  [0xd807aa98a3030242, 0x12835b0145706fbe, 0x243185be4ee4b28c, 0x550c7dc3d5ffb4e2, 0x72be5d74f27b896f, 0x80deb1fe3b1696b1, 0x9bdc06a725c71235, 0xc19bf174cf692694] ++
  [0xe49b69c19ef14ad2, 0xefbe4786384f25e3, 0x0fc19dc68b8cd5b5, 0x240ca1cc77ac9c65, 0x2de92c6f592b0275, 0x4a7484aa6ea6e483, 0x5cb0a9dcbd41fbd4, 0x76f988da831153b5] ++
  [0x983e5152ee66dfab, 0xa831c66d2db43210, 0xb00327c898fb213f, 0xbf597fc7beef0ee4, 0xc6e00bf33da88fc2, 0xd5a79147930aa725, 0x06ca6351e003826f, 0x142929670a0e6e70] ++
  [0x27b70a8546d22ffc, 0x2e1b21385c26c926, 0x4d2c6dfc5ac42aed, 0x53380d139d95b3df, 0x650a73548baf63de, 0x766a0abb3c77b2a8, 0x81c2c92e47edaee6, 0x92722c851482353b] ++
  [0xa2bfe8a14cf10364, 0xa81a664bbc423001, 0xc24b8b70d0f89791, 0xc76c51a30654be30, 0xd192e819d6ef5218, 0xd69906245565a910, 0xf40e35855771202a, 0x106aa07032bbd1b8] ++
  [0x19a4c116b8d2d0c8, 0x1e376c085141ab53, 0x2748774cdf8eeb99, 0x34b0bcb5e19b48a8, 0x391c0cb3c5c95a63, 0x4ed8aa4ae3418acb, 0x5b9cca4f7763e373, 0x682e6ff3d6b2b8a3] ++
  [0x748f82ee5defb2fc, 0x78a5636f43172f60, 0x84c87814a1f0ab72, 0x8cc702081a6439ec, 0x90befffa23631e28, 0xa4506cebde82bde9, 0xbef9a3f7b2c67915, 0xc67178f2e372532b] ++
  [0xca273eceea26619c, 0xd186b8c721c0c207, 0xeada7dd6cde0eb1e, 0xf57d4f7fee6ed178, 0x06f067aa72176fba, 0x0a637dc5a2c898a6, 0x113f9804bef90dae, 0x1b710b35131c471b] ++
  [0x28db77f523047d84, 0x32caab7b40c72493, 0x3c9ebe0a15c9bebc, 0x431d67c49c100d4c, 0x4cc5d4becb3e42b6, 0x597f299cfc657e2a, 0x5fcb6fab3ad6faec, 0x6c44198c4a475817]

/-- The initial hash value. -/
def shaInit : List Word :=
  [0xcbbb9d5dc1059ed8, 0x629a292a367cd507, 0x9159015a3070dd17, 0x152fecd8f70e5939,
   0x67332667ffc00b31, 0x8eb44a8768581511, 0xdb0c2e0d64f98fa7, 0x47b5481dbefa4fa4]

def rotr (x : Word) (n : Nat) : Word := x.rotateRight n

/-- One round. -/
def shaRound : List Word → Word → Word → List Word
  | [a, b, c, d, e, f, g, h], k, w =>
    let t1 := h + (rotr e 14 ^^^ rotr e 18 ^^^ rotr e 41) + ((e &&& f) ^^^ (~~~e &&& g)) + k + w
    let t2 := (rotr a 28 ^^^ rotr a 34 ^^^ rotr a 39) + ((a &&& b) ^^^ (a &&& c) ^^^ (b &&& c))
    [t1 + t2, a, b, c, d + t1, e, f, g]
  | l, _, _ => l

/-- The rounds over a window of sixteen schedule words. -/
def shaRounds : List Word → List Word → List Word → List Word
  | [], _, st => st
  | k :: ks, win, st =>
    let w := win.getD 0 0
    let x := win.getD 14 0
    let y := win.getD 1 0
    let nw := (rotr x 19 ^^^ rotr x 61 ^^^ (x >>> 6)) + win.getD 9 0 + (rotr y 1 ^^^ rotr y 8 ^^^ (y >>> 7)) + w
    shaRounds ks (win.tail ++ [nw]) (shaRound st k w)

/-- The blocks of a padded message, `n` of them. -/
def shaBlocks : Nat → List Byte → List Word → List Word
  | 0, _, h => h
  | n + 1, m, h =>
    let win := (List.range 16).map (fun i => BitVec.ofNat 64 (beField m (8 * i) 8))
    shaBlocks n (m.drop 128) (List.zipWith (· + ·) h (shaRounds shaK win h))

/-- The message padded to whole blocks of 128 bytes. -/
def shaPad (m : List Byte) : List Byte :=
  m ++ [0x80] ++ zeros ((239 - m.length % 128) % 128) ++ beBytes 16 (8 * m.length)

/-- The 48-byte digest. -/
def sha384 (m : List Byte) : List Byte :=
  let p := shaPad m
  ((shaBlocks (p.length / 128) p shaInit).take 6).flatMap (fun w => beBytes 8 w.toNat)

/-- HMAC-SHA-384. -/
def hmac384 (key m : List Byte) : List Byte :=
  let k := padTo 128 (if 128 < key.length then sha384 key else key)
  sha384 (k.map (· ^^^ 0x5C) ++ sha384 (k.map (· ^^^ 0x36) ++ m))

/-- The blocks T(i), T(i + 1), … of HKDF-Expand. -/
def hkdfExpand (prk info : List Byte) : Nat → Nat → List Byte → List Byte
  | 0, _, _ => []
  | n + 1, i, t => let t' := hmac384 prk (t ++ info ++ [BitVec.ofNat 8 i]); t' ++ hkdfExpand prk info n (i + 1) t'

/-- HKDF-SHA-384: the first `n` bytes of its output; no salt is 48 zero bytes. -/
def hkdf384 (ikm salt info : List Byte) (n : Nat) : List Byte :=
  let prk := hmac384 (if salt.isEmpty then zeros 48 else salt) ikm
  (hkdfExpand prk info (ceilDiv n 48) 1 []).take n

/-! ### AES-256 -/

/-- Multiplication by x in GF(2⁸). -/
def xtime (a : Byte) : Byte := if a.toNat < 128 then a <<< 1 else (a <<< 1) ^^^ 0x1B

def gmulGo : Nat → Byte → Byte → Byte
  | 0, _, _ => 0
  | n + 1, a, b => (if b.toNat % 2 = 1 then a else 0) ^^^ gmulGo n (xtime a) (b >>> 1)

/-- Multiplication in GF(2⁸). -/
def gmul (a b : Byte) : Byte := gmulGo 8 a b

/-- The inverse in GF(2⁸), 0 for 0: the 254th power. -/
def ginv (a : Byte) : Byte :=
  let a2 := gmul a a; let a4 := gmul a2 a2; let a8 := gmul a4 a4; let a16 := gmul a8 a8
  let a32 := gmul a16 a16; let a64 := gmul a32 a32; let a128 := gmul a64 a64
  gmul (gmul (gmul a2 a4) (gmul a8 a16)) (gmul (gmul a32 a64) a128)

def sboxTable : List Byte := (List.range 256).map fun i =>
  let x := ginv (BitVec.ofNat 8 i)
  x ^^^ x.rotateLeft 1 ^^^ x.rotateLeft 2 ^^^ x.rotateLeft 3 ^^^ x.rotateLeft 4 ^^^ 0x63

def sbox (a : Byte) : Byte := sboxTable.getD a.toNat 0

def invSboxTable : List Byte := (List.range 256).map fun i => BitVec.ofNat 8 ((firstIdx (· == BitVec.ofNat 8 i) sboxTable).getD 0)

def invSbox (a : Byte) : Byte := invSboxTable.getD a.toNat 0

def xorBytes (a b : List Byte) : List Byte := List.zipWith (· ^^^ ·) a b

/-- The key schedule: words from number `i` on, given the words so far, newest last. -/
def aesExpandGo : Nat → Nat → Byte → List (List Byte) → List (List Byte)
  | 0, _, _, ws => ws
  | n + 1, i, rc, ws =>
    let t := ws.getD (i - 1) []
    let t' := if i % 8 = 0 then xorBytes ((t.tail ++ t.take 1).map sbox) [rc, 0, 0, 0]
              else if i % 8 = 4 then t.map sbox else t
    aesExpandGo n (i + 1) (if i % 8 = 0 then xtime rc else rc) (ws ++ [xorBytes (ws.getD (i - 8) []) t'])

/-- The fifteen round keys of a 32-byte key. -/
def aesKeys (key : List Byte) : List (List Byte) :=
  let ws := aesExpandGo 52 8 1 ((List.range 8).map (fun i => slice key (4 * i) 4))
  (List.range 15).map (fun r => (ws.drop (4 * r)).take 4 |>.flatten)

def shiftRows (s : List Byte) : List Byte := (List.range 16).map (fun i => s.getD ((i + 4 * (i % 4)) % 16) 0)
def invShiftRows (s : List Byte) : List Byte := (List.range 16).map (fun i => s.getD ((i + 12 * (i % 4)) % 16) 0)

/-- One column mixed by a circulant row of coefficients. -/
def mixCols (c : List Byte) (s : List Byte) : List Byte := (List.range 16).map fun i =>
  (List.range 4).foldl (fun a j => a ^^^ gmul (c.getD ((j + 4 - i % 4) % 4) 0) (s.getD (4 * (i / 4) + j) 0)) 0

/-- AES-256 of one block, given the round keys. -/
def aesEncrypt (ks : List (List Byte)) (b : List Byte) : List Byte :=
  let s := (List.range 13).foldl (fun s r => xorBytes (mixCols [2, 3, 1, 1] (shiftRows (s.map sbox))) (ks.getD (r + 1) []))
    (xorBytes b (ks.getD 0 []))
  xorBytes (shiftRows (s.map sbox)) (ks.getD 14 [])

/-- Its inverse. -/
def aesDecrypt (ks : List (List Byte)) (b : List Byte) : List Byte :=
  let s := (List.range 13).foldl (fun s r => mixCols [14, 11, 13, 9] (xorBytes ((invShiftRows s).map invSbox) (ks.getD (13 - r) [])))
    (xorBytes b (ks.getD 14 []))
  xorBytes ((invShiftRows s).map invSbox) (ks.getD 0 [])

/-! ### GCM, GMAC, XTS, KWP -/

def ghashMulGo : Nat → Nat → Nat → Nat → Nat
  | 0, _, _, z => z
  | n + 1, x, v, z =>
    ghashMulGo n x (if v % 2 = 1 then (v / 2) ^^^ (0xE1 * 2 ^ 120) else v / 2) (if bitAt x n then z ^^^ v else z)

/-- Multiplication in GF(2¹²⁸) as GHASH orders its bits. -/
def ghashMul (x y : Nat) : Nat := ghashMulGo 128 x y 0

/-- Whole blocks of 16 bytes, the last one padded with zeros. -/
def blocks16 (m : List Byte) : List (List Byte) := (List.range (ceilDiv m.length 16)).map (fun i => slice m (16 * i) 16)

/-- GHASH of the additional data and the text. -/
def ghash (h : Nat) (aad c : List Byte) : Nat :=
  (blocks16 aad ++ blocks16 c ++ [beBytes 8 (8 * aad.length) ++ beBytes 8 (8 * c.length)]).foldl
    (fun y b => ghashMul (y ^^^ beNat b) h) 0

/-- Counter mode from counter `i`. -/
def ctrText (ks : List (List Byte)) (iv m : List Byte) : List Byte :=
  ((List.range (ceilDiv m.length 16)).flatMap (fun i => aesEncrypt ks (iv ++ beBytes 4 (i + 2)))) |> xorBytes m

/-- The tag over additional data and ciphertext. -/
def gcmTag (key iv aad c : List Byte) : List Byte :=
  let ks := aesKeys key
  let h := beNat (aesEncrypt ks (zeros 16))
  xorBytes (beBytes 16 (ghash h aad c)) (aesEncrypt ks (iv ++ beBytes 4 1))

/-- AES-256-GCM with a 12-byte IV: ciphertext and tag. -/
def gcmEncrypt (key iv aad p : List Byte) : List Byte × List Byte :=
  let c := ctrText (aesKeys key) iv p
  (c, gcmTag key iv aad c)

/-- The plaintext, and whether the tag matches. -/
def gcmDecrypt (key iv aad c tag : List Byte) : List Byte × Bool :=
  (ctrText (aesKeys key) iv c, gcmTag key iv aad c == tag)

/-- Multiplication of the XTS tweak by the primitive element. -/
def xtsNext (t : List Byte) : List Byte :=
  let v := 2 * leNat t
  leBytes 16 (if 2 ^ 128 ≤ v then (v - 2 ^ 128) ^^^ 0x87 else v)

def xtsGo (f : List Byte → List Byte) : List (List Byte) → List Byte → List Byte
  | [], _ => []
  | b :: bs, t => xorBytes (f (xorBytes b t)) t ++ xtsGo f bs (xtsNext t)

/-- XTS-AES-256 of whole blocks: bytes 0 to 31 of the key are the data key and 32 to 63 the tweak key (11 R448). -/
def xts (enc : Bool) (key : List Byte) (unit : Nat) (m : List Byte) : List Byte :=
  let ks := aesKeys (key.take 32)
  xtsGo (if enc then aesEncrypt ks else aesDecrypt ks) (blocks16 m) (aesEncrypt (aesKeys (key.drop 32)) (leBytes 16 unit))

/-- One step of the unwrapping of RFC 3394: step `t` of `n` semiblocks. -/
def unwrapStep (ks : List (List Byte)) (n : Nat) (st : List Byte × List (List Byte)) (t : Nat) : List Byte × List (List Byte) :=
  let i := (t - 1) % n
  let b := aesDecrypt ks (xorBytes st.1 (beBytes 8 t) ++ st.2.getD i [])
  (b.take 8, st.2.set i (b.drop 8))

/-- AES-256-KWP unwrapping (RFC 5649) of more than one semiblock: the key, or none when its integrity check fails. -/
def kwpUnwrap (kek w : List Byte) : Option (List Byte) :=
  let ks := aesKeys kek
  let n := w.length / 8 - 1
  let st := ((List.range (6 * n)).reverse.map (· + 1)).foldl (unwrapStep ks n)
    (w.take 8, (List.range n).map (fun i => slice w (8 * (i + 1)) 8))
  let len := beField st.1 4 4
  let body := st.2.flatten
  if st.1.take 4 = [0xA6, 0x59, 0x59, 0xA6] ∧ 8 * (n - 1) < len ∧ len ≤ 8 * n ∧ body.drop len = zeros (8 * n - len) then some (body.take len)
  else none

/-! ### P-384 -/

def p384P : Nat := 2 ^ 384 - 2 ^ 128 - 2 ^ 96 + 2 ^ 32 - 1
def p384B : Nat := 0xb3312fa7e23ee7e4988e056be3f82d19181d9c6efe8141120314088f5013875ac656398d8a2ed19d2a85c8edd3ec2aef
def p384N : Nat := 0xffffffffffffffffffffffffffffffffffffffffffffffffc7634d81f4372ddf581a0db248b0a77aecec196accc52973
def p384G : Nat × Nat :=
  (0xaa87ca22be8b05378eb1c71ef320ad746e1d3b628ba79b9859f741e082542a385502f25dbf55296c3a545e3872760ab7,
   0x3617de4a96262c6f5d9e98bf9292dc29f8f41dbd289a147ce9da3113b5f0b8c00a60b1ce1d7e819d7a431d7c90ea0e5f)

/-- `b` to the power `e` modulo `m`, over the low `n` bits of `e`. -/
def powMod (b m : Nat) : Nat → Nat → Nat
  | 0, _ => 1 % m
  | n + 1, e => let r := powMod (b * b % m) m n (e / 2); if e % 2 = 1 then r * b % m else r

/-- The inverse modulo a prime. -/
def invMod (a m : Nat) : Nat := powMod (a % m) m 384 (m - 2)

/-- Addition of points of the curve; none is the point at infinity. -/
def ecAdd : Option (Nat × Nat) → Option (Nat × Nat) → Option (Nat × Nat)
  | none, q => q
  | p, none => p
  | some (x, y), some (u, v) =>
    if x = u ∧ (y + v) % p384P = 0 then none
    else
      let l := if x = u then (3 * x * x + p384P - 3) * invMod (2 * y) p384P % p384P
               else (v + p384P - y) * invMod (u + p384P - x) p384P % p384P
      let w := (l * l + 2 * p384P - x - u) % p384P
      some (w, (l * (x + p384P - w) + p384P - y) % p384P)

/-- `k` times a point, over the low `n` bits of `k`. -/
def ecMul : Nat → Nat → Option (Nat × Nat) → Option (Nat × Nat)
  | 0, _, _ => none
  | n + 1, k, p => let r := ecMul n (k / 2) (ecAdd p p); if k % 2 = 1 then ecAdd p r else r

/-- The point lies on the curve. -/
def onCurve (x y : Nat) : Bool :=
  decide (x < p384P) && decide (y < p384P) && (y * y % p384P == (x * x * x + p384P * p384P - 3 * x + p384B) % p384P)

/-- An uncompressed SEC 1 point, 97 bytes. -/
def sec1 : Option (Nat × Nat) → List Byte
  | some (x, y) => 4 :: beBytes 48 x ++ beBytes 48 y
  | none => zeros 97

/-- The public key of a private key. -/
def ecPublic (d : Nat) : List Byte := sec1 (ecMul 384 d (some p384G))

/-- ECDH: the shared secret of a private key and a 97-byte public key; none when that is no point of the curve. -/
def ecdh (d : Nat) (pub : List Byte) : Option (List Byte) :=
  let x := beField pub 1 48
  let y := beField pub 49 48
  if pub.take 1 = [4] ∧ onCurve x y then (ecMul 384 d (some (x, y))).map (fun q => beBytes 48 q.1) else none

/-- ECDSA over a 48-byte digest with the per-message number `k`: r and s, 48 bytes each. -/
def ecdsaSign (d k : Nat) (digest : List Byte) : List Byte :=
  let r := (match ecMul 384 k (some p384G) with | some (x, _) => x | none => 0) % p384N
  beBytes 48 r ++ beBytes 48 (invMod k p384N * (beNat digest + r * d) % p384N)

/-- ECDSA verification. -/
def ecdsaOk (pub digest sig : List Byte) : Bool :=
  let r := beField sig 0 48
  let t := beField sig 48 48
  let w := invMod t p384N
  decide (0 < r) && decide (r < p384N) && decide (0 < t) && decide (t < p384N) && pub.take 1 == [4]
    && onCurve (beField pub 1 48) (beField pub 49 48)
    && (match ecAdd (ecMul 384 (beNat digest * w % p384N) (some p384G))
          (ecMul 384 (r * w % p384N) (some (beField pub 1 48, beField pub 49 48))) with
        | some (x, _) => x % p384N == r
        | none => false)

end Sys2Proof.Machine
end

