-- ==== Sys2Proof/Machine/Record.lean ====
section
/-!
DEFINITION. Records as bytes: the header of 06 Table 06-1, the CRC, the types of Table 06-2 (06 R207, R208), and the groups of a route (09 R346).
-/

namespace Sys2Proof.Machine

/-- The payload padded to whole units of 64 bytes (06 R207). -/
def Rec.units (r : Rec) : Nat := ceilDiv r.payload.length 64
def Rec.padded (r : Rec) : List Byte := padTo (64 * r.units) r.payload

/-- Header bytes 0 to 59. -/
def Rec.head60 (r : Rec) : List Byte :=
  leBytes 8 r.seq ++ leBytes 12 r.stamp ++ leBytes 1 r.port ++ leBytes 1 r.typ ++ leBytes 4 r.session ++ leBytes 2 r.payload.length
    ++ leBytes 2 r.verdict ++ leBytes 8 r.depends ++ leBytes 1 r.slice ++ leBytes 1 r.flags ++ zeros 20

/-- The record's CRC. -/
def Rec.crc (r : Rec) : Nat := crc32c (r.head60 ++ r.padded)

/-- The whole record: header and padded payload. -/
def Rec.bytes (r : Rec) : List Byte := r.head60 ++ leBytes 4 r.crc ++ r.padded

/-- Units of a page that the record takes, its header among them. -/
def Rec.size (r : Rec) : Nat := 1 + r.units

/-- Types whose records need a verdict from the session's cluster (06 R209). -/
def needsVerdict (typ : Nat) : Bool := (decide (0x40 ≤ typ) && decide (typ ≤ 0x4F)) || decide (0x70 ≤ typ)

/-- The ROUTE group of a type, and whether it is filtered by session (09 Table 09-2). -/
def routeGroup (typ : Nat) : Option (Nat × Bool) :=
  if 0x70 ≤ typ then some (0, true)
  else if 0x40 ≤ typ ∧ typ ≤ 0x4F then some (1, true)
  else if typ = 0x60 then some (2, false)
  else if typ = 0x50 ∨ typ = 0x51 then some (3, false)
  else if 1 ≤ typ ∧ typ ≤ 3 then some (4, false)
  else if 4 ≤ typ ∧ typ ≤ 0x0B then some (5, false)
  else none

/-- The epoch and index of a sequence number (00 R9). -/
def seqEpoch (q : Seq) : Nat := q / 2 ^ 48
def seqIndex (q : Seq) : Nat := q % 2 ^ 48

end Sys2Proof.Machine
end

