-- ==== Sys2Proof/Machine/Queue.lean ====
section
/-!
DEFINITION. The host queue unit's shared parts: ring descriptors and rings (09 R342 to R346), device writes to host memory (08 R304, R305, R310,
R316, R317), delivery groups (09 R365 to R369) and how a group enters its ring, its backlog or OVERFLOW (09 R372 to R375, R377, R382).
-/

namespace Sys2Proof.Machine

/-! ### Descriptors (09 Table 09-1) -/

def RDesc.base (d : RDesc) : Nat := d.w0
def RDesc.log2 (d : RDesc) : Nat := bits d.w1 0 5
def RDesc.en (d : RDesc) : Bool := bitAt d.w1 5
def RDesc.cls (d : RDesc) : Nat := bits d.w1 7 2
def RDesc.gated (d : RDesc) : Bool := bitAt d.w1 9
def RDesc.ahead (d : RDesc) : Bool := bitAt d.w1 10
def RDesc.slice (d : RDesc) : Nat := bits d.w1 16 8
def RDesc.pair (d : RDesc) : Nat := bits d.w1 32 15
def RDesc.route (d : RDesc) : Nat := bits d.w1 48 6
def RDesc.weight (d : RDesc) : Nat := bits d.w2 0 4
def RDesc.burst (d : RDesc) : Nat := bits d.w2 4 7 + 1
def RDesc.thread (d : RDesc) : Nat := bits d.w2 32 6 * 128 + bits d.w2 38 7
def RDesc.vector (d : RDesc) : Nat := bits d.w2 0 11
def RDesc.irqEn (d : RDesc) : Bool := bitAt d.w2 11
def RDesc.coal (d : RDesc) : Nat := bits d.w2 12 12
def RDesc.sessLo (d : RDesc) : Nat := bits d.w3 0 32
def RDesc.sessHi (d : RDesc) : Nat := bits d.w3 32 32

/-- The number of granules of a ring (09 R342). -/
def RDesc.gran (d : RDesc) : Nat := 2 ^ (d.log2 - 5)

/-- The host address of granule index `i` (09 R342). -/
def RDesc.addr (d : RDesc) (i : Nat) : Nat := d.base + 32 * (i % d.gran)

/-- The index after `i` by `n` granules, modulo 2³². -/
def idxAdd (i n : Nat) : Nat := (i + n) % 2 ^ 32

/-- The distance from index `j` up to index `i`. -/
def idxSub (i j : Nat) : Nat := (i + 2 ^ 32 - j % 2 ^ 32) % 2 ^ 32

/-- The index of the next ring start after the granule at `i`. -/
def RDesc.nextStart (d : RDesc) (i : Nat) : Nat := idxAdd i (d.gran - i % d.gran)

def State.sdesc (s : State) (r : Nat) : RDesc := FMap.get {} s.hq.desc r
def State.ddesc (s : State) (r : Nat) : RDesc := FMap.get {} s.hq.desc (32768 + r)
def State.sub (s : State) (r : Nat) : SubRing := FMap.get {} s.hq.sub r
def State.setSub (s : State) (r : Nat) (x : SubRing) : State := { s with hq := { s.hq with sub := FMap.set {} s.hq.sub r x } }
def State.dlv (s : State) (r : Nat) : DlvRing := FMap.get {} s.hq.dlv r
def State.setDlv (s : State) (r : Nat) (x : DlvRing) : State := { s with hq := { s.hq with dlv := FMap.set {} s.hq.dlv r x } }
def State.slc (s : State) (n : Nat) : SliceRun := FMap.get {} s.hq.slices n
def State.setSlc (s : State) (n : Nat) (x : SliceRun) : State := { s with hq := { s.hq with slices := FMap.set {} s.hq.slices n x } }

/-- The enabled delivery rings, lowest first. -/
def State.dlvRings (s : State) : List Nat := (s.hq.desc.filter (fun e => decide (32768 ≤ e.1) && e.2.en)).map (fun e => e.1 - 32768)

/-- The enabled submission rings, lowest first. -/
def State.subRings (s : State) : List Nat := (s.hq.desc.filter (fun e => decide (e.1 < 32768) && e.2.en)).map (fun e => e.1)

/-- The delivery rings that a record is routed to (09 R346). -/
def State.routes (s : State) (r : Rec) : List Nat :=
  match routeGroup r.typ with
  | none => []
  | some (b, filt) => s.dlvRings.filter fun q =>
      let d := s.ddesc q
      bitAt d.route b && (!filt || (decide (d.sessLo ≤ r.session) && decide (r.session ≤ d.sessHi)))

/-! ### Device writes to host memory -/

/-- PF1 may issue TLPs: its link is up, it is a bus master, and no FLR, endpoint reset or isolation holds it (08 R331, R333). -/
def State.pf1On (s : State) : Bool :=
  s.flag PCI_LINK.UP && s.pci.fn1.busMaster && !s.pci.fn1.flr && !s.pci.fn1.d3 && !s.pci.perst && !s.isFatal .pcie

/-- The TLPs of a write: at most `mps` bytes each, none across a 4 KiB boundary (08 R310). -/
def tlps (mps : Nat) : Nat → Nat → List Byte → List (Nat × List Byte)
  | 0, _, _ => []
  | f + 1, a, d =>
    if d.isEmpty then []
    else let n := min mps (4096 - a % 4096); (a, d.take n) :: tlps mps f (a + n) (d.drop n)

/-- The PASID that a slice's requests carry (08 R316). -/
def State.pasid (s : State) (sl : Nat) : Option Nat := if s.flag (SLC_CFG.PASID_EN sl) then some (s.rd (SLC_CFG.PASID sl)) else none

/-- The steering tag of a hinted write (08 R317). -/
def State.hint (s : State) (sl : Nat) : Option Nat := if s.flag (SLC_CFG.TPH_EN sl) && s.pci.fn1.tph then some (s.rd (SLC_CFG.ST sl)) else none

/-- Write to host memory for slice `sl`; `ro` asks for Relaxed Ordering, which the host must have enabled (08 R304), and `hinted` marks a
delivery entry or watermark word write (08 R317). Writes leave the endpoint at once (DESIGN CHOICE, notes/assumptions/40). -/
def State.hostWrite (s : State) (sl addr : Nat) (data : List Byte) (ro hinted : Bool) : State :=
  if !s.pf1On then s
  else (tlps (128 * 2 ^ s.pci.fn1.mps) data.length addr data).foldl (fun s t =>
    s.emit (.hostWrite sl t.1 t.2 (ro && s.pci.fn1.relaxed) (ro && s.pci.fn1.ido) (s.pasid sl) (if hinted then s.hint sl else none))) s

/-! ### Delivery groups -/

/-- Word 0 of an entry handed to its reader: OWN = 0 (09 R347). -/
def word0 (opc len tag hi : Nat) : Nat := (len % 16) * 16 + opc * 256 + (tag % 65536) * 65536 + hi * 2 ^ 32

/-- The published watermark covers a sequence number (01 R33). -/
def State.durable (s : State) (q : Seq) : Bool := s.flag CRF_STATUS.WM_VALID && decide (q ≤ s.rd CRF_WMARK.SEQ)

/-- Payload units from `a` to `b` of a record. -/
def Rec.unitRange (r : Rec) (a b : Nat) : List Byte := (r.padded.drop (64 * a)).take (64 * (b - a))

/-- Continuations of a record's REC entry (09 R365). -/
def Rec.conts (r : Rec) : Nat := ceilDiv (r.units - 7) 7

/-- The TAG of a record's entries on a ring of slice `sl` (09 R365): the submitting entry's on the record's own slice, else 0. `unknown` stands for the
tag of a control record whose entry a reset has forgotten. -/
def Rec.tagFor (r : Rec) (sl unknown : Nat) : Nat :=
  if r.port = 0xFF ∧ r.slice = sl then (r.tag.getD unknown) % 65536 else 0

/-- The REC entry (09 Table 09-9). -/
def State.recEntry (s : State) (r : Rec) (q tag : Nat) : List Byte :=
  let u := min r.units 7
  let sl := (s.ddesc q).slice
  leBytes 8 (word0 0x80 (2 + 2 * u) tag (r.typ + b2n (s.durable r.seq) * 256 + r.conts * 512))
    ++ leBytes 8 r.seq ++ leBytes 12 r.stamp ++ leBytes 1 r.port ++ leBytes 1 r.flags ++ leBytes 2 r.verdict ++ leBytes 4 r.session
    ++ leBytes 2 r.payload.length ++ leBytes 1 r.slice ++ zeros 1 ++ leBytes 8 r.depends ++ leBytes 4 (s.rd (SLC_STAT.DELIVERY_EPOCH sl))
    ++ leBytes 4 r.crc ++ leBytes 4 ((s.dlv q).count + 1) ++ zeros 4 ++ r.unitRange 0 u

/-- Continuation `k` of a record (09 Table 09-10). -/
def Rec.contEntry (r : Rec) (k tag : Nat) : List Byte :=
  let b := min r.units (7 * k + 7)
  leBytes 8 (word0 0x81 (2 + 2 * (b - 7 * k)) tag k) ++ leBytes 8 r.seq ++ zeros 48 ++ r.unitRange (7 * k) b

/-- The entries of a group as ring `q` shows them; bytes are taken when the group is written (09 R365, R366, R373). -/
def State.groupEntries (s : State) (q : Nat) : Group → List (List Byte)
  | .record r =>
    let tag := r.tagFor (s.ddesc q).slice s.freeVal
    s.recEntry r q tag :: (List.range r.conts).map (fun k => r.contEntry (k + 1) tag)
  | .done opc hi tag lo stamp ring =>
    [leBytes 8 (word0 opc 1 tag hi) ++ leBytes 8 lo ++ leBytes 12 stamp ++ leBytes 4 ring]
  | .event kind point lost =>
    [leBytes 8 (word0 0x94 1 0 kind) ++ leBytes 8 point ++ leBytes 4 (s.rd (SLC_STAT.DELIVERY_EPOCH (s.ddesc q).slice)) ++ leBytes 4 lost ++ zeros 8]
  | .storage ws => [ws.flatMap (leBytes 8)]

/-- Granules of a group. -/
def Group.gran : Group → Nat
  | .record r => 2 + 2 * r.units + 2 * r.conts
  | .done .. => 1
  | .event .. => 1
  | .storage ws => ceilDiv ws.length 4

/-- Free granules of delivery ring `q`. -/
def State.dlvFree (s : State) (q : Nat) : Nat := (s.ddesc q).gran - idxSub (s.dlv q).wd (s.dlv q).rd

/-- The group of `k` granules fits in the ring now (09 R372). -/
def State.fits (s : State) (q k : Nat) : Bool :=
  let g := (s.ddesc q).gran
  let p := (s.dlv q).wd % g
  if p + k ≤ g then decide (k ≤ s.dlvFree q) else decide (g - p + k ≤ s.dlvFree q)

/-- Entries written from an address on: the bodies, then word 0 of each continuation, then word 0 of the first (09 R369). -/
def State.writeEntries (s : State) (sl : Nat) (at_ : Nat) (es : List (List Byte)) : State :=
  let place := es.foldl (fun (acc : Nat × List (Nat × List Byte)) e => (acc.1 + e.length, acc.2 ++ [(acc.1, e)])) (at_, [])
  let s := place.2.foldl (fun s p => s.hostWrite sl (p.1 + 8) (p.2.drop 8) true true) s
  (place.2.tail ++ place.2.take 1).foldl (fun s p => s.hostWrite sl p.1 (p.2.take 8) false true) s

/-- The interrupt of an armed ring (09 R375): the count has been reached. -/
def State.dlvIrq (s : State) (q : Nat) : State :=
  let x := s.dlv q
  let d := s.ddesc q
  if x.armed && d.irqEn && decide (max d.coal 1 ≤ x.since) then
    (s.setDlv q { x with armed := false, since := 0 }).msix 1 d.vector
  else s

/-- A PAD at the write index (09 R343, R372). -/
def State.writePad (s : State) (q : Nat) : State :=
  let x := s.dlv q
  let d := s.ddesc q
  let s := s.hostWrite d.slice (d.addr x.wd) (leBytes 8 (word0 0 1 0 0)) false true
  let wd := d.nextStart x.wd
  s.setDlv q { x with wd := wd, bounds := x.bounds ++ [wd] }

/-- Write a group that fits (09 R369, R372). -/
def State.writeGroup (s : State) (q : Nat) (g : Group) : State :=
  let d := s.ddesc q
  let s := if (s.dlv q).wd % d.gran + g.gran ≤ d.gran then s else s.writePad q
  let x := s.dlv q
  let s := s.writeEntries d.slice (d.addr x.wd) (s.groupEntries q g)
  let s := match g with
    | .record r => if r.tag.isNone then s.drew else s
    | _ => s
  let wd := idxAdd x.wd g.gran
  let x := { x with wd := wd, bounds := x.bounds ++ [wd], since := x.since + 1, sinceAt := if x.since = 0 then s.ticks else x.sinceAt }
  let x := match g with
    | .record r => { x with count := (x.count + 1) % 2 ^ 32, last := r.seq }
    | _ => x
  (s.setDlv q x).dlvIrq q

/-- Bytes that a ring's backlog holds. -/
def DlvRing.backlogBytes (x : DlvRing) : Nat := (x.backlog.map (fun g => 32 * g.gran)).sum

/-- Bytes that a slice's backlog holds, and the whole pool's. -/
def State.sliceBacklog (s : State) (sl : Nat) : Nat :=
  ((s.dlvRings.filter (fun q => (s.ddesc q).slice == sl)).map (fun q => (s.dlv q).backlogBytes)).sum
def State.poolUsed (s : State) : Nat := (s.hq.dlv.map (fun e => e.2.backlogBytes)).sum

/-- The backlog takes `n` more bytes of a slice (09 R373). -/
def State.backlogOk (s : State) (sl n : Nat) : Bool :=
  decide (s.sliceBacklog sl + n ≤ s.rd (HQ_SBKLG.LIMIT_MIB sl) * 2 ^ 20) && decide (s.poolUsed + n ≤ s.rd HQ_BKLG.SIZE_4K * 4096)

/-- A ring in OVERFLOW takes no group: a completion is lost and counted, a record is left undelivered (09 R374). -/
def State.lose (s : State) (q : Nat) (g : Group) : State :=
  match g with
  | .record _ => s
  | _ => s.setDlv q { s.dlv q with lost := (s.dlv q).lost + 1 }

/-- Move groups from the backlog, then from what a restart delivers, into the ring while they fit (09 R373, R380, R382). -/
def State.pump (s : State) (q : Nat) : Nat → State
  | 0 => s
  | n + 1 =>
    let x := s.dlv q
    match x.backlog, x.redo with
    | g :: gs, _ => if s.fits q g.gran then State.pump ((s.setDlv q { x with backlog := gs }).writeGroup q g) q n else s
    | [], g :: gs => if s.fits q g.gran then State.pump ((s.setDlv q { x with redo := gs }).writeGroup q g) q n else s
    | [], [] => s

def State.pumpAll (s : State) (q : Nat) : State :=
  if (s.dlv q).st = .run ∨ (s.dlv q).st = .overflow then s.pump q ((s.dlv q).backlog.length + (s.dlv q).redo.length) else s

/-- A record below the one that delivery starts with in this epoch is not delivered (09 R381). -/
def DlvRing.skips (x : DlvRing) : Group → Bool
  | .record r => decide (r.seq < x.floor)
  | _ => false

/-- A group is handed to its ring (09 R372 to R374, R377): the ring, the backlog, or OVERFLOW; a stopped ring keeps completions. -/
def State.deliver (s : State) (q : Nat) (g : Group) : State :=
  let x := s.dlv q
  let d := s.ddesc q
  match x.st with
  | .disabled | .error => s
  | .stopped => (match g with
    | .record _ => s
    | _ => s.setDlv q { x with held := x.held ++ [g] })
  | .overflow => s.lose q g
  | .run =>
    if x.skips g then s
    else if !x.redo.isEmpty then (s.setDlv q { x with redo := x.redo ++ [g] }).pumpAll q
    else if x.backlog.isEmpty && s.fits q g.gran then s.writeGroup q g
    else if s.backlogOk d.slice (32 * g.gran) then s.setDlv q { x with backlog := x.backlog ++ [g] }
    else
      let s := s.setDlv q { x with st := .overflow }
      ((s.count HQ_CNT1.OVERFLOWS).logError 5 0x0504 3 0 q).lose q g

/-- A group is produced for ring `q`: it waits its turn to be handed over (DELIVER_GROUP). -/
def State.produce (s : State) (q : Nat) (g : Group) : State := { s with hq := { s.hq with out := s.hq.out ++ [(q, g)] } }

/-! ### Completions -/

/-- FENCE_DONE of every fence that no open entry precedes (09 R368). -/
def State.fences (s : State) (r : Nat) : Nat → State
  | 0 => s
  | n + 1 =>
    let x := s.sub r
    match x.open_ with
    | e :: es =>
      if e.fence then
        State.fences ((s.setSub r { x with open_ := es }).produce (s.sdesc r).pair (.done 0x93 0 e.tag e.index e.stamp r)) r n
      else s
    | [] => s

def State.fenceAll (s : State) (r : Nat) : State := s.fences r (s.sub r).open_.length

/-- The completion of entry number `entry` of submission ring `r`; an entry that is no longer open (it arrived before a device reset, or a squash
discarded it) has none (09 R366, R378; 08 R328). -/
def State.complete (s : State) (r entry : Nat) (g : Group) : State :=
  let x := s.sub r
  if x.open_.any (fun e => e.entry == entry) then
    ((s.setSub r { x with open_ := dropFirst (fun e => e.entry == entry) x.open_ }).produce (s.sdesc r).pair g).fenceAll r
  else s

/-! ### What registers show -/

/-- The most read requests outstanding (08 Table 08-6). -/
def State.tagLimit (s : State) : Nat :=
  if s.flag PCI_LINK.FLIT && s.pci.fn1.ext14 then 8192 else if s.pci.fn1.ext10 then 768 else 256

/-- RING_RSV and SLICE_MAX, scaled to the limit (08 R313). -/
def State.ringRsv (s : State) : Nat := s.rd PCI_TAG_CFG.RING_RSV * s.tagLimit / 8192

def State.sliceMax (s : State) : Nat := s.rd PCI_TAG_CFG.SLICE_MAX * s.tagLimit / 8192

/-- Reads of ring entries and of egress or indirect data use the reserve (08 R313; 09 R350). -/
def Purpose.reserved : Purpose → Bool
  | .storage _ => false
  | _ => true

/-- Tags held by a list of reads. -/
def heldTags (l : List HostRead) : List Nat := l.flatMap (fun h => h.reqs.filterMap (fun q => if q.len = q.got.length then none else q.tag))

/-- Tags that a slice holds (SLC_STAT.TAGS). -/
def State.sliceTags (s : State) (sl : Nat) : Nat := (heldTags (s.pci.reads.filter (fun h => h.slice == sl))).length

/-- HOSTLANE entries arrived and not yet offered. -/
def State.arrivalQ (s : State) : Nat := s.merge.host.length

/-- Frames and buffer bytes of the Pour gate held or reserved (06 R239): held frames, arrived EGRESS entries, and grants outstanding. -/
def State.gateUse (s : State) : Nat × Nat :=
  let held := s.eports.flatMap (fun e => e.2.held)
  let wait := (s.merge.host.filter (fun r => r.typ == 0x60)).length + (s.hq.sub.map (fun e => e.2.reserved)).sum
  (held.length + wait, (held.map (fun f => f.data.length)).sum + 9216 * wait)

/-- The Pour gate can reserve `n` frames more. -/
def State.gateRoom (s : State) (n : Nat) : Bool := decide (s.gateUse.1 + n ≤ 262144) && decide (s.gateUse.2 + 9216 * n ≤ 2 ^ 30)

def State.eport (s : State) (p : Nat) : EPort := FMap.get {} s.eports p

def RState.code : RState → Nat
  | .disabled => 0 | .stopped => 1 | .run => 2 | .error => 3 | .overflow => 4

end Sys2Proof.Machine
end

