-- ==== Sys2Proof/Machine/Link.lean ====
section
/-!
DEFINITION. Ezoon link ends (chapter 12): frame headers, credits, the frames a member sends, and its STATE payload (12 R452 to R457, R461).
-/

namespace Sys2Proof.Machine

def State.ezl (s : State) (k : Nat) : LinkEnd := FMap.get {} s.ezn.links k
def State.setEzl (s : State) (k : Nat) (x : LinkEnd) : State := { s with ezn := { s.ezn with links := FMap.set {} s.ezn.links k x } }
def State.ezm (s : State) (m : Nat) : Member := FMap.get {} s.ezn.members m
def State.setEzm (s : State) (m : Nat) (x : Member) : State := { s with ezn := { s.ezn with members := FMap.set {} s.ezn.members m x } }

/-- The Ezoon domain works: the device runs, and neither the domain nor the link end is fatal (14 R532, R533). -/
def State.ezOn (s : State) (k : Nat) : Bool := s.run && !s.isFatal .ezoon && !s.isFatal (.link k)

/-- The link ends that the configuration gives: 1 and 3 only where their bundle is split (12 R450). -/
def State.linkPresent (s : State) (k : Nat) : Bool :=
  s.flag (EZN_LINK_CFG.EN k) && (k == 0 || k == 2 || (k == 1 && s.flag EZN_CFG.SPLIT_A) || (k == 3 && s.flag EZN_CFG.SPLIT_B))

def State.linkState (s : State) (k : Nat) : Nat := s.rd (EZN_LINK_STAT.STATE k)
def State.peer (s : State) (k : Nat) : Nat := s.rd (EZN_LINK_CFG.PEER k)
def State.me (s : State) : Nat := s.rd EZN_CFG.MEMBER
def State.groupN (s : State) : Nat := s.rd EZN_CFG.MEMBERS

/-- The UP link ends to member `m`, lowest first. -/
def State.linksTo (s : State) (m : Nat) : List Nat :=
  (List.range 4).filter (fun k => s.linkState k == 3 && s.peer k == m && s.ezOn k)

/-- The other members. -/
def State.others (s : State) : List Nat := (List.range s.groupN).filter (· != s.me)

/-- A frame of link end `k` leaves (12 Table 12-2, R453): the freed buffers, a pending NAK and LACK ride in its header. -/
def State.putFrame (s : State) (k : Nat) (f : LinkFrame) : State :=
  let x := s.ezl k
  let h := leBytes 1 f.ftype ++ leBytes 1 (s.rd EZN_STATUS.LEVEL) ++ leBytes 1 s.me ++ leBytes 1 (s.peer k) ++ leBytes 2 f.payload.length
    ++ leBytes 1 (f.flags + b2n x.nak) ++ leBytes 1 x.freed ++ leBytes 4 f.lseq ++ leBytes 4 x.rcvd ++ leBytes 2 (s.rd EZN_STATUS.EPOCH) ++ zeros 2
    ++ leBytes 8 (s.rd EZN_GROUP_ID.ID)
  let p := if f.payload.isEmpty then [] else f.payload ++ leBytes 4 (crc32c f.payload)
  (s.setEzl k { x with freed := 0, nak := false, txAt := s.ticks }).emit (.ezoon k (h ++ leBytes 4 (crc32c h)) p)

/-- Frames that wait for a credit leave while credits last (12 R455). -/
def State.drainLink (s : State) (k : Nat) : Nat → State
  | 0 => s
  | n + 1 =>
    let x := s.ezl k
    let c := s.rd (EZN_LINK_STAT.CREDITS k)
    match x.waiting with
    | [] => s
    | f :: fs =>
      if c = 0 then s
      else
        let f := { f with lseq := x.sent + 1 }
        let s := (s.wr (EZN_LINK_STAT.CREDITS k) (c - 1)).setEzl k { x with sent := x.sent + 1, waiting := fs, unacked := x.unacked ++ [f],
                                                                            ackAt := if x.unacked.isEmpty then s.ticks else x.ackAt }
        State.drainLink (s.putFrame k f) k n

/-- Send a frame other than IDLE on link end `k` (12 R454, R455). Only STATE travels while the link end is not UP (12 R452). -/
def State.sendOn (s : State) (k : Nat) (f : LinkFrame) : State :=
  if s.linkState k = 3 ∨ (s.linkState k = 2 ∧ f.ftype = 4) then
    let x := s.ezl k
    (s.setEzl k { x with waiting := x.waiting ++ [f] }).drainLink k (x.waiting.length + 1)
  else s

/-- IDLE on link end `k`. -/
def State.sendIdle (s : State) (k : Nat) : State := s.putFrame k { ftype := 0 }

/-- The UP link end to member `m` with the most credits, ties to the lower one (12 R457). -/
def State.bestLink (s : State) (m : Nat) : Option Nat :=
  (s.linksTo m).foldl (fun a k => match a with
    | none => some k
    | some j => if s.rd (EZN_LINK_STAT.CREDITS j) < s.rd (EZN_LINK_STAT.CREDITS k) then some k else some j) none

/-- Send a frame to member `m`. -/
def State.sendTo (s : State) (m : Nat) (f : LinkFrame) : State :=
  match s.bestLink m with
  | some k => s.sendOn k f
  | none => s

/-- The CRC of the record at L (12 Table 12-5). -/
def State.crcAtL (s : State) : Nat :=
  if !s.crf.hasL then 0
  else match (s.crf.pages.flatMap (fun e => e.2.recs)).find? (fun r => r.seq == s.rd CRF_LOCAL.SEQ) with
    | some r => r.crc
    | none => 0

/-- The member has lost its primary (12 R466): it is ELECTING. -/
def State.lostPrimary (s : State) : Bool := s.rd EZN_STATUS.ROLE == 4

/-- The highest W computed or received. -/
def State.seenW (s : State) : Seq := if s.sequencing then s.rd CRF_WMARK.SEQ else s.ezn.lastW.getD 0

/-- The member's STATE payload (12 Table 12-5). -/
def State.statePayload (s : State) : List Byte :=
  leBytes 1 (s.rd EZN_STATUS.ROLE) ++ leBytes 1 s.me ++ leBytes 1 (s.rd EZN_STATUS.PRIMARY)
    ++ leBytes 1 (b2n s.lostPrimary + 2 * s.rd EZN_STATUS.BACKFILL_DONE + 4 * s.rd EZN_STATUS.ISLAND_LOST)
    ++ leBytes 1 (s.rd EZN_LEVEL.LEVEL_MIN) ++ leBytes 1 (s.rd EZN_LEVEL.LEVEL_MAX) ++ leBytes 1 (s.rd EZN_STATUS.LEVEL)
    ++ leBytes 1 (s.rd EZN_STATUS.LEVEL_FLOOR) ++ leBytes 2 (s.rd EZN_STATUS.EPOCH) ++ leBytes 2 (s.rd EZN_STATUS.VOTED_EPOCH)
    ++ leBytes 1 (match s.ezn.handover with | some (_, t, true) => t | _ => 0xFF) ++ zeros 3 ++ leBytes 8 (s.rd CRF_LOCAL.SEQ) ++ leBytes 8 s.seenW
    ++ leBytes 8 (s.rd CRF_JOURNAL_ID.ID) ++ leBytes 4 s.crcAtL ++ zeros 20

/-- STATE on every link end that can carry it (12 R466). -/
def State.sendState (s : State) : State :=
  (List.range 4).foldl (fun s k => if s.ezOn k then s.sendOn k { ftype := 4, payload := s.statePayload } else s)
    { s with ezn := { s.ezn with hbAt := s.ticks } }

/-- The role that member `m` last reported. -/
def State.roleOf (s : State) (m : Nat) : Nat := s.rd (EZN_MEMBER.ROLE m)

/-- The members that count as followers of this primary: their slot is valid (12 R459). -/
def State.followers (s : State) : List Nat := s.others.filter (fun m => s.flag (EZN_MEMBER.SLOT_VALID m))

/-- The number after a record's: an EPOCH_ROLL is followed by the next epoch (03 R112). -/
def Rec.after (r : Rec) : Seq := if r.typ = 4 then (seqEpoch r.seq + 1) * 2 ^ 48 else r.seq + 1

/-- Stream an appended record to every member that has been sent all before it and is not in its catch-up stream (06 R229; 12 R461). A JOINING or lagging
member takes it from CATCH_UP_SEND (12 R465, R482). -/
def State.mirror (s : State) (r : Rec) : State :=
  if s.rd EZN_STATUS.ROLE ≠ 1 ∧ s.rd EZN_STATUS.ROLE ≠ 6 then s
  else s.others.foldl (fun s m =>
    let x := s.ezm m
    if x.started && !x.joining && x.next == some r.seq then
      let at_ := if x.conf.elim true (fun c => decide (r.seq ≤ c + 1)) then s.ticks else x.confAt
      (s.sendTo m { ftype := 1, payload := r.bytes }).setEzm m { x with next := some r.after, confAt := at_ }
    else s) s

/-- At a flush point the primary sends FLUSH to each FOLLOWER; its records have been sent already (12 R461). -/
def State.mirrorFlush (s : State) : State :=
  if s.rd EZN_STATUS.ROLE ≠ 1 then s
  else s.followers.foldl (fun s m => s.sendTo m { ftype := 1, flags := 2 }) s

/-! ### Members -/

/-- A tick lies within PRIMARY_TMO_US. -/
def State.within (s : State) (t : Option Nat) : Bool := t.elim false (fun t => decide (s.ticks < t + usTicks (s.rd EZN_TMO.PRIMARY_TMO_US)))

/-- STATE was heard from member `m` within PRIMARY_TMO_US (EZN_MEMBER.PRESENT). -/
def State.presentM (s : State) (m : Nat) : Bool := s.within (s.ezm m).stateAt

/-- A frame from the primary arrived within PRIMARY_TMO_US (EZN_STATUS.SEES_PRIMARY). -/
def State.seesPrimary (s : State) : Bool :=
  let p := s.rd EZN_STATUS.PRIMARY
  !s.sequencing && p != s.me && s.within (s.ezm p).heard

/-- The lowest LEVEL_MAX of the N members (EZN_LEVEL.GROUP_MAX). -/
def State.groupMax (s : State) : Nat := (s.others.map (fun m => s.rd (EZN_MEMBER.LEVEL_MAX m))).foldl min (s.rd EZN_LEVEL.LEVEL_MAX)

/-- The follower slot of member `m` on a primary (R459). -/
def State.slotOfMember (s : State) (m : Nat) : Nat := (firstIdx (· == m) s.others).getD 0

end Sys2Proof.Machine
end

