-- ==== Sys2Proof/Machine/Tamp.lean ====
section
/-!
DEFINITION. Tamp: timebase, stamps and traceability (chapter 02).
Errors and bounds are in units of 2⁻¹² ps (so 1 ps is 4096 and 2⁻¹² ns is 1000); offsets are in units of 2⁻¹² ns.
-/

namespace Sys2Proof.Machine

/-! ### Error bounds and classes (R57 to R61, R72) -/

/-- E_cap: 0.0625 ns (Table 02-1). -/
def eCap : Nat := 256000

/-- The bounds of classes 0 to 7 (00 Table 00-7). -/
def classBounds : List Nat := [2, 5, 10, 25, 50, 100, 1000, 1000000]

/-- The smallest class whose bound is at least `e`; 15 when `e` exceeds 1 ms (R57). -/
def classOf (e : Nat) : Nat := (firstIdx (fun b => decide (e ≤ b * 1000 * 4096)) classBounds).getD 15

/-- Σθ of the stored samples, and 16 Σθ² − (Σθ)². -/
def sampleSum (l : List Int) : Int := l.foldl (· + ·) 0
def sampleSpread (l : List Int) : Nat := ((16 : Int) * l.foldl (fun a x => a + x * x) 0 - sampleSum l * sampleSum l).toNat

/-- The bound that a clockAccuracy denotes under IEEE 1588-2019 (its Table 5): 1, 2.5, 10, 25, 100, … from 1 ps at 0x17 to 1 s at 0x2F, and 10 s at 0x30; none for
0x31 (more than 10 s), 0xFE (unknown) and every reserved value (R61; PRESUMED, notes/assumptions/46). -/
def accuracyBound (code : Nat) : Option Nat :=
  if code < 0x17 ∨ 0x30 < code then none
  else if code = 0x30 then some (10 ^ 13 * 4096)
  else
    let i := code - 0x17
    -- in tenths of a ps: 10, 25, 100, 250, 1000, 2500, …
    some ((if i % 2 = 0 then 10 * 10 ^ (i / 2) else 25 * 10 ^ (i / 2)) * 4096 / 10)

def State.ptpSlot (s : State) (k : Nat) : PtpSlot := FMap.get {} s.tamp.ptp k
def State.setPtp (s : State) (k : Nat) (x : PtpSlot) : State := { s with tamp := { s.tamp with ptp := FMap.set {} s.tamp.ptp k x } }

/-- The last Announce of the selected grandmaster, while a timing slot is the source. -/
def State.srcAnn (s : State) : Option Announce :=
  let src := s.rd TMP_STATUS.SOURCE
  if 1 ≤ src ∧ src ≤ 4 then (s.ptpSlot (src - 1)).ann else none

/-- A_src (R61): none without a source, and when the Announce denotes no bound. -/
def State.aSrc (s : State) : Option Nat :=
  if s.rd TMP_STATUS.SOURCE = 0 then none
  else if s.rd TMP_STATUS.SOURCE = 5 then some (s.rd TMP_ACC_CFG.A_PPS_PS * 4096)
  else if s.rd TMP_ACC_CFG.A_GM_PS ≠ 0xFFFF then some (s.rd TMP_ACC_CFG.A_GM_PS * 4096)
  else s.srcAnn.bind (fun a => accuracyBound a.accuracy)

/-- E_meas = A_src + A_path + |mean θ| + 3σ over the last 16 samples, each term rounded up; none until 16 samples exist
(R61; DEDUCED, notes/assumptions/6). -/
def State.eMeas (s : State) : Option Nat :=
  if s.tamp.samples.length < 16 then none
  else (s.aSrc).map (fun a =>
    a + s.rd TMP_ACC_CFG.A_PATH_PS * 4096 + ceilDiv ((sampleSum s.tamp.samples).natAbs * 1000) 16
      + ceilDiv (sqrtCeil (9 * 1000000 * sampleSpread s.tamp.samples)) 16)

/-- E_hold at `ms` milliseconds of the holdover period (R72): Y0 in 0.001 ppb gives Y0 ps per second; at least 50,000 ppb on the backup oscillator (15 R555). -/
def State.eHold (s : State) (ms : Nat) : Nat :=
  s.tamp.eEntry.getD 0 + ceilDiv ((if s.flag CLK_STATUS.ON_BACKUP then max (s.rd TMP_HOLD_CFG.Y0) 50000000 else s.rd TMP_HOLD_CFG.Y0) * ms * 4096) 1000
    + ceilDiv (s.rd TMP_HOLD_CFG.AGE * ms * ms * 4096) (2 * 86400 * 1000000)

/-- The state forces class 15, or the holdover period has outlasted MAX_HOLD_H (R58). -/
def State.forced15 (s : State) : Bool :=
  let st := s.rd TMP_STATUS.STATE
  st == 0 || st == 4 || st == 5 ||
    (s.tamp.eIsHold && decide (s.rd TMP_HOLD_CFG.MAX_HOLD_H ≠ 0) && decide (s.rd TMP_HOLD_CFG.MAX_HOLD_H * 3600000 < s.tamp.holdMs))

/-- The class of a stamp whose lane part of the bound is `ecal` (R57, R58). -/
def State.stampClass (s : State) (ecal : Nat) : Nat :=
  if s.forced15 then 15 else match s.tamp.eTime with
    | some e => classOf (eCap + ecal + e)
    | none => 15

/-- CLASS_NOW follows E_cap + E_time. -/
def State.setClassNow (s : State) : State := s.wr TMP_STATUS.CLASS_NOW (s.stampClass 0)

/-- The port mode that R58 and R82 compare: SPEED, FEC, LANES_LOG2 and LANE0 of SEQ_PORT_p. -/
def State.portMode (s : State) (p : Nat) : Nat :=
  s.rd (SEQ_PORT.SPEED p) * 2 + s.rd (SEQ_PORT.FEC p) * 16 + s.rd (SEQ_PORT.LANES_LOG2 p) * 64 + s.rd (SEQ_PORT.LANE0 p) * 256

/-- The class of a frame's stamp (R57, R58), received (`rx`) or transmitted, on port `p`. -/
def State.portClass (s : State) (p : Nat) (rx : Bool) : Nat :=
  let n := s.rd (SEQ_PORT.LANE0 p)
  let ecal := if rx then s.rd (TMP_LCAL_RX.UNC n) + s.rd (TMP_LEXCESS.RX_EXCESS_PS n)
    else s.rd (TMP_LCAL_TX.UNC n) + s.rd (TMP_LEXCESS.TX_EXCESS_PS n)
  if !s.flag (TMP_LDIE.VALID n) || FMap.get 0 s.tamp.laneMode n != s.portMode p + 1 then 15 else s.stampClass (ecal * 4096)

/-- The receive and transmit totals of a lane, BOARD + die part, in units of 2⁻¹² ns. -/
def State.rxTotal (s : State) (n : Nat) : Int := s.rdInt (TMP_LCAL_RX.BOARD n) + s.rdInt (TMP_LDIE.RX_DIE n)
def State.txTotal (s : State) (n : Nat) : Int := s.rdInt (TMP_LCAL_TX.BOARD n) + s.rdInt (TMP_LDIE.TX_DIE n)

/-- A timebase value moved by `d` units of 2⁻¹² ns. -/
def tbShift (t : Nat) (d : Int) : Nat := ((t : Int) + d * (5 * 2 ^ 68 : Nat)).toNat

/-- The timebase value of an instant `sub` units of 2⁻¹² ns into the present tick; in CORRECTING, where the timebase advances by half a tick per tick, half of
that (R51, R56; DEDUCED, notes/assumptions/47). -/
def State.tbAt (s : State) (sub : Nat) : Nat := s.tamp.tb + sub * (if s.rd TMP_STATUS.STATE = 5 then 5 * 2 ^ 67 else 5 * 2 ^ 68)

/-! ### What the TRACE record gathers (Table 02-7) -/

def State.setTrace (s : State) (f : TraceAcc → TraceAcc) : State :=
  if s.tamp.traceOpen then { s with tamp := { s.tamp with trace := f s.tamp.trace } } else s

/-- Set flag bit `i` of the second's TRACE record. -/
def State.traceFlag (s : State) (i : Nat) : State := s.setTrace (fun t => { t with flags := setBits t.flags i 1 1 })

/-- A port stamp of class `c` is issued (R91; TMP_CNT.CLASS15_STAMPS). -/
def State.tracePortStamp (s : State) (c : Nat) : State :=
  let s := if c = 15 then s.count TMP_CNT.CLASS15_STAMPS else s
  s.setTrace (fun t =>
    { t with worst := if t.worst = 255 then c else max t.worst c, best := min t.best c,
             class15 := t.class15 + (if c = 15 then 1 else 0), stamps := t.stamps + 1 })

/-! ### States and sources (R60 to R62, R69, R70, R72) -/

/-- E_time is E_hold: in HOLDOVER, and until 16 samples exist in ACQUIRING or LOCKED of a source selected within a holdover period (R60, R61). -/
def State.useHold (s : State) : Bool :=
  let st := s.rd TMP_STATUS.STATE
  st == 3 || ((st == 1 || st == 2) && s.tamp.selInHold && decide (s.tamp.samples.length < 16))

/-- E_time as Table 02-2 gives it now; E_hold is the bound at the end of the following millisecond (R59). And whether it is E_hold. -/
def State.evalE (s : State) : Option Nat × Bool :=
  let st := s.rd TMP_STATUS.STATE
  if s.useHold then (some (s.eHold (s.tamp.holdMs + 1)), true)
  else if st = 1 ∨ st = 2 then (s.eMeas, false)
  else (none, false)

/-- E_HOLD_PS of a bound: in ps, saturating. -/
def holdPs (e : Nat) : Nat := min (ceilDiv e 4096) 0xFFFFFFFF

/-- An E_time takes effect; the second's TRACE record keeps the largest E_hold used (R59, Table 02-7). -/
def State.takeE (s : State) (e : Option Nat × Bool) : State :=
  let s := { s with tamp := { s.tamp with eTime := e.1, eIsHold := e.2, eNext := none } }
  let s := match e with
    | (some x, true) => s.setTrace (fun t => { t with holdMax := some (max (t.holdMax.getD 0) (holdPs x)) })
    | _ => s
  s.setClassNow

/-- Tamp enters a state, and E_time of that state takes effect at the next tick (R59). Reaching LOCKED ends the holdover period; entering HOLDOVER begins one unless
one runs (R72). -/
def State.tampState (s : State) (st : Nat) : State :=
  let s := if s.rd TMP_STATUS.STATE = st then s else s.traceFlag 0
  let s := s.wr TMP_STATUS.STATE st
  let s :=
    if st = 2 then
      { s with tamp := { s.tamp with everLocked := true, inHold := false } }.wr TMP_STATUS.HOLD_S 0
    else if st = 3 && !s.tamp.inHold then
      let s := { s with tamp := { s.tamp with inHold := true, holdMs := 0 } }
      match s.tamp.eEntry with
      | some _ => s
      | none => ({ s with tamp := { s.tamp with eEntry := some s.freeVal } }).drew
    else s
  let s := if st = 3 then s else s.wr TMP_EBOUND.E_HOLD_PS 0xFFFFFFFF
  let s := { s with tamp := { s.tamp with eNext := some s.evalE } }
  s.setClassNow

/-- The state that a lost, deselected or declined source leaves: HOLDOVER, or FREERUN before any lock (R62). -/
def State.noSource (s : State) : State := s.tampState (if s.tamp.everLocked then 3 else 0)

/-- Deselect the source: LOCKED and ACQUIRING end in HOLDOVER or FREERUN; in CORRECTING it takes effect when the correction ends (R62). -/
def State.deselect (s : State) : State :=
  let st := s.rd TMP_STATUS.STATE
  if st = 5 then { s with tamp := { s.tamp with dropped := true } }
  else
    let s := s.wr TMP_STATUS.SOURCE 0
    if st = 1 ∨ st = 2 then s.noSource else s

/-- Select a source: FREERUN and HOLDOVER pass to ACQUIRING (R62); the samples start anew (R61). -/
def State.select (s : State) (src : Nat) : State :=
  let s := { s with tamp := { s.tamp with samples := [], lockRun := 0, selInHold := s.tamp.inHold } }
  let s := (s.wr TMP_STATUS.SOURCE src).wr TMP_OFFSET.SAMPLES 0
  let st := s.rd TMP_STATUS.STATE
  if st = 0 ∨ st = 3 then s.tampState 1 else s

/-- The port of timing slot `k`, when the slot is in use. -/
def State.tport (s : State) (k : Nat) : Option Nat :=
  match k with
  | 0 => if s.flag TMP_SRC_CFG.TPORT0_EN then some (s.rd TMP_SRC_CFG.TPORT0) else none
  | 1 => if s.flag TMP_SRC_CFG.TPORT1_EN then some (s.rd TMP_SRC_CFG.TPORT1) else none
  | 2 => if s.flag TMP_SRC_CFG.TPORT2_EN then some (s.rd TMP_SRC_CFG.TPORT2) else none
  | 3 => if s.flag TMP_SRC_CFG.TPORT3_EN then some (s.rd TMP_SRC_CFG.TPORT3) else none
  | _ => none

/-- Port `p` is a timing port. -/
def State.isTiming (s : State) (p : Nat) : Bool := [0, 1, 2, 3].any (fun k => s.tport k == some p)

/-- The timing slot in SLAVE, if any, and not lost (R62, R64). -/
def State.slaveSlot (s : State) : Option Nat :=
  [0, 1, 2, 3].find? (fun k => (s.tport k).isSome && s.rd (TMP_PTP_STAT.PORT_STATE k) == 9 && !(s.ptpSlot k).lost)

/-- The divider from the receive clock of port `p` to 156.25 MHz (15 R557): 66 at 10.3125 GBd, 165 at 25.78125 GBd, 340 at 53.125 GBd; the lanes that
carry 50 Gb/s signal at 26.5625 GBd, of which 156.25 MHz is the 170th part (DEDUCED, notes/assumptions/38). -/
def State.recclkDivider (s : State) (p : Nat) : Nat :=
  match s.rd (SEQ_PORT.SPEED p), s.rd (SEQ_PORT.LANES_LOG2 p) with
  | 0, _ => 66
  | 1, _ => 165
  | 2, _ => 170
  | 3, l => if s.rd (SEQ_PORT.FEC p) = 1 then 165 else if l = 0 then 340 else 170
  | 4, l => if l = 1 then 340 else 170
  | _, _ => 340

/-- RECCLK_OUT (15 R557): the lane whose recovered receive clock it carries and the divider, or none while it is held static low. -/
def State.recclkOut (s : State) : Option (Nat × Nat) :=
  if !s.flag CLK_RECCLK.EN then none
  else
    let slot := if s.flag CLK_RECCLK.FOLLOW then [0, 1, 2, 3].find? (fun k => (s.tport k).isSome && s.rd (TMP_PTP_STAT.PORT_STATE k) == 9)
      else some (s.rd CLK_RECCLK.SLOT)
    match slot.bind s.tport with
    | some p => if s.flag (SEQ_PST.LINK p) then some (s.rd (SEQ_PORT.LANE0 p), s.recclkDivider p) else none
    | none => none

/-- The source that R70 calls for now: in mode 1 a timing port in SLAVE while PPS_IN is lost or declined (DESIGN CHOICE, notes/assumptions/47). -/
def State.desired (s : State) : Nat :=
  let ptp := match s.slaveSlot with
    | some k => if s.tamp.declined.contains (k + 1) then 0 else k + 1
    | none => 0
  let pps := if s.tamp.ppsOk && !s.tamp.declined.contains 5 then 5 else 0
  match s.rd TMP_SRC_CFG.PPS_MODE with
  | 0 => ptp
  | 1 => if pps ≠ 0 then pps else ptp
  | 2 => if s.slaveSlot.isSome then ptp else pps
  | _ => ptp

/-- Follow the source that is called for; while CORRECTING nothing changes (R62). -/
def State.reselect (s : State) : State :=
  if s.rd TMP_STATUS.STATE = 5 then s
  else
    let d := s.desired
    let cur := s.rd TMP_STATUS.SOURCE
    if d = cur then s
    else
      let s := if cur = 0 then s else s.deselect
      if d = 0 then s else s.select d

/-- 1 ms in units of 2⁻¹² ns. -/
def msUnits : Nat := 4096000000

/-- Bound an integer to a magnitude. -/
def clampInt (m : Nat) (i : Int) : Int := max (-(m : Int)) (min (m : Int) i)

/-- The servo sets ADJ (R51, R74). The manual gives no servo law: ADJ is the servo's estimate of the source's frequency plus
a part of at most 100 ppm, both free values, within 200 ppm in all (notes/assumptions/5). -/
def State.steer (s : State) (th : Int) : State :=
  let est := s.freeValInt
  let s := s.drew
  let x := s.freeValInt
  let s := s.drew
  let adj := clampInt 56294995342 (est + clampInt 28147497671 x)
  let s := s.wr TMP_RATE.ADJ (ofInt 40 adj)
  let s := s.wrB TMP_RATE.SLEWING (decide (th ≠ 0))
  if th ≠ 0 then s.traceFlag 1 else s

/-- D_p in units of the timebase: receive total of the lowest lane plus GUARD_PS (03 R96). -/
def State.portDelay (s : State) (p : Nat) : Int :=
  s.rxTotal (s.rd (SEQ_PORT.LANE0 p)) * (5 * 2 ^ 68 : Nat) + (s.rd SEQ_CFG.GUARD_PS * tbNs / 1000 : Nat)

/-- T − D_p in stamp layout (03 R96). -/
def State.portNow (s : State) (p : Nat) : Nat := tbLayout ((s.tamp.tb : Int) - s.portDelay p).toNat

/-- P_p: the lowest stamp of a frame in progress on port `p` (03 R96). -/
def State.pin (s : State) (p : Nat) : Option Nat :=
  (FMap.get [] s.merge.frames p).foldl (fun a f => some (match a with | none => stampKey f.stamp * 16 | some x => min x (stampKey f.stamp * 16))) none

/-- W_p recomputed: max(W_p, min(T − D_p, P_p)) (03 R96). -/
def State.tickPort (s : State) (p : Nat) : State :=
  let w := FMap.get 0 s.merge.wm p
  let lim := match s.pin p with | some x => min (s.portNow p) x | none => s.portNow p
  { s with merge := { s.merge with wm := FMap.set 0 s.merge.wm p (max w lim) } }

/-- Every port recomputes its watermark (03 R96). -/
def State.tickPorts (s : State) : State := (List.range 64).foldl State.tickPort s

/-- The ports enabled in the port section, in ascending number (03 R106). -/
def State.enabledPorts (s : State) : List Nat := (List.range 64).filter (fun p => s.flag (SEQ_PORT.EN p))

/-- The tie list of a second (03 R106). -/
def State.tieOf (s : State) (sec : Nat) : Option TieList := s.merge.ties.find? (fun t => t.second == sec)

/-- TIE_HEAD of a second: the list entry at index N mod P; none when P is 0 (03 R106). -/
def State.tieHead (s : State) (sec : Nat) : Option Nat :=
  match s.tieOf sec with
  | some t => if t.list.length = 0 then none else t.list[sec % t.list.length]?
  | none => none

/-- SEQ_TIE shows the present second's list (03 R107). -/
def State.showTie (s : State) : State :=
  let sec := tbSec s.tamp.tb
  match s.tieOf sec with
  | some t => ((s.wr SEQ_TIE.SECOND sec).wr SEQ_TIE.LIST_P t.list.length).wr SEQ_TIE.TIE_HEAD ((s.tieHead sec).getD 0)
  | none => s

/-- At the start of a second its tie list is the ports then enabled (03 R106, R107). -/
def State.tickTie (s : State) : State :=
  let sec := tbSec s.tamp.tb
  match s.tieOf sec with
  | some _ => s
  | none => State.showTie { s with merge := { s.merge with ties := { second := sec, list := s.enabledPorts } :: s.merge.ties } }

/-- The timebase advances by `d` at a tick. -/
def State.advanceTb (s : State) (d : Nat) : State := { s with tamp := { s.tamp with tb := s.tamp.tb + d } }

/-- PPS_OUT leads the second boundary by OUT_COMP_PS (R71): the timebase value that its edges follow. -/
def State.ppsTime (s : State) : Nat := ((s.tamp.tb : Int) + s.rdInt TMP_PPS_COMP.OUT_COMP_PS * (tbNs : Int) / 1000).toNat

/-- The timebase is set forward at one tick: to a source's time, by TIME_SET_TOD (R73), or by a forward step (R76). Every port and the merge-window timer see the new
time together (03 R105); the second boundaries passed over make no edge on PPS_OUT (R71). -/
def State.setTb (s : State) (t : Nat) : State :=
  let s := { s with tamp := { s.tamp with tb := t, moved := s.tamp.moved + ((t : Int) - s.tamp.tb) } }
  let x := s.ppsTime
  let s := { s with tamp := { s.tamp with ppsSecond := max s.tamp.ppsSecond (if x % (tbNs * 1000000000) = 0 then tbSec x - 1 else tbSec x) } }
  s.tickTie.tickPorts

/-- A new offset sample of the selected source (R61, R62, R73 to R75). δ = −θ in whole ns is rounded down (DESIGN CHOICE, notes/assumptions/47). -/
def State.sample (s : State) (th : Int) : State :=
  if !s.tamp.firstSample && !s.tamp.stampedEver && decide (th ≤ 0) then
    let s := { s with tamp := { s.tamp with firstSample := true } }
    s.setTb (tbShift s.tamp.tb (-th))
  else
    let s := { s with tamp := { s.tamp with firstSample := true } }
    let st := s.rd TMP_STATUS.STATE
    let s := (s.wr TMP_OFFSET.THETA (satInt 48 th)).count TMP_OFFSET.SAMPLES
    let s := s.setTrace (fun t => { t with sum := t.sum + th, sumSq := t.sumSq + th.natAbs * th.natAbs,
                                           maxAbs := max t.maxAbs th.natAbs, samples := t.samples + 1 })
    if st = 5 then s
    else
      let s := { s with tamp := { s.tamp with samples := (th :: s.tamp.samples).take 16 } }
      if msUnits < th.natAbs then
        let s := { s with tamp := { s.tamp with lockRun := 0 } }
        let s := if st = 0 then s else s.wr TMP_STEP.DELTA_NS (ofInt 64 (-th / 4096))
        if st = 0 ∨ st = 4 then s
        else
          let s := (s.count TMP_STEP_ID.ID).wr TMP_RATE.SLEWING 0
          (s.tampState 4).warn 1 0x0103 0 (s.rd TMP_STEP_ID.ID)
      else
        let s := if st = 4 then s.tampState 1 else s
        let s := s.steer th
        let within := decide (th.natAbs * 1000 ≤ s.rd TMP_SERVO_CFG.LOCK_THR_PS * 4096)
        let s := { s with tamp := { s.tamp with lockRun := if within then s.tamp.lockRun + 1 else 0 } }
        let s := if s.rd TMP_STATUS.STATE = 1 ∧ within ∧ s.rd TMP_SERVO_CFG.LOCK_N ≤ s.tamp.lockRun then s.tampState 2 else s
        if s.rd TMP_STATUS.STATE = 2 then
          match s.eMeas with
          | some e => { s with tamp := { s.tamp with eEntry := some e } }
          | none => s
        else s

/-! ### Records that Tamp submits (R90, R91) -/

/-- A TIME_DISC record (Table 02-8), with the class in force. -/
def State.timeDisc (s : State) (kind : Nat) (c : Consent) (stampT old new : Nat) : State :=
  let cls := s.rd TMP_STATUS.CLASS_NOW
  s.tampRec { stamp := stampOf stampT cls, port := 0x40, typ := 2,
              payload := leBytes 4 kind ++ leBytes 4 c.stepId ++ leBytes 16 (stampOf old cls) ++ leBytes 16 (stampOf new cls)
                ++ leBytes 8 (ofInt 64 c.deltaNs) ++ leBytes 4 c.slice ++ leBytes 4 c.tag ++ zeros 8 }

/-- A LANE_CAL record (Table 02-9) for lane `n`, with the totals before the change. -/
def State.laneCal (s : State) (n kind : Nat) (oldRx oldTx : Int) : State :=
  let st := s.nowStamp
  let s := { s with tamp := { s.tamp with lcalGen := s.tamp.lcalGen + 1 } }
  let s := s.wr (TMP_LDIE.GEN n) (s.rd (TMP_LDIE.GEN n) + 1)
  let s := (s.traceFlag 3).setTrace (fun t => { t with lcalMask := setBits t.lcalMask n 1 1 })
  s.tampRec { stamp := st, port := 0x40, typ := 3,
              payload := leBytes 1 n ++ leBytes 1 kind ++ zeros 2 ++ leBytes 4 s.tamp.lcalGen
                ++ leBytes 4 (ofInt 32 oldRx) ++ leBytes 4 (ofInt 32 (s.rxTotal n)) ++ leBytes 4 (ofInt 32 oldTx) ++ leBytes 4 (ofInt 32 (s.txTotal n))
                ++ leBytes 2 (satAdd 16 (s.rd (TMP_LCAL_RX.UNC n)) (s.rd (TMP_LEXCESS.RX_EXCESS_PS n)))
                ++ leBytes 2 (satAdd 16 (s.rd (TMP_LCAL_TX.UNC n)) (s.rd (TMP_LEXCESS.TX_EXCESS_PS n)))
                ++ leBytes 12 st ++ zeros 24 }

/-- The TAI − UTC offset in force at a TAI second, from the leap-second table (R65). -/
def utcOffset (t : List (Nat × Int)) (sec : Nat) : Option Int :=
  t.foldl (fun a e => if e.1 ≤ sec then some e.2 else a) none

/-- The payload of the TRACE record of the second gathered (Table 02-7). OFFSET_MEAN is rounded down, and 0 in a second without samples; OFFSET_SIGMA_PS is the
deviation of the second's samples as a population, rounded up; ANN_UTC_OFFSET is the selected grandmaster's (DESIGN CHOICE, notes/assumptions/47). -/
def State.tracePayload (s : State) (utc : Int) : List Byte :=
  let a := s.tamp.trace
  let n := a.second
  let src := s.rd TMP_STATUS.SOURCE
  let ann := s.srcAnn
  let leapSoon := s.tamp.leap.any (fun e => decide (n + 1 ≤ e.1) && decide (e.1 ≤ n + 86400))
  let flags := setBits (setBits a.flags 6 1 (b2n s.tamp.firstAfter)) 7 1 (b2n leapSoon)
  let mean : Int := if a.samples = 0 then 0 else a.sum / (a.samples : Int)
  let var := (a.samples * a.sumSq : Nat) - (a.sum * a.sum).toNat
  let sigma := if a.samples = 0 then 0 else ceilDiv (ceilDiv (1000 * sqrtCeil var) a.samples) 4096
  leBytes 8 n ++ leBytes 1 (s.rd TMP_STATUS.STATE) ++ leBytes 1 src ++ leBytes 1 a.worst ++ leBytes 1 a.best
    ++ leBytes 2 flags ++ leBytes 1 ((s.tieHead n).getD 0xFF)
    ++ leBytes 1 (match ann with | some x => x.steps | none => 255)
    ++ leBytes 8 (match ann with | some x => x.gm | none => 0)
    ++ leBytes 2 (ofInt 16 utc)
    ++ leBytes 2 (match ann.bind (·.utc) with | some u => ofInt 16 u | none => 0x8000)
    ++ leBytes 4 (s.rd TMP_STATUS.HOLD_S)
    ++ leBytes 8 (ofInt 64 mean) ++ leBytes 8 a.maxAbs ++ leBytes 4 sigma ++ leBytes 2 (min a.samples 65535) ++ zeros 2
    ++ leBytes 8 (ofInt 64 (s.rdInt TMP_RATE.ADJ))
    ++ leBytes 4 (match s.eMeas with | some e => min (ceilDiv e 4096) 0xFFFFFFFF | none => 0xFFFFFFFF)
    ++ leBytes 4 (a.holdMax.getD 0xFFFFFFFF) ++ leBytes 2 63 ++ zeros 2 ++ leBytes 4 a.ppsErr ++ leBytes 8 a.lcalMask
    ++ leBytes 4 s.tamp.lcalGen ++ leBytes 4 a.class15 ++ leBytes 8 a.stamps ++ leBytes 4 (s.rd CPH_STATUS.BOOT_COUNT) ++ zeros 20

/-- Begin to gather second `sec`: the E_hold in use counts from its start. -/
def State.openTrace (s : State) (sec : Nat) : TraceAcc :=
  { second := sec, ppsErr := s.rd TMP_PPS_IN_ERR.ERR_PS, holdMax := if s.tamp.eIsHold then s.tamp.eTime.map holdPs else none }

/-- Submit the TRACE record of the second gathered with class `cls`, and begin to gather second `next` (R90, R91). With no leap-second entry in
force the manual states no UTC_OFFSET: a free value (notes/assumptions/7). -/
def State.submitTrace (s : State) (next cls : Nat) : State :=
  let n := s.tamp.trace.second
  let (utc, s) := match utcOffset s.tamp.leap n with
    | some o => (o, s)
    | none => (s.freeValInt, s.drew)
  let r : Rec := { stamp := (n + 1) * 2 ^ 48 + cls, port := 0x40, typ := 1, payload := s.tracePayload utc }
  let s := s.tampRec r
  { s with tamp := { s.tamp with firstAfter := false, trace := s.openTrace next } }

/-- The advance of the timebase at a tick: 0.8 ns × (1 + ADJ × 2⁻⁴⁸), half of it in CORRECTING (R51). -/
def State.tickAdvance (s : State) : Nat :=
  let full := ((2 ^ 48 : Nat) + s.rdInt TMP_RATE.ADJ).toNat
  (if s.rd TMP_STATUS.STATE = 5 then 2 else 4) * 2 ^ 32 * full

/-- A sample of a declined source with |θ| ≤ 1 ms lets it be selected again (Table 02-4). -/
def State.redeem (s : State) (src : Nat) (th : Int) : State :=
  if th.natAbs ≤ msUnits then { s with tamp := { s.tamp with declined := s.tamp.declined.filter (· != src) } } else s

/-! ### The commands -/

/-- SNAP_TAKE (R53): the timebase of this tick into TMP_SNAP, rounded as every stamp, with CLASS_NOW. -/
def State.snapTake (s : State) : State :=
  let st := s.nowStamp
  ((s.wr TMP_SNAP_LO.STAMP_LO (st % 2 ^ 64)).wr TMP_SNAP_HI.STAMP_HI (st / 2 ^ 64)).wr TMP_SNAP_CTRL.VALID 1
def execSnapTake (s : State) : Host.Outcome State Fault Refusal := .next s.snapTake

/-- One millisecond of a holdover period has passed (R72); t keeps counting while a LOCKED Tamp still uses E_hold (R61). -/
def State.holdMs1 (s : State) : State :=
  if s.tamp.inHold then
    let ms := s.tamp.holdMs + 1
    ({ s with tamp := { s.tamp with holdMs := ms } }).wr TMP_STATUS.HOLD_S (min (ms / 1000) 0xFFFFFFFF)
  else if s.useHold then { s with tamp := { s.tamp with holdMs := s.tamp.holdMs + 1 } }
  else s

/-- ETIME_EVAL (R59, R60, R61, R72): once per millisecond E_time is evaluated, to take effect at the next tick. -/
def execEtimeEval (s : State) : Host.Outcome State Fault Refusal :=
  let s := s.holdMs1
  let s := s.wr TMP_EBOUND.E_REF_PS (match s.eMeas with | some x => holdPs x | none => 0xFFFFFFFF)
  let s := s.wr TMP_EBOUND.E_HOLD_PS (if s.rd TMP_STATUS.STATE = 3 then holdPs (s.eHold (s.tamp.holdMs + 1)) else 0xFFFFFFFF)
  let s := { s with tamp := { s.tamp with eNext := some s.evalE } }
  .next s.setClassNow

/-- The PPS domain's clock is locked: it takes PPS_IN edges and drives PPS_OUT (15 R556). -/
def State.ppsClock (s : State) : Bool := bitAt (s.rd CLK_STATUS.LOCK) 24

/-- PPS_IN_EDGE (R54, R55, R69, R70): the edge is stamped; its stamp, corrected by IN_COMP_PS, stands against the nearest second boundary. -/
def execPpsInEdge (sub : Fin 3277) (s : State) : Host.Outcome State Fault Refusal :=
  if !s.ppsClock then .next s
  else
  let u := tbNs * 1000000000
  let st := stampOf (s.tbAt sub) (s.rd TMP_STATUS.CLASS_NOW)
  let s := { s with tamp := { s.tamp with ppsStamp := st } }
  let t : Int := (stampTb st : Nat) - s.rdInt TMP_PPS_COMP.IN_COMP_PS * (tbNs : Int) / 1000
  let near : Int := (t + (u / 2 : Nat)) / (u : Int)
  let err : Int := t - near * (u : Int)
  let ps := satInt 32 (err * 1000 / (tbNs : Int))
  let s := (s.wr TMP_PPS_IN_ERR.ERR_PS ps).setTrace (fun a => { a with ppsErr := ps })
  if 250000000 * tbNs < err.natAbs then
    .next (((s.wr TMP_STATUS.PPS_IN_LOSS 1).traceFlag 5).warn 1 0x0102 0 ps)
  else
    let sec : Int := match s.slaveSlot with
      | some k => (t - ((s.ptpSlot k).offset + s.tamp.moved) + (u / 2 : Nat)) / (u : Int)
      | none => near
    let th : Int := (t - sec * (u : Int)) / (5 * 2 ^ 68 : Nat)
    let s := { s with tamp := { s.tamp with ppsOk := true } }
    let s := (s.redeem 5 th).reselect
    .next (if s.rd TMP_STATUS.SOURCE = 5 then s.sample th else s)

/-- PPS_OUT_EDGE (R71): the edge of the second that the advanced output has come to, when the configuration and the state permit it; it stays high for WIDTH_US. -/
def execPpsOutEdge (s : State) : Host.Outcome State Fault Refusal :=
  let sec := tbSec s.ppsTime
  if sec ≤ s.tamp.ppsSecond then .next s
  else
    let s := { s with tamp := { s.tamp with ppsSecond := sec } }
    let ok := s.ppsClock && s.flag TMP_PPS_CFG.OUT_EN && (s.rd TMP_STATUS.STATE != 3 || s.flag TMP_PPS_CFG.OUT_IN_HOLD)
      && (s.rd TMP_STATUS.CLASS_NOW != 15 || s.flag TMP_PPS_CFG.OUT_IN_UNTRACE)
    .next (if ok then ({ s with tamp := { s.tamp with ppsFalls := some (s.ticks + s.rd TMP_PPS_CFG.WIDTH_US * 1250) } } : State).emit (.ppsOut sec) else s)

/-- TIME_STEP_CONSENT (R76, R77): NOT_PENDING, STALE_ID, OUT_OF_BOUND, or OK with δ; a forward step waits for TIME_STEP_APPLY, a
backward correction starts at once. -/
def execTimeStepConsent (sl : Fin 256) (s : State) : Host.Outcome State Fault Refusal :=
  .next (s.serve sl 0x0100 (· == 16) true false (fun s pl =>
    let d := s.rdInt TMP_STEP.DELTA_NS
    if s.rd TMP_STATUS.STATE ≠ 4 ∨ s.tamp.step.isSome then (s, some (0x0102, []))
    else if field pl 0 4 ≠ s.rd TMP_STEP_ID.ID then (s, some (0x0100, []))
    else if field pl 4 8 < d.natAbs then (s, some (0x0101, []))
    else
      let c : Consent := { deltaNs := d, stepId := field pl 0 4, slice := sl, tag := field pl 12 4 }
      let s := if 0 < d then { s with tamp := { s.tamp with step := some c } }
        else
          let s := { s with tamp := { s.tamp with corr := some (c, s.rd TMP_STATUS.SOURCE, d.natAbs * tbNs) } }
          let t := s.tamp.tb
          let s := s.tampState 5
          s.timeDisc 2 c t t (t + s.tickAdvance)
      (s, some (0, leBytes 8 (ofInt 64 d)))))

/-- The stored samples moved by an applied δ (R78). -/
def State.shiftSamples (s : State) (deltaNs : Int) : State :=
  { s with tamp := { s.tamp with samples := s.tamp.samples.map (· + deltaNs * 4096), lockRun := 0 } }

/-- A state entered at the tick of a step or of a correction's end: its E_time is in effect at that tick (R78, Table 02-5). -/
def State.tampStateNow (s : State) (st : Nat) : State :=
  let s := s.tampState st
  s.takeE s.evalE

/-- TIME_STEP_APPLY (R76, R78, R91): the accepted forward step at one tick. The record of a second that the step leaves covers it up to the step, so it shows the state
before the step; its class is the one in force at the step tick. -/
def execTimeStepApply (s : State) : Host.Outcome State Fault Refusal :=
  match s.tamp.step with
  | none => .next s
  | some c =>
    let old := s.tamp.tb
    let new := old + c.deltaNs.toNat * tbNs
    let s := { s with tamp := { s.tamp with step := none } }
    let cls := ((s.shiftSamples c.deltaNs).tampStateNow 1).rd TMP_STATUS.CLASS_NOW
    let s := s.traceFlag 2
    let s := if s.tamp.traceOpen && decide (s.tamp.trace.second < tbSec new) then (s.submitTrace (tbSec new) cls).traceFlag 2 else s
    let s := ((s.setTb new).shiftSamples c.deltaNs).tampStateNow 1
    .next (s.timeDisc 1 c new old new)

/-- The correction's last tick has come: a source deselected or changed meanwhile takes effect now (R62). -/
def State.afterCorrection (s : State) (src : Nat) : State :=
  let d := s.desired
  let kept := decide (d = src) && decide (s.rd TMP_STATUS.SOURCE = src) && src != 0 && !s.tamp.dropped
  let s := { s with tamp := { s.tamp with dropped := false } }
  if kept then s.tampStateNow 1
  else
    let s := (s.wr TMP_STATUS.SOURCE 0).tampStateNow (if s.tamp.everLocked then 3 else 0)
    if d = 0 then s else
      let s := s.select d
      s.takeE s.evalE

/-- CORRECTION_END (R62, R76, R78): the remaining backward offset has reached 0. -/
def execCorrectionEnd (s : State) : Host.Outcome State Fault Refusal :=
  match s.tamp.corr with
  | some (c, src, 0) =>
    let t := s.tamp.tb
    let s := { s with tamp := { s.tamp with corr := none } }
    let s := (s.shiftSamples c.deltaNs).afterCorrection src
    .next (s.timeDisc 3 c t t (t + s.tickAdvance))
  | _ => .next s

/-- TIME_STEP_DECLINE (Table 02-4): the source is deselected until one of its samples shows |θ| ≤ 1 ms. -/
def execTimeStepDecline (sl : Fin 256) (s : State) : Host.Outcome State Fault Refusal :=
  .next (s.serve sl 0x0101 (· == 4) true false (fun s pl =>
    if s.rd TMP_STATUS.STATE ≠ 4 ∨ s.tamp.step.isSome then (s, some (0x0101, []))
    else if field pl 0 4 ≠ s.rd TMP_STEP_ID.ID then (s, some (0x0100, []))
    else
      let src := s.rd TMP_STATUS.SOURCE
      let s := { s with tamp := { s.tamp with declined := if src = 0 ∨ s.tamp.declined.contains src then s.tamp.declined else src :: s.tamp.declined } }
      let s := (s.wr TMP_STATUS.SOURCE 0).noSource
      (s.reselect, some (0, []))))

/-- TIME_SET_TOD (R73): before port stamping was first enabled since the power-up, and never backward. An ns field of 10⁹ or more carries into the seconds (DESIGN
CHOICE, notes/assumptions/47). -/
def execTimeSetTod (sl : Fin 256) (s : State) : Host.Outcome State Fault Refusal :=
  .next (s.serve sl 0x0102 (· == 12) true false (fun s pl =>
    let t := (field pl 0 8 * 1000000000 + field pl 8 4) * tbNs
    if s.tamp.stampedEver then (s, some (0x0100, []))
    else if t < s.tamp.tb then (s, some (0x0101, []))
    else (s.setTb t, some (0, []))))

/-- Replay has reported the highest stamp, and the timebase lies above it (R73). -/
def State.aboveJournal (s : State) : Bool :=
  match s.tamp.highStamp with
  | some h => decide (stampTb h < s.tamp.tb)
  | none => false

/-- Enable port stamping (R73, R91). -/
def State.enableStamping (s : State) : State :=
  let s := (s.wr TMP_STATUS.STAMPING 1).wr TMP_STATUS.BEHIND_JOURNAL 0
  { s with tamp := { s.tamp with stampedEver := true, firstAfter := true, traceOpen := true,
                                 trace := s.openTrace (tbSec s.tamp.tb) } }

/-- TIME_START_UNLOCKED (R73): enables port stamping before a lock; while the timebase is not above the journal it answers
BEHIND_JOURNAL and the request stands. -/
def execTimeStartUnlocked (sl : Fin 256) (s : State) : Host.Outcome State Fault Refusal :=
  .next (s.serve sl 0x0103 (· == 0) true false (fun s _ =>
    let s := { s with tamp := { s.tamp with startUnlocked := true } }
    if s.flag TMP_STATUS.STAMPING then (s, some (0, []))
    else if s.aboveJournal then (s.enableStamping, some (0, []))
    else (s.wr TMP_STATUS.BEHIND_JOURNAL 1, some (0x0100, []))))

/-- STAMPING_ENABLE (R73): the first tick after a lock, once replay's highest stamp lies below the timebase. -/
def execStampingEnable (s : State) : Host.Outcome State Fault Refusal :=
  if s.flag TMP_STATUS.STAMPING || !(s.tamp.everLocked || s.tamp.startUnlocked) then .next s
  else if s.aboveJournal then .next s.enableStamping
  else .next (s.wr TMP_STATUS.BEHIND_JOURNAL 1)

/-- The lanes of port `p` (03 R115). -/
def State.lanesOf (s : State) (p : Nat) : List Nat :=
  (List.range (2 ^ s.rd (SEQ_PORT.LANES_LOG2 p))).map (· + s.rd (SEQ_PORT.LANE0 p))

/-- The enabled port that uses lane `n` (03 R115). -/
def State.portOfLane (s : State) (n : Nat) : Option Nat :=
  (List.range 64).find? (fun p => s.flag (SEQ_PORT.EN p) && (s.lanesOf p).contains n)

/-- The lane's group has been declared fatal (14 R532). -/
def State.laneDead (s : State) (n : Nat) : Bool :=
  s.isFatal (.laneGroup (n / 8)) || s.isFatal (.netHalf (n / 32))

/-- Roaster acknowledges a LANE_GROUP_DOWN record once the lanes of the group that carry enabled ports are locked again (14 Table 14-4). -/
def State.ackGroup (s : State) (g : Nat) : State :=
  let log := 12 + g / 4
  let lanes := ((List.range 8).map (· + 8 * g)).filter (fun n => (s.portOfLane n).isSome)
  if s.flag ERR_CFG.AUTO_ACK && s.flag (ERR_STAT.FIRST_VALID log) && s.rd (ERR_FIRST.CODE log) == 0x0C01 && s.rd (ERR_FIRST.SUB log) == g
      && lanes.all (fun n => FMap.get false s.tamp.laneUp n) then s.clearFirst log
  else s

/-- A port whose lanes are all locked and measured has its link up: the measurement comes before the port's first stamp (R80). -/
def State.raiseLink (s : State) (n : Nat) : State :=
  match s.portOfLane n with
  | some p => if (s.lanesOf p).all (fun l => FMap.get false s.tamp.laneUp l && !FMap.get false s.tamp.measuring l) then s.wr (SEQ_PST.LINK p) 1 else s
  | none => s

/-- LINK_LOCK (R80): the lane's link locks, and its die parts are being measured. -/
def execLinkLock (n : Fin 64) (s : State) : Host.Outcome State Fault Refusal :=
  if !s.run || !s.hasLane n || s.laneDead n then .next s
  else
    let s := { s with tamp := { s.tamp with laneUp := FMap.set false s.tamp.laneUp n true,
                                            measuring := FMap.set false s.tamp.measuring n true } }
    .next (s.ackGroup (n / 8))

/-- DIE_MEASURE_DONE (R80): the measurement at lock replaces the die parts, clears the excess and sets VALID. -/
def execDieMeasureDone (n : Fin 64) (rx tx : BitVec 24) (s : State) : Host.Outcome State Fault Refusal :=
  if !FMap.get false s.tamp.measuring n then .next s
  else
    let s := { s with tamp := { s.tamp with measuring := FMap.set false s.tamp.measuring n false, measured := FMap.set 0 s.tamp.measured n s.ticks } }
    let oldRx := s.rxTotal n
    let oldTx := s.txTotal n
    let s := (s.wr (TMP_LDIE.RX_DIE n) rx.toNat).wr (TMP_LDIE.TX_DIE n) tx.toNat
    let s := (s.wr (TMP_LEXCESS.RX_EXCESS_PS n) 0).wr (TMP_LEXCESS.TX_EXCESS_PS n) 0
    .next (((s.wr (TMP_LDIE.VALID n) 1).laneCal n 3 oldRx oldTx).raiseLink n)

/-- The frames in progress on the port of lane `n`. -/
def State.laneBusy (s : State) (n : Nat) : Bool :=
  match s.portOfLane n with
  | some p => !(FMap.get [] s.merge.frames p).isEmpty
  | none => false

/-- PERIOD_S seconds have passed since the lane's last measurement (R83; seconds of ticks). -/
def State.recalDue (s : State) (n : Nat) : Bool :=
  s.rd TMP_RECAL_CFG.PERIOD_S != 0 && decide (FMap.get 0 s.tamp.measured n + s.rd TMP_RECAL_CFG.PERIOD_S * 1250000000 ≤ s.ticks)

/-- RECAL_START (R83, R84): a live measurement starts on a lane of a linked port, in idle, one lane at a time, when the lane's period has passed or LANE_RECAL asks
for one. -/
def execRecalStart (n : Fin 64) (s : State) : Host.Outcome State Fault Refusal :=
  let linked : Bool := match s.portOfLane n with | some p => s.flag (SEQ_PST.LINK p) | none => false
  if (s.recalDue n ∨ s.tamp.recalReq.any (fun r => r.1 == (n : Nat))) ∧ linked ∧ s.flag (TMP_LDIE.VALID n) ∧ !s.laneBusy n ∧ s.tamp.recal = none then
    .next { s with tamp := { s.tamp with recal := some n } }
  else .next s

/-- Answer the LANE_RECAL requests that wait on lane `n` (14 R544). -/
def State.answerRecal (s : State) (n status : Nat) (rsp : List Byte) : State :=
  let here := s.tamp.recalReq.filter (fun r => r.1 == n)
  let s := { s with tamp := { s.tamp with recalReq := s.tamp.recalReq.filter (fun r => r.1 != n) } }
  here.foldl (fun s r => s.answer r.2.1 status rsp) s

/-- A direction of a live result differs from the part in force by more than LIMIT_PS: the difference in ps, rounded up and saturating (R89; DESIGN CHOICE,
notes/assumptions/47). -/
def State.recalExcess (s : State) (old new : Int) : Option Nat :=
  let d := (new - old).natAbs
  if s.rd TMP_RECAL_CFG.LIMIT_PS * 4096 < d * 1000 then some (min (ceilDiv (d * 1000) 4096) 65535) else none

/-- RECAL_APPLY (R86, R87, R89): each direction of the live result is applied or rejected on its own. -/
def execRecalApply (n : Fin 64) (rx tx : BitVec 24) (s : State) : Host.Outcome State Fault Refusal :=
  if s.tamp.recal ≠ some n.val ∨ s.laneBusy n then .next s
  else
    let s := { s with tamp := { s.tamp with recal := none, measured := FMap.set 0 s.tamp.measured n s.ticks } }
    let exRx := s.recalExcess (s.rdInt (TMP_LDIE.RX_DIE n)) rx.toInt
    let exTx := s.recalExcess (s.rdInt (TMP_LDIE.TX_DIE n)) tx.toInt
    let oldRx := s.rxTotal n
    let oldTx := s.txTotal n
    let s := match exRx with
      | none => (s.wr (TMP_LDIE.RX_DIE n) rx.toNat).wr (TMP_LEXCESS.RX_EXCESS_PS n) 0
      | some d => s.wr (TMP_LEXCESS.RX_EXCESS_PS n) d
    let s := match exTx with
      | none => (s.wr (TMP_LDIE.TX_DIE n) tx.toNat).wr (TMP_LEXCESS.TX_EXCESS_PS n) 0
      | some d => s.wr (TMP_LEXCESS.TX_EXCESS_PS n) d
    let s := if exRx.isSome && exTx.isSome then s else s.laneCal n 1 oldRx oldTx
    if exRx.isSome || exTx.isSome then
      let s := ((s.wr (TMP_LDIE.REJECT n) 1).wr TMP_STATUS.LCAL_REJECT 1).count TMP_CNT.RECAL_REJECTED
      let s := s.warn 1 0x0101 n (exRx.getD (exTx.getD 0))
      .next (s.answerRecal n 0x0101 [])
    else .next (s.answerRecal n 0 (leBytes 4 (s.rd (TMP_LDIE.GEN n))))

/-- The second gathered has ended, and its TRACE record is due (R91; 03 R102). -/
def State.traceDue (s : State) : Bool := s.tamp.traceOpen && decide (s.tamp.trace.second < tbSec s.tamp.tb)

/-- TRACE_SUBMIT (R90, R91): at the end of a second in which port stamping was enabled. -/
def execTraceSubmit (s : State) : Host.Outcome State Fault Refusal :=
  if s.traceDue then .next (s.submitTrace (tbSec s.tamp.tb) (s.rd TMP_STATUS.CLASS_NOW)) else .next s

/-! ### The tick (R50, R51; 03 R96, R106) -/

/-- The constants and the port mode of lane `n` in force. -/
def State.lcal (s : State) (n : Nat) : LaneCal :=
  { rxBoard := s.rd (TMP_LCAL_RX.BOARD n), rxUnc := s.rd (TMP_LCAL_RX.UNC n), txBoard := s.rd (TMP_LCAL_TX.BOARD n), txUnc := s.rd (TMP_LCAL_TX.UNC n),
    mode := FMap.get 0 s.tamp.laneMode n }

/-- A change of constants is recorded (R90). -/
def State.calRecord (s : State) (n : Nat) (old : LaneCal) (oldRx oldTx : Int) : State :=
  if { s.lcal n with mode := old.mode } = old then s else s.laneCal n 2 oldRx oldTx

/-- A lane calibration section applied live takes effect on lane `n` (R88): a live measurement in progress is abandoned; one at link lock is abandoned and begins
anew, so the lane stays unmeasured (notes/assumptions/47); constants that change are recorded. -/
def State.calLane (s : State) (n : Nat) (c : LaneCal) : State :=
  let s := if s.tamp.recal = some n then { s with tamp := { s.tamp with recal := none } }.count TMP_CNT.RECAL_ABANDONED else s
  let old := s.lcal n
  let oldRx := s.rxTotal n
  let oldTx := s.txTotal n
  let s := { s with tamp := { s.tamp with calPending := FMap.set none s.tamp.calPending n none, laneMode := FMap.set 0 s.tamp.laneMode n c.mode } }
  let s := (((s.wr (TMP_LCAL_RX.BOARD n) c.rxBoard).wr (TMP_LCAL_RX.UNC n) c.rxUnc).wr (TMP_LCAL_TX.BOARD n) c.txBoard).wr (TMP_LCAL_TX.UNC n) c.txUnc
  s.calRecord n old oldRx oldTx

/-- Lanes whose change waits, and that are in an inter-frame gap, change (R88). -/
def State.calGaps (s : State) : State :=
  s.tamp.calPending.foldl (fun s e => match e.2 with
    | some c => if s.laneBusy e.1 then s else s.calLane e.1 c
    | none => s) s

/-- PPS_OUT falls WIDTH_US after its edge (R71). -/
def State.ppsFall (s : State) : State :=
  match s.tamp.ppsFalls with
  | some t => if t ≤ s.ticks then ({ s with tamp := { s.tamp with ppsFalls := none } } : State).emit .ppsFall else s
  | none => s

/-- TIMEBASE_TICK (R50, R51, R59; 03 R96, R106): the timebase advances; a correction has so much less to remove; an E_time evaluated takes effect; every port
recomputes its watermark. -/
def execTimebaseTick (s : State) : Host.Outcome State Fault Refusal :=
  let d := s.tickAdvance
  let s : State := { s.advanceTb d with ticks := s.ticks + 1 }
  let s := match s.tamp.corr with
    | some (c, src, r) => { s with tamp := { s.tamp with corr := some (c, src, r - d), moved := s.tamp.moved - d } }
    | none => s
  let s := match s.tamp.eNext with | some e => s.takeE e | none => s
  .next s.ppsFall.tickTie.tickPorts.calGaps

end Sys2Proof.Machine
end

