-- ==== Sys2Proof/Machine/Ptp.lean ====
section
/-!
DEFINITION. IEEE 1588 on the timing ports (02 R63 to R66): Roaster's PTP state machines and default BMCA, the offset samples, and what a timing port sends. The
message formats, the data set comparison and the state decision are IEEE 1588-2019's (PRESUMED, notes/assumptions/46).
-/

namespace Sys2Proof.Machine

/-! ### Messages -/

def ptpType (m : List Byte) : Nat := field m 0 1 % 16
def ptpSeq (m : List Byte) : Nat := beField m 30 2
/-- sourcePortIdentity: the clock identity and the port number. -/
def ptpSender (m : List Byte) : Nat := beField m 20 10
/-- correctionField, in units of the timebase (the field counts 2⁻¹⁶ ns). -/
def ptpCorr (m : List Byte) : Int := toInt 64 (beField m 8 8) * (5 * 2 ^ 64 : Nat)
/-- The timestamp of the body (seconds and nanoseconds), in units of the timebase. -/
def ptpTime (m : List Byte) : Nat := (beField m 34 6 * 1000000000 + beField m 40 4) * tbNs

/-- The PTP message in a frame (02 Table 02-3): the transport, as TMP_PTP_CFG_k.TRANSPORT numbers it, and the message. -/
def ptpOf (d : List Byte) : Option (Nat × List Byte) :=
  let et := beField d 12 2
  let udp := fun (off tr : Nat) => let q := beField d (off + 2) 2; if q = 319 ∨ q = 320 then some (tr, d.drop (off + 8)) else none
  if et = 0x88F7 then some (0, d.drop 14)
  else if et = 0x0800 ∧ field d 23 1 = 17 then udp (14 + 4 * (field d 14 1 % 16)) 1
  else if et = 0x86DD ∧ field d 20 1 = 17 then udp 54 2
  else none

/-- A PTP message that arrives on a timing port goes to Tamp and Roaster (01 R22): it waits at the first timing slot of the port. -/
def State.ptpArrive (s : State) (p : Nat) (st : Stamp) (data : List Byte) : State :=
  match [0, 1, 2, 3].find? (fun k => s.tport k == some p), ptpOf data with
  | some k, some (tr, m) => if tr = s.rd (TMP_PTP_CFG.TRANSPORT k) then s.setPtp k { s.ptpSlot k with inbox := (s.ptpSlot k).inbox ++ [(st, m)] } else s
  | _, _ => s

/-- The message is of the slot's domain, of PTP version 2, and of no other SDO. -/
def State.ptpOurs (s : State) (k : Nat) (m : List Byte) : Bool :=
  decide (34 ≤ m.length) && field m 0 1 / 16 == 0 && field m 1 1 % 16 == 2 && field m 4 1 == s.rd (TMP_PTP_CFG.DOMAIN k)

/-- The device's clock identity, and the port identity of timing slot `k`. -/
def State.clockId (s : State) : Nat := s.fuses.serial % 2 ^ 64
def State.portId (s : State) (k : Nat) : Nat := s.clockId * 65536 + (k + 1)

/-- The data set of an Announce. -/
def annOf (m : List Byte) : Announce :=
  { gm := beField m 53 8, steps := beField m 61 2, utc := if bitAt (field m 7 1) 2 then some (toInt 16 (beField m 44 2)) else none, accuracy := field m 49 1,
    cls := field m 48 1, variance := beField m 50 2, prio1 := field m 47 1, prio2 := field m 52 1, source := field m 63 1, sender := ptpSender m }

/-- A duration of 2^(log − bias) seconds in ticks. -/
def logTicks (log bias : Nat) : Nat := 1250000000 * 2 ^ log / 2 ^ bias
def State.annTicks (s : State) (k : Nat) : Nat := logTicks (s.rd (TMP_PTP_CFG.LOG_ANN k)) 3

/-! ### The best master clock algorithm -/

/-- The grandmaster's part of a data set, in the order of comparison: lower is better. -/
def Announce.key (a : Announce) : Nat := (((((a.prio1 * 256 + a.cls) * 256 + a.accuracy) * 65536 + a.variance) * 256 + a.prio2) * 2 ^ 64) + a.gm

/-- The data set comparison of `a`, received on port identity `ra`, with `b`, received on `rb`: 2 `a` is better, 1 better by topology, 0 the same, and the
negatives for `b`. -/
def dsCompare (a : Announce) (ra : Nat) (b : Announce) (rb : Nat) : Int :=
  if a.gm ≠ b.gm then (if a.key < b.key then 2 else -2)
  else if a.steps + 1 < b.steps then 2
  else if b.steps + 1 < a.steps then -2
  else if a.steps < b.steps then (if rb < b.sender then 2 else 1)
  else if b.steps < a.steps then (if ra < a.sender then -2 else -1)
  else if a.sender < b.sender then 1
  else if b.sender < a.sender then -1
  else if ra < rb then 1 else if rb < ra then -1 else 0

/-- The device's own data set: it is no grandmaster of a traceable time. -/
def State.ownSet (s : State) : Announce := { gm := s.clockId, sender := s.clockId * 65536 }

/-- The better of two data sets received on timing slots. -/
def State.better (s : State) (a : Option (Announce × Nat)) (b : Announce × Nat) : Option (Announce × Nat) :=
  match a with
  | none => some b
  | some x => if dsCompare b.1 (s.portId b.2) x.1 (s.portId x.2) > 0 then some b else some x

/-- A master of which two Announces came within four announce intervals, nearer than 255 steps. -/
def State.qualified (s : State) (k : Nat) (f : Foreign) : Bool :=
  f.prev.elim false (fun t => decide (s.ticks ≤ t + 4 * s.annTicks k)) && decide (f.ann.steps < 255)

/-- The best master heard on slot `k`. -/
def State.erbest (s : State) (k : Nat) : Option (Announce × Nat) :=
  (((s.ptpSlot k).foreign.filter (s.qualified k)).map (fun f => (f.ann, k))).foldl s.better none

/-- The best master heard on any slot. -/
def State.ebest (s : State) : Option (Announce × Nat) := ([0, 1, 2, 3].filterMap s.erbest).foldl s.better none

/-- The slot is in use and its port's link is up. -/
def State.tportUp (s : State) (k : Nat) : Bool := match s.tport k with | some p => s.flag (SEQ_PST.LINK p) | none => false

/-- The state decision of slot `k`; `silent`: its announce receipt timeout has expired. -/
def State.ptpDecision (s : State) (k : Nat) (silent : Bool) : Nat :=
  let st := s.rd (TMP_PTP_STAT.PORT_STATE k)
  let master := if s.flag (TMP_PTP_CFG.SLAVE_ONLY k) then 4 else 6
  if !s.tportUp k then 1
  else match s.ebest with
    | some (b, j) =>
      if dsCompare s.ownSet (s.ownSet).sender b (s.portId j) > 0 then master
      else if j = k then (if (st = 8 ∨ st = 9) ∧ (s.ptpSlot k).parent = some b.sender then st else 8)
      else match s.erbest k with
        | some (e, _) => if dsCompare b (s.portId j) e (s.portId k) = 1 then 7 else master
        | none => if (st = 1 ∨ st = 4) ∧ !silent then 4 else master
    | none => if (st = 1 ∨ st = 4) ∧ !silent then 4 else master

/-- The states that the BMCA recommends; a slot that comes to follow another master measures anew. -/
def State.bmca (s : State) (silent : Option Nat) : State :=
  let ds := [0, 1, 2, 3].map (fun k => (k, s.ptpDecision k (silent == some k), s.erbest k))
  ds.foldl (fun s d =>
    let (k, st, e) := d
    let s := if st = 8 then s.setPtp k { s.ptpSlot k with parent := e.map (·.1.sender), ann := e.map (·.1), sync := none, last := none, delay := none } else s
    s.wr (TMP_PTP_STAT.PORT_STATE k) st) s

/-! ### Messages received -/

/-- The announced currentUtcOffset differs from the leap-second table (TMP_STATUS.UTC_MISMATCH). -/
def State.utcCheck (s : State) (utc : Option Int) : State :=
  match utc, utcOffset s.tamp.leap (tbSec s.tamp.tb) with
  | some u, some o => if o = u then s else (s.wr TMP_STATUS.UTC_MISMATCH 1).traceFlag 4
  | _, _ => s

/-- An Announce: its sender is heard; one of another timescale than PTP's is forgotten, so that it is never selected (R63). The data of the master followed is
taken over at once. -/
def State.rxAnnounce (s : State) (k : Nat) (m : List Byte) : State :=
  let x := s.ptpSlot k
  let a := annOf m
  if a.sender / 65536 = s.clockId ∨ bitAt (field m 6 1) 0 then s
  else
    let rest := x.foreign.filter (fun f => f.ann.sender != a.sender)
    let old := x.foreign.find? (fun f => f.ann.sender == a.sender)
    let x := if bitAt (field m 7 1) 3 then { x with foreign := rest ++ [{ ann := a, at_ := s.ticks, prev := old.map (·.at_) }] } else { x with foreign := rest }
    let mine := x.parent == some a.sender
    let s := s.setPtp k (if mine then { x with ann := some a } else x)
    let s := if mine then (s.wr (TMP_PTP_STAT.STEPS_REMOVED k) (min a.steps 255)).utcCheck a.utc else s
    (s.bmca none).reselect

/-- An offset sample of slot `k`, in units of the timebase: the slot is in SLAVE from here, and the sample steers when the slot is the source (R62, R64, R70). -/
def State.ptpSample (s : State) (k : Nat) (off : Int) : State :=
  let s := s.setPtp k { s.ptpSlot k with offset := off - s.tamp.moved }
  let s := s.wr (TMP_PTP_STAT.PORT_STATE k) 9
  let s := s.wr (TMP_PTP_STAT.STEPS_REMOVED k) (min ((s.ptpSlot k).ann.elim 0 (·.steps)) 255)
  let th := off / (5 * 2 ^ 68 : Nat)
  let s := s.redeem (k + 1) th
  let was := s.rd TMP_STATUS.SOURCE
  let s := s.reselect
  if was = k + 1 ∧ s.rd TMP_STATUS.SOURCE = k + 1 then s.sample th else s

/-- A Sync is complete: origin plus corrections `t1`, reception `t2`. With a measured path delay it gives an offset sample: t2 − t1 − delay − delayAsymmetry. -/
def State.syncDone (s : State) (k : Nat) (t1 : Int) (t2 : Nat) : State :=
  let s := s.setPtp k { s.ptpSlot k with sync := none, last := some (t1, t2) }
  match (s.ptpSlot k).delay with
  | none => s
  | some d => s.ptpSample k (((t2 : Nat) - t1) - s.rdInt (TMP_PTP_CFG.ASYM_PS k) * (tbNs : Int) / 1000 - d / 2)

/-- The slot follows the message's sender. -/
def State.follows (s : State) (k : Nat) (m : List Byte) : Bool :=
  (s.rd (TMP_PTP_STAT.PORT_STATE k) == 8 || s.rd (TMP_PTP_STAT.PORT_STATE k) == 9) && (s.ptpSlot k).parent == some (ptpSender m)

/-- A Sync, one-step or two-step. -/
def State.rxSync (s : State) (k : Nat) (t2 : Nat) (m : List Byte) : State :=
  let s := s.count (TMP_PTP_STAT.SYNC_RX k)
  if !s.follows k m then s
  else
    let s := s.setPtp k { s.ptpSlot k with lost := false }
    if bitAt (field m 6 1) 1 then (s.setPtp k { s.ptpSlot k with sync := some (ptpSeq m, t2, ptpCorr m) }).reselect
    else (s.syncDone k ((ptpTime m : Nat) + ptpCorr m) t2).reselect

/-- A Follow_Up gives the origin of the two-step Sync of its sequenceId. -/
def State.rxFollowUp (s : State) (k : Nat) (m : List Byte) : State :=
  match (s.ptpSlot k).sync with
  | some (q, t2, c) => if s.follows k m ∧ q = ptpSeq m then s.syncDone k ((ptpTime m : Nat) + ptpCorr m + c) t2 else s
  | none => s

/-- A Delay_Resp to the last Delay_Req measures the path delay with the last Sync: (t2 − t3) + (t4 − t1), twice the mean. -/
def State.rxDelayResp (s : State) (k : Nat) (m : List Byte) : State :=
  let x := s.ptpSlot k
  match x.dreq, x.last with
  | some (q, t3), some (t1, t2) =>
    if s.follows k m ∧ q = ptpSeq m ∧ beField m 44 10 = s.portId k then
      s.setPtp k { x with dreq := none, delay := some (((t2 : Nat) - t1) + ((ptpTime m : Nat) - ptpCorr m - (t3 : Nat))) }
    else s
  | _, _ => s

/-- The header of a message that slot `k` sends. -/
def State.ptpHead (s : State) (k typ len flags2 seq log : Nat) (corr : Nat) : List Byte :=
  leBytes 1 typ ++ [0x12] ++ beBytes 2 len ++ leBytes 1 (s.rd (TMP_PTP_CFG.DOMAIN k)) ++ [0, 0] ++ leBytes 1 flags2 ++ beBytes 8 corr ++ zeros 4
    ++ beBytes 10 (s.portId k) ++ beBytes 2 seq ++ [5] ++ leBytes 1 log

/-- A Delay_Req at a port in MASTER is answered with the stamp of its delimiter; the stamp's fraction lowers the correction. -/
def State.rxDelayReq (s : State) (k : Nat) (st : Stamp) (m : List Byte) : State :=
  if s.rd (TMP_PTP_STAT.PORT_STATE k) ≠ 6 then s
  else
    let corr := ofInt 64 (toInt 64 (beField m 8 8) - (bits st 4 12 * 16 : Nat))
    s.emit (.ptpGeneral k (s.ptpHead k 9 54 0 (ptpSeq m) ((s.rd (TMP_PTP_CFG.LOG_DREQ k) + 249) % 256) corr
      ++ beBytes 6 (bits st 48 48) ++ beBytes 4 (bits st 16 32) ++ beBytes 10 (ptpSender m)))

/-- The L1_SYNC TLV of a Signaling message (IEEE 1588-2019 Annex L): 2 IDLE, 3 LINK_ALIVE, 4 CONFIG_MATCH, 5 L1_SYNC_UP; 1 where the TLV is not enabled. The port
requires coherent clocks both ways, and is coherent while RECCLK_OUT follows it. -/
def State.rxSignal (s : State) (k : Nat) (m : List Byte) : State :=
  if beField m 44 2 ≠ 0x8001 then s
  else
    let want := field m 48 1 % 8
    let has := field m 49 1 % 8
    let st := if !s.flag (TMP_PTP_CFG.L1SYNC_EN k) then 1 else if want ≠ 7 then 3
      else if has = 7 ∧ s.flag CLK_RECCLK.EN ∧ s.flag CLK_RECCLK.FOLLOW then 5 else 4
    s.wr (TMP_PTP_STAT.L1_STATE k) st

/-- A message of the slot's domain, with the stamp of its delimiter. -/
def State.ptpHandle (s : State) (k : Nat) (st : Stamp) (m : List Byte) : State :=
  match ptpType m with
  | 0x0 => s.rxSync k (stampTb st) m
  | 0x1 => s.rxDelayReq k st m
  | 0x8 => s.rxFollowUp k m
  | 0x9 => s.rxDelayResp k m
  | 0xB => s.rxAnnounce k m
  | 0xC => s.rxSignal k m
  | _ => s

/-- PTP_MESSAGE_RX (R61 to R65, R69, R70, R73 to R75): the slot's oldest waiting message reaches Tamp and Roaster's PTP state machines. -/
def execPtpMessageRx (k : Fin 4) (s : State) : Host.Outcome State Fault Refusal :=
  match (s.ptpSlot k).inbox with
  | [] => .next s
  | (st, m) :: r =>
    let s := s.setPtp k { s.ptpSlot k with inbox := r }
    .next (if s.run && s.tportUp k && s.ptpOurs k m then s.ptpHandle k st m else s)

/-- SOURCE_LOST (R62): the Sync or announce timeout of a timing slot (sources 1 to 4), or PPS_IN missing edges (5). Masters not heard for three announce intervals
are forgotten. -/
def execSourceLost (src : Fin 6) (s : State) : Host.Outcome State Fault Refusal :=
  if src.val = 0 then .next s
  else if src.val = 5 then
    let s := { s with tamp := { s.tamp with ppsOk := false } }
    let s := ((s.wr TMP_STATUS.PPS_IN_LOSS 1).traceFlag 5).warn 1 0x0102 0 (s.rd TMP_PPS_IN_ERR.ERR_PS)
    .next s.reselect
  else
    let k := src.val - 1
    let x := s.ptpSlot k
    let left := x.foreign.filter (fun f => decide (s.ticks < f.at_ + 3 * s.annTicks k))
    let s := s.setPtp k { x with foreign := left, lost := true }
    .next (s.bmca (if left.isEmpty then some k else none)).reselect

/-! ### Messages sent -/

/-- What a timing port in MASTER advertises (R65): the grandmaster's data set, one step further; without a source its own, of clockClass 7 or 52 in HOLDOVER and 248
in FREERUN. With PPS_IN as the source, or none in another state, the manual states no clockClass: a free value. -/
def State.advertised (s : State) : Announce :=
  let st := s.rd TMP_STATUS.STATE
  match s.srcAnn with
  | some a => { a with steps := a.steps + 1, sender := 0 }
  | none =>
    { s.ownSet with cls := if st = 3 then (if s.rd TMP_STATUS.CLASS_NOW ≤ 5 then 7 else 52) else if st = 0 then 248 else s.freeVal % 256 }

/-- An Announce of slot `k`; its currentUtcOffset is the leap-second table's (R65). -/
def State.announceMsg (s : State) (k seq : Nat) : List Byte :=
  let a := s.advertised
  let utc := utcOffset s.tamp.leap (tbSec s.tamp.tb)
  s.ptpHead k 0xB 64 (8 + 4 * b2n utc.isSome) seq ((s.rd (TMP_PTP_CFG.LOG_ANN k) + 253) % 256) 0 ++ zeros 10 ++ beBytes 2 (ofInt 16 (utc.getD 0)) ++ [0]
    ++ leBytes 1 a.prio1 ++ leBytes 1 a.cls ++ leBytes 1 a.accuracy ++ beBytes 2 a.variance ++ leBytes 1 a.prio2 ++ beBytes 8 a.gm ++ beBytes 2 a.steps ++ leBytes 1 a.source

/-- The L1_SYNC TLV of slot `k` in a Signaling message (R63). -/
def State.l1Msg (s : State) (k seq : Nat) : List Byte :=
  s.ptpHead k 0xC 50 0 seq 0x7F 0 ++ List.replicate 10 0xFF ++ [0x80, 0x01, 0, 2, 7, if s.flag CLK_RECCLK.EN && s.flag CLK_RECCLK.FOLLOW then 7 else 0]

/-- The general messages that a slot has due go out with its event message: in MASTER an Announce, and with L1SYNC_EN the L1_SYNC TLV, each announce interval
(DESIGN CHOICE, notes/assumptions/46). -/
def State.ptpGeneralDue (s : State) (k : Nat) : State :=
  let x := s.ptpSlot k
  if x.announced.elim true (fun t => decide (t + s.annTicks k ≤ s.ticks)) then
    let s := s.setPtp k { x with announced := some s.ticks, sent := x.sent + 1 }
    let s := if s.flag (TMP_PTP_CFG.L1SYNC_EN k) then s.emit (.ptpGeneral k (s.l1Msg k x.sent)) else s
    if s.rd (TMP_PTP_STAT.PORT_STATE k) = 6 then (s.emit (.ptpGeneral k (s.announceMsg k x.sent))).drew else s
  else s

/-- The ones' complement sum of a message's 16-bit words. -/
def sum16 : List Byte → Nat
  | a :: b :: r => a.toNat * 256 + b.toNat + sum16 r
  | [a] => a.toNat * 256
  | [] => 0

/-- A one-step Sync's originTimestamp and correctionField rewritten from its stamp (R66): the fraction, in 2⁻¹² ns, becomes 2⁻¹⁶ ns. -/
def oneStepRewrite (msg : List Byte) (st : Stamp) : List Byte :=
  let corr := (beField msg 8 8 + bits st 4 12 * 16) % 2 ^ 64
  patch (patch msg 8 (beBytes 8 corr)) 34 (beBytes 6 (bits st 48 48) ++ beBytes 4 (bits st 16 32))

/-- The 2-byte checksum trailer of a UDP/IPv6 message, moved so that the UDP checksum stays valid (R66). -/
def fixTrailer (old new : List Byte) : List Byte :=
  let n := new.length - 2
  let d := (beField new n 2 + sum16 old + 0xFFFF * (sum16 new / 0xFFFF + 1) - sum16 new) % 0xFFFF
  patch new n (beBytes 2 d)

/-- PTP_EVENT_TX (R54, R56, R65, R66): the event message leaves with the stamp of its delimiter; a one-step Sync is rewritten on the way, a two-step Sync of a master
is followed by its Follow_Up, and Roaster keeps the stamp of a Delay_Req. -/
def execPtpEventTx (k : Fin 4) (sub : Fin 3277) (msg : List Byte) (s : State) : Host.Outcome State Fault Refusal :=
  match s.tport k with
  | none => .next s
  | some p =>
    if !s.run || !s.flag (SEQ_PST.LINK p) then .next s
    else
      let st := stampOf (tbShift (s.tbAt sub) (s.txTotal (s.rd (SEQ_PORT.LANE0 p)))) (s.portClass p false)
      let one := s.flag (TMP_PTP_CFG.ONE_STEP k)
      let msg' := if one && ptpType msg == 0 then
          (let r := oneStepRewrite msg st
           if s.rd (TMP_PTP_CFG.TRANSPORT k) = 2 then fixTrailer msg r else r)
        else msg
      let s := s.emit (.ptp k msg' st)
      let s := if ptpType msg = 1 then s.setPtp k { s.ptpSlot k with dreq := some (ptpSeq msg, stampTb st) }
        else if ptpType msg = 0 && !one then
          s.emit (.ptpGeneral k (s.ptpHead k 8 44 0 (ptpSeq msg) ((s.rd (TMP_PTP_CFG.LOG_SYNC k) + 249) % 256) (bits st 4 12 * 16)
            ++ beBytes 6 (bits st 48 48) ++ beBytes 4 (bits st 16 32)))
        else s
      .next (s.ptpGeneralDue k)

end Sys2Proof.Machine
end

