-- ==== Sys2Proof/Machine/Merge.lean ====
section
/-!
DEFINITION. Fair merge (chapter 03): frames, slots, port membership and the release rule. The issue lanes are in Issue.lean.
-/

namespace Sys2Proof.Machine

/-- The frames in progress on a port, oldest first. -/
def State.framesOf (s : State) (p : Nat) : List Frame := FMap.get [] s.merge.frames p

def State.setFrames (s : State) (p : Nat) (l : List Frame) : State :=
  { s with merge := { s.merge with frames := FMap.set [] s.merge.frames p l } }

/-- The port takes frames: it is enabled, its link is up and the device runs (R99; 14 R533). -/
def State.portUp (s : State) (p : Nat) : Bool := s.run && s.flag (SEQ_PORT.EN p) && s.flag (SEQ_PST.LINK p)

/-- The port is in the active set and not LEAVING (R101, R103). -/
def State.constrains (s : State) (p : Nat) : Bool := s.flag (SEQ_PST.ACTIVE p) && !s.flag (SEQ_PST.LEAVING p)

/-- A frame starting on the lane abandons its live measurement (02 R85). -/
def State.abandonRecal (s : State) (p : Nat) : State :=
  match s.tamp.recal with
  | some n => if (s.lanesOf p).contains n then
      ({ s with tamp := { s.tamp with recal := none } }).count TMP_CNT.RECAL_ABANDONED else s
  | none => s

/-- FRAME_START (02 R56, R85; 03 R96, R101): the delimiter is stamped, and the frame pins the port's watermark until it ends. -/
def execFrameStart (p : Fin 64) (sub : Fin 3277) (s : State) : Host.Outcome State Fault Refusal :=
  if !s.portUp p then .next s
  else
    let n := s.rd (SEQ_PORT.LANE0 p)
    let cls := s.portClass p true
    let st := stampOf (tbShift (s.tbAt sub) (-(s.rxTotal n))) cls
    let s := s.abandonRecal p
    let s := if s.flag TMP_STATUS.STAMPING then s.tracePortStamp cls else s
    .next (s.setFrames p (s.framesOf p ++ [{ stamp := st, early := !s.constrains p }]))

/-- FRAME_END (01 R21, R22; 02 R67; 03 R93, R94, R100, R101): the pin is released; a good IEEE 1588 message of a timing port goes to Tamp, whether or not the port is
active; a good frame of an active port takes a PENDING slot, every other frame is discarded and counted. -/
def execFrameEnd (p : Fin 64) (data : List Byte) (good : Bool) (s : State) : Host.Outcome State Fault Refusal :=
  match s.framesOf p with
  | [] => .next s
  | f :: fs =>
    let s := s.setFrames p fs
    let len := data.length + 4
    let bad := !good || decide (len < 64) || decide (s.rd (SEQ_PORT.MAXLEN p) < len)
    if !bad && s.isTiming p && (ptpOf data).isSome then .next (s.ptpArrive p f.stamp data)
    else if f.early || !s.constrains p then .next (s.count (SEQ_PCNT1.JOIN_DISCARD p))
    else if bad then .next (s.count (SEQ_PCNT0.BAD_FRAME p))
    else match s.slotPool p with
      | none => .next (s.count (SEQ_PCNT1.NO_SLOT p))
      | some sh =>
        .next (s.postSlot p f.stamp .pending { stamp := f.stamp, port := p } sh data false)

/-- Data rate of a port in Gb/s (R115). -/
def rateOf (speed : Nat) : Nat := [10, 25, 50, 100, 200, 400].getD speed 10

/-- The frame-in-progress limit in ns (R98): ceil((MAXLEN + 8) × 8 / rate) + 1,000. -/
def State.fipLimit (s : State) (p : Nat) : Nat :=
  ceilDiv ((s.rd (SEQ_PORT.MAXLEN p) + 8) * 8) (rateOf (s.rd (SEQ_PORT.SPEED p))) + 1000

/-- FIP_TIMEOUT (R98): a frame in progress whose limit the timebase has passed is discarded, and its pin released. -/
def execFipTimeout (p : Fin 64) (s : State) : Host.Outcome State Fault Refusal :=
  let late : Frame → Bool := fun f => decide (stampTb f.stamp + s.fipLimit p * tbNs < s.tamp.tb)
  if (s.framesOf p).any late then
    .next ((s.setFrames p (dropFirst late (s.framesOf p))).count (SEQ_PCNT1.FIP_TIMEOUT p))
  else .next s

/-- FRAME_PASSES_MAXLEN (R96, Table 03-1): the frame being received is discarded as BAD_FRAME and its pin is released. -/
def execFramePassesMaxlen (p : Fin 64) (s : State) : Host.Outcome State Fault Refusal :=
  match (s.framesOf p).getLast? with
  | none => .next s
  | some f =>
    let s := s.setFrames p (s.framesOf p).dropLast
    .next (if f.early then s.count (SEQ_PCNT1.JOIN_DISCARD p) else s.count (SEQ_PCNT0.BAD_FRAME p))

/-- A lane's link is lost: its die parts are no longer valid, and a measurement on it ends (02 R80). -/
def State.laneDown (s : State) (n : Nat) : State :=
  let s := { s with tamp := { s.tamp with laneUp := FMap.set false s.tamp.laneUp n false,
                                          measuring := FMap.set false s.tamp.measuring n false,
                                          recal := if s.tamp.recal = some n then none else s.tamp.recal } }
  (s.wr (TMP_LDIE.VALID n) 0).answerRecal n 0x0100 []

/-- Link loss on a port (R99): frames in progress are discarded and counted in LINK_CUT, and the port becomes LEAVING. -/
def State.portLoss (s : State) (p : Nat) : State :=
  let s := s.countBy (SEQ_PCNT1.LINK_CUT p) (s.framesOf p).length
  let s := (s.setFrames p []).wr (SEQ_PST.LINK p) 0
  let s := (s.lanesOf p).foldl State.laneDown s
  ({ s with merge := { s.merge with lossAt := FMap.set 0 s.merge.lossAt p s.tamp.tb } }).wr (SEQ_PST.LEAVING p) 1

/-- PORT_LEAVE (R100): 2 × WINDOW_NS after the loss, once the port's last slot is resolved. -/
def execPortLeave (p : Fin 64) (s : State) : Host.Outcome State Fault Refusal :=
  if s.flag (SEQ_PST.LEAVING p) && (s.slotsOf p).isEmpty
      && decide (FMap.get 0 s.merge.lossAt p + 2 * s.rd SEQ_CFG.WINDOW_NS * tbNs ≤ s.tamp.tb) then
    let s := { s with merge := { s.merge with lossAt := FMap.set 0 s.merge.lossAt p 0 } }
    .next ((s.wr (SEQ_PST.LEAVING p) 0).wr (SEQ_PST.ACTIVE p) 0)
  else .next s

/-- Every join condition of R101 holds. -/
def State.mayJoin (s : State) (p : Nat) : Bool :=
  s.portUp p && s.intake && s.flag (TMP_LDIE.VALID (s.rd (SEQ_PORT.LANE0 p))) && s.flag TMP_STATUS.STAMPING
    && !s.flag (SEQ_PST.LEAVING p) && !s.flag (SEQ_PST.ACTIVE p)
    && (match s.merge.lastRel with
        | none => true
        | some r => decide (stampKey r < stampKey (s.portNow p)))

/-- PORT_JOIN (R101): the port's watermark constrains release from here; frames captured earlier are not its own. -/
def execPortJoin (p : Fin 64) (s : State) : Host.Outcome State Fault Refusal :=
  if s.mayJoin p then
    let s := s.wr (SEQ_PST.ACTIVE p) 1
    .next (s.setFrames p ((s.framesOf p).map (fun f => { f with early := true })))
  else .next s

/-- The tie list of a stamp's second; a second that a step passed over, or that began before the device first ran, takes the list of the first second after it that
has one (R106). -/
def State.tieAt (s : State) (sec : Nat) : Option TieList :=
  s.merge.ties.foldl (fun a t => if t.second < sec then a else match a with
    | none => some t
    | some b => if t.second < b.second then some t else a) none

/-- The tie rank of source `p` in the second of a stamp (R106): Tamp 0; a listed port 1 + ((i − N mod P) mod P); every other port, which was enabled during the
second, above P (65 + p), in order of port number. -/
def State.tieRank (s : State) (p sec : Nat) : Nat :=
  if p = 64 then 0
  else match s.tieAt sec with
    | none => 65 + p
    | some t =>
      let n := t.list.length
      match firstIdx (· == p) t.list with
      | some i => 1 + (i + n - sec % n) % n
      | none => 65 + p

/-- The key of a head slot: stamp bits [95:4], then the tie rank. -/
def State.slotKey (s : State) (p : Nat) (t : Slot) : Nat := stampKey t.stamp * 256 + s.tieRank p (bits t.stamp 48 48)

/-- Remove the DROPPED slots at the head of source `p` (R103). -/
def State.dropHeads (s : State) (p : Nat) : List Slot → State
  | [] => s.setSlots p []
  | t :: ts => if t.st = .dropped then State.dropHeads (s.freeSlot t) p ts else s.setSlots p (t :: ts)

/-- The head of least key over all sources: its source and slot. -/
def State.leastHead (s : State) : Option (Nat × Slot) :=
  (List.range 65).foldl (fun a p =>
    match (s.slotsOf p).head? with
    | none => a
    | some t => match a with
      | none => some (p, t)
      | some (q, u) => if s.slotKey p t < s.slotKey q u then some (p, t) else some (q, u)) none

/-- Tamp's watermark: the lower of T − 16 ns and the lowest stamp it has committed and not posted, that of a TRACE record that is due among them (R102; 02 R91). -/
def State.tampWm (s : State) : Nat :=
  let w := tbLayout (s.tamp.tb - 16 * tbNs)
  let w := if s.traceDue then min w ((s.tamp.trace.second + 1) * 2 ^ 48) else w
  s.tamp.waiting.foldl (fun a r => min a (stampKey r.stamp * 16)) w

/-- The constraining ports whose watermark has not passed a stamp (R103). -/
def State.holders (s : State) (st : Stamp) : List Nat :=
  (List.range 64).filter (fun p => s.constrains p && decide (stampKey (FMap.get 0 s.merge.wm p) ≤ stampKey st))

/-- SEQ_STATUS's hold fields. -/
def State.setHold (s : State) (valid : Bool) (port : Nat) (parse : Bool) : State :=
  ((s.wrB SEQ_STATUS.HOLD_VALID valid).wr SEQ_STATUS.HOLD_PORT port).wrB SEQ_STATUS.HELD_BY_PARSE parse

/-- The window has elapsed, and Tamp and every constraining port have passed the stamp (R103, R105). -/
def State.releasable (s : State) (st : Stamp) : Bool :=
  decide (stampTb st + s.rd SEQ_CFG.WINDOW_NS * tbNs ≤ s.tamp.tb) && decide (stampKey st < stampKey s.tampWm)
    && (s.holders st).isEmpty

/-- Offer the head slot of source `p` to the merge issue lane (R103, R109). -/
def State.offer (s : State) (p : Nat) (t : Slot) : State :=
  let s := (s.setSlots p (s.slotsOf p).tail).freeSlot t
  let s := match s.merge.lastRel with
    | some r => if stampKey r = stampKey t.stamp then s.count SEQ_CNT.TIES else s
    | none => s
  let s := if p < 64 then s.count (SEQ_PCNT0.CANDIDATES p) else s
  let s := s.wr SEQ_LAST_REL.STAMP_LO (t.stamp % 2 ^ 64)
  { s with merge := { s.merge with lastRel := some t.stamp, lane := s.merge.lane ++ [t.cand] } }

/-- MERGE_RELEASE (R103, R105): dropped heads go; the head of least key is offered when it is READY and nothing holds it. The merge
lane offers one record at a time (R109). -/
def execMergeRelease (s : State) : Host.Outcome State Fault Refusal :=
  let s := (List.range 65).foldl (fun s p => s.dropHeads p (s.slotsOf p)) s
  let s := s.flushTamp
  match s.leastHead with
  | none => .next (s.setHold false 0 false)
  | some (p, t) =>
    if t.st = .pending then .next (s.setHold true p true)
    else
      match (s.holders t.stamp).getLast? with
      | some q => .next (s.setHold true q false)
      | none =>
        let s := s.setHold false 0 false
        .next (if s.releasable t.stamp && s.merge.lane.isEmpty then (s.offer p t).flushTamp else s)

/-- PARSE_LATE (R104): a slot still PENDING at the parse deadline is dropped, counted and logged. -/
def execParseLate (p : Fin 64) (s : State) : Host.Outcome State Fault Refusal :=
  let late : Slot → Bool := fun t => t.st == .pending
    && decide (stampTb t.stamp + (s.rd SEQ_CFG.WINDOW_NS + s.rd SEQ_CFG.PARSE_LIMIT_NS) * tbNs ≤ s.tamp.tb)
  match (s.slotsOf p).find? late with
  | none => .next s
  | some t =>
    let s := s.setSlots p (mapFirst late (fun t => { t with st := .dropped }) (s.slotsOf p))
    .next ((s.count SEQ_CNT.PARSE_LATE).logError 2 0x0201 3 p (t.stamp % 2 ^ 64))

end Sys2Proof.Machine
end

