-- ==== Sys2Proof/Machine/Roaster.lean ====
section
/-!
DEFINITION. The configuration flash and what it holds (chapter 13): its layout (R493), commit records (R495, R496), images (R497, R500), sections and
their items (R498, R499), and the candidates of a section (R502).
-/

namespace Sys2Proof.Machine

/-! ### Flash -/

/-- `n` bytes of the configuration flash. -/
def State.flashBytes (s : State) (a n : Nat) : List Byte := (Memory.readBytes s.ro.flash a n).map (fun b => ~~~ b)

def State.setRo (s : State) (r : Roaster) : State := { s with ro := r }

/-- Program bytes of the flash. -/
def State.flashWrite (s : State) (a : Nat) (bs : List Byte) : State :=
  s.setRo { s.ro with flash := Memory.writeBytes s.ro.flash a (bs.map (fun b => ~~~ b)) }

/-- Erase `n` bytes of the flash. -/
def State.flashErase (s : State) (a n : Nat) : State := s.flashWrite a (List.replicate n 0xFF)

/-- CRC-64 (R495). -/
def crc64 (bs : List Byte) : Nat := (bs.foldl (crcByte 0xC96C5795D7870F42) (2 ^ 64 - 1)) ^^^ (2 ^ 64 - 1)

/-- The descriptor in use: the first copy whose MAGIC and CRC64 pass; none: the default layout (R493). -/
def State.descriptor (s : State) : Option (Nat × List Byte) :=
  [0, 1].findSome? fun k =>
    let d := s.flashBytes (0x1000 * k) 4096
    if field d 0 4 = 0x43534446 ∧ field d 4088 8 = crc64 (d.take 4088) then some (k, d) else none

/-- A 64-bit offset of the descriptor, or the default of Table 13-1. -/
def State.place (s : State) (off dflt : Nat) : Nat := match s.descriptor with | some (_, d) => field d off 8 | none => dflt

def State.bootCntAt (s : State) (copy : Nat) : Nat := s.place 16 0x10000 + 0x8000 * copy
/-- Slot A (0) or B (1), and the size of a slot. -/
def State.slotAt (s : State) (k : Nat) : Nat := if k = 0 then s.place 24 0x100000 else s.place 32 0x2900000
def State.slotSize (s : State) : Nat := s.place 40 (40 * 2 ^ 20)

/-- The size of a store copy of section `id` in the default layout. -/
def dfltCopy (id : Nat) : Nat := if id = 0x0A ∨ 0x10 ≤ id then 4 * 2 ^ 20 else 256 * 1024

/-- The place and size of copy `c` of section `id` (R493). -/
def State.copyAt (s : State) (id c : Nat) : Nat × Nat :=
  match s.descriptor with
  | some (_, d) =>
    let e := 64 + 16 * id
    (field d 48 8 + field d (e + 4 * c) 4 * 4096, field d (e + 8) 4 * 4096)
  | none =>
    let n := dfltCopy id
    (0x5100000 + ((List.range (id - 1)).map (fun i => 2 * dfltCopy (i + 1))).sum + c * n, n)

/-! ### Commit records (Table 13-3) -/

def recordOk (r : List Byte) (target : Nat) : Bool :=
  field r 0 4 == 0x54494D43 && field r 6 2 == target && field r 56 8 == crc64 (r.take 56)

/-- The commit record of a region of `size` bytes at `a`, if it is valid. -/
def State.record (s : State) (a size target : Nat) : Option (List Byte) :=
  let r := s.flashBytes (a + size - 4096) 64
  if 4096 ≤ size ∧ recordOk r target then some r else none

def recGen (r : List Byte) : Nat := field r 8 8
def recLen (r : List Byte) : Nat := field r 16 8

/-- A commit record. -/
def commitRecord (target gen len crc revision lmin lmax : Nat) : List Byte :=
  let b := leBytes 4 0x54494D43 ++ leBytes 2 1 ++ leBytes 2 target ++ leBytes 8 gen ++ leBytes 8 len ++ leBytes 8 crc ++ leBytes 4 revision
    ++ leBytes 1 lmin ++ leBytes 1 lmax ++ zeros 18
  b ++ leBytes 8 (crc64 b)

def slotTarget (k : Nat) : Nat := k + 1
def copyTarget (id c : Nat) : Nat := 0x100 + 2 * id + c

/-! ### Images (Tables 13-4, 13-5) -/

/-- A segment: its index in the table, and the entry's fields. -/
structure Seg where
  idx : Nat
  kind : Nat
  id : Nat
  off : Nat
  len : Nat
  crc : Nat
  gen : Nat
  deriving DecidableEq, Repr

/-- The segments of an image whose first bytes are `img`. -/
def segsOf (img : List Byte) : List Seg :=
  (List.range (field img 6 2)).map fun i =>
    let e := 256 + 64 * i
    { idx := i, kind := field img e 1, id := field img (e + 2) 2, off := field img (e + 8) 8, len := field img (e + 16) 8, crc := field img (e + 32) 8,
      gen := field img (e + 40) 8 }

/-- The bytes of a segment. -/
def segBytes (img : List Byte) (g : Seg) : List Byte := slice img g.off g.len

/-- The core: header, segment table, ROASTER segments in ascending offset (R497). -/
def imageCore (img : List Byte) : List Byte :=
  let rs := sortBy (fun (a b : Seg) => decide (a.off ≤ b.off)) ((segsOf img).filter (fun g => g.kind == 1))
  img.take (256 + 64 * field img 6 2) ++ rs.flatMap (segBytes img)

def partCode : Part → Nat
  | .YL9640 => 0x9640
  | .YL9632 => 0x9632

/-- The header of an image of `len` bytes passes (R497). -/
def State.headerOk (s : State) (img : List Byte) (len : Nat) : Bool :=
  field img 0 4 == 0x4D494C59 && field img 4 2 == 1 && field img 8 8 == len && decide (len + 4096 ≤ s.slotSize)
    && (field img 20 2 == partCode s.part || field img 20 2 == 0)

/-- The image of slot `k` and its commit record, if the slot is valid (R497). -/
def State.slotImage (s : State) (k : Nat) : Option (List Byte × List Byte) :=
  match s.record (s.slotAt k) s.slotSize (slotTarget k) with
  | none => none
  | some r =>
    let img := s.flashBytes (s.slotAt k) (min (recLen r) s.slotSize)
    if s.headerOk img (recLen r) && crc64 (imageCore img) == field r 24 8 then some (img, r) else none

/-- The generation of slot `k`; 0 if it is invalid. -/
def State.slotGen (s : State) (k : Nat) : Nat := match s.slotImage k with | some (_, r) => recGen r | none => 0

/-- An image may be committed: its format, its core and every segment's CRC pass (R412, R512). -/
def State.imageOk (s : State) (img : List Byte) : Bool :=
  let n := field img 6 2
  s.headerOk img img.length && decide (1 ≤ n) && decide (n ≤ 48) && field img 22 1 == 0xB1
    && (segsOf img).all (fun g => g.off % 4096 == 0 && decide (g.off + g.len ≤ img.length) && decide (1 ≤ g.kind) && decide (g.kind ≤ 3)
      && crc64 (segBytes img g) == g.crc)

/-! ### Sections and items (Tables 13-6, 13-7) -/

def secId (b : List Byte) : Nat := field b 6 2
def secGen (b : List Byte) : Nat := field b 8 8
def secLen (b : List Byte) : Nat := 64 + field b 16 4
def secPayload (b : List Byte) : List Byte := slice b 64 (field b 16 4)

/-- Both CRCs of a section pass (R498). -/
def secCrcOk (b : List Byte) : Bool := field b 56 8 == crc64 (b.take 56) && field b 24 8 == crc64 (secPayload b)

/-- The header of a section has the form of Table 13-6 for section `id`. -/
def secFormOk (b : List Byte) (id : Nat) : Bool :=
  field b 0 4 == 0x54434553 && field b 4 2 == 1 && secId b == id && secGen b != 0 && field b 20 4 == 0 && field b 32 24 == 0 && decide (secLen b ≤ b.length)
    && decide (1 ≤ id) && decide (id ≤ 0x13)

/-- An item of a payload. -/
inductive CfgItem where
  | reg (width off value : Nat)
  | block (target : Nat) (data : List Byte)
  | range (cluster chan first count index : Nat)
  | start (cluster mask : Nat)
  | move (src dst table si di count : Nat)
  | ctx (c form : Nat) (body : List Byte)
  | ring (r : Nat) (dir : Bool) (d : RDesc)
  | leap (es : List (Nat × Int))
  | lane (n mode : Nat)
  | drip (mask : Nat) (ucode : List Byte)
  deriving DecidableEq, Repr

/-- The sections that an item kind may stand in. -/
def kindIn (kind id : Nat) : Bool :=
  match kind with
  | 1 => id != 0x0C
  | 2 => decide (0x10 ≤ id) || id == 0x0A || id == 1
  | 3 | 5 => id == 0x0A
  | 4 => decide (0x10 ≤ id)
  | 6 => id == 0x0E
  | 7 => id == 9
  | 8 => id == 5
  | 9 => id == 4
  | _ => false

def pad16 (n : Nat) : Nat := ceilDiv n 16 * 16

/-- The item at the head of a payload: its size, whether its zero fields are zero, and the item. -/
def parseItem (b : List Byte) : Nat × Bool × CfgItem :=
  let f := field b
  match f 0 1 with
  | 1 => (16, f 2 2 == 0 && (f 1 1 == 4 || f 1 1 == 8), .reg (f 1 1) (f 4 4) (f 8 8))
  | 2 => (16 + pad16 (f 4 4), f 1 3 == 0 && f 4 4 % 8 == 0, .block (f 8 8) (slice b 16 (f 4 4)))
  | 3 => (16, f 3 1 == 0, .range (f 1 1) (f 2 1) (f 4 4) (f 8 4) (f 12 4))
  | 4 => (32, f 2 14 == 0, .start (f 1 1) (f 16 16))
  | 5 => (16, true, .move (f 1 1) (f 2 1) (f 3 1) (f 4 4) (f 8 4) (f 12 4))
  | 6 => (16 + pad16 (f 4 4), f 3 1 == 0 && f 8 8 == 0, .ctx (f 1 1) (f 2 1) (slice b 16 (f 4 4)))
  | 7 => (48, f 1 1 == 0 && f 4 12 == 0, .ring (f 2 2 % 32768) (bitAt (f 2 2) 15) { w0 := f 16 8, w1 := f 24 8, w2 := f 32 8, w3 := f 40 8 })
  | 8 => (16 + pad16 (8 * f 2 2), f 1 1 == 0 && f 4 12 == 0 && decide (1 ≤ f 2 2) && decide (f 2 2 ≤ 64), .leap (leapEntries (slice b 16 (8 * f 2 2))))
  | _ => (16, f 2 6 == 0, .lane (f 1 1) (f 8 8))

/-- The items of a payload, each with its payload offset; a refused item gives its offset (CAUSE 2). -/
def parseItems (id : Nat) : Nat → Nat → List Byte → Except Nat (List (Nat × CfgItem))
  | 0, off, _ => .error off
  | n + 1, off, b =>
    if b.isEmpty then .ok []
    else
      let (size, ok, it) := parseItem b
      if !kindIn (field b 0 1) id ∨ !ok ∨ b.length < size then .error off
      else match parseItems id n (off + size) (b.drop size) with
        | .ok l => .ok ((off, it) :: l)
        | .error e => .error e

/-- The items of a section (R499). -/
def secItems (b : List Byte) : Except Nat (List (Nat × CfgItem)) :=
  let p := secPayload b
  if secId b = 0x0C then
    (if field p 4 124 = 0 ∧ 128 + 16512 ≤ p.length then .ok [(0, .drip (field p 0 4) (p.drop 128))] else .error 0)
  else parseItems (secId b) (p.length / 16 + 1) 0 p

/-- The items of a section, none where it does not parse. -/
def itemsOf (b : List Byte) : List CfgItem := match secItems b with | .ok l => l.map (fun i => i.2) | .error _ => []

/-! ### Candidates (R502) -/

/-- A candidate of a section: its generation, its source, and its bytes. -/
structure Cand where
  gen : Nat
  source : Nat
  bytes : List Byte
  /-- its CRCs pass: the segment's or the record's, and the section's own two -/
  crc : Bool
  deriving DecidableEq, Repr

/-- Store copy `c` of a section, where its commit record is valid. -/
def State.copyCand (s : State) (id c : Nat) : Option Cand :=
  let (a, n) := s.copyAt id c
  (s.record a n (copyTarget id c)).map fun r =>
    let b := s.flashBytes a (min (recLen r) n)
    { gen := recGen r, source := 2 + c, bytes := b, crc := secCrcOk b && crc64 b == field r 24 8 }

/-- The image's segment of a section. -/
def imageCand (img : List Byte) (id : Nat) : Option Cand :=
  ((segsOf img).find? (fun g => g.kind == 3 && g.id == id)).map fun g =>
    let b := segBytes img g
    { gen := g.gen, source := 1, bytes := b, crc := secCrcOk b && crc64 b == g.crc }

/-- The image that has been booted. -/
def State.bootedImage (s : State) : List Byte :=
  match s.rd RST_SLOT.BOOTED with
  | 0 => []
  | k => match s.slotImage (k - 1) with | some (img, _) => img | none => []

/-- The candidates of section `id`, in descending generation, the image's ahead of a store copy's of equal generation. -/
def State.cands (s : State) (img : List Byte) (id : Nat) : List Cand :=
  sortBy (fun (a b : Cand) => decide (b.gen ≤ a.gen)) ((imageCand img id).toList ++ (s.copyCand id 0).toList ++ (s.copyCand id 1).toList)

/-- The section IDs, and those that the boot requires (Table 13-8). -/
def sectionIds : List Nat := (List.range 0x13).map (· + 1)
def State.required (s : State) (id : Nat) : Bool := (decide (id ≤ 0x0C) && id != 2) || (decide (0x10 ≤ id) && (List.range 16).any (fun i => s.hasCluster (16 * (id - 16) + i)))

/-- The section in force with an ID. -/
def State.sec (s : State) (id : Nat) : SecForce := FMap.get {} s.ro.secs id
def State.setSec (s : State) (id : Nat) (x : SecForce) : State := s.setRo { s.ro with secs := FMap.set {} s.ro.secs id x }

/-- A write of the flash fails: FLASH_FAIL is counted (R496). -/
def State.flashFail (s : State) : State := s.count CFG_FLASH.WRITE_FAILS

end Sys2Proof.Machine
end

