-- ==== Sys2Proof/Machine/Views.lean ====
section
/-!
DEFINITION. Register fields that show a structure of the state: what a read of them returns (the field tables of chapters 06 to 13).
-/

namespace Sys2Proof.Machine

/-- CRF_ (06): `o` is the byte offset in the block. -/
def State.viewCrf (s : State) (o lo : Nat) : Option Nat :=
  if o = 0x08 ∧ lo = 32 then some (min 65535 s.crf.issued.length)
  else if 0x110 ≤ o ∧ o < 0x128 then
    match s.others[(o - 0x110) / 8]? with
    | some m => some (if s.flag (EZN_MEMBER.SLOT_VALID m) then (s.ezm m).conf.getD 0 else 0)
    | none => some 0
  else none

/-- PRG_ (06). -/
def State.viewPrg (s : State) (o lo : Nat) : Option Nat :=
  let held := s.eports.flatMap (fun e => e.2.held)
  if o = 0x08 then
    match lo with
    | 0 => some held.length
    | 19 => some (b2n (!s.gateRoom 1))
    | _ => some (s.gateUse.2 / 2 ^ 20)
  else if 0x1000 ≤ o ∧ o < 0x1400 then
    let x := s.eport ((o - 0x1000) / 16)
    match o % 16, lo with
    | 0, 0 => some x.held.length
    | 0, _ => some (if x.held.isEmpty then 0 else min (2 ^ 32 - 1) ((s.ticks - x.since) * 4 / 5))
    | _, _ => some (match x.held with | f :: _ => f.dep | [] => 0)
  else if 0x2000 ≤ o ∧ o < 0x2200 then
    match s.closed[(o - 0x2000) / 8]? with
    | some e => some (if lo = 0 then e.index else e.epoch)
    | none => some 0
  else if o = 0x2200 then some ((s.closed.take 64).mapIdx (fun k (e : Closed) => b2n e.roll * 2 ^ k)).sum
  else if o = 0x2208 then some (2 ^ min 64 s.closed.length - 1)
  else none

def CtxSt.code : CtxSt → Nat
  | .idle => 0 | .issuing => 1 | .waiting => 2 | .parked => 3 | .transfer => 4

/-- NDC_ and DRP_ of channel `c` (07). -/
def State.viewChan (s : State) (c o lo : Nat) : Option Nat :=
  if o = 0x18 ∧ lo = 3 then some (b2n (bitAt s.crf.plan.mask c))
  else if o = 0x38 ∧ lo = 32 then
    let days := (List.range 16).filterMap (fun l => let x := s.lun c l; if x.sweepAt < x.logical then x.sweepDay else none)
    some (days.foldl min (days.headD 0) % 65536)
  else if o = 0x2008 then
    let ops := (List.range 16).map (fun l => s.ctx c l)
    match lo with
    | 0 => some (b2n (s.flag (DRP_CTRL.SUSPEND c) && ops.all (fun x => x.op.isNone)))
    | 2 => some (b2n (ops.any (fun x => x.op.isSome && x.bank != s.rd (DRP_STAT.ACTIVE_BANK c))))
    | 16 => some (ops.mapIdx (fun l x => b2n x.op.isSome * 2 ^ l)).sum
    | _ => none
  else if 0x2100 ≤ o ∧ o < 0x2180 then
    let x := s.ctx c ((o - 0x2100) / 8)
    match lo with
    | 0 => some x.pc
    | 12 => some x.st.code
    | 15 => some (if x.op.isSome then x.bank else 0)
    | 16 => some (match x.op with | some p => p.kind | none => 0)
    | 20 => some x.queue.length
    | 24 => some (x.lc.getD 0 0)
    | _ => some (if x.op.isSome then min (2 ^ 32 - 1) ((s.ticks - x.began) / 2) else 0)
  else none

/-- The HOSTLANE condition of 09 Table 09-7, and a GATED ring that waits for a reservation. -/
def State.laneHold (s : State) : Bool := !s.intake || decide (8192 ≤ s.arrivalQ)
def State.gateHold (s : State) : Bool :=
  !s.gateRoom 1 && s.subRings.any (fun r => (s.sdesc r).cls == 0 && (s.sdesc r).gated && (s.sub r).st == .run && (s.sub r).a != (s.sub r).f)

/-- HQ_ (09, 10). -/
def State.viewHq (s : State) (o lo : Nat) : Option Nat :=
  let r := s.rd HQ_RSEL.RING
  let dlv := s.flag HQ_RSEL.DIR
  let d := if dlv then s.ddesc r else s.sdesc r
  match o, lo with
  | 0x10, 0 => some (b2n s.laneHold)
  | 0x10, 1 => some (b2n s.gateHold)
  | 0x10, 16 => some (min 8192 s.arrivalQ)
  | 0x10, _ => some ((s.rd HQ_BKLG.SIZE_4K * 4096 - s.poolUsed) / 2 ^ 20)
  | 0x20, _ => some d.w0
  | 0x28, _ => some d.w1
  | 0x30, _ => some d.w2
  | 0x38, _ => some d.w3
  | 0x40, 0 => some (if dlv then (s.dlv r).st.code else (s.sub r).st.code)
  | 0x40, 4 => some (if !dlv && (s.sub r).st == .error then (s.sub r).cause else 0)
  | 0x40, _ => some (if dlv then min (2 ^ 32 - 1) ((s.dlv r).backlogBytes / 1024) else 0)
  | 0x48, 0 => some (if dlv then (s.dlv r).wd else (s.sub r).h)
  | 0x48, _ => some (if dlv then (s.dlv r).rd else (s.sub r).a)
  | 0x50, _ => some (if dlv then (s.dlv r).last else (s.sub r).last)
  | 0x20010, 16 => some (min 8192 s.blk.cmds.length)
  | _, _ => if 0x1000 ≤ o ∧ o < 0x1800 ∧ lo = 0 then some (s.sliceBacklog ((o - 0x1000) / 8) / 1024) else none

/-- CPH_ (11). -/
def State.viewCph (s : State) (o lo : Nat) : Option Nat :=
  if o = 0 ∧ lo = 35 then some s.unitsIn.length
  else if 0x1000 ≤ o ∧ o < 0x1800 ∧ o % 0x20 = 0x10 ∧ lo = 16 then some (s.cipher.jobs.filter (fun j => j.queue == (o - 0x1000) / 0x20)).length
  else if o = 0x30 then
    let x : CCtx := FMap.get {} s.cipher.ctxs (s.rd CPH_CSEL.CTX)
    match lo with
    | 0 => some (b2n x.loaded)
    | 1 => some (b2n x.locked)
    | 2 => some (b2n x.pinned)
    | 3 => some (if x.loaded then x.source else 0)
    | 5 => some (x.attr % 2)
    | 6 => some (x.attr / 2 % 2)
    | 7 => some (x.attr / 4 % 2)
    | 8 => some x.usage
    | 16 => some x.keyId
    | _ => some x.tasks
  else none

/-- EZN_ (12). -/
def State.viewEzn (s : State) (o lo : Nat) : Option Nat :=
  if o = 0x18 ∧ lo = 4 then some (b2n s.seesPrimary)
  else if o = 0x20 ∧ lo = 16 then some s.groupMax
  else if 0x200 ≤ o ∧ o < 0x240 ∧ o % 16 = 0 ∧ lo = 3 then some (b2n (s.presentM ((o - 0x200) / 16)))
  else none

/-- CFG_ (13): the section in CFG_SEC_SEL, and the quadrant drains. -/
def State.viewCfg (s : State) (o lo : Nat) : Option Nat :=
  let id := s.rd CFG_SEC_SEL.ID
  let x := s.sec id
  match o, lo with
  | 0x8018, _ => some x.gen
  | 0x8020, 0 => some x.source
  | 0x8020, 2 => some (b2n ((s.cands s.bootedImage id).any (fun c => c.crc && decide (x.gen < c.gen))))
  | 0x8020, 3 => some (b2n x.skipped)
  | 0x8020, 4 => some (b2n x.crcLocked)
  | 0x8020, _ => some x.applies
  | 0x8028, 4 => some ((List.range 4).map (fun q => b2n (s.dy.threads.all (fun e => e.1 / 2048 != q || e.2.st == .idle)) * 2 ^ q)).sum
  | _, _ => none

/-- PCI_ and SLC_ (08). -/
def State.viewPci (s : State) (o lo : Nat) : Option Nat :=
  if o = 0x18 ∧ lo = 0 then some (heldTags s.pci.reads).length
  else if o = 0x18 ∧ lo = 16 then some s.pci.quarantine.length
  else if 0x10000 ≤ o ∧ o < 0x12000 ∧ o % 0x20 = 0x10 then
    match lo with
    | 32 => some (s.slc ((o - 0x10000) / 0x20)).st
    | 48 => some (s.sliceTags ((o - 0x10000) / 0x20))
    | _ => none
  else none

/-- The blocks below 16 MiB, but the merge sequencer's. -/
def State.viewLow (s : State) (off lo : Nat) : Option Nat :=
  if off < 0x20000 then none
  else if off < 0x30000 then s.viewCrf (off - 0x20000) lo
  else if off < 0x40000 then s.viewPrg (off - 0x30000) lo
  else if off < 0x80000 then s.viewHq (off - 0x40000) lo
  else if off < 0xA0000 then s.viewPci (off - 0x80000) lo
  else if off < 0xB0000 then s.viewCph (off - 0xA0000) lo
  else if off < 0xC0000 then s.viewEzn (off - 0xB0000) lo
  else if off < 0xD0000 then s.viewCfg (off - 0xC0000) lo
  else if 0x100000 ≤ off ∧ off < 0x180000 then s.viewChan ((off - 0x100000) / 0x4000) (off % 0x4000) lo
  else none

end Sys2Proof.Machine
end

