-- ==== Sys2Proof/Machine/RegIO.lean ====
section
/-!
DEFINITION. Reading and writing the register space (00 R14 to R18; 08 R300): a register is decoded by the table of Regs.lean; each field
is read from its home and written as its type code says. Fields that show another structure's state are read from it.
-/

namespace Sys2Proof.Machine

/-! ### Fields read from the machine's structures -/

/-- A thread. -/
def State.th (s : State) (t : Nat) : Thread := FMap.get {} s.dy.threads t

def State.setTh (s : State) (t : Nat) (x : Thread) : State :=
  { s with dy := { s.dy with threads := FMap.set {} s.dy.threads t x } }

def ThState.code : ThState → Nat
  | .idle => 0 | .run => 1 | .memwait => 2 | .wait => 3 | .halt => 4 | .fault => 5

def State.lockOf (s : State) (k n : Nat) : Lock := FMap.get {} s.dy.locks (k * 512 + n)

def State.setLock (s : State) (k n : Nat) (l : Lock) : State :=
  { s with dy := { s.dy with locks := FMap.set {} s.dy.locks (k * 512 + n) l } }

def State.chan (s : State) (k c : Nat) : Chan := FMap.get {} s.dy.chans (k * 256 + c)

def State.setChan (s : State) (k c : Nat) (x : Chan) : State :=
  { s with dy := { s.dy with chans := FMap.set {} s.dy.chans (k * 256 + c) x } }

/-- The cycle number of engine `g` (04 DYE_CYCLE): 8 cycles of 2.0 GHz in 5 ticks since its domain left reset. -/
def State.cycle (s : State) (g : Nat) : Nat := (s.ticks - FMap.get 0 s.dy.base g) * 8 / 5

/-- The fields of a DYE_ block (04): `o` is the byte offset in the block of engine `g`, `lo` the field's lowest bit. -/
def State.viewDye (s : State) (g o lo : Nat) : Option Nat :=
  if o = 0 then some ((List.range 8).foldl (fun a i => a + (s.th (g * 8 + i)).st.code * 2 ^ (4 * i)) 0)
  else if o = 8 then some (min (s.cycle g) (2 ^ 64 - 1))
  else if 0x100 ≤ o ∧ o < 0x300 then
    let t := s.th (g * 8 + (o - 0x100) / 0x40)
    match (o - 0x100) % 0x40 with
    | 0x08 => some t.pc
    | 0x10 => some (if lo = 0 then t.wmask else t.pend)
    | 0x28 => match lo with
      | 0 => some t.locks.length
      | 4 => some (match t.rsv with | some (.loc _) => 1 | _ => 0)
      | 5 => some (match t.rsv with | some (.loc c) => c | _ => 0)
      | 13 => some (b2n t.haltedInWait)
      | _ => none
    | _ => none
  else none

/-- The fields of a CLU_ block (04): `o` is the byte offset in the block of cluster `k`. -/
def State.viewClu (s : State) (k o lo : Nat) : Option Nat :=
  if 0x1000 ≤ o ∧ o < 0x1800 then
    let l := s.lockOf k ((o - 0x1000) / 4)
    match lo with
    | 0 => some (l.owner.getD 0)
    | 7 => some (b2n l.owner.isSome)
    | _ => some (min l.saucer.length 255)
  else if 0x2000 ≤ o ∧ o < 0x3000 ∧ o % 16 = 8 then
    let c := s.chan k ((o - 0x2000) / 16)
    match lo with
    | 0 => some c.msgs.length
    | 6 => some (b2n c.holder.isSome)
    | 7 => some (c.holder.getD 0)
    | 16 => some (min c.saucer.length 255)
    | _ => none
  else none

/-- The fields of the SEQ_ block (03): `o` is the byte offset in the block. -/
def State.viewSeq (s : State) (o lo : Nat) : Option Nat :=
  if o = 0x10 then some ((List.range 64).foldl (fun a p => a + s.rd (SEQ_PST.ACTIVE p) * 2 ^ p) 0)
  else if 0x1000 ≤ o ∧ o < 0x1800 then
    let p := (o - 0x1000) / 0x20
    match o % 0x20 with
    | 0x00 => some (FMap.get 0 s.merge.wm p % 2 ^ 64)
    | 0x08 => match lo with
      | 2 => some (b2n !(s.framesOf p).isEmpty)
      | 3 => some (b2n (s.flag (SEQ_PST.LINK p) && s.flag (SEQ_PORT.EN p) && !s.flag (SEQ_PST.ACTIVE p)))
      | 8 => some (s.slotsOf p).length
      | 32 => some (s.fipLimit p)
      | _ => none
    | _ => none
  else none

/-- The value of a field that shows a structure's state; none: the field's home is the register store. -/
def State.view (s : State) (off lo : Nat) : Option Nat :=
  if 0x1000000 ≤ off ∧ off < 0x1800000 then
    let k := (off - 0x1000000) / 0x20000
    let o := off % 0x20000
    if 0x10000 ≤ o then s.viewDye (k * 16 + (o - 0x10000) / 0x1000) (o % 0x1000) lo else s.viewClu k o lo
  else if 0x10000 ≤ off ∧ off < 0x20000 then s.viewSeq (off - 0x10000) lo
  else s.viewLow off lo

/-! ### Decoding an offset -/

/-- The offset left after each index has taken its stride; none when an index is out of range. -/
def stripDims : List (Nat × Nat) → Nat → Option Nat
  | [], o => some o
  | (st, n) :: ds, o => if o / st < n then stripDims ds (o % st) else none

/-- The byte of the register at which an access lands, when row `r` covers offset `off`. -/
def RegRow.hit (r : RegRow) (off : Nat) : Option Nat :=
  if off < r.base then none
  else match stripDims r.dims (off - r.base) with
    | some o => if o < r.bits / 8 then some o else none
    | none => none

/-- The register that covers a byte offset: its row and its own first byte. -/
def regAt (off : Nat) : Option (RegRow × Nat) :=
  regTable.foldl (fun a r => match a with
    | some x => some x
    | none => match r.hit off with | some o => some (r, off - o) | none => none) none

/-- The register space of a unit fused off on the part (00 R4). -/
def State.fused (s : State) (off : Nat) : Bool :=
  if s.part = .YL9640 then false
  else if 0x1000000 ≤ off ∧ off < 0x1800000 then !s.hasCluster ((off - 0x1000000) / 0x20000)
  else if 0x100000 ≤ off ∧ off < 0x180000 then !s.hasChannel ((off - 0x100000) / 0x4000)
  else if 0x1000 ≤ off ∧ off < 0x1800 then !s.hasLane ((off - 0x1000) / 0x20)
  else if 0xD1000 ≤ off ∧ off < 0xD5000 then
    let n := (off - 0xD1000) / 0x80
    if 16 ≤ n ∧ n < 48 then !s.hasChannel (n - 16) else if 48 ≤ n ∧ n < 112 then !s.hasCluster (n - 48) else false
  else false

/-- A table field as a field of the register at byte offset `base`. -/
def RegField.at (f : RegField) (base : Nat) : Fld := ⟨base * 8 + f.lo, f.width, f.rst⟩

/-- The value of one field as software reads it: W1P reads 0 (00 Table 00-8). -/
def State.fieldValue (s : State) (base : Nat) (f : RegField) : Nat :=
  if f.ty = .W1P then 0 else ((s.view base f.lo).getD (s.rd (f.at base))) % 2 ^ f.width

/-- The whole register. -/
def State.regValue (s : State) (r : RegRow) (base : Nat) : Nat :=
  r.fields.foldl (fun a f => a + s.fieldValue base f * 2 ^ f.lo) 0

/-- Field `f` meets the 32-bit half `h` of its register. -/
def RegField.inHalf (f : RegField) (h : Nat) : Bool := decide (f.lo < 32 * h + 32) && decide (32 * h < f.lo + f.width)

/-- Read one aligned 32-bit word of the register space: its value, and the state with the ROC fields read cleared (00 R14, R15).
Reserved offsets and fused units read 0 (00 R4, R18; 08 R300). -/
def State.read32 (s : State) (off : Nat) : Nat × State :=
  if s.fused off then (0, s)
  else match regAt off with
    | none => (0, s)
    | some (r, base) =>
      let h := (off - base) / 4
      let v := bits (s.regValue r base) (32 * h) 32
      let s := r.fields.foldl (fun s f => if f.ty = .ROC ∧ f.inHalf h then s.wr (f.at base) 0 else s) s
      (v, s)

/-- Read `n` bytes (4 or 8) at an offset. -/
def State.readReg (s : State) (off n : Nat) : Nat × State :=
  if n ≤ 4 then s.read32 off
  else
    let (lo, s) := s.read32 off
    let (hi, s) := s.read32 (off + 4)
    (lo + hi * 2 ^ 32, s)

/-- A field after the 32-bit half `h` of its register is written with `v`. -/
def newField (f : RegField) (old h v : Nat) : Nat :=
  let whole := setBits (old * 2 ^ f.lo) (32 * h) 32 v
  bits whole f.lo f.width

/-- The write half of 00 Table 00-8 for one field and 32-bit half `h`. LCK fields take a write only from Roaster or JTAG before the
configuration is applied (00 R16). -/
def State.writeField (s : State) (who : Requester) (base : Nat) (f : RegField) (h v : Nat) : State :=
  if !f.inHalf h then s
  else
    let old := s.rd (f.at base)
    match f.ty with
    | .RO | .ROC | .W1P => s
    | .RW | .RWS => s.wr (f.at base) (newField f old h v)
    | .RW1C => s.wr (f.at base) (old - (old &&& newField f 0 h v))
    | .LCK => if (who = .roaster ∨ who = .jtag) ∧ s.rd RST_STATUS.STATE = 0 then s.wr (f.at base) (newField f old h v) else s

/-- Write one aligned 32-bit word of the register space, field by field, without the pulses of W1P fields (00 R14 to R18). -/
def State.write32 (s : State) (who : Requester) (off v : Nat) : State :=
  if s.fused off then s
  else match regAt off with
    | none => s
    | some (r, base) => r.fields.foldl (fun s f => s.writeField who base f ((off - base) / 4) v) s

end Sys2Proof.Machine
end

