-- ==== Sys2Proof/Machine/Cipher.lean ====
section
/-!
DEFINITION. The cipher array (chapter 11): units, hardware nonces, contexts and their mailbox requests, and thread job queues.
-/

namespace Sys2Proof.Machine

/-! ### Units and nonces -/

/-- The array works: the device runs and the array's domain is not fatal (14 R532). -/
def State.cipherOn (s : State) : Bool := s.run && !s.isFatal .cipherArray

/-- The units that seal: the SEAL_UNITS highest in service (R445). -/
def State.sealUnits (s : State) : List Nat := s.unitsIn.drop (s.unitsIn.length - s.rd CPH_CFG.SEAL_UNITS)

/-- The units for jobs, at-rest data and Roaster's hashes (R449). -/
def State.jobUnits (s : State) : List Nat := s.unitsIn.take (s.unitsIn.length - s.rd CPH_CFG.SEAL_UNITS)

/-- The unit that takes the next task: the lowest job unit that holds no job (DESIGN CHOICE, notes/assumptions/32). -/
def State.freeUnit (s : State) : Option Nat := s.jobUnits.find? (fun u => !s.cipher.jobs.any (fun j => j.unit == u && j.status.isNone))

def State.cunit (s : State) (u : Nat) : CUnit := FMap.get {} s.cipher.units u

def State.setCunit (s : State) (u : Nat) (x : CUnit) : State :=
  { s with cipher := { s.cipher with units := FMap.set {} s.cipher.units u x } }

/-- Unit `u` takes a hardware nonce (R428, R431); none: NONCE_UNAVAILABLE. -/
def State.takeNonce (s : State) (u : Nat) : Option (List Byte × State) :=
  let nonce := fun c => leBytes 4 (s.rd CPH_STATUS.BOOT_COUNT) ++ leBytes 8 c
  if !s.flag CPH_STATUS.NONCE_READY then none
  else
    let x := s.cunit u
    if 0 < x.left then some (nonce x.next, s.setCunit u { x with next := x.next + 1, left := x.left - 1 })
    else
      let n := s.rd CPH_NONCE_NEXT.NEXT
      if 2 ^ 64 - 4096 ≤ n then none
      else some (nonce n, (s.wr CPH_NONCE_NEXT.NEXT (n + 4096)).setCunit u { x with next := n + 1, left := 4095 })

/-- A mismatch on a unit (R434, R435): counted, recorded and logged; the unit is withdrawn at its OOS_THR-th, and the array is fatal when no
unit is left. -/
def State.dupMismatch (s : State) (u opc ctx : Nat) : State :=
  let s := s.count CPH_CNT0.DUP_MISMATCH
  let nested := s.flag CPH_DUP_LOG.VALID && !s.flag (ERR_STAT.FIRST_VALID 8)
  let s := if s.flag CPH_DUP_LOG.VALID then s
    else (((s.wr CPH_DUP_LOG.UNIT u).wr CPH_DUP_LOG.OPC opc).wr CPH_DUP_LOG.CTX ctx).wr CPH_DUP_LOG.VALID 1
  let x := s.cunit u
  let s := s.setCunit u { x with dups := x.dups + 1 }
  let s := (s.logError 8 0x0801 3 u (s.rd CPH_DUP_LOG.UNIT + 128 + s.rd CPH_DUP_LOG.OPC * 256 + s.rd CPH_DUP_LOG.CTX * 65536)).nestFirst 8 (unitOfRecord 8 0x0801 u 0) nested
  if s.rd CPH_CFG.OOS_THR ≤ x.dups + 1 ∧ !s.unitOut u then
    let s := (s.wrBit (CPH_UNIT_OOS.OOS (u / 64)) (u % 64) true).warn 8 0x0802 u (x.dups + 1)
    if s.unitsIn.isEmpty then s.logError 8 0x0803 5 0 0 else s
  else s

/-- The task's status is written: Roaster acknowledges a DUP_MISMATCH record (14 Table 14-4). -/
def State.ackDup (s : State) : State :=
  if s.flag ERR_CFG.AUTO_ACK ∧ s.rd (ERR_STAT.FIRST_VALID 8) = 1 ∧ s.rd (ERR_FIRST.CODE 8) = 0x0801 then s.clearFirst 8 else s

/-! ### Contexts -/

def State.cctx (s : State) (c : Nat) : CCtx := FMap.get {} s.cipher.ctxs c

def State.setCctx (s : State) (c : Nat) (x : CCtx) : State :=
  { s with cipher := { s.cipher with ctxs := FMap.set {} s.cipher.ctxs c x } }

/-- A task of context `k` ends clean (CPH_CNT0.TASKS, CPH_CINFO.TASKS). -/
def State.taskDone (s : State) (k : Nat) : State :=
  let s := s.count CPH_CNT0.TASKS
  let x := s.cctx k
  s.setCctx k (if x.loaded then { x with tasks := satInc 32 x.tasks } else x)

/-- The configuration names the context (R422). -/
def State.ctxPinned (s : State) (c : Nat) : Bool :=
  (s.cctx c).pinned || s.rd CRF_CFG.SEAL_CTX == c
    || (List.range 16).any (fun n => s.flag (HQ_BLK_NS.EN n) && s.flag (HQ_BLK_NS.ENC n) && s.rd (HQ_BLK_NS.CTX n) == c)

/-- The fields of a context image (Table 11-2). -/
def imageCtx (im : List Byte) (key : List Byte) : CCtx :=
  { loaded := true, source := field im 2 1, usage := field im 3 1, attr := field im 4 1, keyId := field im 6 2, label := slice im 8 16, key := key }

/-- Image bytes 0 to 63 have the form of Table 11-2 with one of the sources `src`; LABEL is for DERIVED only. -/
def ctxImageOk (im : List Byte) (src : List Nat) : Bool :=
  field im 0 2 == 1 && src.contains (field im 2 1) && decide (field im 4 1 < 8) && (field im 5 1 == 32 || field im 5 1 == 64)
    && (field im 2 1 == 3 || field im 8 16 == 0) && field im 24 40 == 0

/-- The load rules (R420). -/
def usageOk (im : List Byte) : Bool :=
  let u := field im 3 1
  let src := field im 2 1
  let len := field im 5 1
  let ext := bitAt (field im 4 1) 1
  (!bitAt u 6 || (u == 0x40 && src == 2 && len == 32 && !ext))
    && (!bitAt u 7 || (u == 0x80 && len == 64))
    && (bits u 4 2 == 0 || (len == 64 && bits u 0 4 == 0))
    && (bits u 0 4 == 0 || len == 32)
    && (!ext || src == 1) && u != 0

/-- The KEK of an import (R424); none: the public key is no point of the curve. -/
def State.importKek (s : State) (im pub : List Byte) : Option (List Byte) :=
  (ecdh s.fuses.importKey pub).map fun z =>
    hkdf384 z (leBytes 8 s.fuses.serial) (ascii "YLC-IMPORT" ++ im.take 64) 32

/-- The key of a derived context (R425). -/
def State.deriveKey (s : State) (im : List Byte) : List Byte :=
  hkdf384 s.fuses.rootKey [] (ascii "YLC-DERIVE" ++ slice im 8 16) (field im 5 1)

/-- The save key (R426). -/
def State.saveKey (s : State) : List Byte :=
  hkdf384 s.fuses.rootKey [] (ascii "YLC-SAVE" ++ Config.saveLabel) 32

/-- Unwrap an imported key: body bytes 64 to 160 are the public key, from 164 the wrapped key (Table 11-4). -/
def State.unwrapImport (s : State) (body : List Byte) : Option (List Byte) :=
  match s.importKek body (slice body 64 97) with
  | none => none
  | some kek => match kwpUnwrap kek (body.drop 164) with
    | some k => if k.length = field body 5 1 then some k else none
    | none => none

/-- Open a saved blob (R427). -/
def State.unwrapSaved (s : State) (blob : List Byte) : Option (List Byte) :=
  let (k, ok) := gcmDecrypt s.saveKey (slice blob 64 12) (blob.take 64) (slice blob 80 64) (slice blob 144 16)
  if ok then some (k.take (field blob 5 1)) else none

/-- The load of a form's body: the key, or the status that refuses it (Table 11-3; R420, R421, R424). KEYS_LOCKED comes before UNWRAP_FAIL:
without the keys nothing can be unwrapped (DEDUCED, notes/assumptions/31). -/
def State.loadBody (s : State) (form : Nat) (body : List Byte) : Except Nat (List Byte) :=
  let im := body.take 64
  let locked := s.flag RST_STATUS.KEYS_LOCKED
  let src := match form with | 1 => [1] | 2 => [2] | 3 => [1, 2, 3] | _ => [3]
  if !ctxImageOk im src then .error 0x0101
  else if form = 1 ∧ (body.drop (64 + field im 5 1)) ≠ zeros (body.length - (64 + field im 5 1)) then .error 0x0101
  else if (form = 2 ∧ field body 161 3 ≠ 0) ∨ (form = 3 ∧ field body 76 4 ≠ 0) then .error 0x0101
  else if !usageOk im then .error 0x0102
  else if form ≠ 1 ∧ locked then .error 0x0104
  else match form with
    | 1 => .ok (slice body 64 (field im 5 1))
    | 2 => match s.unwrapImport body with | some k => .ok k | none => .error 0x0103
    | 3 => match s.unwrapSaved body with | some k => .ok k | none => .error 0x0103
    | _ => .ok (s.deriveKey im)

/-- LEN of CTX_LOAD by its form (Table 11-4). -/
def loadLen (pl : List Byte) : Option Nat :=
  match field pl 1 1 with
  | 1 => some 132
  | 2 => some (if field pl 9 1 = 64 then 240 else 208)
  | 3 => some 164
  | 4 => some 68
  | _ => none

/-- CTX_LOAD (R420 to R425). -/
def execCtxLoad (sl : Fin 256) (s : State) : Host.Outcome State Fault Refusal :=
  .next (s.serve sl 0x0700 (fun n => [132, 208, 240, 164, 68].contains n) true false (fun s pl =>
    let c := field pl 0 1
    match loadLen pl with
    | none => (s, some (if field pl 2 2 ≠ 0 then (5, []) else if s.ctxPinned c then (0x0100, []) else (0x0101, [])))
    | some n =>
      if pl.length ≠ n then (s, some (2, []))
      else if field pl 2 2 ≠ 0 then (s, some (5, []))
      else if s.ctxPinned c then (s, some (0x0100, []))
      else match s.loadBody (field pl 1 1) (pl.drop 4) with
        | .error e => (s, some (e, []))
        | .ok k =>
          let x := imageCtx (pl.drop 4) k
          (s.setCctx c x, some (0, leBytes 8 x.keyId))))

/-- Bytes 0 to 63 of a context's image. -/
def CCtx.image (x : CCtx) : List Byte :=
  leBytes 2 1 ++ leBytes 1 x.source ++ leBytes 1 x.usage ++ leBytes 1 x.attr ++ leBytes 1 x.key.length ++ leBytes 2 x.keyId
    ++ padTo 16 x.label ++ zeros 40

/-- CTX_SAVE (R427). -/
def execCtxSave (sl : Fin 256) (s : State) : Host.Outcome State Fault Refusal :=
  .next (s.serve sl 0x0701 (· == 4) true false (fun s pl =>
    let x := s.cctx (field pl 0 1)
    let form := field pl 1 1
    if field pl 2 2 ≠ 0 ∨ (form ≠ 1 ∧ form ≠ 3) then (s, some (5, []))
    else if !x.loaded then (s, some (0x0100, []))
    else if form = 1 then
      (if x.source ≠ 1 ∨ !bitAt x.attr 0 then (s, some (0x0101, [])) else (s, some (0, x.image ++ padTo 64 x.key)))
    else if s.flag RST_STATUS.KEYS_LOCKED then (s, some (0x0102, []))
    else match s.jobUnits.head?.bind s.takeNonce with
      | none => (s, some (0x0103, []))
      | some (iv, s) =>
        let (c, tag) := gcmEncrypt s.saveKey iv x.image (padTo 64 x.key)
        (s, some (0, x.image ++ iv ++ zeros 4 ++ c ++ tag))))

/-- CTX_DESTROY (R423). -/
def execCtxDestroy (sl : Fin 256) (s : State) : Host.Outcome State Fault Refusal :=
  .next (s.serve sl 0x0702 (· == 4) true false (fun s pl =>
    let c := field pl 0 1
    if field pl 1 3 ≠ 0 then (s, some (5, []))
    else if s.ctxPinned c then (s, some (0x0100, []))
    else if !(s.cctx c).loaded then (s, some (0x0101, []))
    else (s.setCctx c {}, some (0, []))))

/-- IMPORT_KEY (R423, Table 11-3). -/
def execImportKey (sl : Fin 256) (s : State) : Host.Outcome State Fault Refusal :=
  .next (s.serve sl 0x0703 (· == 0) true false (fun s _ =>
    (s, some (0, ecPublic s.fuses.importKey ++ zeros 3 ++ leBytes 8 s.fuses.serial))))

/-! ### Job queues -/

/-- The address of entry `i` of queue `q` (R438). -/
def State.jobAddr (s : State) (q i : Nat) : Nat := s.rd (CPH_JQA.BASE_4K q) * 4096 + 64 * i

/-- JOB_POLL (R440): CTRL of the entry at NEXT is read, again every POLL_NS while OWN is 0; with OWN = 1 the rest is read, and NEXT advances. -/
def execJobPoll (q : Fin 64) (s : State) : Host.Outcome State Fault Refusal :=
  if !s.cipherOn || !s.flag (CPH_JQA.EN q) || s.ro.quietQ.contains q || (FMap.look s.cipher.polledAt q).elim false (fun t => decide (s.ticks < t + nsTicks (s.rd CPH_CFG.POLL_NS))) then .next s
  else
    let i := s.rd (CPH_JQS.NEXT q)
    if !bitAt (leNat (Memory.readBytes s.gddr (s.jobAddr q i) 8)) 0 then .next { s with cipher := { s.cipher with polledAt := FMap.ins s.cipher.polledAt q s.ticks } }
    else
      let s := s.wr (CPH_JQS.NEXT q) ((i + 1) % 2 ^ s.rd (CPH_JQA.ENTRIES_LOG2 q))
      .next { s with cipher := { s.cipher with polled := s.cipher.polled ++ [((q : Nat), i)], polledAt := FMap.del s.cipher.polledAt q } }

/-- Fields of a job entry (Table 11-6). -/
def jobOpc (e : List Byte) : Nat := field e 1 1
def jobCtx (e : List Byte) : Nat := field e 2 1
def jobExt (e : List Byte) : Bool := bitAt (field e 4 1) 0
def jobSrc (e : List Byte) : Nat := field e 8 8
def jobDst (e : List Byte) : Nat := field e 16 8
def jobAad (e : List Byte) : Nat := field e 24 4
def jobLen (e : List Byte) : Nat := field e 28 4

/-- The limits of Table 11-7. -/
def jobLenOk (e : List Byte) : Bool :=
  let a := jobAad e
  let n := jobLen e
  match jobOpc e with
  | 1 | 2 => decide (a ≤ 65536) && decide (n ≤ 65536)
  | 3 | 4 => n == 0 && decide (1 ≤ a) && decide (a ≤ 65536)
  | 5 => a == 0 && decide (n ≤ 16777216)
  | _ => a == 0 && n % 16 == 0 && decide (16 ≤ n) && decide (n ≤ 65536)

/-- Bytes of output at DST (Table 11-7). -/
def jobOut (e : List Byte) : Nat :=
  match jobOpc e with | 3 | 4 => 0 | 5 => 48 | _ => jobLen e

/-- R439: the ranges lie in the data window; the output meets the input only as the input's data range exactly. An empty range lies nowhere
(DESIGN CHOICE, notes/assumptions/33). -/
def State.jobRangeOk (s : State) (q : Nat) (e : List Byte) : Bool :=
  let lo := s.rd (CPH_JQD.DATA_BASE_4K q) * 4096
  let hi := lo + s.rd (CPH_JQD.DATA_SIZE_4K q) * 4096
  let inside := fun a n => n == 0 || (decide (lo ≤ a) && decide (a + n ≤ hi))
  let a := jobSrc e
  let n := jobAad e + jobLen e
  let d := jobDst e
  let m := jobOut e
  inside a n && inside d m
    && (m == 0 || n == 0 || decide (d + m ≤ a) || decide (a + n ≤ d) || (d == a + jobAad e && m == jobLen e))

/-- The USAGE bit of a job opcode. -/
def jobUsage : Nat → Nat
  | 1 => 0 | 2 => 1 | 3 => 2 | 4 => 3 | 6 => 4 | _ => 5

/-- The dispatch checks of Table 11-8, in order; none: the job may start. -/
def State.jobStatus (s : State) (q : Nat) (e : List Byte) : Option Nat :=
  let ctrl := field e 0 8
  let c := jobCtx e
  let x := s.cctx c
  if jobOpc e = 0 ∨ 7 < jobOpc e ∨ bits ctrl 1 7 ≠ 0 ∨ bits ctrl 33 31 ≠ 0 ∨ field e 44 4 ≠ 0 then some 1
  else if !jobLenOk e then some 2
  else if !s.jobRangeOk q e then some 3
  else if jobOpc e = 5 then none
  else if c < s.rd (CPH_JQA.CTX_LO q) ∨ s.rd (CPH_JQA.CTX_HI q) < c ∨ (!x.loaded ∧ !x.locked) then some 4
  else if x.locked then some 5
  else if !bitAt x.usage (jobUsage (jobOpc e)) ∨ (jobExt e ∧ !bitAt x.attr 1) then some 6
  else none

/-- The job needs a hardware nonce (R432). -/
def jobFresh (e : List Byte) : Bool := (jobOpc e == 1 || jobOpc e == 3) && !jobExt e

/-- The polled entry that is dispatched next: the first of its queue, thread queues in rotating order (R440, R449). -/
def State.nextJob (s : State) : Option (Nat × Nat) :=
  (List.range 64).findSome? (fun d => (s.cipher.polled.find? (fun p => p.1 == (s.cipher.rotor + 1 + d) % 64)).filter
    (fun p => !s.ro.quietC.contains (jobCtx (Memory.readBytes s.gddr (s.jobAddr p.1 p.2) 64))))

/-- JOB_DISPATCH (R440, R443, R449): the next polled entry is checked; it starts on a unit, or ends with a dispatch status. -/
def execJobDispatch (s : State) : Host.Outcome State Fault Refusal :=
  match s.cipherOn, s.nextJob, s.freeUnit with
  | true, some (q, i), some u =>
    let e := Memory.readBytes s.gddr (s.jobAddr q i) 64
    let s := { s with cipher := { s.cipher with polled := dropFirst (· == (q, i)) s.cipher.polled, rotor := q } }
    let job : Job := { queue := q, index := i, unit := u, entry := e, ctx := s.cctx (jobCtx e) }
    let (job, s) := match s.jobStatus q e with
      | some st => ({ job with status := some st }, s)
      | none =>
        if jobFresh e then
          (match s.takeNonce u with
            | some (n, s) => ({ job with nonce := n }, s)
            | none => ({ job with status := some 7 }, s))
        else ({ job with nonce := slice e 32 12 }, s)
    .next { s with cipher := { s.cipher with jobs := s.cipher.jobs ++ [job] } }
  | _, _, _ => .next s

/-- What a job computes: its output, the tag it writes, and AUTH_FAIL. -/
def Job.result (j : Job) (src : List Byte) : List Byte × Option (List Byte) × Bool :=
  let e := j.entry
  let aad := src.take (jobAad e)
  let data := src.drop (jobAad e)
  let tag := slice e 48 16
  match jobOpc e with
  | 1 => let (c, t) := gcmEncrypt j.ctx.key j.nonce aad data; (c, some t, false)
  | 2 => let (p, ok) := gcmDecrypt j.ctx.key j.nonce aad data tag; (p, none, !ok)
  | 3 => ([], some (gcmTag j.ctx.key j.nonce aad []), false)
  | 4 => ([], none, gcmTag j.ctx.key j.nonce aad [] != tag)
  | 5 => (sha384 data, none, false)
  | 6 => (xts true j.ctx.key (field e 32 8) data, none, false)
  | _ => (xts false j.ctx.key (field e 32 8) data, none, false)

/-- Run a job to its end: the outputs written, and its status (R434, R442, R443). -/
def State.runJob (s : State) (j : Job) (how : TaskEnd) : Nat × State :=
  let e := j.entry
  let (out, tag, bad) := j.result (Memory.readBytes s.gddr (jobSrc e) (jobAad e + jobLen e))
  match how with
  | .mismatch b =>
    let s := { s with gddr := Memory.writeBytes s.gddr (jobDst e) (out.take (64 * b)) }
    (9, s.dupMismatch j.unit (jobOpc e) (jobCtx e))
  | .memErr b => (8, { s with gddr := Memory.writeBytes s.gddr (jobDst e) (out.take (64 * b)) })
  | .clean =>
    let s := { s with gddr := Memory.writeBytes s.gddr (jobDst e) out }
    let a := s.jobAddr j.queue j.index
    let s := if jobFresh e then { s with gddr := Memory.writeBytes s.gddr (a + 32) j.nonce } else s
    let s := match tag with
      | some t => { s with gddr := Memory.writeBytes s.gddr (a + 48) t }
      | none => s
    let s := if jobOpc e = 5 then s.count CPH_CNT0.TASKS else s.taskDone (jobCtx e)
    if bad then (10, s.count CPH_CNT0.AUTH_FAIL) else (0, s)

/-- JOB_COMPLETE (R434, R440 to R443): the queue's oldest job ends and completes: outputs, nonce and tag, then CTRL with OWN = 0 and STATUS. -/
def execJobComplete (q : Fin 64) (how : TaskEnd) (s : State) : Host.Outcome State Fault Refusal :=
  match s.cipherOn, s.cipher.jobs.find? (fun j => j.queue == (q : Nat)) with
  | true, some j =>
    let s := { s with cipher := { s.cipher with jobs := dropFirst (fun j => j.queue == (q : Nat)) s.cipher.jobs } }
    let (st, s) := match j.status with
      | some st => (st, if st = 5 then s.count CPH_CNT1.LOCKED_TASKS else s)
      | none => s.runJob j how
    let ctrl := setBits (setBits (field j.entry 0 8) 0 1 0) 24 8 st
    let s := { s with gddr := Memory.writeBytes s.gddr (s.jobAddr q j.index) (leBytes 8 ctrl) }
    let s := if st = 9 then s.ackDup else if st = 8 then s.ackMem [8, 10] else s
    .next (s.count (CPH_JQS.JOBS q))
  | _, _ => .next s

end Sys2Proof.Machine
end

