-- ==== Sys2Proof/Machine/Operands.lean ====
section
/-!
DEFINITION. Operand forms of the Dyaris instructions (05 R167, Table 05-1): registers, immediates, addresses, lock and channel
numbers, and the program counter.
-/

namespace Sys2Proof.Machine

/-- Register `n` of a thread: g0 reads as zero (05 R167). -/
def Thread.r (x : Thread) (n : Nat) : Word := if n = 0 then 0 else FMap.get 0 x.g n

/-- Register `n` written: a write to g0 is discarded (05 R167). -/
def Thread.w (x : Thread) (n : Nat) (v : Word) : Thread := if n = 0 then x else { x with g := FMap.set 0 x.g n v }

/-- Registers from `n` on written with consecutive values. -/
def Thread.ws (x : Thread) : Nat → List Word → Thread
  | _, [] => x
  | n, v :: vs => Thread.ws (x.w n v) (n + 1) vs

/-- Listed registers written. -/
def Thread.wAll (x : Thread) : List (Nat × Nat) → Thread
  | [] => x
  | (n, v) :: l => Thread.wAll (x.w n (BitVec.ofNat 64 v)) l

/-- After an instruction that does not branch, the PC is (PC + 1) mod 8,192 (05 R166). -/
def Thread.nextPc (x : Thread) : Thread := { x with pc := (x.pc + 1) % 8192 }

/-- A branch by a signed offset of `w` bits, modulo 8,192 (05 R166, R174). -/
def Thread.branch (x : Thread) (w off : Nat) : Thread :=
  { x with pc := (((x.pc : Int) + toInt w off) % 8192).toNat }

/-- The sign-extended and zero-extended 16-bit immediates (05 Table 05-4). -/
def sextImm (imm : Nat) : Word := BitVec.ofInt 64 (toInt 16 imm)
def zextImm (imm : Nat) : Word := BitVec.ofNat 64 imm

/-- g[base] + sign-extended off12 (05 R177). -/
def Thread.addr (x : Thread) (base off : Nat) : Nat := (x.r base + BitVec.ofInt 64 (toInt 12 off)).toNat

/-- The lock (rs1 + imm9) mod 512 (05 R190). -/
def Thread.lockNo (x : Thread) (rs1 imm : Nat) : Nat := ((x.r rs1).toNat + imm) % 512

/-- The local channel (rs1 + imm9) mod 256, and the remote cluster rs1[13:8] and channel (rs1[7:0] + imm9) mod 256 (05 R192). -/
def Thread.chanNo (x : Thread) (rs1 imm : Nat) : Nat := ((x.r rs1).toNat + imm) % 256
def Thread.remoteNo (x : Thread) (rs1 imm : Nat) : Nat × Nat :=
  (bits (x.r rs1).toNat 8 6, (bits (x.r rs1).toNat 0 8 + imm) % 256)

/-- The bits pos + len − 1 : pos of a word (05 Table 05-7). -/
def extract (v : Word) (pos len : Nat) : Nat := bits v.toNat pos len

/-- A word with its bytes reversed (05 Table 05-3). -/
def bswap (v : Word) : Word := BitVec.ofNat 64 (beNat (leBytes 8 v.toNat))

/-- The number of 1 bits of a word (05 Table 05-3). -/
def popcount (v : Word) : Nat := (List.range 64).foldl (fun a i => a + v.toNat / 2 ^ i % 2) 0

/-- The bytes of a value of `n` bytes in memory order, reversed when `be` (05 R177). -/
def accBytes (n val : Nat) (be : Bool) : List Byte := if be then beBytes n val else leBytes n val

/-- The value that `n` bytes in memory order give a register: reversed when `be`, sign-extended when `sx` (05 R177). -/
def accValue (bs : List Byte) (sx be : Bool) : Nat :=
  let v := if be then beNat bs else leNat bs
  if sx then ofInt 64 (toInt (8 * bs.length) v) else v

end Sys2Proof.Machine
end

