-- ==== Sys2Proof/Machine/Flags.lean ====
section
/-!
DEFINITION. The B flag, the one flag of a Dyaris thread (05 R167): the instruction did not do all that was asked. An instruction that
does not name B leaves it unchanged.
-/

namespace Sys2Proof.Machine

/-- B set or cleared. -/
def Thread.setB (x : Thread) (b : Bool) : Thread := { x with b := b }

/-- The flags register: bit 0 is B, the other bits read as zero. -/
def Thread.flags (x : Thread) : Nat := b2n x.b

/-- B of ADDSU: the sum saturates at 2^64 − 1 (05 Table 05-3). -/
def addSaturates (a b : Word) : Bool := decide (2 ^ 64 ≤ a.toNat + b.toNat)

/-- B of SUBSU: the difference saturates at 0 (05 Table 05-3). -/
def subSaturates (a b : Word) : Bool := decide (a.toNat < b.toNat)

/-- B after an answer that carries a status: set when the status is not 0 (05 R181, R186). -/
def statusB (st : Nat) : Bool := st != 0

/-- The branch condition holds; none: the encoding is undefined (05 Table 05-6). -/
def branchHolds (x : Thread) (cond rs1 rs2 : Nat) : Option Bool :=
  let a := x.r rs1
  let b := x.r rs2
  match cond with
  | 0 => some (a == b)
  | 1 => some (a != b)
  | 2 => some (BitVec.slt a b)
  | 3 => some !(BitVec.slt a b)
  | 4 => some (BitVec.ult a b)
  | 5 => some !(BitVec.ult a b)
  | 6 => if rs1 = 0 ∧ rs2 = 0 then some x.b else none
  | 7 => if rs1 = 0 ∧ rs2 = 0 then some !x.b else none
  | _ => none

end Sys2Proof.Machine
end

