-- ==== Sys2Proof/Machine/Thread.lean ====
section
/-!
DEFINITION. What the instructions and events of a Dyaris thread share (chapter 04): events, locks, channels, thread control, faults, the
thread address space and the issue of one instruction.
-/

namespace Sys2Proof.Machine

/-! ### Events (04 R133 to R135) -/

/-- Event bits (04 Table 04-6). -/
def evTimer : Nat := 0
def evRing : Nat := 1
def evDma : Nat := 2
def evChanRx : Nat := 3
def evChanTx : Nat := 4
def evLock : Nat := 5
def evFrame : Nat := 6
def evCtrl : Nat := 7

/-- Raise event `bit` on thread `t`: it becomes pending, in any state (04 R133; 05 R196). -/
def State.raise (s : State) (t bit : Nat) : State :=
  let x := s.th t
  s.setTh t { x with pend := setBits x.pend bit 1 1 }

/-- The supervisor thread of cluster `k` (04 R154). -/
def State.supv (s : State) (k : Nat) : Nat := (k * 16 + s.rd (CLU_CFG.SUPV_ENGINE k)) * 8 + s.rd (CLU_CFG.SUPV_SLOT k)

/-- The wait group of a thread (04 R137). -/
def State.wgrp (s : State) (t : Nat) : Nat := s.rd (CLU_WGRP.GROUP (t / 128) (t % 128))

/-- A member leaves WAIT, so a new stall episode of its group may begin (04 R141). -/
def State.leaveWait (s : State) (t : Nat) : State :=
  { s with dy := { s.dy with stalled := FMap.set false s.dy.stalled (t / 128 * 16 + s.wgrp t) false } }

/-! ### Locks (04 R143 to R147) -/

/-- Lock `n` of cluster `k` is released: it passes to its Saucer's oldest request and raises LOCK for that thread (04 R145). -/
def State.passLock (s : State) (k n : Nat) : State :=
  let l := s.lockOf k n
  match l.saucer with
  | [] => s.setLock k n { l with owner := none }
  | i :: rest =>
    let s := s.setLock k n { owner := some i, saucer := rest }
    let t := k * 128 + i
    let x := s.th t
    (s.setTh t { x with locks := x.locks ++ [n] }).raise t evLock

/-! ### Channels (04 R148 to R153) -/

/-- Entries of channel `c` of cluster `k` that hold no message and are promised to no writer (04 R149, R153). -/
def State.chanFree (s : State) (k c : Nat) : Nat :=
  let x := s.chan k c
  s.rd (CLU_CHAN_CFG.DEPTH k c) - (x.msgs.length + x.inflight.length + x.credits + b2n x.holder.isSome)

/-- Grant the reservation to the Saucer's oldest request when it can be granted (04 R149). -/
def State.grantChan (s : State) (k c : Nat) : State :=
  let x := s.chan k c
  match x.holder, x.saucer with
  | none, i :: rest =>
    if s.chanFree k c = 0 then s
    else
      let s := s.setChan k c { x with holder := some i, saucer := rest, granted := s.ticks }
      let t := k * 128 + i
      (s.setTh t { s.th t with rsv := some (.loc c) }).raise t evChanTx
  | _, _ => s

/-- A message becomes visible: CHAN_RX for the reader (04 R151). -/
def State.chanRx (s : State) (k c : Nat) : State := s.raise (k * 128 + s.rd (CLU_CHAN_CFG.READER k c)) evChanRx

/-- The credit of a remote writer ends unused (05 R194). -/
def State.dropCredit (s : State) (k c : Nat) : State :=
  let x := s.chan k c
  (s.setChan k c { x with credits := x.credits - 1 }).grantChan k c

/-- A writer outside the cluster sends a whole message with a credit (04 R153): it is on its way to the spine port. -/
def State.sendRemote (s : State) (k c : Nat) (m : List Word) : State :=
  let x := s.chan k c
  s.setChan k c { x with inflight := x.inflight ++ [m], credits := x.credits - 1 }

/-! ### The thread address space (04 R131, Table 04-5) -/

/-- Where an access of `n` bytes lands. -/
inductive Region where
  | dmem (a : Nat) | imem (a : Nat) | sram (a : Nat) | block (o : Nat) | other (k a : Nat) | gddr (a : Nat) | dev (o : Nat) | none
  deriving DecidableEq, Repr

/-- The region that holds an access of `n` bytes at a thread address (04 Table 04-5); `t` is the thread. -/
def memRegion (t addr n : Nat) : Region :=
  if addr + n ≤ 0x1000 then .dmem (t % 8 * 0x1000 + addr)
  else if 0x10000 ≤ addr ∧ addr + n ≤ 0x20000 then .dmem (addr - 0x10000)
  else if 0x20000 ≤ addr ∧ addr + n ≤ 0x28000 then .imem (addr - 0x20000)
  else if 0x100000000 ≤ addr ∧ addr + n ≤ 0x100100000 then .sram (addr - 0x100000000)
  else if 0x110000000 ≤ addr ∧ addr + n ≤ 0x110020000 then .block (addr - 0x110000000)
  else if 0x200000000 ≤ addr ∧ addr + n ≤ 0x200000000 + 0x100000 * 64 then
    (let k := (addr - 0x200000000) / 0x100000
     if k = t / 128 ∨ 0x100000 < (addr - 0x200000000) % 0x100000 + n then .none else .other k ((addr - 0x200000000) % 0x100000))
  else if 0x10000000000 ≤ addr ∧ addr + n ≤ 0x10000000000 + 60 * 2 ^ 30 then .gddr (addr - 0x10000000000)
  else if 0x20000000000 ≤ addr ∧ addr + n ≤ 0x20000000000 + 2 ^ 32 then .dev (addr - 0x20000000000)
  else .none

/-- A GDDR7 range lies in an enabled CLU_GWIN window of the cluster (that allows writes, for `wr`). -/
def State.gwinOk (s : State) (k a n : Nat) (wr : Bool) : Bool :=
  (List.range 4).any (fun i => s.flag (CLU_GWIN.EN k i) && (!wr || s.flag (CLU_GWIN.WE k i))
    && decide (s.rd (CLU_GWIN.BASE_4K k i) * 4096 ≤ a)
    && decide (a + n ≤ (s.rd (CLU_GWIN.BASE_4K k i) + s.rd (CLU_GWIN.SIZE_4K k i)) * 4096))

/-- The region may be read by the thread, `n` bytes at once; register space takes 4 and 8 bytes (00 R14). -/
def State.mayRead (s : State) (t : Nat) (r : Region) (n : Nat) : Bool :=
  match r with
  | .dmem _ | .imem _ | .sram _ | .other _ _ => true
  | .block _ | .dev _ => decide (4 ≤ n)
  | .gddr a => s.gwinOk (t / 128) a n false
  | .none => false

/-- The region may be written by the thread: its own private block and the shared part of engine data memory, cluster SRAM, its own
cluster block, GDDR7 windows that allow it. -/
def State.mayWrite (s : State) (t : Nat) (r : Region) (n : Nat) : Bool :=
  match r with
  | .dmem a => decide (0x8000 ≤ a) || (decide (t % 8 * 0x1000 ≤ a) && decide (a + n ≤ t % 8 * 0x1000 + 0x1000))
  | .sram _ => true
  | .block _ => decide (4 ≤ n)
  | .gddr a => s.gwinOk (t / 128) a n true
  | _ => false

/-- The access is of the variable class (04 Table 04-1). -/
def Region.variable : Region → Bool
  | .other _ _ | .gddr _ | .dev _ => true
  | _ => false

def State.memOf (m : FMap Memory) (i : Nat) : Memory := FMap.get [] m i

/-! ### Uncorrectable errors of engine memory and cluster SRAM (04 Table 04-7; 14 R520, Table 14-4; notes/assumptions/13) -/

/-- The cluster, memory instance (0 to 15 instruction memory, 16 to 31 data memory of the engine at a position, 32 SRAM) and byte of a region as thread `t` sees it. -/
def Region.place (t : Nat) : Region → Option (Nat × Nat × Nat)
  | .imem a => some (t / 128, t / 8 % 16, a)
  | .dmem a => some (t / 128, 16 + t / 8 % 16, a)
  | .sram a => some (t / 128, 32, a)
  | .other k a => some (k, 32, a)
  | _ => Option.none

/-- The first word with an uncorrectable error in `n` bytes of a region: cluster, instance and byte address. -/
def State.badWord (s : State) (t : Nat) (r : Region) (n : Nat) : Option (Nat × Nat × Nat) :=
  match r.place t with
  | none => none
  | some (k, i, a) => (s.dy.bad.find? (fun b => b.mem == 33 * k + i && decide (a < 8 * b.word + 8) && decide (8 * b.word < a + n))).map (fun b => (k, i, 8 * b.word))

/-- An access meets an uncorrectable word: the cluster's log takes MEM_UNCORR, once for each access that meets it. -/
def State.meetBad (s : State) : Option (Nat × Nat × Nat) → State
  | none => s
  | some (k, i, a) =>
    let hit := fun (b : BadWord) => b.mem == 33 * k + i && b.word == a / 8
    let fresh := s.dy.bad.any (fun b => hit b && b.logged)
    let s := if fresh then s else s.logError (48 + k) 0x00F1 3 i a
    { s with dy := { s.dy with bad := s.dy.bad.map (fun b => if hit b then { b with logged := false } else b) } }

/-- Read `n` bytes of a region: the bytes in memory order, and the state (a register read clears ROC fields); none: an error response
(04 R122; 08 R301; 14 R520). -/
def State.readRegion (s : State) (t : Nat) (r : Region) (n : Nat) : Option (List Byte × State) :=
  if (s.badWord t r n).isSome then none
  else match r with
  | .dmem a => some ((State.memOf s.dy.dmem (t / 8)).readBytes a n, s)
  | .imem a => some ((State.memOf s.dy.imem (t / 8)).readBytes a n, s)
  | .sram a => some ((State.memOf s.dy.sram (t / 128)).readBytes a n, s)
  | .block o => (let (v, s') := s.readReg (0x1000000 + 0x20000 * (t / 128) + o) n; some (leBytes n v, s'))
  | .other k a => if s.hasCluster k && !s.isFatal (.cluster k) then some ((State.memOf s.dy.sram k).readBytes a n, s) else none
  | .gddr a => some (s.gddr.readBytes a n, s)
  | .dev o => if o < 2 ^ 26 then (let (v, s') := s.readReg o n; some (leBytes n v, s')) else none
  | .none => none

/-- Write bytes into a memory region; the cluster block is written by `State.storeBlock` below. -/
def State.writeRegion (s : State) (t : Nat) (r : Region) (bs : List Byte) : State :=
  match r with
  | .dmem a => { s with dy := { s.dy with dmem := FMap.set [] s.dy.dmem (t / 8) ((State.memOf s.dy.dmem (t / 8)).writeBytes a bs) } }
  | .sram a => { s with dy := { s.dy with sram := FMap.set [] s.dy.sram (t / 128) ((State.memOf s.dy.sram (t / 128)).writeBytes a bs) } }
  | .gddr a => { s with gddr := s.gddr.writeBytes a bs }
  | _ => s

/-! ### Thread control (04 R128 to R130) -/

/-- The fault record of a thread cleared. -/
def State.clearFault (s : State) (t : Nat) : State :=
  let g := t / 8
  let i := t % 8
  ((((s.wr (DYE_TFLT.CAUSE g i) 0).wr (DYE_TFLT.VALID g i) 0).wr (DYE_TFLT.LEASE_PENDING g i) 0).wr (DYE_TFLT.PC g i) 0).wr
    (DYE_TFADDR.ADDR g i) 0 |>.wr (DYE_TFADDR.INFO g i) 0

/-- The store that a reset thread had in flight still completes (05 R172). -/
def State.finishStore (s : State) (t : Nat) : State :=
  match (s.th t).acc with
  | some (.store addr n val be) => s.writeRegion t (memRegion t addr n) (accBytes n val be)
  | some (.spill addr val) => { s with gddr := s.gddr.writeBytes addr (leBytes 8 val) }
  | _ => s

/-- The bindings of engine `g` that hold the frame of a slot are free again (05 R179). -/
def State.freeBinding (s : State) (g port : Nat) (stamp : Stamp) : State :=
  (List.range 8).foldl (fun s k =>
    let b := FMap.get {} s.dy.binds (g * 8 + k)
    if b.full && b.taken && b.port == port && b.stamp == stamp then
      { s with dy := { s.dy with binds := FMap.set {} s.dy.binds (g * 8 + k) {} } } else s) s

/-- A parked request withdrawn from its Saucer (05 R191). -/
def State.unpark (s : State) (t : Nat) : State :=
  let k := t / 128
  let i := t % 128
  match (s.th t).park with
  | some (.lock n) => let l := s.lockOf k n; s.setLock k n { l with saucer := l.saucer.filter (· != i) }
  | some (.chan c) => let x := s.chan k c; s.setChan k c { x with saucer := x.saucer.filter (· != i) }
  | none => s

/-- The thread's reservation or credit ends, and its promised entry is free (04 R130, R152). -/
def State.endRsv (s : State) (t : Nat) : State :=
  let x := s.th t
  let s := s.setTh t { x with rsv := none, stage := [] }
  match x.rsv with
  | some (.loc c) => let ch := s.chan (t / 128) c; (s.setChan (t / 128) c { ch with holder := none }).grantChan (t / 128) c
  | some (.remote k c) => s.dropCredit k c
  | none => s

/-- RESET of a thread (04 R130): locks, reservation, staging buffer, events, timer, fault record and taken bindings are given up; the
general registers keep their values. -/
def State.resetThread (s : State) (t : Nat) : State :=
  let s := (if (s.th t).st = .wait then s.leaveWait t else s).finishStore t
  let s := (s.unpark t).endRsv t
  let s := (s.th t).locks.foldl (fun s n => s.passLock (t / 128) n) s
  let s := (s.th t).descs.foldl (fun s d => s.freeBinding (t / 8) d.port d.stamp) s
  let s := s.clearFault t
  let s := { s with merge := { s.merge with fills := s.merge.fills.map fun (r : FillReq) => if r.thread = t then { r with dead := true } else r },
                    dy := { s.dy with hands := s.dy.hands.map fun (r : HandReq) => if r.thread = t then { r with dead := true } else r } }
  let x := s.th t
  s.setTh t { st := .idle, g := x.g, b := x.b, pc := x.pc, wmask := x.wmask, dmas := x.dmas, rcvLen := x.rcvLen }

/-- START of a thread: in IDLE or FAULT, PC gets ENTRY_PC and the thread runs (04 DYE_TCTL). -/
def State.startThread (s : State) (t : Nat) : State :=
  let x := s.th t
  if x.st = .idle ∨ x.st = .fault then s.setTh t { x with st := .run, pc := s.rd (DYE_TCTL.ENTRY_PC (t / 8) (t % 8)) % 8192, passBrk := false } else s

/-! ### Faults (04 R157; 14 R531) -/

/-- A fault: its cause and what the fault record's ADDR and INFO take; none where the tables give no value (a free value then); and the place that a MEM_ECC fault met. -/
structure Flt where
  cause : Nat
  addr : Option Nat := none
  info : Option Nat := none
  ecc : Option (Nat × Nat × Nat) := none
  deriving DecidableEq, Repr

/-- A fault record field: the given value, or a free one. -/
def State.faultField (s : State) (f : Fld) (v : Option Nat) : State :=
  match v with
  | some x => s.wr f x
  | none => (s.wr f s.freeVal).drew

/-- A fault in the supervisor itself goes to Roaster (04 R156): it resets and restarts the supervisor, or declares the cluster fatal when
the same supervisor faulted less than 1 s earlier (14 R531). -/
def State.supvFault (s : State) (t : Nat) : State :=
  let k := t / 128
  let rec_ := s.rd (DYE_TFLT.CAUSE (t / 8) (t % 8)) + 256 + s.rd (DYE_TFLT.PC (t / 8) (t % 8)) * 65536
  let before := FMap.get 0 s.dy.supvAt k
  let s := s.logError 0 2 3 k rec_
  let s := { s with dy := { s.dy with supvAt := FMap.set 0 s.dy.supvAt k (s.ticks + 1) } }
  if before ≠ 0 ∧ s.ticks + 1 < before + 1250000000 then s.declareFatal (.cluster k)
  else
    let s := (s.resetThread t).startThread t
    if s.flag ERR_CFG.AUTO_ACK && s.rd (ERR_FIRST.CODE 0) == 2 && s.rd (ERR_FIRST.SUB 0) == k then s.clearFirst 0 else s

/-- A thread faults (04 R157): it stops at the faulting instruction, the cause, PC and address are recorded, and CTRL is raised for
the supervisor. With HALT_ON_FAULT the thread halts instead (04 DYE_DBG). -/
def State.fault (s : State) (t : Nat) (e : Flt) : State :=
  let g := t / 8
  let i := t % 8
  let x := s.th t
  let s := ((s.wr (DYE_TFLT.CAUSE g i) e.cause).wr (DYE_TFLT.VALID g i) 1).wr (DYE_TFLT.PC g i) x.pc
  let s := (s.faultField (DYE_TFADDR.ADDR g i) e.addr).faultField (DYE_TFADDR.INFO g i) e.info
  let st : ThState := if s.flag (DYE_DBG.DBG_EN g) && s.flag (DYE_DBG.HALT_ON_FAULT g) then .halt else .fault
  let s := s.setTh t { x with st := st, stepping := false, haltReq := false, acc := none, haltedInWait := false, passBrk := false }
  if t = s.supv (t / 128) then s.supvFault t else s.raise (s.supv (t / 128)) evCtrl

/-- CLU_ESCALATE.RAISE (04 R156; 14 R531): Roaster records CODE, and declares the cluster fatal when CODE[15] is 1. -/
def State.escalate (s : State) (k : Nat) : State :=
  let code := s.rd (CLU_ESCALATE.CODE k)
  let s := s.logError 0 3 3 k code
  let s := if bitAt code 15 then s.declareFatal (.cluster k) else s
  if s.flag ERR_CFG.AUTO_ACK && s.rd (ERR_FIRST.CODE 0) == 3 && s.rd (ERR_FIRST.SUB 0) == k then s.clearFirst 0 else s

/-- A write of the low half of DYE_TCTL by the supervisor, Roaster or JTAG: ENTRY_PC is stored, then RESET and START act (04 R128). -/
def State.writeTctl (s : State) (t v : Nat) : State :=
  let s := s.wr (DYE_TCTL.ENTRY_PC (t / 8) (t % 8)) (bits v 8 13)
  let s := if bitAt v 1 then s.resetThread t else s
  if bitAt v 0 then s.startThread t else s

/-- A thread's store of 4 bytes to its own cluster block (04 R128, R131, R154, R158). -/
def State.storeBlock32 (s : State) (t o v : Nat) : Option State :=
  let k := t / 128
  let off := 0x1000000 + 0x20000 * k + o
  let ro := o % 0x1000
  if 0x10000 ≤ o ∧ 0x100 ≤ ro ∧ ro < 0x300 ∧ (ro - 0x100) % 0x40 < 4 then
    if t = s.supv k then some (s.writeTctl ((k * 16 + (o - 0x10000) / 0x1000) * 8 + (ro - 0x100) / 0x40) v) else none
  else if o = 8 then
    if t = s.supv k then
      (let s := s.write32 (.thread ⟨t % 8192, Nat.mod_lt _ (by decide)⟩) off v
       some (if bitAt v 16 then s.escalate k else s))
    else none
  else if 0x10000 ≤ o ∧ 0x20 ≤ ro ∧ ro < 0x40 then some s
  else
    let s := s.write32 (.thread ⟨t % 8192, Nat.mod_lt _ (by decide)⟩) off v
    -- clearing CLU_STALL.VALID acknowledges the cluster's EVENT_STALL record (14 Table 14-4)
    some (if o = 0x300 ∧ bitAt v 4 ∧ s.flag ERR_CFG.AUTO_ACK ∧ s.rd (ERR_FIRST.CODE (48 + k)) = 0x3001 then s.clearFirst (48 + k) else s)

/-- A thread's store of 4 or 8 bytes to its own cluster block; none: an ACCESS fault. -/
def State.storeBlock (s : State) (t o n v : Nat) : Option State :=
  match s.storeBlock32 t o (v % 2 ^ 32) with
  | none => none
  | some s' => if n = 8 then s'.storeBlock32 t (o + 4) (v / 2 ^ 32) else some s'

/-! ### Issue of one instruction (04 R119 to R122, R163; 05 R206) -/

/-- The thread may issue: the device runs, its cluster is present and not fatal, and it is in RUN. -/
def State.canIssue (s : State) (t : Nat) : Bool :=
  s.run && s.hasCluster (t / 128) && !s.isFatal (.cluster (t / 128)) && (s.th t).st == .run

/-- An enabled breakpoint names the thread's slot and PC (04 R163). -/
def State.brkHit (s : State) (t : Nat) : Bool :=
  let g := t / 8
  s.flag (DYE_DBG.DBG_EN g) && !(s.th t).passBrk &&
    (List.range 4).any (fun k => s.flag (DYE_BRK.EN g k) && bitAt (s.rd (DYE_BRK.SLOTS g k)) (t % 8)
      && s.rd (DYE_BRK.PC g k) == (s.th t).pc)

/-- Roaster acknowledges the records of memory errors once the thread has had its error response (14 Table 14-4): those of its cluster, of GDDR7, and of the cluster whose
memory it read. -/
def State.ackMemOf (s : State) (t : Nat) (bad : Option (Nat × Nat × Nat)) : State :=
  s.ackMem ([48 + t / 128, 10] ++ (bad.map (fun p => 48 + p.1)).toList)

/-- A fault at an instruction; one that met an uncorrectable word comes with the error's record (14 Table 14-4). -/
def State.faultAt (s : State) (t : Nat) (e : Flt) : State :=
  if e.ecc.isSome then ((s.meetBad e.ecc).fault t e).ackMemOf t e.ecc else s.fault t e

/-- What stops the fetch at the thread's PC: an uncorrectable word of instruction memory (04 Table 04-7), or a word that encodes no instruction (05 R166, R168). -/
def State.fetchFault (s : State) (t : Nat) : Option Flt :=
  let a := 4 * (s.th t).pc
  match s.badWord t (.imem a) 4 with
  | some p => some { cause := 0x04, addr := some (0x20000 + a), ecc := some p }
  | none =>
    if (decodeDyaris ⟨t % 8192, Nat.mod_lt _ (by decide)⟩ (leNat ((State.memOf s.dy.imem (t / 8)).readBytes a 4))).isNone then some { cause := 0x01 } else none

/-- MEM_ECC for a read of `n` bytes of a region at a thread address (04 Table 04-7). -/
def State.eccFault (s : State) (t : Nat) (r : Region) (n addr : Nat) : Option Flt :=
  (s.badWord t r n).map fun p => { cause := 0x04, addr := some addr, ecc := some p }

/-- The thread is at an issue boundary with nothing due before its instruction (04 R157, R163; 05 R168, R206). -/
def State.atIssue (s : State) (t : Nat) : Bool :=
  s.canIssue t && (s.th t).leaseLost.isNone && (s.th t).dmaErr.isEmpty && !s.brkHit t && (s.fetchFault t).isNone

/-- After an instruction of a stepped thread it halts again (04 R162). -/
def Thread.afterStep (x : Thread) : Thread :=
  let x := { x with passBrk := false }
  if !x.stepping then x
  else match x.st with
    | .run => { x with st := .halt, stepping := false, haltedInWait := false }
    | .memwait => { x with stepping := false, haltReq := true }
    | .wait => if x.park.isSome then { x with stepping := false, haltReq := true }
               else { x with st := .halt, stepping := false, haltedInWait := true }
    | _ => { x with stepping := false }

/-- One thread issues one instruction: due faults of the issue boundary first, then a breakpoint, then the fetch, then the instruction `f`, which gives a state or faults
with no effect (04 R157, R163; 05 R168, R206). -/
def State.issue (s : State) (t : Nat) (f : State → Thread → Except Flt State) : State :=
  let x := s.th t
  if !s.canIssue t then s
  else match x.leaseLost, x.dmaErr with
    | some c, _ => (s.setTh t { x with leaseLost := none }).fault t { cause := 0x0A, info := some c }
    | none, tag :: rest => (s.setTh t { x with dmaErr := rest }).fault t { cause := 0x24, addr := some (tag % 2 ^ 48) }
    | none, [] =>
      if s.brkHit t then s.setTh t { x with st := .halt, haltedInWait := false, stepping := false }
      else match s.fetchFault t with
        | some e => s.faultAt t e
        | none => match f s x with
          | .error e => s.faultAt t e
          | .ok s' => s'.setTh t (s'.th t).afterStep

/-- The thread is written back with the PC advanced. -/
def State.done (s : State) (t : Nat) (x : Thread) : Except Flt State := .ok (s.setTh t x.nextPc)

/-- The thread waits for a variable-class access (04 R122). -/
def State.memwait (s : State) (t : Nat) (x : Thread) (a : Access) : Except Flt State :=
  .ok (s.setTh t { x.nextPc with st := .memwait, acc := some a })

/-- An undefined encoding (05 R168). -/
def illegal : Except Flt State := .error { cause := 0x01 }

end Sys2Proof.Machine
end

