-- ==== Sys2Proof/Machine/Alu.lean ====
section
/-!
DEFINITION. Arithmetic, moves, branches and field instructions (05 R173 to R176) and the risk check RCHK (05 R189).
-/

namespace Sys2Proof.Machine

/-! ### The shapes -/

/-- One instruction of a thread, as a command's outcome. -/
def State.instr (s : State) (t : Nat) (f : State → Thread → Except Flt State) : Host.Outcome State Fault Refusal :=
  .next (s.issue t f)

/-- An instruction that writes one register and leaves B (05 R173). -/
def State.alu (s : State) (t rd : Nat) (f : Thread → Word) : Host.Outcome State Fault Refusal :=
  s.instr t fun s x => s.done t (x.w rd (f x))

/-- The same, undefined when `bad` holds (05 R168). -/
def State.aluIf (s : State) (t rd : Nat) (bad : Bool) (f : Thread → Word) : Host.Outcome State Fault Refusal :=
  s.instr t fun s x => if bad then illegal else s.done t (x.w rd (f x))

/-- An instruction that writes one register and B. -/
def State.aluB (s : State) (t rd : Nat) (f : Thread → Word × Bool) : Host.Outcome State Fault Refusal :=
  s.instr t fun s x => s.done t ((x.w rd (f x).1).setB (f x).2)

/-! ### ALU group (05 Table 05-3) -/

def execAdd (t : Fin 8192) (rd rs1 rs2 : Fin 32) (s : State) : Host.Outcome State Fault Refusal :=
  s.alu t rd fun x => x.r rs1 + x.r rs2

def execSub (t : Fin 8192) (rd rs1 rs2 : Fin 32) (s : State) : Host.Outcome State Fault Refusal :=
  s.alu t rd fun x => x.r rs1 - x.r rs2

def execAnd (t : Fin 8192) (rd rs1 rs2 : Fin 32) (s : State) : Host.Outcome State Fault Refusal :=
  s.alu t rd fun x => x.r rs1 &&& x.r rs2

def execOr (t : Fin 8192) (rd rs1 rs2 : Fin 32) (s : State) : Host.Outcome State Fault Refusal :=
  s.alu t rd fun x => x.r rs1 ||| x.r rs2

def execXor (t : Fin 8192) (rd rs1 rs2 : Fin 32) (s : State) : Host.Outcome State Fault Refusal :=
  s.alu t rd fun x => x.r rs1 ^^^ x.r rs2

/-- The shift amount of a register: bits [5:0]. -/
def shamt (v : Word) : Nat := v.toNat % 64

def execShl (t : Fin 8192) (rd rs1 rs2 : Fin 32) (s : State) : Host.Outcome State Fault Refusal :=
  s.alu t rd fun x => x.r rs1 <<< shamt (x.r rs2)

def execShr (t : Fin 8192) (rd rs1 rs2 : Fin 32) (s : State) : Host.Outcome State Fault Refusal :=
  s.alu t rd fun x => x.r rs1 >>> shamt (x.r rs2)

def execSar (t : Fin 8192) (rd rs1 rs2 : Fin 32) (s : State) : Host.Outcome State Fault Refusal :=
  s.alu t rd fun x => (x.r rs1).sshiftRight (shamt (x.r rs2))

def execMul (t : Fin 8192) (rd rs1 rs2 : Fin 32) (s : State) : Host.Outcome State Fault Refusal :=
  s.alu t rd fun x => x.r rs1 * x.r rs2

def execMulhu (t : Fin 8192) (rd rs1 rs2 : Fin 32) (s : State) : Host.Outcome State Fault Refusal :=
  s.alu t rd fun x => BitVec.ofNat 64 ((x.r rs1).toNat * (x.r rs2).toNat / 2 ^ 64)

def execAddsu (t : Fin 8192) (rd rs1 rs2 : Fin 32) (s : State) : Host.Outcome State Fault Refusal :=
  s.aluB t rd fun x => let sat := addSaturates (x.r rs1) (x.r rs2)
    (if sat then BitVec.ofNat 64 (2 ^ 64 - 1) else x.r rs1 + x.r rs2, sat)

def execSubsu (t : Fin 8192) (rd rs1 rs2 : Fin 32) (s : State) : Host.Outcome State Fault Refusal :=
  s.aluB t rd fun x => let sat := subSaturates (x.r rs1) (x.r rs2)
    (if sat then 0 else x.r rs1 - x.r rs2, sat)

def execMin (t : Fin 8192) (rd rs1 rs2 : Fin 32) (s : State) : Host.Outcome State Fault Refusal :=
  s.alu t rd fun x => if BitVec.slt (x.r rs2) (x.r rs1) then x.r rs2 else x.r rs1

def execMax (t : Fin 8192) (rd rs1 rs2 : Fin 32) (s : State) : Host.Outcome State Fault Refusal :=
  s.alu t rd fun x => if BitVec.slt (x.r rs1) (x.r rs2) then x.r rs2 else x.r rs1

def execBswap (t : Fin 8192) (rd rs1 rs2 : Fin 32) (s : State) : Host.Outcome State Fault Refusal :=
  s.aluIf t rd (decide (rs2 ≠ 0)) fun x => bswap (x.r rs1)

def execPopc (t : Fin 8192) (rd rs1 rs2 : Fin 32) (s : State) : Host.Outcome State Fault Refusal :=
  s.aluIf t rd (decide (rs2 ≠ 0)) fun x => BitVec.ofNat 64 (popcount (x.r rs1))

/-! ### Immediates and moves (05 Table 05-4) -/

def execAddi (t : Fin 8192) (rd rs1 : Fin 32) (imm : Fin 65536) (s : State) : Host.Outcome State Fault Refusal :=
  s.alu t rd fun x => x.r rs1 + sextImm imm

def execAndi (t : Fin 8192) (rd rs1 : Fin 32) (imm : Fin 65536) (s : State) : Host.Outcome State Fault Refusal :=
  s.alu t rd fun x => x.r rs1 &&& zextImm imm

def execOri (t : Fin 8192) (rd rs1 : Fin 32) (imm : Fin 65536) (s : State) : Host.Outcome State Fault Refusal :=
  s.alu t rd fun x => x.r rs1 ||| zextImm imm

def execXori (t : Fin 8192) (rd rs1 : Fin 32) (imm : Fin 65536) (s : State) : Host.Outcome State Fault Refusal :=
  s.alu t rd fun x => x.r rs1 ^^^ zextImm imm

/-- imm16[15:6] of a shift must be 0 (05 Table 05-4). -/
def badShift (imm : Nat) : Bool := decide (64 ≤ imm)

def execShli (t : Fin 8192) (rd rs1 : Fin 32) (imm : Fin 65536) (s : State) : Host.Outcome State Fault Refusal :=
  s.aluIf t rd (badShift imm) fun x => x.r rs1 <<< (imm : Nat)

def execShri (t : Fin 8192) (rd rs1 : Fin 32) (imm : Fin 65536) (s : State) : Host.Outcome State Fault Refusal :=
  s.aluIf t rd (badShift imm) fun x => x.r rs1 >>> (imm : Nat)

def execSari (t : Fin 8192) (rd rs1 : Fin 32) (imm : Fin 65536) (s : State) : Host.Outcome State Fault Refusal :=
  s.aluIf t rd (badShift imm) fun x => (x.r rs1).sshiftRight imm

def execMovz (t : Fin 8192) (rd : Fin 32) (hw : Fin 4) (z : Fin 8) (imm : Fin 65536) (s : State) : Host.Outcome State Fault Refusal :=
  s.aluIf t rd (decide (z ≠ 0)) fun _ => BitVec.ofNat 64 ((imm : Nat) * 2 ^ (16 * (hw : Nat)))

def execMovk (t : Fin 8192) (rd : Fin 32) (hw : Fin 4) (z : Fin 8) (imm : Fin 65536) (s : State) : Host.Outcome State Fault Refusal :=
  s.aluIf t rd (decide (z ≠ 0)) fun x => BitVec.ofNat 64 (setBits (x.r rd).toNat (16 * (hw : Nat)) 16 imm)

/-! ### Branches (05 R174) -/

def execBr (t : Fin 8192) (rs1 rs2 : Fin 32) (cond : Fin 16) (off : Fin 4096) (s : State) : Host.Outcome State Fault Refusal :=
  s.instr t fun s x => match branchHolds x cond rs1 rs2 with
    | none => illegal
    | some true => .ok (s.setTh t (x.branch 12 off))
    | some false => s.done t x

/-- The link value PC + 1 (05 Table 05-5; DEDUCED, notes/assumptions/20). -/
def Thread.link (x : Thread) : Word := BitVec.ofNat 64 (x.pc + 1)

def execJal (t : Fin 8192) (rd : Fin 32) (z : Fin 256) (off : Fin 8192) (s : State) : Host.Outcome State Fault Refusal :=
  s.instr t fun s x => if z ≠ 0 then illegal else .ok (s.setTh t ((x.w rd x.link).branch 13 off))

def execJr (t : Fin 8192) (rd rs1 rs2 : Fin 32) (funct : Fin 2048) (s : State) : Host.Outcome State Fault Refusal :=
  s.instr t fun s x => if rs2 ≠ 0 ∨ funct ≠ 0 then illegal
    else .ok (s.setTh t { x.w rd x.link with pc := (x.r rs1).toNat % 8192 })

/-! ### Fields (05 R175, R176) -/

/-- pos + len must not exceed 64 (05 R175). -/
def badField (pos len1 : Nat) : Bool := decide (64 < pos + (len1 + 1))

def execFxt (t : Fin 8192) (rd rs1 : Fin 32) (pos len1 : Fin 64) (s : State) : Host.Outcome State Fault Refusal :=
  s.aluIf t rd (badField pos len1) fun x => BitVec.ofNat 64 (extract (x.r rs1) pos ((len1 : Nat) + 1))

def execFxts (t : Fin 8192) (rd rs1 : Fin 32) (pos len1 : Fin 64) (s : State) : Host.Outcome State Fault Refusal :=
  s.aluIf t rd (badField pos len1) fun x => BitVec.ofInt 64 (toInt ((len1 : Nat) + 1) (extract (x.r rs1) pos ((len1 : Nat) + 1)))

def execFins (t : Fin 8192) (rd rs1 : Fin 32) (pos len1 : Fin 64) (s : State) : Host.Outcome State Fault Refusal :=
  s.aluIf t rd (badField pos len1) fun x =>
    BitVec.ofNat 64 (setBits (x.r rd).toNat pos ((len1 : Nat) + 1) (x.r rs1).toNat)

/-- The value of FXTB's template entry `e` for descriptor `d`, and whether it sets B; none: the field lies past engine data memory, so
its value is free (05 R176). -/
def fxtbField (m : Memory) (d e : Nat) : Option Nat × Bool :=
  let off := bits e 0 14
  let n := bits e 14 3 + 1
  let a := bits d 0 16 + off
  if !bitAt d 63 then (some 0, true)
  else if !bitAt e 19 then (some 0, false)
  else if bits d 16 14 < off + n then (some 0, true)
  else if 0x10000 < a + n then (none, false)
  else (some (accValue (m.readBytes a n) (bitAt e 18) (bitAt e 17)), false)

/-- An uncorrectable word in the bytes that a template entry reads. -/
def State.fxtbBad (s : State) (t d e : Nat) : Option Flt :=
  let a := bits d 0 16 + bits e 0 14
  let n := bits e 14 3 + 1
  if !bitAt d 63 || !bitAt e 19 || decide (bits d 16 14 < bits e 0 14 + n) || decide (0x10000 < a + n) then none else s.eccFault t (.dmem a) n (0x10000 + a)

/-- FXTB's eight registers, one entry after another. -/
def State.fxtbGo (s : State) (m : Memory) (d : Nat) : Nat → List Nat → Thread → State × Thread
  | _, [], x => (s, x)
  | n, e :: es, x =>
    let (v, b) := fxtbField m d e
    let x := if b then x.setB true else x
    match v with
    | some v => State.fxtbGo s m d (n + 1) es (x.w n (BitVec.ofNat 64 v))
    | none => State.fxtbGo s.drew m d (n + 1) es (x.w n (BitVec.ofNat 64 s.freeVal))

def execFxtb (t : Fin 8192) (rd rs1 rs2 : Fin 32) (funct : Fin 2048) (s : State) : Host.Outcome State Fault Refusal :=
  s.instr t fun s x =>
    let a := (x.r rs2).toNat
    if rd ≠ 0 ∨ funct ≠ 0 then illegal
    else if a % 32 ≠ 0 then .error { cause := 0x02, addr := some a }
    else match memRegion t a 32 with
      | .dmem o =>
        if let some e := s.eccFault t (.dmem o) 32 a then .error e else
        let m := State.memOf s.dy.dmem ((t : Nat) / 8)
        let es := (List.range 8).map fun j => leNat (m.readBytes (o + 4 * j) 4)
        if es.any (fun e => decide (2 ^ 20 ≤ e)) then illegal
        else if let some e := es.findSome? (s.fxtbBad t (x.r rs1).toNat) then .error e
        else
          let (s, x) := s.fxtbGo m (x.r rs1).toNat 24 es (x.setB false)
          s.done t x
      | _ => .error { cause := 0x03, addr := some a }

/-! ### RCHK (05 R189) -/

/-- The condition of a mode. -/
def rchkHolds (mode : Nat) (a b : Word) : Bool :=
  match mode with
  | 0 => BitVec.ult b a
  | 1 => BitVec.slt b a
  | 2 => BitVec.slt a b
  | _ => a != b

def execRchk (t : Fin 8192) (rd rs1 rs2 : Fin 32) (funct : Fin 2048) (s : State) : Host.Outcome State Fault Refusal :=
  s.aluIf t rd (decide (64 ≤ (funct : Nat))) fun x =>
    if rchkHolds (bits funct 4 2) (x.r rs1) (x.r rs2) then BitVec.ofNat 64 (setBits (x.r rd).toNat (bits funct 0 4) 1 1) else x.r rd

end Sys2Proof.Machine
end

