-- ==== Sys2Proof/Machine/Rings.lean ====
section
/-!
DEFINITION. Submission rings (chapter 09): doorbells, pushes, grants, polls, the arrival of entries and their refusal; device reads of host memory
(08 R311 to R315, R350, R361).
-/

namespace Sys2Proof.Machine

/-! ### Device reads -/

/-- A request of a read for `p` of slice `sl` may take a tag now: the lowest free one (08 R312, R313; DESIGN CHOICE, notes/assumptions/41). -/
def State.pickTag (s : State) (p : Purpose) (sl : Nat) : Option Nat :=
  let used := heldTags s.pci.reads ++ s.pci.quarantine.map (·.1)
  let others := (heldTags (s.pci.reads.filter (fun h => !h.purpose.reserved))).length
  if s.tagLimit ≤ used.length ∨ s.sliceMax ≤ s.sliceTags sl then none
  else if !p.reserved ∧ s.tagLimit - s.ringRsv ≤ others then none
  else (List.range s.tagLimit).find? (fun t => !used.contains t)

/-- The requests of a read: at most `m` bytes each, none across a 4 KiB boundary, in ascending address order (08 R311). -/
def splitRead (m : Nat) : Nat → Nat → Nat → List ReadReq
  | 0, _, _ => []
  | f + 1, a, n =>
    if n = 0 then []
    else let k := min (min m (4096 - a % 4096)) n; { addr := a, len := k } :: splitRead m f (a + k) (n - k)

/-- The largest read request (08 R311, PCI_DMA_CFG). -/
def State.maxRead (s : State) : Nat := min (128 * 2 ^ s.pci.fn1.mrrs) (128 * 2 ^ min (s.rd PCI_DMA_CFG.MAX_RD) 5)

/-- Give tags to the requests of one read that wait for one, in order. -/
def State.issueReqs (s : State) (i : Nat) : Nat → State
  | 0 => s
  | n + 1 =>
    match s.pci.reads[i]? with
    | none => s
    | some h =>
      match firstIdx (fun q => q.tag.isNone) h.reqs with
      | none => s
      | some j =>
        match s.pickTag h.purpose h.slice with
        | none => s
        | some t =>
          let h' := { h with reqs := h.reqs.mapIdx (fun k q => if k = j then { q with tag := some t, at_ := s.ticks } else q) }
          let q := h.reqs.getD j { addr := 0, len := 0 }
          let s := { s with pci := { s.pci with reads := s.pci.reads.set i h' } }
          State.issueReqs (s.emit (.hostRead t h.slice q.addr q.len (s.pasid h.slice))) i n

/-- Give tags to every request that waits, in request order (08 R313). -/
def State.issueReads (s : State) : State :=
  if !s.pf1On then s
  else (List.range s.pci.reads.length).foldl (fun s i => s.issueReqs i ((s.pci.reads.getD i { purpose := .poll 0 0, slice := 0, reqs := [] }).reqs.length)) s

/-- A block asks for a read of host memory. -/
def State.askRead (s : State) (p : Purpose) (sl addr len : Nat) : State :=
  let h : HostRead := { purpose := p, slice := sl, reqs := splitRead s.maxRead len addr len }
  { s with pci := { s.pci with reads := s.pci.reads ++ [h] } }.issueReads

/-! ### When a ring may receive (09 Table 09-7) -/

/-- An entry of a THREAD ring that RGET takes: not a PAD, and not refused (09 R351, Table 09-3). -/
def threadEntry (e : List Byte) : Bool := bits (field e 0 1) 1 3 == 0 && decide (0x20 ≤ field e 1 1) && decide (field e 1 1 ≤ 0x2F)

/-- The THREAD entries that have arrived and that RGET has not taken. -/
def SubRing.waiting (x : SubRing) : List (List Byte × Nat) := x.ready.filter (fun e => threadEntry e.1)

/-- Ring `r` may receive `n` granules (09 R364, Table 09-7). -/
def State.mayReceive (s : State) (r n : Nat) : Bool :=
  let d := s.sdesc r
  match d.cls with
  | 0 => s.intake && decide (s.arrivalQ < 8192) && (!d.gated || s.gateRoom n)
  | 1 => decide (s.blk.cmds.length < s.rd HQ_BLK_CFG.MAX_OUT)
      && decide ((s.blk.cmds.filter (fun c => c.ring == r)).length < s.rd HQ_BLK_CFG.RING_MAX)
  | _ => decide ((s.sub r).waiting.length < 16) && !bitAt (s.rd CFG_QDRAIN.REQ) (d.thread / 2048)

/-- Ring `r` is RUN, its slice is not draining or squashing, and PF1 may read. -/
def State.ringRuns (s : State) (r : Nat) : Bool :=
  (s.sub r).st == .run && (s.slc (s.sdesc r).slice).st == 0 && s.pf1On

/-! ### Errors of a ring -/

/-- The results of every read for ring `r` are dropped. -/
def State.dropReads (s : State) (r : Nat) : State :=
  { s with pci := { s.pci with reads := s.pci.reads.map fun h => match h.purpose with
      | .grant q _ _ | .poll q _ | .indirect q => if q = r then { h with dead := true } else h
      | .storage _ => h } }

/-- Ring `r` enters ERROR (09 R360, R361): cause 1 FETCH, 2 OWN_LATE, 3 FORMAT, with its entry in log 5. -/
def State.ringError (s : State) (r cause index : Nat) : State :=
  let s := s.setSub r { s.sub r with st := .error, cause := cause, got := [], indirect := none, indData := none, grants := 0, polling := false, polledAt := none, refetch := false, reserved := 0 }
  (s.dropReads r).logError 5 (0x0500 + cause) 3 0 (r + index * 2 ^ 32)

/-! ### The arrival of an entry -/

/-- The fields of word 0 (09 R347). -/
def eLen (e : List Byte) : Nat := let n := bits (field e 0 1) 4 4; if n = 0 then 16 else n
def eOpc (e : List Byte) : Nat := field e 1 1
def eTag (e : List Byte) : Nat := field e 2 2
def eHi (e : List Byte) : Nat := field e 4 4

/-- INDIRECT, and the length of the payload or frame (09 Table 09-4). -/
def eIndirect (e : List Byte) : Bool := if eOpc e = 1 then bitAt (eHi e) 8 else bitAt (eHi e) 6
def eDataLen (e : List Byte) : Nat := if eOpc e = 1 then bits (eHi e) 9 11 else bits (eHi e) 8 14
def eType (e : List Byte) : Nat := bits (eHi e) 0 8
def ePort (e : List Byte) : Nat := bits (eHi e) 0 6

/-- A zero field of Table 09-4 is not zero. -/
def eReserved (e : List Byte) : Bool :=
  bits (field e 0 1) 1 3 != 0
    || (eOpc e == 1 && (bits (eHi e) 20 12 != 0 || field e 12 4 != 0 || (eIndirect e && field e 24 8 != 0)))
    || (eOpc e == 2 && (bitAt (eHi e) 7 || bits (eHi e) 22 10 != 0 || (eIndirect e && field e 24 8 != 0)))

/-- The OPC is one of the ring's class (09 Table 09-3; 10 R399). -/
def opcOk (cls opc : Nat) : Bool :=
  match cls with
  | 0 => opc == 1 || opc == 2 || opc == 3
  | 1 => opc == 3 || [0x10, 0x11, 0x12, 0x13, 0x18, 0x19, 0x1A, 0x1B, 0x1C, 0x1D].contains opc
  | _ => decide (0x20 ≤ opc) && decide (opc ≤ 0x2F)

/-- LEN is what Table 09-3 asks. -/
def eLenOk (cls : Nat) (e : List Byte) : Bool :=
  if eOpc e = 3 then eLen e == 1
  else if cls = 1 then eLen e == 2
  else if eIndirect e then eLen e == 1
  else decide (ceilDiv (16 + eDataLen e) 32 ≤ eLen e)

/-- The refusal cause of an entry, in the order of Table 09-5; none: it is accepted. THREAD rings check only causes 7 and 1 (09 R351). -/
def State.refuse (s : State) (r : Nat) (e : List Byte) : Option Nat :=
  let cls := (s.sdesc r).cls
  let p := ePort e
  if cls = 2 then (if bits (field e 0 1) 1 3 ≠ 0 then some 7 else if !opcOk 2 (eOpc e) then some 1 else none)
  else if eReserved e then some 7
  else if !opcOk cls (eOpc e) then some 1
  else if !eLenOk cls e then some 2
  else if eOpc e = 1 ∧ ¬(0x40 ≤ eType e ∧ eType e ≤ 0x51) then some 3
  else if eOpc e = 1 ∧ (1984 < eDataLen e ∨ (!eIndirect e ∧ 496 < eDataLen e)) then some 6
  else if eOpc e = 2 ∧ !s.flag (SEQ_PORT.EN p) then some 4
  else if eOpc e = 2 ∧ (eDataLen e < 60 ∨ s.rd (SEQ_PORT.MAXLEN p) - 4 < eDataLen e) then some 5
  else none

/-- The device returns an entry: word 0 with OWN = 0 (09 R356). -/
def State.returnEntry (s : State) (r index : Nat) (e : List Byte) : State :=
  let w := field e 0 8
  s.hostWrite (s.sdesc r).slice ((s.sdesc r).addr index) (leBytes 8 (w - w % 2)) false false

/-- An entry of a THREAD ring is returned in its turn: one that no earlier entry awaits RGET before is returned at once (09 R356). -/
def State.returnThread (s : State) (r index : Nat) (e : List Byte) : State :=
  let x := s.sub r
  if x.ready.isEmpty then s.returnEntry r index e else s.setSub r { x with ready := x.ready ++ [(e, index)] }

/-- The PADs and refused entries at the head of a THREAD ring's arrived entries are returned (09 R356). -/
def State.returnOwed (s : State) (r : Nat) : State :=
  let x := s.sub r
  let owed := x.ready.takeWhile (fun e => !threadEntry e.1)
  owed.foldl (fun s e => s.returnEntry r e.2 e.1) (s.setSub r { x with ready := x.ready.drop owed.length })

/-- A host-lane record takes its place by arrival stamp, then by ring (01 R23). -/
def insertHost (r : Rec) : List Rec → List Rec
  | [] => [r]
  | a :: as =>
    if stampKey r.stamp < stampKey a.stamp ∨ (stampKey r.stamp = stampKey a.stamp ∧ r.ring < a.ring) then r :: a :: as
    else a :: insertHost r as

def State.offerHost (s : State) (r : Rec) : State := { s with merge := { s.merge with host := insertHost r s.merge.host } }

/-- The record of a CTRL entry (09 R348). -/
def ctrlRec (sl ring entry : Nat) (stamp : Stamp) (e data : List Byte) : Rec :=
  let t := eType e
  { stamp := stamp, port := 0xFF, typ := t, session := if t ≤ 0x4F then field e 8 4 else 0, slice := sl,
    flags := 4 + b2n (needsVerdict t), payload := data, ring := ring, tag := some (eTag e), entry := entry }

/-- The record of an EGRESS entry of a GATED ring (09 R349; 06 Table 06-3). -/
def egressRec (sl ring entry : Nat) (stamp : Stamp) (e frame : List Byte) : Rec :=
  { stamp := stamp, port := 0xFF, typ := 0x60, depends := field e 8 8, slice := sl, flags := 4 + (if 1952 < frame.length then 8 else 0),
    payload := leBytes 1 (ePort e) ++ zeros 1 ++ leBytes 2 frame.length ++ leBytes 4 ring ++ leBytes 4 (crc32c frame) ++ leBytes 2 (eTag e)
      ++ zeros 18 ++ frame.take 1952,
    ring := ring, tag := some (eTag e), entry := entry, frame := frame }

def State.setEport (s : State) (p : Nat) (x : EPort) : State := { s with eports := FMap.set {} s.eports p x }

/-- What an accepted entry becomes (09 R348, R349, R368; 10 R399; 05 R202). -/
def State.accept (s : State) (r index : Nat) (e data : List Byte) (n : Nat) : State :=
  let d := s.sdesc r
  let st := s.nowStamp
  match d.cls, eOpc e with
  | 0, 1 => s.offerHost (ctrlRec d.slice r n st e data)
  | 0, 2 =>
    if d.gated then s.offerHost (egressRec d.slice r n st e data)
    else
      let x := s.eport (ePort e)
      s.setEport (ePort e) { x with ungatedQ := x.ungatedQ ++
        [{ data := data, ring := r, tag := eTag e, slice := d.slice, stamp := st, entry := n, gated := false }] }
  | _, 3 => s.fenceAll r
  | 1, o =>
    let c : BlkCmd := { id := s.blk.nextId, ring := r, entry := n, index := index, tag := eTag e, slice := d.slice, opc := o,
                        nsid := eHi e, bytes := e, stamp := st, wp := decide (1 ≤ eHi e) && decide (eHi e ≤ 16) && s.flag (HQ_BLK_NS.WP (eHi e - 1)) }
    { s with blk := { s.blk with nextId := s.blk.nextId + 1, cmds := s.blk.cmds ++ [c] } }
  | _, _ =>
    let x := s.sub r
    (s.setSub r { x with ready := x.ready ++ [(e, index)] }).raise d.thread evRing

/-- The head entry arrives with its data (09 R355, R356): it takes its stamp, is returned (a THREAD entry waits for RGET), refused or accepted. -/
def State.arrive (s : State) (r : Nat) (e data : List Byte) (cause : Option Nat) : State :=
  let x := s.sub r
  let d := s.sdesc r
  let index := x.h
  let n := x.count
  let opn : OpenEntry := { entry := n, fence := eOpc e == 3 && cause.isNone, index := index, tag := eTag e, stamp := s.nowStamp }
  let x := { x with h := idxAdd x.h (eLen e), got := x.got.drop (32 * eLen e), count := n + 1, indirect := none, indData := none, retries := 0,
                    reserved := x.reserved - eLen e, open_ := if d.cls = 2 then x.open_ else x.open_ ++ [opn] }
  let s := (s.setSub r x).count HQ_CNT0.ARRIVED
  let s := if d.cls ≠ 2 then s.returnEntry r index e else if cause.isNone then s else s.returnThread r index e
  match cause with
  | some c =>
    let s := s.count HQ_CNT0.REFUSED
    if d.cls = 2 then s else s.complete r n (.done 0x92 (c + eOpc e * 256) (eTag e) index opn.stamp r)
  | none => s.accept r index e data n

/-- Grants of ring `r` whose granules lie in the `span` granules from `h` on. -/
def State.spanGrants (s : State) (r h span : Nat) : List HostRead :=
  s.pci.reads.filter (fun o => !o.dead && (match o.purpose with | .grant q i _ => q == r && decide (idxSub i h < span) | _ => false))

/-- A PAD arrives (09 R343): H moves to the next ring start, and A and F with it where they lie within the span; what grants outstanding read of the span is dropped. -/
def State.arrivePad (s : State) (r : Nat) (e : List Byte) : State :=
  let d := s.sdesc r
  let h := (s.sub r).h
  let nx := d.nextStart h
  let span := idxSub nx h
  let s := (if d.cls = 2 then s.returnThread r h e else s.returnEntry r h e).count HQ_CNT0.ARRIVED
  let lost := s.spanGrants r h span
  let s := { s with pci := { s.pci with reads := s.pci.reads.map (fun o => if lost.contains o then { o with dead := true } else o) } }
  let x := s.sub r
  let x := { x with h := nx, got := x.got.drop (32 * span), retries := 0, grants := x.grants - lost.length,
                    reserved := x.reserved - min span (idxSub x.f h),
                    a := if idxSub x.a h < span then nx else x.a, f := if idxSub x.f h < span then nx else x.f }
  s.setSub r x

/-- The data of the head entry: inline, or its indirect buffer. -/
def inlineData (e : List Byte) : List Byte := slice e 16 (eDataLen e)

/-- The entry that has all its bytes in the device at the head of ring `r` takes its next step (09 R343, R351, R355, R360): a PAD arrives; OWN = 0
asks for a re-read, or after RETRY_MAX of them puts the ring in ERROR; a LEN past the ring's end is a FORMAT error; a refused entry arrives; an indirect buffer is read first; any other arrives. -/
def State.headEntry (s : State) (r : Nat) : State :=
  let x := s.sub r
  let d := s.sdesc r
  let e := x.got
  if x.st ≠ .run ∨ e.length < 8 ∨ x.refetch then s
  else if !bitAt (field e 0 1) 0 then
    if s.rd HQ_CFG.RETRY_MAX ≤ x.retries then s.ringError r 2 x.h
    else (s.dropReads r).setSub r { x with refetch := true, readAt := s.ticks, got := [], f := x.h, grants := 0, reserved := 0 }
  else if eOpc e = 0 then s.arrivePad r e
  else if d.gran < x.h % d.gran + eLen e then s.ringError r 3 x.h
  else if e.length < 32 * eLen e then s
  else
    let e := e.take (32 * eLen e)
    match s.refuse r e with
    | some c => s.arrive r e [] (some c)
    | none =>
      if d.cls = 0 ∧ eOpc e ≠ 3 ∧ eIndirect e ∧ 0 < eDataLen e then
        match x.indData with
        | some data => s.arrive r e data none
        | none =>
          if x.indirect.isSome then s
          else (s.setSub r { x with indirect := some { index := x.h, bytes := e } }).askRead (.indirect r) d.slice (field e 16 8) (eDataLen e)
      else s.arrive r e (inlineData e) none

/-- ENTRY_ARRIVE (09 R355). -/
def execEntryArrive (r : Fin 32768) (s : State) : Host.Outcome State Fault Refusal := .next (s.headEntry r)

/-! ### Grants, polls and re-reads -/

/-- Unread announced granules of ring `r`. -/
def State.unread (s : State) (r : Nat) : Nat := idxSub (s.sub r).a (s.sub r).f

/-- The size of the next grant (09 R358). -/
def State.grantSize (s : State) (r : Nat) : Nat :=
  let d := s.sdesc r
  min (min (s.unread r) d.burst) (d.gran - (s.sub r).f % d.gran)

/-- Ring `r` can be given a grant now (09 R362). -/
def State.grantable (s : State) (r : Nat) : Bool :=
  s.ringRuns r && !(s.sub r).refetch && s.unread r != 0 && s.mayReceive r (s.grantSize r)

/-- The ring that the arbiter grants next: the one it visits, while grants are left there, else the next in ascending order, else the first of a
new round (09 R362). -/
def State.nextGrant (s : State) : Option (Nat × Nat) :=
  let rs := s.subRings.filter s.grantable
  if rs.contains s.hq.arbRing ∧ 0 < s.hq.arbLeft then some (s.hq.arbRing, s.hq.arbLeft)
  else match (rs.filter (fun r => decide (s.hq.arbRing < r))).head? with
    | some r => some (r, (s.sdesc r).weight)
    | none => rs.head?.map (fun r => (r, (s.sdesc r).weight))

/-- FETCH_GRANT (09 R358, R359, R362): the arbiter issues its next grant; on an AHEAD ring a grant that ends the announced granules also reads the
next word 0. -/
def execFetchGrant (s : State) : Host.Outcome State Fault Refusal :=
  match s.nextGrant with
  | none => .next s
  | some (r, left) =>
    let d := s.sdesc r
    let x := s.sub r
    let n := s.grantSize r
    let extra := d.ahead && n == s.unread r && (x.f + n) % d.gran != 0
    let s := { s with hq := { s.hq with arbRing := r, arbLeft := left - 1 } }
    let s := s.setSub r { x with f := idxAdd x.f n, grants := x.grants + 1, reserved := if d.cls = 0 ∧ d.gated then x.reserved + n else x.reserved }
    .next (s.askRead (.grant r x.f n) d.slice (d.addr x.f) (32 * n + if extra then 8 else 0))

/-- AHEAD_POLL (09 R359). -/
def execAheadPoll (r : Fin 32768) (s : State) : Host.Outcome State Fault Refusal :=
  let d := s.sdesc r
  let x := s.sub r
  if s.ringRuns r && d.en && d.ahead && s.mayReceive r 1 && s.unread r == 0 && x.grants == 0 && !x.polling && !x.refetch
      && x.polledAt.elim true (fun t => decide (t + nsTicks (bits d.w2 11 16) ≤ s.ticks)) then
    .next ((s.setSub r { x with polling := true }).askRead (.poll r x.h) d.slice (d.addr x.h) 8)
  else .next s

/-- A word 0 read at H with OWN = 1 announces its entry; a PAD arrives at once (09 R359). -/
def State.announce (s : State) (r index : Nat) (w : List Byte) : State :=
  let x := s.sub r
  let d := s.sdesc r
  if x.st ≠ .run ∨ x.a ≠ index ∨ !bitAt (field w 0 1) 0 then s
  else if eOpc w = 0 then
    (if x.h = index then s.arrivePad r w else s.setSub r { x with a := d.nextStart index })
  else if d.gran < index % d.gran + eLen w then (if x.h = index then s.ringError r 3 index else s)
  else s.setSub r { x with a := idxAdd index (eLen w) }

/-- REFETCH (09 R360): RETRY_NS after its data was discarded the entry is read again. -/
def execRefetch (r : Fin 32768) (s : State) : Host.Outcome State Fault Refusal :=
  let x := s.sub r
  if x.st ≠ .run ∨ !x.refetch ∨ s.ticks < x.readAt + nsTicks (s.rd HQ_CFG.RETRY_NS) then .next s
  else .next ((s.setSub r { x with refetch := false, retries := x.retries + 1 }).count HQ_CNT1.REFETCH)

/-! ### Whole reads -/

/-- The data of a read. -/
def HostRead.data (h : HostRead) : List Byte := h.reqs.flatMap (fun q => q.got)

/-- Every byte has arrived. -/
def HostRead.whole (h : HostRead) : Bool := h.reqs.all (fun q => q.got.length == q.len)

/-- The oldest read of a ring's entries, when it is whole, is taken by the ring: its granules follow those the ring holds (08 R311; 09 R355). -/
def State.takeGrants (s : State) (r : Nat) : Nat → State
  | 0 => s
  | n + 1 =>
    let mine : HostRead → Bool := fun h => !h.dead && (match h.purpose with | .grant q _ _ => q == r | _ => false)
    match s.pci.reads.find? mine with
    | none => s
    | some h =>
      if !h.whole then s
      else
        let s := { s with pci := { s.pci with reads := dropFirst mine s.pci.reads } }
        match h.purpose with
        | .grant _ index g =>
          let x := s.sub r
          let s := s.setSub r { x with got := x.got ++ h.data.take (32 * g), grants := x.grants - 1 }
          let s := if 32 * g < h.data.length then s.announce r (idxAdd index g) (h.data.drop (32 * g)) else s
          State.takeGrants s r n
        | _ => s

/-! ### Doorbells -/

/-- A doorbell for ring `r` is discarded and counted in DB_DISCARD (08 R330; 09 R376). -/
def State.discards (s : State) (sl : Nat) (st : RState) : Bool :=
  (s.slc sl).st == 1 || (s.slc sl).st == 2 || st == .stopped

/-- Announce a tail (09 R354). -/
def State.tail (s : State) (r t : Nat) : State :=
  let x := s.sub r
  let g := (s.sdesc r).gran
  if t = x.a then s
  else if idxSub t x.a ≤ g ∧ idxSub t x.h ≤ g then s.setSub r { x with a := t }
  else s.count HQ_CNT1.DB_IGNORED

/-- SUB_TAIL (09 R354). -/
def State.subTail (s : State) (r v : Nat) : State :=
  let d := s.sdesc r
  if s.discards d.slice (s.sub r).st && d.en then s.count (SLC_CNT.DB_DISCARD d.slice)
  else if (s.sub r).st ≠ .run then s.count HQ_CNT1.DB_IGNORED
  else s.tail r (v % 2 ^ 32)

def execSubTail (r : Fin 32768) (v : BitVec 64) (s : State) : Host.Outcome State Fault Refusal := .next (s.subTail r v.toNat)

/-- PUSH_DATA (09 R353, R357): whole 8-byte words from an 8-byte aligned offset of the page are stored and recorded as written. -/
def State.pushStore (s : State) (r off : Nat) (data : List Byte) : State :=
  let d := s.sdesc r
  let x := s.sub r
  if s.discards d.slice x.st && d.en then s.count (SLC_CNT.DB_DISCARD d.slice)
  else
    let mask := (List.range (data.length / 8)).foldl (fun a i => a ||| 2 ^ (off / 8 + i)) x.pushed
    s.setSub r { x with push := Memory.writeBytes x.push off data, pushed := mask }

def State.pushData (s : State) (r off : Nat) (data : List Byte) : State :=
  if off % 8 = 0 ∧ data.length % 8 = 0 ∧ data ≠ [] ∧ off + data.length ≤ 512 then s.pushStore r off data
  else s.count HQ_CNT1.DB_BAD_WRITE

def execPushData (r : Fin 32768) (off : Fin 512) (data : List Byte) (s : State) : Host.Outcome State Fault Refusal :=
  .next (s.pushData r off data)

/-- The pushed entry is taken (09 R357). -/
def State.pushTaken (s : State) (r index : Nat) (e : List Byte) : Bool :=
  let x := s.sub r
  let n := eLen e
  s.ringRuns r && s.mayReceive r 1 && index == x.h && index == x.a && x.grants == 0 && !x.refetch && x.got.isEmpty
    && (List.range (4 * n)).all (fun i => bitAt x.pushed i) && bitAt (field e 0 1) 0 && eOpc e != 0

/-- PUSH_GO (09 R357). -/
def State.pushGo (s : State) (r v : Nat) : State :=
  let x := s.sub r
  let d := s.sdesc r
  let sl := s.slc d.slice
  let index := v % 2 ^ 32
  let e := Memory.readBytes x.push 0 512
  let clear := fun (s : State) => s.setSub r { s.sub r with push := [], pushed := 0 }
  if sl.st = 1 ∨ sl.st = 2 then clear (s.count (SLC_CNT.DB_DISCARD d.slice))
  else if x.st ≠ .run ∨ !bitAt x.pushed 0 then clear (s.count HQ_CNT1.DB_IGNORED)
  else if s.pushTaken r index e then
    let e := e.take (32 * eLen e)
    let a := idxAdd index (eLen e)
    let s := if x.polling then s.dropReads r else s
    let s := s.setSub r { x with a := a, f := a, got := e, polling := false, reserved := if d.cls = 0 ∧ d.gated then x.reserved + eLen e else x.reserved }
    clear (s.headEntry r)
  else clear ((s.tail r (idxAdd index (eLen e))).count HQ_CNT0.PUSH_FALLBACK)

def execPushGo (r : Fin 32768) (v : BitVec 64) (s : State) : Host.Outcome State Fault Refusal := .next (s.pushGo r v.toNat)

/-- RELEASE names a group boundary the device has written and steps no further than Wd (09 R371). -/
def DlvRing.releaseOk (x : DlvRing) (v : Nat) : Bool := v == x.rd || (decide (idxSub v x.rd ≤ idxSub x.wd x.rd) && x.bounds.contains v)

/-- DLV_RELEASE (09 R371, R373 to R375, R383). -/
def State.dlvRelease (s : State) (q v : Nat) : State :=
  let d := s.ddesc q
  let x := s.dlv q
  let rel := v % 2 ^ 32
  if s.discards d.slice x.st && d.en then s.count (SLC_CNT.DB_DISCARD d.slice)
  else if x.st ≠ .run ∧ x.st ≠ .overflow then s.count HQ_CNT1.DB_IGNORED
  else
    let s := if x.releaseOk rel then
        let keep := idxSub x.wd rel
        (s.setDlv q { x with rd := rel, bounds := x.bounds.filter (fun b => decide (idxSub x.wd b < keep)) }).pumpAll q
      else s.count HQ_CNT1.DB_IGNORED
    if bitAt v 32 && d.irqEn then
      let s := s.setDlv q { s.dlv q with armed := true }
      if 0 < (s.dlv q).since then s.dlvIrq q else s
    else s

def execDlvRelease (q : Fin 32768) (v : BitVec 64) (s : State) : Host.Outcome State Fault Refusal := .next (s.dlvRelease q v.toNat)

/-- A write of a doorbell page, from the host or a peer window (09 R353; 08 R302). -/
def State.doorbell (s : State) (r off : Nat) (data : List Byte) : State :=
  let v := leNat data
  if off < 0x200 then s.pushData r off data
  else if 0x218 ≤ off then s
  else if data.length ≠ 8 ∨ off % 8 ≠ 0 then s.count HQ_CNT1.DB_BAD_WRITE
  else match off with
    | 0x200 => s.pushGo r v
    | 0x208 => s.subTail r v
    | _ => s.dlvRelease r v

/-- COAL_TIMER (09 R375): COAL_NS has passed since the first group handed over after the last message. -/
def execCoalTimer (q : Fin 32768) (s : State) : Host.Outcome State Fault Refusal :=
  let x := s.dlv q
  let d := s.ddesc q
  if x.armed && d.irqEn && decide (0 < x.since) && decide (x.sinceAt + nsTicks (bits d.w2 24 16) ≤ s.ticks) then
    .next ((s.setDlv q { x with armed := false, since := 0 }).msix 1 d.vector)
  else .next s

/-- DELIVER_GROUP (09 R369, R373): the oldest group produced is handed to its ring. -/
def execDeliverGroup (s : State) : Host.Outcome State Fault Refusal :=
  match s.hq.out with
  | [] => .next s
  | (q, g) :: rest => .next ({ s with hq := { s.hq with out := rest } }.deliver q g)

/-- RGET (05 R202): the head entry of a THREAD ring bound to the thread is taken to engine data memory, and returned (09 R356). ALIGN and ACCESS come before BINDING (05
R206); where no entry is there to say how many bytes it takes, the least entry's 32 bytes count (notes/assumptions/21). -/
def execRget (t : Fin 8192) (rd rs1 rs2 : Fin 32) (funct : Fin 2048) (s : State) : Host.Outcome State Fault Refusal :=
  s.instr t fun s x =>
    let r := (x.r rs1).toNat
    let a := (x.r rs2).toNat
    let d := s.sdesc r
    let bound := r < 32768 ∧ d.en ∧ d.cls = 2 ∧ d.thread = t
    let n := if bound then (match (s.sub r).ready with | [] => 32 | (e, _) :: _ => e.length) else 32
    if funct ≠ 0 then illegal
    else if a % 32 ≠ 0 then .error { cause := 0x02, addr := some a }
    else match memRegion t a n with
      | .dmem o =>
        if !s.mayWrite t (.dmem o) n then .error { cause := 0x03, addr := some a }
        else if ¬ bound then .error { cause := 0x22, info := some r }
        else match (s.sub r).ready with
          | [] => s.memwait t x (.done [(rd, 0)] (some true))
          | (e, index) :: rest =>
            let s := s.writeRegion t (.dmem o) e
            let s := ((s.setSub r { s.sub r with ready := rest }).returnEntry r index e).returnOwed r
            s.memwait t x (.done [(rd, field e 0 8)] (some false))
      | _ => .error { cause := 0x03, addr := some a }

end Sys2Proof.Machine
end

