-- ==== Sys2Proof/Machine/Slices.lean ====
section
/-!
DEFINITION. Slices: slice reset by drain and squash (08 R325 to R333), ring restart, state and resume (09 R376 to R384).
-/

namespace Sys2Proof.Machine

/-! ### The next number (03 R110 to R113) -/

/-- The closed epochs: those of the Pour gate's table, and one whose EPOCH_CLOSE marker is still to be written or to become LOCAL_OK (12 R471 to R474). -/
def State.closes (s : State) : List Closed :=
  (s.ezn.mark.map (fun m => m.2.2.1)).toList ++ (s.ezn.closing.map (fun c => c.2.1)).toList ++ s.closed

/-- The last sequence number issued: the one before SEQ_NEXT, or the last of the newest closed epoch before. -/
def State.lastIssued (s : State) : Seq :=
  let n := s.rd SEQ_NEXT.NEXT
  if 0 < seqIndex n then n - 1
  else (s.closes.filter (fun c => decide (c.epoch < seqEpoch n))).foldl (fun a c => max a (c.epoch * 2 ^ 48 + c.index)) 0

/-- SEQ_NEXT, and ROLL_NEAR with it (03 R112). -/
def State.setNext (s : State) (n : Seq) : State :=
  (s.wr SEQ_NEXT.NEXT n).wrB SEQ_STATUS.ROLL_NEAR (decide (2 ^ s.rd SEQ_CFG.ROLL_LOG2 ≤ seqIndex n + 2 ^ 32))

/-- A roll or a change of primary would need epoch 0x1_0000: no further number is issued (03 R113). -/
def State.exhaust (s : State) : State := (s.wr SEQ_STATUS.EPOCH_EXHAUSTED 1).logError 2 0x0202 5 0 (s.rd SEQ_NEXT.NEXT)

/-! ### Stopping -/

/-- Submission ring `r` enters STOPPED (09 R377): what it holds that has not arrived is gone. -/
def State.stopSub (s : State) (r : Nat) : State :=
  let x := s.sub r
  (s.dropReads r).setSub r { x with st := .stopped, cause := 0, got := [], grants := 0, polling := false, polledAt := none, retries := 0, refetch := false,
                                    indirect := none, indData := none, push := [], pushed := 0, reserved := 0 }

/-- Delivery ring `q` enters STOPPED: its groups not yet written are discarded (09 R377). -/
def State.stopDlv (s : State) (q : Nat) (point : Option Seq) : State :=
  let x := s.dlv q
  let s := { s with hq := { s.hq with out := s.hq.out.filter (fun e => e.1 != q) } }
  s.setDlv q { x with st := .stopped, backlog := [], redo := [], armed := false, since := 0, count := 0, lost := 0,
                      held := if x.st = .stopped then x.held else [], stops := x.stops ++ [point] }

/-- Every ring of slice `n` enters STOPPED. -/
def State.stopRings (s : State) (n : Nat) (point : Option Seq) : State :=
  let s := (s.subRings.filter (fun r => (s.sdesc r).slice == n)).foldl State.stopSub s
  (s.dlvRings.filter (fun q => (s.ddesc q).slice == n)).foldl (fun s q => s.stopDlv q point) s

/-- The slice's delivery epoch advances, its rings stop and it enters STOPPED (01 R39; 08 R327, R328; 09 R377). -/
def State.advanceEpoch (s : State) (n : Nat) (point : Option Seq) : State :=
  let s := s.count (SLC_STAT.DELIVERY_EPOCH n)
  (s.stopRings n point).setSlc n { s.slc n with st := 3 }

/-- The end of a slice reset: the asker is answered (08 R326). -/
def State.endReset (s : State) (n mode : Nat) : State :=
  let x := s.slc n
  let s := s.advanceEpoch n none
  let s := s.setSlc n { s.slc n with asker := none, squashed := 0, limit := 0, apply := false }
  match x.asker with
  | some a => s.answer a 0 (leBytes 4 (s.rd (SLC_STAT.DELIVERY_EPOCH n)) ++ leBytes 1 mode ++ zeros 3 ++ leBytes 4 x.squashed)
  | none => s

/-! ### Drain (08 R327) -/

/-- Ring `r` holds an entry that has been fetched or pushed and has not arrived. -/
def SubRing.busy (x : SubRing) : Bool :=
  x.indirect.isSome || !x.waiting.isEmpty || (decide (8 ≤ x.got.length) && decide (32 * eLen x.got ≤ x.got.length) && bitAt (field x.got 0 1) 0)

/-- Everything that slice `n` has had fetched has completed its path: entries have arrived, records are journaled, storage commands have
completed and reads are done. -/
def State.drained (s : State) (n : Nat) : Bool :=
  (s.subRings.filter (fun r => (s.sdesc r).slice == n)).all (fun r => !(s.sub r).busy)
    && !s.merge.host.any (fun r => r.slice == n) && !s.crf.issued.any (fun i => i.r.port == 0xFF && i.r.slice == n)
    && !s.blk.cmds.any (fun c => c.slice == n) && !s.pci.reads.any (fun h => h.slice == n && !h.dead)

/-- SLICE_DRAIN_DONE (08 R327). -/
def execSliceDrainDone (n : Fin 256) (s : State) : Host.Outcome State Fault Refusal :=
  if (s.slc n).st = 1 ∧ s.drained n then .next (s.endReset n 1) else .next s

/-! ### Squash (08 R328) -/

/-- Whole entries that a ring's bytes hold. -/
def wholeEntries : Nat → List Byte → Nat
  | 0, _ => 0
  | n + 1, e => if e.length < 32 ∨ e.length < 32 * eLen e then 0 else 1 + wholeEntries n (e.drop (32 * eLen e))

/-- What a squash discards of ring `r`: entries not yet offered and fences not yet done; how many. -/
def State.squashRing (s : State) (n r : Nat) : State :=
  let x := s.sub r
  let gone := s.merge.host.filter (fun c => c.ring == r)
  let fences := x.open_.filter (fun e => e.fence)
  let k := wholeEntries 2048 x.got + x.waiting.length + gone.length + fences.length
  let s := { s with merge := { s.merge with host := s.merge.host.filter (fun c => c.ring != r) } }
  let s := s.setSub r { x with ready := [], open_ := x.open_.filter (fun e => !e.fence && !gone.any (fun c => c.entry == e.entry)) }
  let s := s.setSlc n { s.slc n with squashed := (s.slc n).squashed + k }
  s.countBy (SLC_CNT.SQUASHED n) k

/-- A NAND operation of the storage command has been dispatched: a read, or the program of a wordline with one of its units or entries. -/
def State.cmdBegan (s : State) (c : BlkCmd) : Bool :=
  let has := fun (w : Wl) => w.items.any (fun i => i.cmd == c.id)
  decide (c.phase = 4) || s.wasDispatched (· == .read c.id) || s.blk.done.any (fun e => has e.2) || s.blk.prog.any (fun e => has e.2 && s.wasDispatched (· == .wordline e.1))

/-- Storage commands of the slice: those with no NAND operation dispatched are discarded; the others finish on the medium without a completion (10 R416: the LBAs of a
command that had placed units hold the old or the new content). -/
def State.squashBlk (s : State) (n : Nat) : State :=
  let mine := s.blk.cmds.filter (fun c => c.slice == n)
  let k := (mine.filter (fun c => !s.cmdBegan c)).length
  let s := mine.foldl (fun s c => s.setSub c.ring { s.sub c.ring with open_ := (s.sub c.ring).open_.filter (fun e => e.entry != c.entry) }) s
  let s := mine.foldl (fun s c => s.forget (· == .read c.id)) { s with blk := { s.blk with cmds := s.blk.cmds.filter (fun c => c.slice != n) } }
  let s := s.setSlc n { s.slc n with squashed := (s.slc n).squashed + k }
  s.countBy (SLC_CNT.SQUASHED n) k

/-- Reads of the slice are abandoned: requests not yet issued are gone, the others' tags are quarantined (08 R328). -/
def State.abandonReads (s : State) (n : Nat) : State :=
  { s with pci := { s.pci with reads := s.pci.reads.map fun h =>
      if h.slice = n then { h with dead := true, squashed := true, reqs := h.reqs.filter (fun q => q.tag.isSome && decide (q.got.length < q.len)) } else h } }

/-- SQUASH (08 R328). -/
def State.squashNow (s : State) (n : Nat) : State :=
  let s := (s.subRings.filter (fun r => (s.sdesc r).slice == n)).foldl (fun s r => s.squashRing n r) s
  ((s.squashBlk n).abandonReads n).endReset n 2

def execSquash (n : Fin 256) (s : State) : Host.Outcome State Fault Refusal :=
  if (s.slc n).st = 2 then .next (s.squashNow n) else .next s

/-- A drain continues as a squash, with its warning (08 R329). -/
def State.escalateDrain (s : State) (n info : Nat) : State :=
  ((s.setSlc n { s.slc n with st := 2 }).wr (SLC_STAT.ESCALATED n) 1).warn 7 0x0701 n info

/-- DRAIN_LIMIT_EXPIRE (08 R329). -/
def execDrainLimitExpire (n : Fin 256) (s : State) : Host.Outcome State Fault Refusal :=
  if (s.slc n).st = 1 ∧ (s.slc n).began + usTicks (s.slc n).limit ≤ s.ticks then .next (s.escalateDrain n (s.slc n).limit) else .next s

/-- Every enabled slice begins a squash; a drain turns into one (08 R330, R331, R333). -/
def State.squashAll (s : State) : State :=
  (List.range 256).foldl (fun s n =>
    if !s.flag (SLC_CFG.EN n) then s
    else if (s.slc n).st = 1 then s.escalateDrain n 0
    else if (s.slc n).st = 2 then s
    else s.setSlc n { s.slc n with st := 2 }) s

/-- A slice reset begins (08 R325, R327 to R329). -/
def State.beginReset (s : State) (n mode limit : Nat) (asker : Option Nat) : State :=
  let s := s.setSlc n { s.slc n with st := if mode = 2 then 2 else 1, asker := asker, limit := if limit = 0 then 1000 else limit, began := s.ticks, squashed := 0 }
  (s.wr (SLC_STAT.ESCALATED n) 0).count (SLC_CNT.RESETS n)

/-- SLICE_RESET (08 R326). -/
def execSliceReset (sl : Fin 256) (s : State) : Host.Outcome State Fault Refusal :=
  .next (s.serve sl 0x0003 (· == 8) false false (fun s pl =>
    let t := field pl 0 1
    let mode := field pl 1 1
    let limit := field pl 4 4
    if t ≠ (sl : Nat) ∧ !s.sliceAdmin sl then (s, some (3, []))
    else if (mode ≠ 1 ∧ mode ≠ 2) ∨ field pl 2 2 ≠ 0 ∨ 1000000 < limit then (s, some (5, []))
    else if !s.flag (SLC_CFG.EN t) then (s, some (0x0100, []))
    else if (s.slc t).st = 1 ∨ (s.slc t).st = 2 then (s, some (0x0101, []))
    else (s.beginReset t mode limit (some sl), none)))

/-! ### Restart, state and resume (09 R379 to R384) -/

/-- A record lies above the closing index of an epoch closed by failover: it is truncated, and never delivered (01 R42). -/
def State.truncated (s : State) (q : Seq) : Bool := s.closes.any (fun c => !c.roll && c.epoch == seqEpoch q && decide (c.index < seqIndex q))

/-- The records of a page that no truncation inside it has made void (06 R232; 12 R472). -/
def JPage.live (p : JPage) : List Rec := match p.cut with | some q => p.recs.filter (fun r => decide (r.seq ≤ q)) | none => p.recs

/-- The records that the journal holds, appended and in sequence order (09 R380). -/
def State.journal (s : State) : List Rec :=
  ((s.crf.pages.filter (fun e => e.2.kind == 1 && !s.crf.voids.contains e.1)).flatMap (fun e => e.2.live) ++ s.crf.cur.recs).filter
    (fun r => !s.truncated r.seq)

/-- The groups that deliver every record from `floor` on that is routed to ring `q`. -/
def State.above (s : State) (q : Nat) (floor : Seq) : List Group :=
  (s.journal.filter (fun r => decide (floor ≤ r.seq) && (s.routes r).contains q)).map Group.record

/-- The lowest sequence number still held. -/
def State.lowest (s : State) : Seq := match s.journal with | r :: _ => r.seq | [] => s.rd SEQ_NEXT.NEXT

/-- The record after a cursor has been erased with its archive segment (09 R381). -/
def State.gone (s : State) (cursor : Seq) : Bool := !s.crf.erased.isEmpty && decide (cursor + 1 < s.lowest)

/-- The resume point P (09 R380; 01 R40): the lowest of the values of the events that stopped the ring. -/
def State.resumePoint (s : State) (q : Nat) : Seq :=
  match (s.dlv q).stops.map (fun x => x.getD s.lastIssued) with
  | [] => s.lastIssued
  | a :: as => as.foldl min a

/-- How a restart's cursor is handled (09 R381; 01 R40): the status, the resume point reported, and the lowest number that is delivered. -/
def State.cursorFor (s : State) (q : Nat) (fromStart : Bool) (cursor : Seq) : Nat × Seq × Seq :=
  let p := s.resumePoint q
  -- above a sequence number, or from the new JOURNAL_START on (06 R579)
  let above := fun (c : Seq) => if (s.dlv q).anew then 0 else c + 1
  if fromStart then (0, if s.crf.erased.isEmpty then p else s.lowest, 0)
  else if cursor = 2 ^ 64 - 1 then (0, p, above p)
  else match s.closes.find? (fun c => c.epoch == seqEpoch cursor && decide (c.index < seqIndex cursor)) with
    | some c => (0x0103, c.epoch * 2 ^ 48 + c.index, above (c.epoch * 2 ^ 48 + c.index))
    | none =>
      if p < cursor then (0x0103, p, above p)
      else if s.gone cursor then (0x0104, s.lowest, above cursor)
      else (0, p, above cursor)

/-- The slice leaves STOPPED at its first accepted restart, and its watermark word is due (08 R325, R328). -/
def State.leaveStopped (s : State) (n : Nat) : State :=
  if (s.slc n).st = 3 then
    let s := s.setSlc n { s.slc n with st := 0 }
    { s with crf := { s.crf with wordDue := FMap.set false s.crf.wordDue n true } }
  else s

/-- Restart a delivery ring from `floor` with the resume point `p` (09 R380). -/
def State.restartDlv (s : State) (q index : Nat) (p floor : Seq) : State :=
  let x := s.dlv q
  let s := { s with hq := { s.hq with out := s.hq.out.filter (fun e => e.1 != q || (match e.2 with | .record _ => false | _ => true)) } }
  let s := s.setDlv q { st := .run, wd := index, rd := index, floor := floor, last := floor - 1, stops := [], redo := (.event 1 p 0) :: x.held ++ s.above q floor }
  s.pumpAll q

/-- Restart a submission ring (09 R379). -/
def State.restartSub (s : State) (r index : Nat) : State :=
  let x := s.sub r
  s.setSub r { x with st := .run, cause := 0, polledAt := none, h := index, a := index, f := index, push := [], pushed := 0, got := [], retries := 0, refetch := false,
                      indirect := none, indData := none, grants := 0, polling := false }

/-- Roaster acknowledges a ring's error record when the ring is restarted or resumed (14 Table 14-4). -/
def State.ackRing (s : State) (r : Nat) : State :=
  let c := s.rd (ERR_FIRST.CODE 5)
  if s.flag ERR_CFG.AUTO_ACK ∧ s.rd (ERR_STAT.FIRST_VALID 5) = 1 ∧ 0x0501 ≤ c ∧ c ≤ 0x0504 ∧ bits (s.rd (ERR_FIRST_INFO.INFO 5)) 0 15 = r then
    s.clearFirst 5
  else s

/-- The sender may ask about the ring (09 R384). -/
def State.ownsRing (s : State) (sl : Nat) (d : RDesc) : Bool := s.sliceAdmin sl || (d.en && d.slice == sl)

/-- A request to restart a delivery ring waits until replay has rebuilt W, which is its resume point (01 R40; 06 R231; DESIGN CHOICE, notes/assumptions/43). -/
def State.unresumed (s : State) (sl : Nat) : Bool := s.run && s.flag CRF_STATUS.REPLAYING && bitAt (field (s.mb sl).payload 0 2) 15

/-- RING_RESTART (09 R379 to R384). -/
def execRingRestart (sl : Fin 256) (s : State) : Host.Outcome State Fault Refusal :=
  if s.unresumed sl then .next s
  else .next (s.serve sl 0x0400 (· == 16) false false (fun s pl =>
    let r := field pl 0 2 % 32768
    let dir := bitAt (field pl 0 2) 15
    let flags := field pl 2 2
    let index := field pl 4 4
    let cursor := field pl 8 8
    let d := if dir then s.ddesc r else s.sdesc r
    let rsp := fun (s : State) p => leBytes 8 p ++ leBytes 4 (s.rd (SLC_STAT.DELIVERY_EPOCH d.slice)) ++ zeros 4
    if 1 < flags ∨ (!dir ∧ (flags ≠ 0 ∨ cursor ≠ 0)) then (s, some (5, []))
    else if !s.ownsRing sl d then (s, some (0x0101, []))
    else if !d.en then (s, some (0x0100, []))
    else if (s.slc d.slice).st = 1 ∨ (s.slc d.slice).st = 2 then (s, some (0x0102, []))
    else if dir then
      if (s.dlv r).st ≠ .stopped then (s, some (0x0100, []))
      else
        let (st, p, floor) := s.cursorFor r (bitAt flags 0) cursor
        if st = 0x0104 then (s, some (st, rsp s p))
        else
          let s := ((s.restartDlv r index p floor).leaveStopped d.slice).ackRing r
          (s, some (st, rsp s p))
    else if (s.sub r).st ≠ .stopped ∧ (s.sub r).st ≠ .error then (s, some (0x0100, []))
    else
      let s := ((s.restartSub r index).leaveStopped d.slice).ackRing r
      (s, some (0, rsp s 0))))

/-- RING_STATE (09 R384). -/
def execRingState (sl : Fin 256) (s : State) : Host.Outcome State Fault Refusal :=
  .next (s.serve sl 0x0401 (· == 4) false false (fun s pl =>
    let r := field pl 0 2 % 32768
    let dir := bitAt (field pl 0 2) 15
    let d := if dir then s.ddesc r else s.sdesc r
    if field pl 2 2 ≠ 0 then (s, some (5, []))
    else if !s.ownsRing sl d then (s, some (0x0100, []))
    else if !d.en then (s, some (0, zeros 32))
    else if dir then
      let x := s.dlv r
      (s, some (0, leBytes 1 x.st.code ++ zeros 3 ++ leBytes 4 x.wd ++ leBytes 4 x.rd ++ zeros 4 ++ leBytes 8 x.last ++ leBytes 8 x.backlogBytes))
    else
      let x := s.sub r
      (s, some (0, leBytes 1 x.st.code ++ leBytes 1 x.cause ++ zeros 2 ++ leBytes 4 x.h ++ leBytes 4 x.a ++ zeros 4 ++ leBytes 8 x.last ++ zeros 8))))

/-- The lowest sequence number that a ring in OVERFLOW has not taken, into the ring or its backlog. -/
def DlvRing.nextTaken (x : DlvRing) : Seq :=
  (x.backlog ++ x.redo).foldl (fun a g => match g with | .record r => max a (r.seq + 1) | _ => a)
    (if x.floor ≤ x.last ∧ (x.last ≠ 0 ∨ x.count ≠ 0) then x.last + 1 else x.floor)

/-- The last record that such a ring has taken. -/
def DlvRing.lastTaken (x : DlvRing) : Seq := x.nextTaken - 1

/-- RING_RESUME (09 R382, R384). -/
def execRingResume (sl : Fin 256) (s : State) : Host.Outcome State Fault Refusal :=
  .next (s.serve sl 0x0402 (· == 4) false false (fun s pl =>
    let r := field pl 0 2 % 32768
    let dir := bitAt (field pl 0 2) 15
    let d := if dir then s.ddesc r else s.sdesc r
    if field pl 2 2 ≠ 0 then (s, some (5, []))
    else if !s.ownsRing sl d then (s, some (0x0101, []))
    else if !dir ∨ !d.en ∨ (s.dlv r).st ≠ .overflow then (s, some (0x0100, []))
    else
      let x := s.dlv r
      let p := x.lastTaken
      if s.gone p then (s, some (0x0102, leBytes 8 s.lowest))
      else
        let s := { s with hq := { s.hq with out := s.hq.out.filter (fun e => e.1 != r || (match e.2 with | .record _ => false | _ => true)) } }
        let s := s.setDlv r { x with st := .run, lost := 0, redo := x.redo ++ (.event 2 p x.lost) :: s.above r x.nextTaken }
        ((s.pumpAll r).ackRing r, some (0, leBytes 8 p))))

end Sys2Proof.Machine
end

