-- ==== Sys2Proof/Machine/Carafe.lean ====
section
/-!
DEFINITION. Carafe (chapter 06): pages and their bytes, stripes, sealing and the chain, append, flush points, program results, the local durable point,
the durable watermark and its words.
-/

namespace Sys2Proof.Machine

/-! ### Stripe plans (R216) -/

/-- The channels of a plan in ascending number; their positions are the plan indices. -/
def Plan.chans (p : Plan) : List Nat := (List.range 32).filter (bitAt p.mask)

/-- The channel at plan index `i`, counted cyclically. -/
def Plan.chan (p : Plan) (i : Nat) : Nat := (pick p.chans i).getD 0

/-- The plan index of a channel. -/
def Plan.idx (p : Plan) (c : Nat) : Nat := (firstIdx (· == c) p.chans).getD 0

/-- The first channel counted cyclically from plan index `i` that satisfies `ok`. -/
def Plan.find (p : Plan) (i : Nat) (ok : Nat → Bool) : Option Nat :=
  ((List.range p.chans.length).map (fun k => p.chan (i + k))).find? ok

/-- The channel of data position `j` of stripe `st`, of its parity page, and of the twin of a page on plan index `i`. -/
def Plan.dataChan (p : Plan) (st j : Nat) : Nat := p.chan (st + 1 + j)
def Plan.parityChan (p : Plan) (st : Nat) : Nat := p.chan st
def Plan.twinChan (p : Plan) (i : Nat) : Nat := p.chan (i + p.width / 2)

/-! ### Page bytes (R215, Tables 06-4 and 06-5) -/

def JPage.unitsUsed (p : JPage) : Nat := if p.kind = 1 then (p.recs.map Rec.size).sum else p.marker.length / 64

/-- The page header. -/
def JPage.header (p : JPage) (serial : Nat) : List Byte :=
  leBytes 4 0x4E595242 ++ leBytes 2 p.fver ++ leBytes 1 p.kind ++ leBytes 1 p.pflags ++ leBytes 8 p.journal ++ leBytes 8 p.stripe ++ leBytes 1 p.pos
    ++ leBytes 1 p.width ++ leBytes 1 p.ch ++ leBytes 1 p.twinCh ++ leBytes 2 p.recs.length ++ leBytes 2 p.unitsUsed ++ leBytes 8 p.first
    ++ leBytes 8 p.last ++ leBytes 8 serial ++ leBytes 4 p.plan ++ zeros 4

/-- Bytes 0 to 16,255. -/
def JPage.body (p : JPage) (serial : Nat) : List Byte :=
  p.header serial ++ padTo 16192 (if p.kind = 1 then p.recs.flatMap Rec.bytes else p.marker)

/-- The whole page. -/
def JPage.bytes (p : JPage) (serial : Nat) : List Byte :=
  let b := p.body serial ++ padTo 16 p.tag ++ padTo 12 p.nonce ++ leBytes 2 p.keyId ++ leBytes 1 p.hardening ++ zeros 1 ++ padTo 48 p.chain ++ zeros 44
  b ++ leBytes 4 (crc32c b)

/-- A page by its serial; an archive stripe of an earlier journal names its pages with the number of that journal above bit 63 (R243). -/
def State.page (s : State) (serial : Nat) : Option JPage :=
  if serial < 2 ^ 64 then FMap.look s.crf.pages serial
  else (s.crf.earlier.reverse[serial / 2 ^ 64 - 1]?).bind (fun j => FMap.look j.2 (serial % 2 ^ 64))
def State.setPage (s : State) (serial : Nat) (p : JPage) : State :=
  if serial < 2 ^ 64 then { s with crf := { s.crf with pages := FMap.ins s.crf.pages serial p } }
  else
    let i := s.crf.earlier.length - serial / 2 ^ 64
    { s with crf := { s.crf with earlier := s.crf.earlier.mapIdx (fun k (j : Nat × FMap JPage) => if k = i then (j.1, FMap.ins j.2 (serial % 2 ^ 64) p) else j) } }

/-- The open stripe: the newest, while a data position of it is left (R215, R216). -/
def State.openStripe (s : State) : Option Stripe :=
  match s.crf.stripes with
  | st :: _ => if st.pages.length + 1 < st.plan.width && !st.ended then some st else none
  | [] => none

def State.stripe (s : State) (no : Nat) : Option Stripe := s.crf.stripes.find? (fun t => t.no == no)
def State.setStripe (s : State) (t : Stripe) : State :=
  { s with crf := { s.crf with stripes := s.crf.stripes.map (fun u => if u.no = t.no then t else u) } }

/-- The slot of a copy can be programmed: its channel works and its LUN is not lost. -/
def State.slotUp (s : State) (c : Copy) : Bool := s.chanUp c.ch && !s.lunLost c.ch c.lun

/-! ### Readable pages (R218; 07 R280, R288) -/

/-- The copy's program passed, whether it still reads or not. -/
def Copy.passed (c : Copy) : Bool := c.st == .pass || c.st == .unread

/-- The copy reads: its program passed, and its channel and LUN still answer. -/
def State.copyReads (s : State) (c : Copy) : Bool := c.st == .pass && s.chanReads c.ch && !s.lunLost c.ch c.lun && (s.lun c.ch c.lun).valid

/-- The page of a hot stripe reads from a copy or is still in staging. -/
def State.hotReads (s : State) (p : JPage) : Bool := p.copies.any s.copyReads || (match s.stripe p.stripe with | some t => t.staged | none => false)

/-- It can be rebuilt from its stripe's parity and the other data pages. -/
def State.hotRebuilds (s : State) (serial : Nat) (p : JPage) : Bool :=
  match s.stripe p.stripe with
  | some t => !t.ended && s.copyReads t.parity && t.pages.length + 1 == t.plan.width
      && t.pages.all (fun n => n == serial || (match s.page n with | some q => s.hotReads q | none => false))
  | none => false

/-- A slot in the side block of channel `c` for stripe `st` (07 R255). -/
def State.sideSlot (s : State) (c st : Nat) : Option (Copy × State) :=
  match pick (s.region c 1) (st + 1) with
  | none => none
  | some l => match s.takeSlot c l true with
    | none => none
    | some (b, p, s) => some ({ kind := .twin, ch := c, lun := l, blk := b, page := p }, s)

/-- The program of copy `i` of a page is issued (R220). -/
def State.programCopy (s : State) (serial i : Nat) : State :=
  match s.page serial with
  | none => s
  | some p => match p.copies[i]? with
    | none => s
    | some c => s.submit c.ch c.lun { kind := 5, tag := .page serial i, blk := c.blk, page := c.page, data := p.bytes serial }

/-- Place one more copy of a page on the first channel, counted from plan index `i`, that satisfies `ok` and has a slot, and issue its program; the
channel chosen. -/
def State.placeCopy (s : State) (serial i : Nat) (pl : Plan) (ok : Nat → Bool) (kind : CopyKind) : Option (Nat × State) :=
  match s.page serial with
  | none => none
  | some p =>
    ((List.range pl.chans.length).map (fun k => pl.chan (i + k))).findSome? fun c =>
      if !(ok c && s.chanUp c) then none
      else (s.sideSlot c p.stripe).map fun (cp, s) =>
        let s := s.setPage serial { p with copies := p.copies ++ [{ cp with kind := kind }] }
        (c, s.programCopy serial p.copies.length)

/-- Channels that have failed a program of the page. -/
def JPage.failed (p : JPage) : List Nat := (p.copies.filter (fun c => c.st == .fail)).map (fun c => c.ch)

/-- Relocate a page, and twin the relocated page (R222). -/
def State.relocate (s : State) (serial : Nat) : State :=
  match s.page serial with
  | none => s
  | some p =>
    let pl := (s.stripe p.stripe).elim s.crf.plan (fun t => t.plan)
    let bad := p.failed
    match s.placeCopy serial (pl.idx p.ch + 1) pl (fun c => c != p.ch && !bad.contains c) .reloc with
    | none => s
    | some (r, s) =>
      let s := s.count CRF_CNT2.RELOCATED
      match s.placeCopy serial (pl.idx r + pl.width / 2) pl (fun c => c != r && !bad.contains c) .relocTwin with
      | none => s
      | some (_, s) => s

/-- A failed twin is programmed again on another channel (R578). -/
def State.retwin (s : State) (serial failedCh : Nat) : State :=
  match s.page serial with
  | none => s
  | some p =>
    let pl := (s.stripe p.stripe).elim s.crf.plan (fun t => t.plan)
    let own := p.ch :: (p.copies.filter (fun c => c.kind == .reloc)).map (fun c => c.ch)
    match s.placeCopy serial (pl.idx failedCh + 1) pl (fun c => !own.contains c && !p.failed.contains c) .moved with
    | none => s
    | some (_, s) => s

def Copy.isTwin (c : Copy) : Bool := c.kind == .twin || c.kind == .relocTwin || c.kind == .moved

/-- A page of a stripe whose parity is replaced gets a twin, unless one has passed or is on its way (R578). -/
def State.replaceTwin (s : State) (serial : Nat) : State :=
  match s.page serial with
  | none => s
  | some p =>
    if p.copies.any (fun c => c.isTwin && (c.passed || (c.st == .waiting && s.slotUp c))) then s
    else
      let pl := (s.stripe p.stripe).elim s.crf.plan (fun t => t.plan)
      match s.placeCopy serial (pl.idx p.ch + pl.width / 2) pl (fun c => c != p.ch && !p.failed.contains c) .moved with
      | none => s
      | some (_, s) => s

/-- The parity page of a stripe failed or its channel was lost: twins replace it (R578). -/
def State.replaceParity (s : State) (no : Nat) : State :=
  match s.stripe no with
  | none => s
  | some t => t.pages.foldl State.replaceTwin (s.setStripe { t with replaced := true, parity := { t.parity with st := .fail } })

/-- The parity page: the byte-wise XOR of the stripe's data pages (R216). -/
def State.parityBytes (s : State) (t : Stripe) : List Byte :=
  t.pages.foldl (fun a n => match s.page n with | some p => xorBytes a (p.bytes n) | none => a) (zeros 16384)

/-- The parity program is issued, or replaced at once where its slot is gone (R220, R578). -/
def State.programParity (s : State) (no : Nat) : State :=
  match s.stripe no with
  | none => s
  | some t =>
    let s := s.setStripe { t with parityIssued := true }
    if s.slotUp t.parity then
      s.submit t.parity.ch t.parity.lun { kind := 5, tag := .parity no, blk := t.parity.blk, page := t.parity.page, data := s.parityBytes t }
    else s.replaceParity no

/-! ### Sealing and the chain (R224 to R226; 11 R445, R446) -/

/-- Pages are sealed: the keys are not locked (R224, R225). -/
def State.sealing (s : State) : Bool := !s.flag RST_STATUS.KEYS_LOCKED

/-- The CHAIN that the next page continues: that of the preceding page of the durable history, void pages skipped, or SHA-384 of JOURNAL_ID for a journal's
first page (R226, R579). -/
def State.chainPrev (s : State) : List Byte :=
  match (s.crf.pages.filter (fun e => !s.crf.voids.contains e.1)).getLast? with
  | some (_, p) => p.chain
  | none => sha384 (leBytes 8 (s.rd CRF_JOURNAL_ID.ID))

/-- Seal a page with a nonce and chain it (R224 to R226). -/
def State.sealPage (s : State) (serial : Nat) (p : JPage) (nonce : Option (List Byte)) : JPage :=
  let x := s.cctx s.crf.cur.ctx
  let p := match nonce with
    | some n =>
      let p := { p with pflags := p.pflags + 1, nonce := n, keyId := s.crf.cur.keyId, hardening := if bitAt x.attr 2 then 2 else 1 }
      { p with tag := gcmTag x.key n (p.body serial) [] }
    | none => { p with pflags := p.pflags + 2, tag := zeros 16, nonce := zeros 12 }
  { p with chain := sha384 (s.chainPrev ++ p.header serial ++ p.tag) }

/-- A page opens: a seal unit takes its nonce, when pages are sealed (11 R445); none: no seal can be started. -/
def State.openPage (s : State) : Option State :=
  let lvl := s.rd EZN_STATUS.LEVEL
  let c := s.rd CRF_CFG.SEAL_CTX
  let key := s.rd CRF_CFG.KEY_ID
  if !s.sealing then some { s with crf := { s.crf with cur := { fver := lvl, ctx := c, keyId := key } } }
  else match s.sealUnits.head? with
    | none => none
    | some u => (s.takeNonce u).map fun (n, s) => { s with crf := { s.crf with cur := { unit := u, nonce := some n, fver := lvl, ctx := c, keyId := key } } }

/-- A seal step (0x80) or close (0x81) of the open page ended with DUP_MISMATCH: the accumulator and the nonce are discarded (11 R446). -/
def State.sealFails (s : State) (opc : Nat) : State :=
  let s := (s.dupMismatch s.crf.cur.unit opc s.crf.cur.ctx).ackDup
  { s with crf := { s.crf with cur := { s.crf.cur with nonce := none, unsealed := true } } }

/-- A seal that was lost is started again on another seal unit, or on the same one where there is no other (DESIGN CHOICE, notes/assumptions/31), with a fresh nonce (11 R446);
false: no unit can yet. -/
def State.reseal (s : State) : State × Bool :=
  let put := fun (s : State) (u : Nat) (n : Option (List Byte)) => { s with crf := { s.crf with cur := { s.crf.cur with unit := u, nonce := n, unsealed := false } } }
  if !s.crf.cur.unsealed then (s, true)
  else if !s.sealing then (put s 0 none, true)
  else match (s.sealUnits.find? (· != s.crf.cur.unit)).or s.sealUnits.head? with
    | none => (s, false)
    | some v => match s.takeNonce v with
      | none => (s, false)
      | some (n, s) => ((put s v (some n)).count CPH_CNT1.RESEALS, true)

/-! ### Closing a page (R215, R219, R220, R234) -/

/-- Close the open page, or close `p` as a page of its own: it takes its position in the open stripe, its slots, its serial, its seal and its place in
the chain, and its programs are issued. -/
def State.closeAs (s : State) (t : Stripe) (p : JPage) (nonce : Option (List Byte)) : State :=
  let serial := s.rd CRF_SERIAL.NEXT
  let pos := t.pages.length
  let home := t.home.getD pos t.parity
  let twin := t.twin[pos]?
  let up := s.slotUp home
  let p := { p with journal := s.rd CRF_JOURNAL_ID.ID, stripe := t.no, pos := pos, width := t.plan.width, ch := home.ch,
                    twinCh := twin.elim 255 (fun c => c.ch), plan := t.plan.id, pflags := p.pflags + (if up then 0 else 8),
                    copies := if up then home :: (twin.filter s.slotUp).toList else [] }
  let p := s.sealPage serial p nonce
  let s := if nonce.isSome then (s.count CPH_CNT1.SEALS).taskDone s.crf.cur.ctx else s
  let s := (s.setPage serial p).wr CRF_SERIAL.NEXT (serial + 1)
  let s := { s with crf := { s.crf with cur := {} } }
  let s := s.setStripe { t with pages := t.pages ++ [serial] }
  let s := if up then (List.range p.copies.length).foldl (fun s i => s.programCopy serial i) s else s.relocate serial
  -- a twin whose slot is gone by then goes where a failed one would (R578)
  let s := match twin with
    | some k => if up && !s.slotUp k then s.retwin serial k.ch else s
    | none => s
  let s := if t.replaced then s.replaceTwin serial else s
  if pos + 2 = t.plan.width then s.programParity t.no else s

/-- The open page closes (R215), FLUSHED by a flush point (R219); `dup`: its seal ends with DUP_MISMATCH and is made again. False: it cannot close yet. -/
def State.closePage (s : State) (flushed dup : Bool) : State × Bool :=
  match s.openStripe, s.crf.cur.recs with
  | some t, r :: rs =>
    let (s, ok) := (if dup && s.crf.cur.nonce.isSome then s.sealFails 0x81 else s).reseal
    if !ok then (s, false)
    else (s.closeAs t { fver := s.crf.cur.fver, pflags := if flushed then 4 else 0, recs := r :: rs, first := r.seq, last := ((r :: rs).getLast?.getD r).seq }
      s.crf.cur.nonce, true)
  | _, _ => (s, false)

/-- A marker page is written as the next data page; an open page closes before it (R234; 12 R464). -/
def State.markerPage (s : State) (block : List Byte) (first last : Seq) : Option State :=
  let s := (s.closePage false false).1
  match s.openStripe, (if s.crf.cur.recs.isEmpty then s.openPage else none) with
  | some t, some s => some (s.closeAs t { kind := 2, fver := s.crf.cur.fver, marker := block, first := first, last := last } s.crf.cur.nonce)
  | _, _ => none

/-- The marker page of a change of primary is written, once a stripe is open (R234; 12 R473). -/
def State.tryMark (s : State) : State :=
  match s.ezn.mark with
  | none => s
  | some (block, q, c, primary) => match (if s.ezn.inbox.any (fun r => decide (r.seq ≤ q)) then none else s.markerPage block q q) with
    | none => s
    | some s => { s with ezn := { s.ezn with mark := none, closing := some (s.rd CRF_SERIAL.NEXT - 1, c, primary) } }

/-! ### LOCAL_OK, L and W (R221, R227) -/

/-- A program of the page passed at its home or relocation slot. -/
def JPage.homeOk (p : JPage) : Bool := p.copies.any (fun c => !c.isTwin && c.passed)

/-- The page is LOCAL_OK (R221). -/
def State.localOk (s : State) (p : JPage) : Bool :=
  p.homeOk && (p.copies.any (fun c => c.isTwin && c.passed)
    || (match s.stripe p.stripe with
        | some t => t.parity.passed && t.pages.all (fun n => match s.page n with | some q => q.homeOk | none => false)
        | none => true))

/-- The page after the run of LOCAL_OK pages, in serial order, void pages skipped. -/
def State.nextInRun (s : State) : Option (Nat × JPage) :=
  s.crf.pages.find? (fun e => (match s.crf.link with | some n => decide (n < e.1) | none => true) && !s.crf.voids.contains e.1)

/-- L as a value: none while no record is LOCAL_OK. -/
def State.localL (s : State) : Option Seq := if s.crf.hasL then some (s.rd CRF_LOCAL.SEQ) else none

/-- The confirmations of the followers whose slot is valid, highest first. -/
def State.confirmed (s : State) : List Seq := sortBy (fun a b => decide (b ≤ a)) (s.followers.filterMap (fun m => (s.ezm m).conf))

/-- wm(mode, L, C) of R227; a mode without enough confirmations has no value. -/
def State.wm (s : State) (mode : Nat) : Option Seq :=
  match mode with
  | 0 => s.localL
  | 1 => s.localL.bind (fun l => (s.confirmed[0]?).map (min l))
  | _ => s.localL.bind (fun l => (s.confirmed[1]?).map (min l))

/-- Followers that a durability mode needs (12 R474). -/
def modeNeeds : Nat → Nat
  | 0 => 0 | 1 => 1 | _ => 2

/-- A FEATURE_LEVEL record that W covers comes into force (12 R487). -/
def State.levelsInForce (s : State) (w : Seq) : State :=
  let due := s.ezn.levels.filter (fun l => decide (l.2 ≤ w))
  if due.isEmpty then s
  else
    let s := { s with ezn := { s.ezn with levels := s.ezn.levels.filter (fun l => !decide (l.2 ≤ w)) } }
    (due.foldl (fun s l => s.wr EZN_STATUS.LEVEL l.1) s).wrB EZN_LEVEL.RAISE_PENDING (!s.ezn.levels.isEmpty)

/-- Send W, or hold it for the 0.5 µs spacing of the link (12 R463). -/
def State.sendWm (s : State) (w : Seq) : State :=
  if s.rd EZN_STATUS.ROLE ≠ 1 ∧ s.rd EZN_STATUS.ROLE ≠ 6 then s
  else s.followers.foldl (fun s m => match s.bestLink m with
    | none => s
    | some k =>
      let x := s.ezl k
      if x.wmAt = 0 ∨ x.wmAt + 625 ≤ s.ticks + 1 then
        (s.setEzl k { x with wm := none, wmAt := s.ticks + 1 }).sendOn k { ftype := 3, payload := leBytes 8 w }
      else s.setEzl k { x with wm := some w }) s

/-- A new value of W (R227, R228): the Pour gate and the watermark words take it. -/
def State.setW (s : State) (w : Seq) : State :=
  (((s.wr CRF_WMARK.SEQ w).wr PRG_WM.SEQ w).wr CRF_STATUS.WM_VALID 1).levelsInForce w

/-- A journal starts, of which no record is durable: W has no value (01 R30). -/
def State.noW (s : State) : State := ((s.wr CRF_WMARK.SEQ 0).wr PRG_WM.SEQ 0).wr CRF_STATUS.WM_VALID 0

/-- One evaluation of R227. -/
def State.advanceW (s : State) : State :=
  if !s.sequencing then s
  else
    let s := s.wrB CRF_STATUS.SHORT_FOLLOWERS (decide (s.confirmed.length < modeNeeds (s.rd CRF_CFG.MODE)))
    if s.ezn.wait ∨ s.flag CRF_STATUS.REPLAYING then s
    else
      let b := s.rd CRF_BOUNDARY.SEQ
      let (w, ends) := match s.flag CRF_STATUS.BOUNDARY_PENDING, s.wm (s.rd CRF_STATUS.MODE_OLD) with
        | false, w => (w, false)
        | true, none => (none, false)
        | true, some o => if o < b then (some o, false)
          else
            let w := max b ((s.wm (s.rd CRF_CFG.MODE)).getD 0)
            (some w, decide (b < w))
      let s := if ends then (s.wr CRF_STATUS.BOUNDARY_PENDING 0).wr CRF_STATUS.MODE_OLD (s.rd CRF_CFG.MODE) else s
      match w with
      | none => s
      | some w => if !s.flag CRF_STATUS.WM_VALID ∨ s.rd CRF_WMARK.SEQ < w then (s.setW w).sendWm w else s

/-- A member that is not primary confirms its L, or holds it for the 0.2 µs spacing of the link (12 R463). -/
def State.sendConfirm (s : State) : State :=
  if s.rd EZN_STATUS.ROLE ≠ 2 then s
  else match s.bestLink (s.rd EZN_STATUS.PRIMARY) with
    | none => s
    | some k =>
      let x := s.ezl k
      if x.confAt = 0 ∨ x.confAt + 250 ≤ s.ticks + 1 then
        (s.setEzl k { x with conf := none, confAt := s.ticks + 1 }).sendOn k { ftype := 2, payload := leBytes 8 (s.rd CRF_LOCAL.SEQ) }
      else s.setEzl k { x with conf := some (s.rd CRF_LOCAL.SEQ) }

/-- An epoch enters the Pour gate's table of the 64 most recently closed (R236). -/
def State.closeEpoch (s : State) (c : Closed) : State := { s with closed := (c :: s.closed).take 64 }

/-- Every slice's delivery epoch advances, and its rings stop (01 R39). -/
def State.advanceAllEpochs (s : State) (point : Option Seq) : State :=
  (List.range 256).foldl (fun s n => if s.flag (SLC_CFG.EN n) then s.advanceEpoch n point else s.count (SLC_STAT.DELIVERY_EPOCH n)) s

/-- An EPOCH_CLOSE marker page became LOCAL_OK (R235; 12 R474): the closing index enters the table; the new primary publishes W = CLOSING and advances
the delivery epochs. -/
def State.markerOk (s : State) : State :=
  match s.ezn.closing with
  | none => s
  | some (n, c, primary) =>
    if (match s.crf.link with | some k => decide (k < n) | none => true) then s
    else
      let s := { s with ezn := { s.ezn with closing := none } }.closeEpoch c
      let q := c.epoch * 2 ^ 48 + c.index
      if primary then ((s.setW q).sendWm q).advanceAllEpochs (some q) else s.sendConfirm

/-- The highest NEW_LEVEL among the FEATURE_LEVEL records of a page (12 R488). -/
def JPage.level (p : JPage) : Nat := (p.recs.filter (fun r => r.typ == 8)).foldl (fun a r => max a (field r.payload 1 1)) 0

/-- The LAST_SEQ of a page, records that a truncation inside it made void apart. -/
def JPage.lastSeq (p : JPage) : Seq := match p.cut with | some q => min q p.last | none => p.last

/-- L advances over one page after another while they are LOCAL_OK (R227). -/
def State.advanceL (s : State) : Nat → State
  | 0 => s
  | n + 1 =>
    match s.nextInRun with
    | none => s
    | some (k, p) =>
      if !s.localOk p then s
      else
        let isRec := p.kind = 1 ∨ field p.marker 0 2 = 1
        let s := { s with crf := { s.crf with link := some k, hasL := s.crf.hasL || decide isRec } }
        let s := if isRec ∨ s.crf.hasL then s.wr CRF_LOCAL.SEQ p.lastSeq else s
        State.advanceL (s.wr EZN_STATUS.LEVEL_FLOOR (max (s.rd EZN_STATUS.LEVEL_FLOOR) p.level)) n

/-- The staging of stripes that need it no more is freed (R217). -/
def State.stagingDone (s : State) (t : Stripe) : Bool :=
  t.pages.length + 1 == t.plan.width && (t.parity.passed || t.replaced)
    && t.pages.all (fun n => match s.page n with | some p => s.localOk p | none => true)
def State.freeStaging (s : State) : State :=
  let ts := s.crf.stripes.map (fun t => if t.staged && s.stagingDone t then { t with staged := false } else t)
  { s with crf := { s.crf with stripes := ts } }

/-! ### The anchor (07 R258) -/

/-- The LUN_PTR entry of a LUN as it stands, and its bytes (07 Table 07-4). -/
def Lun.ptr (x : Lun) : LunPtr :=
  { stripeBlk := x.stripeBlk.getD 0, stripePg := x.stripePg, sideBlk := x.sideBlk.getD 0, sidePg := x.sidePg, alloc := x.alloc }
def LunPtr.bytes (p : LunPtr) : List Byte :=
  leBytes 2 p.stripeBlk ++ leBytes 2 p.stripePg ++ leBytes 2 p.sideBlk ++ leBytes 2 p.sidePg ++ leBytes 2 p.alloc ++ zeros 6

/-- A re-home entry (07 R292). -/
def Rehome.bytes (r : Rehome) : List Byte :=
  leBytes 1 r.ch ++ leBytes 1 r.kind ++ leBytes 1 r.lun ++ leBytes 1 r.width ++ leBytes 4 r.plan ++ leBytes 8 r.first ++ leBytes 8 r.index ++ leBytes 8 r.count

/-- The closed-epoch table as the anchor and PRG_CLOSE show it: entry `k` is the k-th most recently closed epoch. -/
def State.closeBytes (s : State) : List Byte :=
  padTo 512 (s.closed.flatMap (fun c => leBytes 6 c.index ++ leBytes 2 c.epoch))
    ++ leBytes 8 ((s.closed.mapIdx (fun k c => if c.roll then 2 ^ k else 0)).sum) ++ leBytes 8 (2 ^ s.closed.length - 1)

/-- The anchor page. -/
def State.anchorBytes (s : State) (serial : Nat) (k : Ckpt) : List Byte :=
  let b := leBytes 4 0x48434E41 ++ leBytes 2 1 ++ zeros 2 ++ leBytes 8 serial ++ leBytes 8 (s.rd CRF_JOURNAL_ID.ID) ++ leBytes 8 k.seq
    ++ leBytes 8 k.serial ++ leBytes 8 k.stripe ++ leBytes 4 s.crf.plan.id ++ leBytes 4 s.crf.plan.mask ++ leBytes 4 (s.rd CPH_STATUS.BOOT_COUNT) ++ zeros 4
    ++ (List.range 512).flatMap (fun g => (FMap.get ({} : LunPtr) k.ptrs g).bytes)
    ++ (List.range 512).flatMap (fun g => leBytes 4 (s.rd (NDC_LIFE.SLC_ERASES (g / 16) (g % 16))) ++ leBytes 4 (s.rd (NDC_LIFE.NATIVE_ERASES (g / 16) (g % 16))))
    ++ padTo 256 (s.crf.rehomes.flatMap Rehome.bytes) ++ s.closeBytes ++ zeros 3244
  b ++ leBytes 4 (crc32c b)

/-- The anchor page goes to the anchor block in use of channel `c`'s lowest HOT LUN; when that block is full the other one is erased first. -/
def State.putAnchor (s : State) (serial c : Nat) (data : List Byte) : State :=
  match (s.region c 1).head? with
  | none => s
  | some l =>
    let x := s.lun c l
    let full := decide (s.slcPages c ≤ x.anchorPg)
    let b := if full then 1 - x.anchorBlk else x.anchorBlk
    let p := if full then 0 else x.anchorPg
    let s := if full then s.submit c l { kind := 7, tag := .erase b, blk := b } else s
    let a : Anchor := { ch := c, lun := l, blk := b, page := p, serial := serial, bytes := data }
    let s : State := { s with crf := { s.crf with anchors := a :: s.crf.anchors } }
    (s.setLun c l { s.lun c l with anchorBlk := b, anchorPg := p + 1 }).submit c l { kind := 5, tag := .anchor serial c, blk := b, page := p, data := data }

/-- The ANCHOR_SERIAL of the next anchor. -/
def State.nextAnchor (s : State) : Nat := (s.crf.anchors.map (fun a => a.serial)).foldl max (s.crf.island.elim 0 (fun i => i.1)) + 1

/-- The anchor of a CHECKPOINT is written at plan indices 0, n/4, n/2 and 3n/4, and the island keeps its serial and first bytes. -/
def State.anchorFor (s : State) (k : Ckpt) : State :=
  let n := s.crf.plan.width
  let a := s.nextAnchor
  let data := s.anchorBytes a k
  let s : State := { s with crf := { s.crf with island := some (a, data.take 64) } }
  (([0, n / 4, n / 2, 3 * n / 4].map s.crf.plan.chan).eraseDups).foldl (fun s c => s.putAnchor a c data) s

/-- Every CHECKPOINT whose page has become LOCAL_OK takes its anchor. -/
def State.writeAnchor (s : State) : State :=
  let due := s.crf.ckpts.filter (fun k => match s.page k.serial with | some p => s.localOk p | none => false)
  if due.isEmpty then s
  else
    let s : State := { s with crf := { s.crf with ckpts := s.crf.ckpts.filter (fun k => !due.contains k) } }
    due.foldl State.anchorFor s

/-- The program of an anchor page has ended. -/
def State.anchorDone (s : State) (serial c : Nat) (ok : Bool) : State :=
  { s with crf := { s.crf with anchors := s.crf.anchors.map (fun a => if a.serial = serial ∧ a.ch = c then { a with st := if ok then .pass else .fail } else a) } }

/-- The fields of a CHECKPOINT that are known where it is appended (Table 06-3); L and W are those at its issue. -/
def State.fillCheckpoint (s : State) (r : Rec) : Rec :=
  if r.typ = 9 then
    { r with payload := leBytes 8 (s.rd CRF_STRIPE.NEXT) ++ leBytes 8 (s.rd CRF_SERIAL.NEXT - 1) ++ padTo 48 s.chainPrev ++ slice r.payload 64 16
        ++ leBytes 4 s.crf.plan.id ++ leBytes 4 (s.crf.nextArch / 4096) ++ leBytes 8 s.crf.nextMig ++ zeros 32 }
  else r

/-- A CHECKPOINT has been appended to the page with this serial: the anchor will name it (07 R258). -/
def State.checkpointAt (s : State) (q serial : Nat) : State :=
  { s with crf := { s.crf with ckpts := s.crf.ckpts ++ [{ seq := q, serial := serial, stripe := s.rd CRF_STRIPE.NEXT, ptrs := s.nand.ptrsOpen }] } }

/-- The oldest waiting record of the member's own takes a LOCAL_RECORD marker page (12 R464); none: no stripe is open. -/
def State.writeLocal (s : State) : Option State :=
  match s.crf.locals with
  | [] => none
  | r :: rs =>
    let after := if s.rd CRF_APPEND.NEXT = 0 then 0 else s.rd CRF_APPEND.NEXT - 1
    let r := s.fillCheckpoint { r with seq := after, stamp := s.nowStamp }
    let block := padTo 64 (leBytes 2 2 ++ zeros 6 ++ leBytes 8 after) ++ r.bytes
    (s.markerPage block after after).map fun s =>
      let s : State := { s with crf := { s.crf with locals := rs } }
      if r.typ = 9 then s.checkpointAt after (s.rd CRF_SERIAL.NEXT - 1) else s

/-- As many of them as open stripes take. -/
def State.tryLocals (s : State) : Nat → State
  | 0 => s
  | n + 1 => match s.writeLocal with
    | some s => State.tryLocals s n
    | none => s

/-- After a change of any page's state: L, staging, the marker, the anchor, the confirmation and W. -/
def State.settle (s : State) : State :=
  let l := s.rd CRF_LOCAL.SEQ
  let h := s.crf.hasL
  let s := s.tryMark
  let s := s.tryLocals s.crf.locals.length
  let s := (s.advanceL s.crf.pages.length).freeStaging.markerOk.writeAnchor
  let s := if s.rd CRF_LOCAL.SEQ ≠ l ∨ s.crf.hasL ≠ h then s.sendConfirm else s
  s.advanceW

/-! ### Append (R213, R215) -/

def risingFst : List (Nat × Int) → Bool
  | a :: b :: l => decide (a.1 < b.1) && risingFst (b :: l)
  | _ => true

/-- Tamp accepts a leap-second table (R211): 1 to 64 entries in rising order, and every past entry as in force for its second. -/
def State.leapOk (s : State) (pl : List Byte) : Bool :=
  let es := leapEntries pl
  let now := tbSec s.tamp.tb
  pl.length % 8 == 0 && decide (1 ≤ es.length) && decide (es.length ≤ 64) && risingFst es
    && es.all (fun e => decide (now < e.1) || (match (s.tamp.leap.filter (fun o => decide (o.1 ≤ e.1))).getLast? with | some o => o == e | none => true))

/-- Archive segment `k` is closed: all its 4,096 stripes are programmed, and it has not been erased (R240). -/
def State.segClosed (s : State) (k : Nat) : Bool :=
  decide ((k + 1) * 4096 ≤ s.crf.nextArch) && !s.crf.erased.contains k

/-- The CHAIN of the last page of a segment. -/
def State.segChain (s : State) (k : Nat) : Option (List Byte) :=
  ((s.crf.arch.filter (fun e => decide (e.1 / 4096 = k) && e.2.ranks.isEmpty)).flatMap (fun e => e.2.pages)).getLast?.bind (fun n => (s.page n).map (fun p => p.chain))

/-- Carafe accepts an ARCHIVE_RELEASE (R211). -/
def State.releaseOk (s : State) (pl : List Byte) : Bool :=
  let a := field pl 0 4
  let b := field pl 4 4
  pl.length == 64 && decide (a ≤ b) && decide (b < s.crf.nextArch / 4096) && (List.range (b + 1 - a)).all (fun i => s.segClosed (a + i))
    && s.segChain b == some (slice pl 8 48)

/-- The device verdict of a LEAP_TABLE or ARCHIVE_RELEASE, given at its append (R210); a mirrored record brings its own. -/
def State.deviceVerdict (s : State) (r : Rec) (own : Bool) : Rec :=
  if r.typ = 0x50 ∧ own then { r with verdict := b2n (!s.leapOk r.payload), flags := setBits r.flags 1 1 1 }
  else if r.typ = 0x51 ∧ own then { r with verdict := b2n (!s.releaseOk r.payload), flags := setBits r.flags 1 1 1 }
  else r

/-- The effect of a record at its append (R210). -/
def State.recEffect (s : State) (r : Rec) : State :=
  if r.typ = 0x50 ∧ r.verdict = 0 then { s with tamp := { s.tamp with leap := leapEntries r.payload } }
  else if r.typ = 0x51 ∧ r.verdict = 0 then
    let a := field r.payload 0 4
    { s with crf := { s.crf with released := s.crf.released ++ (List.range (field r.payload 4 4 + 1 - a)).map (· + a) } }
  else s

/-- The record is produced for the delivery rings that take it, and its submitter's completion with it (09 R346, R366). -/
def State.produceRec (s : State) (r : Rec) (own : Bool) : State :=
  let s := (s.routes r).foldl (fun s q => s.produce q (.record r)) s
  if own ∧ r.port = 0xFF ∧ r.typ ≠ 0x60 then
    s.complete r.ring r.entry (.done 0x90 (r.typ + r.verdict * 65536) (r.tag.getD 0) r.seq r.stamp r.ring)
  else s

/-- The open page has room for a record. -/
def State.pageFits (s : State) (r : Rec) : Bool := decide ((s.crf.cur.recs.map Rec.size).sum + r.size ≤ 253)

/-- Append one record (R213, R215, R229): the page that it does not fit in closes first. Nothing is appended where there is no open stripe, or no seal can be made. `dup`:
the seal of the page that closes, or the seal step of the record, ends with DUP_MISMATCH (11 R445, R446). -/
def State.appendRec (s : State) (r : Rec) (own dup : Bool) : State :=
  let stays := s.crf.cur.recs.isEmpty || s.pageFits r
  let (s, ok) := if stays then (s, true) else s.closePage false dup
  match ok, s.openStripe with
  | true, some _ =>
    match (if s.crf.cur.recs.isEmpty then s.openPage else some s) with
    | none => s
    | some s =>
      let r := s.fillCheckpoint (s.deviceVerdict { r with mine := own } own)
      let s := if r.typ = 9 then s.checkpointAt r.seq (s.rd CRF_SERIAL.NEXT) else s
      let s := { s with crf := { s.crf with cur := { s.crf.cur with recs := s.crf.cur.recs ++ [r] }, issued := s.crf.issued.tail } }
      let s := if stays && dup && s.crf.cur.nonce.isSome then (s.sealFails 0x80).reseal.1 else s
      let s := (s.wr CRF_APPEND.NEXT r.after).recEffect r
      (s.produceRec r own).mirror r
  | _, _ => s

/-- Carafe appends: the device runs and no power failure stands (R233). -/
def State.appending (s : State) : Bool := s.run && !s.flag CRF_STATUS.POWER_FAIL && !s.flag CRF_STATUS.REPLAYING

/-- The verdict of an issued record is fixed (R209, R213). -/
def Issued.fixed (i : Issued) : Bool := !needsVerdict i.r.typ || i.verdict.isSome

/-- A follower or joining member appends (12 R460, R462). -/
def State.following (s : State) : Bool := s.appending && (s.rd EZN_STATUS.ROLE == 2 || s.rd EZN_STATUS.ROLE == 3)

/-- One mirrored record (12 R462): it takes its place in the member's own pages; a roll closes its epoch here too (R236). -/
def State.takeInbox (s : State) (dup : Bool) : State × Bool :=
  match s.ezn.inbox with
  | [] => (s, false)
  | r :: rs =>
    let held := s.ezn.mark.elim false (fun k => decide (k.2.1 < r.seq))
    let s := if held then s else s.appendRec r false dup
    if held ∨ s.rd CRF_APPEND.NEXT ≠ r.after then (s, false)
    else
      let s := { s with ezn := { s.ezn with inbox := rs } }
      (if r.typ = 4 then (s.closeEpoch { epoch := seqEpoch r.seq, index := seqIndex r.seq, roll := true }).wr EZN_STATUS.EPOCH (seqEpoch r.seq + 1) else s, true)

/-- Received records are appended in order while they can be; once none waits, a FLUSH closes the open page (12 R462). -/
def State.drainInbox (s : State) : Nat → State
  | 0 => s
  | n + 1 =>
    if !s.following then s
    else match s.ezn.inbox with
      | [] => if s.ezn.flush then { (s.closePage true false).1 with ezn := { s.ezn with flush := false } } else s
      | _ :: _ =>
        let (s, more) := s.takeInbox false
        if more then State.drainInbox s n else s

/-- APPEND (R213): the next record in sequence order, once its verdict is fixed. `dup`: a seal step or close ends with DUP_MISMATCH. A follower
appends what it has received (12 R462). -/
def execAppend (dup : Bool) (s : State) : Host.Outcome State Fault Refusal :=
  if !s.sequencing then .next (if s.following then (s.takeInbox dup).1.drainInbox (s.ezn.inbox.length + 1) else s)
  else match s.crf.issued with
    | i :: _ =>
      if s.appending && i.fixed then
        .next (s.appendRec { i.r with verdict := i.verdict.getD i.r.verdict } true dup)
      else .next s
    | [] => .next s

/-! ### Stripes (R217) -/

/-- Slots for the data positions `js` of a stripe, in order; none: one cannot be allocated. -/
def State.takeHomes (s : State) (no : Nat) : List Nat → Option (List Copy × State)
  | [] => some ([], s)
  | c :: cs =>
    match pick (s.region c 1) no with
    | none => none
    | some l => match s.takeSlot c l false with
      | none => none
      | some (b, p, s) => (State.takeHomes s no cs).map (fun x => ({ kind := .home, ch := c, lun := l, blk := b, page := p } :: x.1, x.2))

def State.takeTwins (s : State) (no : Nat) : List Nat → Option (List Copy × State)
  | [] => some ([], s)
  | c :: cs =>
    match s.sideSlot c no with
    | none => none
    | some (cp, s) => (State.takeTwins s no cs).map (fun x => (cp :: x.1, x.2))

/-- Pages of staging in use (R217). -/
def State.stagingUsed (s : State) : Nat := ((s.crf.stripes.filter (fun t => t.staged)).map (fun t => t.plan.width)).sum

/-- Allocate all parts of stripe `no` of the plan in force, or none of them (R217). -/
def State.allocStripe (s : State) (no : Nat) : Option (Stripe × State) :=
  let pl := s.crf.plan
  if pl.width < 3 ∨ s.rd CRF_STAGE.SIZE_4K / 4 < s.stagingUsed + pl.width then none
  else
    let data := (List.range (pl.width - 1)).map (pl.dataChan no)
    match s.takeHomes no (data ++ [pl.parityChan no]) with
    | none => none
    | some (hs, s) =>
      let twins := if s.rd CRF_CFG.PROT = 0 then (List.range (pl.width - 2)).map (fun j => pl.twinChan (no + 1 + j)) else []
      match s.takeTwins no twins, hs.getLast? with
      | some (ts, s), some pc => some ({ no := no, plan := pl, home := hs.dropLast, twin := ts, parity := pc }, s)
      | _, _ => none

/-- Hot stripes that could still be opened: the least, over the plan's channels, of the pages of erased blocks and of the rest of the open blocks. -/
def State.hotFree (s : State) : Nat :=
  let per := s.crf.plan.chans.map fun c =>
    ((s.region c 1).map fun l =>
      let x := s.lun c l
      (x.logical - 2 - (x.used.filter (fun e => e.2 && decide (2 ≤ e.1))).length) * s.slcPages c + (match x.stripeBlk with | some _ => s.slcPages c - x.stripePg | none => 0)).sum
  match per with
  | [] => 0
  | a :: as => as.foldl min a

/-- Archive segments that the archive region can hold, and those that are free (R240, R242). -/
def State.archSegs (s : State) : Nat :=
  match s.crf.plan.chans.map (fun c => ((s.region c 2).map (fun l => (s.lun c l).logical * s.rd (NDC_GEOM.PAGES_NATIVE c))).sum) with
  | [] => 0
  | a :: as => as.foldl min a / 4096
def State.archFree (s : State) : Nat := s.archSegs - ((s.crf.nextArch + 4095) / 4096 - s.crf.erased.length)

/-- The newest STAMP of a segment, and whether it may be erased (R241). -/
def State.segNewest (s : State) (k : Nat) : Stamp :=
  ((s.crf.arch.filter (fun e => decide (e.1 / 4096 = k))).map (fun e => e.2.newest)).foldl max 0
def State.segErasable (s : State) (k : Nat) : Bool :=
  s.segClosed k && (s.crf.released.contains k
    || decide (stampTb (s.segNewest k) + s.rd CRF_RET_CFG.RET_DAYS * 86400 * 1000000000 * tbNs < s.tamp.tb))
def State.erasable (s : State) : Option Nat := (List.range (s.crf.nextArch / 4096)).find? s.segErasable

/-- The space registers, ARCHIVE_LOW and JOURNAL_FULL (R242). -/
def State.space (s : State) : State :=
  let s := ((s.wr CRF_ARCH_STAT.HOT_FREE s.hotFree).wr CRF_ARCH_STAT.ARCH_FREE s.archFree).wr CRF_ARCH_STAT.NEXT_SEG (s.crf.nextArch / 4096)
  let s := s.wrB CRF_STATUS.ARCHIVE_LOW (decide (s.archFree * 100 < s.rd CRF_RET_CFG.ARCH_WARN_PCT * s.archSegs))
  s.wrB CRF_STATUS.JOURNAL_FULL (decide (8 < s.crf.rehomes.length) || (s.erasable.isNone && decide (s.hotFree < s.rd CRF_RET_CFG.HOT_RESERVE)))

/-- A member's own JOURNAL_START, REPLAY, CHECKPOINT or STRIPE_PLAN record: sequenced on the primary, a LOCAL_RECORD marker page elsewhere (12 R464), where a CHECKPOINT
takes L and W at once. -/
def State.localRec (s : State) (typ : Nat) (payload : List Byte) : State :=
  if s.sequencing then s.deviceRec typ payload
  else
    let payload := if typ = 9 then zeros 64 ++ leBytes 8 (s.rd CRF_LOCAL.SEQ) ++ leBytes 8 (s.rd CRF_WMARK.SEQ) ++ zeros 48 else payload
    let s : State := { s with crf := { s.crf with locals := s.crf.locals ++ [{ port := 0xFE, typ := typ, payload := payload }] } }
    s.tryLocals s.crf.locals.length

/-- The payload of a MODE_CHANGE record (Table 06-3). -/
def modeChange (om nm op np ofl nfl : Nat) : List Byte :=
  leBytes 1 om ++ leBytes 1 nm ++ leBytes 1 op ++ leBytes 1 np ++ leBytes 4 ofl ++ leBytes 4 nfl ++ zeros 52

/-- A change of flush interval, protection or checkpoint spacing takes effect at a stripe boundary, with its record (R219, R228). -/
def State.applyPending (s : State) : State :=
  match s.crf.pending with
  | none => s
  | some p =>
    let m := s.rd CRF_CFG.MODE
    let pl := modeChange m m (s.rd CRF_CFG.PROT) p.prot (s.rd CRF_CFG.FLUSH_NS) p.flush
    let s : State := if p.flush = s.rd CRF_CFG.FLUSH_NS then s else { s with crf := { s.crf with flushBase := s.ticks, flushAt := s.ticks } }
    let s : State := { s with crf := { s.crf with pending := none } }
    let s := ((s.wr CRF_CFG.PROT p.prot).wr CRF_CFG.FLUSH_NS p.flush).wr CRF_CFG.CKPT_STRIPES p.ckpt
    if s.sequencing then s.deviceRec 6 pl else s

/-- STRIPE_OPEN (R217, R242; 11 R446): a stripe opens when the last one is full, all its parts can be allocated, a seal unit is in service and the journal
is not full. A CHECKPOINT record follows every CKPT_STRIPES stripes. -/
def execStripeOpen (s : State) : Host.Outcome State Fault Refusal :=
  let s := s.space
  if !s.appending ∨ s.openStripe.isSome ∨ s.flag CRF_STATUS.JOURNAL_FULL ∨ (s.sealing ∧ s.sealUnits.isEmpty) then .next s
  else
    let no := s.rd CRF_STRIPE.NEXT
    let s1 := s.applyPending
    match s1.allocStripe no with
    | none => .next s
    | some (t, s) =>
      let s := { s with nand := { s.nand with ptrsOpen := s1.nand.lun.map (fun (e : Nat × Lun) => (e.1, e.2.ptr)) } }
      let k := s.crf.sinceCkpt + 1
      let due := decide (s.rd CRF_CFG.CKPT_STRIPES ≤ k)
      let s := { s with crf := { s.crf with stripes := t :: s.crf.stripes, sinceCkpt := if due then 0 else k } }.wr CRF_STRIPE.NEXT (no + 1)
      let s := s.tryMark
      let s := s.tryLocals s.crf.locals.length
      .next (if due then s.localRec 9 (zeros 128) else s)

/-! ### Flush points (R219) -/

/-- Cycles of a flush interval: ceil(FLUSH_NS × 1.25). -/
def State.flushTicks (s : State) : Nat := ceilDiv (s.rd CRF_CFG.FLUSH_NS * 5) 4

/-- A flush point has come since the last one. -/
def State.flushDue (s : State) : Bool :=
  decide ((s.crf.flushAt - s.crf.flushBase) / s.flushTicks < (s.ticks - s.crf.flushBase) / s.flushTicks)

/-- FLUSH_POINT (R219; 12 R461, R462): the open page, if it holds a record, closes with FLUSHED set; the primary tells its followers. A follower's own flush
points are not used. -/
def execFlushPoint (dup : Bool) (s : State) : Host.Outcome State Fault Refusal :=
  if !s.flushDue ∨ !s.appending ∨ !s.sequencing then .next s
  else
    let s := { s with crf := { s.crf with flushAt := s.ticks } }
    let (s, closed) := s.closePage true dup
    let s := if closed then s.count CRF_CNT1.FLUSH_PADS else s
    .next s.mirrorFlush

/-! ### Program results (R221, R222, R578) -/

/-- The result of copy `i` of a page. -/
def State.copyDone (s : State) (serial i : Nat) (ok : Bool) : State :=
  match s.page serial with
  | none => s
  | some p => match p.copies[i]? with
    | none => s
    | some c =>
      if c.st ≠ .waiting then s else
      let s := s.setPage serial { p with copies := p.copies.set i { c with st := if ok then .pass else .fail } }
      if ok then (if c.isTwin then s.count CRF_CNT0.TWINS else s.count CRF_CNT0.PAGES)
      else
        let s := s.count CRF_CNT2.PROG_FAIL
        if c.isTwin then s.retwin serial c.ch else s.relocate serial

/-- The result of a stripe's parity program. -/
def State.parityDone (s : State) (no : Nat) (ok : Bool) : State :=
  match s.stripe no with
  | none => s
  | some t =>
    if t.parity.st ≠ .waiting then s
    else if ok then (s.setStripe { t with parity := { t.parity with st := .pass } }).count CRF_CNT1.PARITY
    else (s.count CRF_CNT2.PROG_FAIL).replaceParity no

/-! ### Watermark words (R228; 08 R318) -/

/-- The watermark word of slice `n` is behind. -/
def State.wordBehind (s : State) (n : Nat) : Bool :=
  s.flag (SLC_WM.EN n) && s.flag (SLC_CFG.EN n) && decide ((s.slc n).st ≤ 1)
    && (FMap.get false s.crf.wordDue n || FMap.get 0 s.crf.wordVal n != s.rd CRF_WMARK.SEQ + 1)

/-- The spacing of writes to the word of slice `n` has passed. -/
def State.wordGap (s : State) (n : Nat) : Bool :=
  let a := FMap.get 0 s.crf.wordAt n
  a == 0 || decide ((a + ceilDiv (s.rd CRF_PUB_CFG.MIN_GAP_NS * 5) 4) ≤ s.ticks + 1)

/-- WATERMARK_PUBLISH (R228): the newest W to every word that is behind and whose spacing has passed. -/
def execWatermarkPublish (s : State) : Host.Outcome State Fault Refusal :=
  if !s.flag CRF_STATUS.WM_VALID ∨ !s.run then .next s
  else
    let w := s.rd CRF_WMARK.SEQ
    .next ((List.range 256).foldl (fun s n =>
      if s.wordBehind n && s.wordGap n then
        let s := s.hostWrite n (s.rd (SLC_WM.ADDR n) * 8) (leBytes 8 w) false true
        { s with crf := { s.crf with wordDue := FMap.set false s.crf.wordDue n false, wordVal := FMap.set 0 s.crf.wordVal n (w + 1),
                                     wordAt := FMap.set 0 s.crf.wordAt n (s.ticks + 1) } }
      else s) s)

end Sys2Proof.Machine
end

