-- ==== Sys2Proof/Machine/LoadStore.lean ====
section
/-!
DEFINITION. Memory access, table lookups, copies, and the return of a variable-class access (05 R177, R178, R187, R188, R200, R201;
04 R122).
-/

namespace Sys2Proof.Machine

/-! ### LD, ST, AADD (05 R177, R178) -/

/-- The region of an access of `n` bytes, with the ALIGN and ACCESS checks in their order (04 R131; 05 R206). -/
def State.access (s : State) (t a n : Nat) (wr : Bool) : Except Flt Region :=
  if a % n ≠ 0 then .error { cause := 0x02, addr := some a }
  else
    let r := memRegion t a n
    if (if wr then s.mayWrite t r n else s.mayRead t r n) then .ok r else .error { cause := 0x03, addr := some a }

def execLd (t : Fin 8192) (rt base : Fin 32) (size : Fin 4) (sx be : Bool) (off : Fin 4096) (s : State) :
    Host.Outcome State Fault Refusal :=
  s.instr t fun s x =>
    let a := x.addr base off
    let n := 2 ^ (size : Nat)
    match s.access t a n false with
    | .error e => .error e
    | .ok r =>
      if r.variable then s.memwait t x (.load rt a n sx be)
      else match s.eccFault t r n a, s.readRegion t r n with
        | some e, _ => .error e
        | none, some (bs, s) => s.done t (x.w rt (BitVec.ofNat 64 (accValue bs sx be)))
        | none, none => .error { cause := 0x05, addr := some a }

/-- The address that ST stores to. -/
def stAddr (x : Thread) (base off : Nat) : Nat := x.addr base off

/-- A store of `n` bytes that is not of the variable class, after its checks: to a memory, or to the own cluster block, where a
privileged write of another thread is an ACCESS fault (04 R128). -/
def State.storeNow (s : State) (t a n val : Nat) (be : Bool) (r : Region) : Except Flt State :=
  match r with
  | .block o =>
    match s.storeBlock t o n (leNat (accBytes n val be)) with
    | some s' => .ok s'
    | none => .error { cause := 0x03, addr := some a }
  | r => .ok (s.writeRegion t r (accBytes n val be))

def execSt (t : Fin 8192) (rt base : Fin 32) (size : Fin 4) (sx be : Bool) (off : Fin 4096) (s : State) :
    Host.Outcome State Fault Refusal :=
  s.instr t fun s x =>
    let a := stAddr x base off
    let n := 2 ^ (size : Nat)
    let val := (x.r rt).toNat % 2 ^ (8 * n)
    if sx then illegal
    else match s.access t a n true with
      | .error e => .error e
      | .ok r =>
        if r.variable then s.memwait t x (.store a n val be)
        else (s.setTh t x.nextPc).storeNow t a n val be r

def execAadd (t : Fin 8192) (rd rs1 rs2 : Fin 32) (funct : Fin 2048) (s : State) : Host.Outcome State Fault Refusal :=
  s.instr t fun s x =>
    let a := (x.r rs1).toNat
    if funct ≠ 0 then illegal
    else if a % 8 ≠ 0 then .error { cause := 0x02, addr := some a }
    else match memRegion t a 8 with
      | .sram o => match s.eccFault t (.sram o) 8 a with
        | some e => .error e
        | none =>
          let old := leNat ((State.memOf s.dy.sram ((t : Nat) / 128)).readBytes o 8)
          let s := s.writeRegion t (.sram o) (leBytes 8 (old + (x.r rs2).toNat))
          s.done t (x.w rd (BitVec.ofNat 64 old))
      | _ => .error { cause := 0x03, addr := some a }

/-! ### TLK, TST (05 R187, R188) -/

/-- Where an entry of a table lies. -/
inductive Entry where
  | resident (a : Nat) | spilled (a : Nat)
  deriving DecidableEq, Repr

/-- Bytes of an entry of table `tb` of cluster `k`. -/
def State.entrySize (s : State) (k tb : Nat) : Nat := 8 * 2 ^ s.rd (CLU_TBL.ENTRY k tb)

/-- Entry `i` of table `tb`; none: the index is at or above COUNT, or the table is not in use. -/
def State.entry (s : State) (k tb i : Nat) : Option Entry :=
  let sz := s.entrySize k tb
  let res := s.rd (CLU_TBLS.RES k tb)
  if !s.flag (CLU_TBL.EN k tb) ∨ s.rd (CLU_TBL.COUNT k tb) ≤ i then none
  else if i < res then some (.resident (s.rd (CLU_TBL.BASE_64 k tb) * 64 + i * sz))
  else some (.spilled (s.rd (CLU_TBLS.SPILL_4K k tb) * 4096 + (i - res) * sz))

/-- The 8-byte words of `n` words at an address of a memory. -/
def readWords (m : Memory) (a : Nat) : Nat → List Word
  | 0 => []
  | n + 1 => BitVec.ofNat 64 (leNat (m.readBytes a 8)) :: readWords m (a + 8) n

def tblRange (i tb : Nat) : Except Flt State := .error { cause := 0x21, addr := some (i % 2 ^ 48), info := some tb }

def execTlk (t : Fin 8192) (rt rs : Fin 32) (tbl : Fin 16) (_w : Fin 8) (z : Fin 512) (s : State) : Host.Outcome State Fault Refusal :=
  s.instr t fun s x =>
    let k := (t : Nat) / 128
    let n := s.entrySize k tbl / 8
    let i := (x.r rs).toNat
    if z ≠ 0 ∨ 31 < (rt : Nat) + n - 1 then illegal
    else match s.entry k tbl i with
      | none => tblRange i tbl
      | some (.resident a) => match s.eccFault t (.sram a) (8 * n) (0x100000000 + a) with
        | some e => .error e
        | none => s.done t (x.ws rt (readWords (State.memOf s.dy.sram k) a n))
      | some (.spilled a) => s.memwait t x (.lookup rt a n)

def execTst (t : Fin 8192) (rt rs : Fin 32) (tbl : Fin 16) (w : Fin 8) (z : Fin 512) (s : State) : Host.Outcome State Fault Refusal :=
  s.instr t fun s x =>
    let k := (t : Nat) / 128
    let n := s.entrySize k tbl / 8
    let i := (x.r rs).toNat
    let val := (x.r rt).toNat
    if z ≠ 0 then illegal
    else if n ≤ (w : Nat) then tblRange i tbl
    else match s.entry k tbl i with
      | none => tblRange i tbl
      | some (.resident a) => (s.writeRegion t (.sram (a + 8 * (w : Nat))) (leBytes 8 val)).done t x
      | some (.spilled a) => s.memwait t x (.spill (a + 8 * (w : Nat)) val)

/-! ### The return of a variable-class access (04 R122) -/

/-- The instruction ends: the thread runs again, or halts where a halt was asked for (04 R122, R159, R162). -/
def Thread.resume (x : Thread) : Thread :=
  { x with acc := none, st := if x.haltReq then .halt else .run, haltReq := false, haltedInWait := false }

/-- An error response: MEM_ERR at the instruction that made the access (04 Table 04-7; 05 R193); `bad`: the uncorrectable word that it met in another cluster's SRAM. -/
def State.accessErr (s : State) (t addr : Nat) (info : Option Nat) (bad : Option (Nat × Nat × Nat) := none) : State :=
  let x := s.th t
  (((s.meetBad bad).setTh t { x with pc := (x.pc + 8191) % 8192 }).fault t { cause := 0x05, addr := some addr, info := info }).ackMemOf t bad

/-- ACCESS_COMPLETE (04 R122): the data or acknowledgment of a thread's variable-class access returns; `err` is an error response. -/
def execAccessComplete (t : Fin 8192) (err : Bool) (s : State) : Host.Outcome State Fault Refusal :=
  let x := s.th t
  if x.st ≠ .memwait ∨ !s.run then .next s
  else match x.acc with
    | none => .next s
    | some (.status _) => .next s
    | some (.err a i) => .next (s.accessErr t a (some i))
    | some (.load rt a n sx be) =>
      .next (if err then s.accessErr t a none
        else match s.readRegion t (memRegion t a n) n with
          | none => s.accessErr t a none (s.badWord t (memRegion t a n) n)
          | some (bs, s) => s.setTh t ((s.th t).resume.w rt (BitVec.ofNat 64 (accValue bs sx be))))
    | some (.store a n val be) =>
      .next (if err then s.accessErr t a none
        else (s.writeRegion t (memRegion t a n) (accBytes n val be)).setTh t x.resume)
    | some (.lookup rt a n) =>
      .next (if err then s.accessErr t (0x10000000000 + a) none
        else s.setTh t (x.resume.ws rt (readWords s.gddr a n)))
    | some (.spill a val) =>
      .next (if err then s.accessErr t (0x10000000000 + a) none
        else { s with gddr := s.gddr.writeBytes a (leBytes 8 val) }.setTh t x.resume)
    | some (.done ws b) =>
      let y := x.resume.wAll ws
      .next (s.setTh t (match b with | some b => y.setB b | none => y))

/-! ### DMA (05 R200, R201) -/

/-- The checks of a copy, made at issue, ALIGN before ACCESS (05 R200, R206). A length that Table 05-16 does not allow counts against the
descriptor's address (DEDUCED, notes/assumptions/21). -/
def State.dmaCheck (s : State) (t a src dst len : Nat) : Option Flt :=
  if len % 8 ≠ 0 then some { cause := 0x02, addr := some a }
  else if src % 8 ≠ 0 then some { cause := 0x02, addr := some src }
  else if dst % 8 ≠ 0 then some { cause := 0x02, addr := some dst }
  else if len = 0 ∨ 65536 < len then some { cause := 0x03, addr := some a }
  else if !s.mayRead t (memRegion t src len) len then some { cause := 0x03, addr := some src }
  else if !s.mayWrite t (memRegion t dst len) len then some { cause := 0x03, addr := some dst }
  else none

def execDma (t : Fin 8192) (rd rs1 rs2 : Fin 32) (funct : Fin 2048) (s : State) : Host.Outcome State Fault Refusal :=
  s.instr t fun s x =>
    let a := (x.r rs1).toNat
    if rd ≠ 0 ∨ rs2 ≠ 0 ∨ funct ≠ 0 then illegal
    else if 4 ≤ x.dmas.length then s.done t (x.setB true)
    else if a % 8 ≠ 0 then .error { cause := 0x02, addr := some a }
    else match memRegion t a 32 with
      | .dmem o =>
        if let some e := s.eccFault t (.dmem o) 32 a then .error e else
        let d := (State.memOf s.dy.dmem ((t : Nat) / 8)).readBytes o 32
        let src := field d 0 8
        let dst := field d 8 8
        let len := field d 16 4
        match s.dmaCheck t a src dst len with
        | none => s.done t { x with b := false, dmas := x.dmas ++ [{ src := src, dst := dst, len := len, tag := field d 24 8 }] }
        | some e => .error e
      | _ => .error { cause := 0x03, addr := some a }

/-- Read a copy's source, 8 bytes at a time; none: an error response. -/
def State.dmaRead (s : State) (t a : Nat) : Nat → Option (List Byte × State)
  | 0 => some ([], s)
  | n + 1 =>
    match s.readRegion t (memRegion t a 8) 8 with
    | none => none
    | some (bs, s) => match State.dmaRead s t (a + 8) n with
      | none => none
      | some (rest, s) => some (bs ++ rest, s)

/-- Write a copy's destination, 8 bytes at a time; none: an error response. -/
def State.dmaWrite (s : State) (t a : Nat) (bs : List Byte) : Nat → Option State
  | 0 => some s
  | n + 1 =>
    match memRegion t a 8 with
    | .block o => match s.storeBlock t o 8 (leNat (bs.take 8)) with
      | some s => State.dmaWrite s t (a + 8) (bs.drop 8) n
      | none => none
    | r => State.dmaWrite (s.writeRegion t r (bs.take 8)) t (a + 8) (bs.drop 8) n

/-- DMA_COMPLETE (05 R200, R201): the thread's oldest copy completes and raises DMA, or gets an error response, which is due as
DMA_ERR at the thread's next issue boundary. -/
def execDmaComplete (t : Fin 8192) (err : Bool) (s : State) : Host.Outcome State Fault Refusal :=
  let x := s.th t
  match x.dmas with
  | [] => .next s
  | d :: rest =>
    if !s.run then .next s
    else
    let s := s.setTh t { x with dmas := rest }
    let hit := if err then none else s.badWord t (memRegion t d.src d.len) d.len
    let bad := ((s.meetBad hit).setTh t { s.th t with dmaErr := (s.th t).dmaErr ++ [d.tag] }).ackMemOf t hit
    if err then .next bad
    else match s.dmaRead t d.src (d.len / 8) with
      | none => .next bad
      | some (bs, s') => match s'.dmaWrite t d.dst bs (d.len / 8) with
        | none => .next bad
        | some s'' => .next (s''.raise t evDma)

end Sys2Proof.Machine
end

