-- ==== Sys2Proof/Machine/Sync.lean ====
section
/-!
DEFINITION. Locks (05 R190, R191; 04 R143 to R147) and cluster channels (05 R192 to R194; 04 R148 to R153).
-/

namespace Sys2Proof.Machine

/-! ### Locks -/

/-- A lock violation: CLU_LOCK_ERR and the fault (04 R144). KIND is CAUSE − 6. The record is written with the fault. -/
def State.lockErr (s : State) (t cause n : Nat) : State :=
  let k := t / 128
  let pc := (s.th t).pc
  let s := (((s.wr (CLU_LOCK_ERR.LOCK k) n).wr (CLU_LOCK_ERR.VALID k) 1).wr (CLU_LOCK_ERR.KIND k) (cause - 6))
  let s := (s.wr (CLU_LOCK_ERR.THREAD k) (t % 128)).wr (CLU_LOCK_ERR.PC k) pc
  s.fault t { cause := cause, info := some n }

/-- The violation that acquiring lock `n` would be: order first, then depth (04 R144). -/
def acquireBad (x : Thread) (n : Nat) : Option Nat :=
  if x.locks.any (fun m => decide (n ≤ m)) then some 6
  else if 8 ≤ x.locks.length then some 7
  else none

/-- The mask of a parked thread: the bit of its grant, and CTRL (05 R191). -/
def parkMask (bit : Nat) : Nat := 2 ^ bit + 2 ^ evCtrl

/-- The thread parks: it waits with `bit` and CTRL in its mask (04 R134, R146, R149; 05 R191). -/
def Thread.parkOn (x : Thread) (p : Park) (bit : Nat) : Thread :=
  { x.nextPc with st := .wait, park := some p, wmask := parkMask bit }

/-- An event of the mask is pending already: the wait does not begin, the request is withdrawn at once and the instruction completes with B = 1 (04 R134; 05 R191). -/
def Thread.parkAborts (x : Thread) (bit : Nat) : Bool := x.pend &&& parkMask bit != 0
def Thread.parkAbort (x : Thread) (bit : Nat) : Thread := { x.nextPc with wmask := parkMask bit, b := true, pend := setBits x.pend bit 1 0 }

/-- Lock `n` is granted at once. -/
def State.takeLock (s : State) (t n : Nat) (x : Thread) : State :=
  let l := s.lockOf (t / 128) n
  let s := s.setLock (t / 128) n { l with owner := some (t % 128) }
  s.setTh t { x.nextPc with locks := x.locks ++ [n], b := false }

/-- A lock instruction: undefined encodings first, then the rank checks (05 R190), then `f`. -/
def State.lockInstr (s : State) (t rt z n : Nat) (bad : Thread → Option Nat) (f : State → Thread → State) : State :=
  let x := s.th t
  -- the checks of the issue boundary and of the encoding, with no effect of the instruction itself
  match (if rt ≠ 0 ∨ z ≠ 0 then none else bad x) with
  | none => s.issue t fun s x => if rt ≠ 0 ∨ z ≠ 0 then illegal else .ok (f s x)
  | some c =>
    if s.atIssue t then s.lockErr t c n
    else s.issue t fun _ _ => .error { cause := c, info := some n }

def execLck (t : Fin 8192) (rt rs1 : Fin 32) (z : Fin 8) (imm : Fin 512) (s : State) : Host.Outcome State Fault Refusal :=
  let n := (s.th t).lockNo rs1 imm
  .next (s.lockInstr t rt z n (fun x => acquireBad x n) fun s x =>
    let l := s.lockOf ((t : Nat) / 128) n
    if l.owner.isNone then s.takeLock t n x
    else if x.parkAborts evLock then s.setTh t (x.parkAbort evLock)
    else
      let s := s.setLock ((t : Nat) / 128) n { l with saucer := l.saucer ++ [(t : Nat) % 128] }
      s.setTh t (x.parkOn (.lock n) evLock))

def execLtry (t : Fin 8192) (rt rs1 : Fin 32) (z : Fin 8) (imm : Fin 512) (s : State) : Host.Outcome State Fault Refusal :=
  let n := (s.th t).lockNo rs1 imm
  .next (s.lockInstr t rt z n (fun x => acquireBad x n) fun s x =>
    if (s.lockOf ((t : Nat) / 128) n).owner.isNone then s.takeLock t n x
    else s.setTh t { x.nextPc with b := true })

def execLrel (t : Fin 8192) (rt rs1 : Fin 32) (z : Fin 8) (imm : Fin 512) (s : State) : Host.Outcome State Fault Refusal :=
  let n := (s.th t).lockNo rs1 imm
  .next (s.lockInstr t rt z n (fun x => if x.locks.contains n then none else some 8) fun s x =>
    (s.setTh t { x.nextPc with locks := x.locks.filter (· != n) }).passLock ((t : Nat) / 128) n)

/-! ### Channels -/

def chanState (c : Nat) : Except Flt State := .error { cause := 0x09, info := some c }

/-- The thread's wait group may write the channel; bit 15 stands for threads in no group (04 CLU_CHAN_CFG). -/
def State.mayWriteChan (s : State) (t c : Nat) : Bool := bitAt (s.rd (CLU_CHAN_CFG.WGRP_MASK (t / 128) c)) (s.wgrp t)

/-- The reservation of channel `c` may be asked for (04 R149; 05 R193). A thread outside the writer set is refused alike
(DESIGN CHOICE, notes/assumptions/22). -/
def State.mayReserve (s : State) (t c : Nat) (x : Thread) : Bool :=
  s.flag (CLU_CHAN_CFG.EN (t / 128) c) && x.rsv.isNone && s.mayWriteChan t c

/-- The reservation of channel `c` can be granted now (04 R149). -/
def State.rsvFree (s : State) (k c : Nat) : Bool := (s.chan k c).holder.isNone && decide (0 < s.chanFree k c)

/-- The reservation granted at once. -/
def State.takeChan (s : State) (t c : Nat) (x : Thread) : State :=
  let ch := s.chan (t / 128) c
  let s := s.setChan (t / 128) c { ch with holder := some (t % 128), granted := s.ticks }
  s.setTh t { x.nextPc with rsv := some (.loc c), b := false }

def execRsv (t : Fin 8192) (rt rs1 : Fin 32) (z : Fin 8) (imm : Fin 512) (s : State) : Host.Outcome State Fault Refusal :=
  s.instr t fun s x =>
    let c := x.chanNo rs1 imm
    if rt ≠ 0 ∨ z ≠ 0 then illegal
    else if !s.mayReserve t c x then chanState c
    else if s.rsvFree ((t : Nat) / 128) c then .ok (s.takeChan t c x)
    else if x.parkAborts evChanTx then .ok (s.setTh t (x.parkAbort evChanTx))
    else
      let ch := s.chan ((t : Nat) / 128) c
      let s := s.setChan ((t : Nat) / 128) c { ch with saucer := ch.saucer ++ [(t : Nat) % 128] }
      .ok (s.setTh t (x.parkOn (.chan c) evChanTx))

def execRsvt (t : Fin 8192) (rt rs1 : Fin 32) (z : Fin 8) (imm : Fin 512) (s : State) : Host.Outcome State Fault Refusal :=
  s.instr t fun s x =>
    let c := x.chanNo rs1 imm
    if rt ≠ 0 ∨ z ≠ 0 then illegal
    else if !s.mayReserve t c x then chanState c
    else if s.rsvFree ((t : Nat) / 128) c then .ok (s.takeChan t c x)
    else .ok (s.setTh t { x.nextPc with b := true })

/-- STG may stage: under a remote credit, or under the reservation of the channel it names, in use (04 R149, R150; 05 R193, R194). -/
def State.mayStage (s : State) (t c : Nat) (x : Thread) : Bool :=
  match x.rsv with
  | some (.remote _ _) => true
  | some (.loc c') => c' == c && s.flag (CLU_CHAN_CFG.EN (t / 128) c)
  | none => false

def execStg (t : Fin 8192) (rt rs1 : Fin 32) (z : Fin 8) (imm : Fin 512) (s : State) : Host.Outcome State Fault Refusal :=
  s.instr t fun s x =>
    let c := x.chanNo rs1 imm
    if z ≠ 0 then illegal
    else if !s.mayStage t c x || decide (8 ≤ x.stage.length) then chanState c
    else s.done t { x with stage := x.stage ++ [x.r rt] }

/-- The lease of the channel's reservation has run out: LEASE_US from its grant, in ticks of 0.8 ns (04 R152). -/
def State.leaseOver (s : State) (k c : Nat) : Bool :=
  (s.chan k c).holder.isSome && decide ((s.chan k c).granted + s.rd (CLU_CFG.LEASE_US k) * 1250 ≤ s.ticks)

/-- The lease of the reservation of thread `i` of cluster `k` ends before SEND (04 R152, R155). -/
def State.endLease (s : State) (k c i : Nat) : State :=
  let t := k * 128 + i
  let s := s.setChan k c { s.chan k c with holder := none }
  let s := s.setTh t { s.th t with rsv := none, stage := [] }
  let s := (s.grantChan k c).count (CLU_CHAN_STAT.LEASES_REVOKED k c)
  if (s.th t).st = .fault then (s.wr (DYE_TFLT.LEASE_PENDING (t / 8) (t % 8)) 1).raise (s.supv k) evCtrl
  else s.setTh t { s.th t with leaseLost := some c }

/-- CHAN_LEASE_EXPIRE (04 R152): the lease of the channel's reservation has run out. -/
def execChanLeaseExpire (k : Fin 64) (c : Fin 256) (s : State) : Host.Outcome State Fault Refusal :=
  match (s.chan k c).holder with
  | none => .next s
  | some i => .next (if s.leaseOver k c then s.endLease k c i else s)

/-- SND (04 R150; 05 R192). In the cycle in which the lease expires, the expiry wins (04 R152). -/
def execSnd (t : Fin 8192) (rt rs1 : Fin 32) (z : Fin 8) (imm : Fin 512) (s : State) : Host.Outcome State Fault Refusal :=
  let s := match (s.th t).rsv with
    | some (.loc c) => if s.canIssue t && s.leaseOver ((t : Nat) / 128) c then s.endLease ((t : Nat) / 128) c ((t : Nat) % 128) else s
    | _ => s
  s.instr t fun s x =>
    let k := (t : Nat) / 128
    let c := x.chanNo rs1 imm
    if rt ≠ 0 ∨ z ≠ 0 then illegal
    else if x.rsv ≠ some (.loc c) ∨ x.stage.isEmpty then chanState c
    else
      let s := s.setTh t { x.nextPc with rsv := none, stage := [] }
      let ch := s.chan k c
      let s := s.setChan k c { ch with holder := none, msgs := ch.msgs ++ [x.stage] }
      .ok ((s.chanRx k c).grantChan k c)

def execRcv (t : Fin 8192) (rt rs1 : Fin 32) (z : Fin 8) (imm : Fin 512) (s : State) : Host.Outcome State Fault Refusal :=
  s.instr t fun s x =>
    let k := (t : Nat) / 128
    let c := x.chanNo rs1 imm
    let ch := s.chan k c
    if z ≠ 0 ∨ 24 < (rt : Nat) then illegal
    else if s.rd (CLU_CHAN_CFG.READER k c) ≠ (t : Nat) % 128 then chanState c
    else match ch.msgs with
      | [] => s.done t (x.setB true)
      | m :: ms =>
        let x := { (x.ws rt ((m ++ List.replicate 8 0).take 8)).setB false with rcvLen := m.length }
        .ok (((s.setTh t x.nextPc).setChan k c { ch with msgs := ms }).grantChan k c)

/-- The remote channel can be reached: the cluster is present and not failed, the channel in use and open to writers outside (05 R193). -/
def State.remoteOk (s : State) (k c : Nat) : Bool :=
  s.hasCluster k && !s.isFatal (.cluster k) && s.flag (CLU_CHAN_CFG.EN k c) && s.flag (CLU_CHAN_CFG.EXT_WRITER k c)

/-- RSVR (04 R153; 05 R192 to R194): the credit is decided when it issues; the answer returns later. -/
def execRsvr (t : Fin 8192) (rt rs1 : Fin 32) (z : Fin 8) (imm : Fin 512) (s : State) : Host.Outcome State Fault Refusal :=
  s.instr t fun s x =>
    let (k, c) := x.remoteNo rs1 imm
    if rt ≠ 0 ∨ z ≠ 0 then illegal
    else if x.rsv.isSome then chanState c
    else if !s.remoteOk k c then s.memwait t x (.err ((x.r rs1).toNat % 2 ^ 14) c)
    else if s.chanFree k c = 0 then s.memwait t x (.done [] (some true))
    else
      let ch := s.chan k c
      let s := s.setChan k c { ch with credits := ch.credits + 1 }
      s.memwait t { x with rsv := some (.remote k c) } (.done [] (some false))

/-- SNDR (04 R153; 05 R192 to R194). A credit for another channel than the one named is no reservation on it (DEDUCED,
notes/assumptions/22). -/
def execSndr (t : Fin 8192) (rt rs1 : Fin 32) (z : Fin 8) (imm : Fin 512) (s : State) : Host.Outcome State Fault Refusal :=
  s.instr t fun s x =>
    let (k, c) := x.remoteNo rs1 imm
    if rt ≠ 0 ∨ z ≠ 0 then illegal
    else if x.rsv ≠ some (.remote k c) ∨ x.stage.isEmpty then chanState c
    else if !s.remoteOk k c then s.memwait t x (.err ((x.r rs1).toNat % 2 ^ 14) c)
    else (s.sendRemote k c x.stage).memwait t { x with rsv := none, stage := [] } (.done [] none)

/-- CHAN_REMOTE_ARRIVE (04 R151, R153): the oldest message at the spine port becomes visible. -/
def execChanRemoteArrive (k : Fin 64) (c : Fin 256) (s : State) : Host.Outcome State Fault Refusal :=
  let ch := s.chan k c
  match ch.inflight with
  | [] => .next s
  | m :: ms => .next ((s.setChan k c { ch with inflight := ms, msgs := ch.msgs ++ [m] }).chanRx k c)


end Sys2Proof.Machine
end

