-- ==== Sys2Proof/Machine/Frames.lean ====
section
/-!
DEFINITION. Frame bindings, candidates and verdict handoff as a thread sees them (05 R179 to R184, R186).
-/

namespace Sys2Proof.Machine

def State.bind (s : State) (j : Nat) : Binding := FMap.get {} s.dy.binds j

def State.setBind (s : State) (j : Nat) (b : Binding) : State := { s with dy := { s.dy with binds := FMap.set {} s.dy.binds j b } }

/-- Binding `j` (engine × 8 + k) serves port `p` and is free (R179). -/
def State.bindFree (s : State) (p j : Nat) : Bool :=
  s.flag (DYE_FRM.EN (j / 8) (j % 8)) && s.rd (DYE_FRM.PORT (j / 8) (j % 8)) == p && !(s.bind j).full
    && s.hasCluster (j / 128) && !s.isFatal (.cluster (j / 128))

/-- The next free binding of port `p` in the fixed rotation of (cluster, engine, k) (R179). -/
def State.nextBind (s : State) (p : Nat) : Option Nat :=
  let r := FMap.get 0 s.merge.rotation p
  ((List.range 8192).map fun i => (r + i) % 8192).find? (s.bindFree p)

/-- FRAME_TO_BINDING (R179): the port's oldest waiting frame enters its next free binding, and FRAME is raised for the bound thread. -/
def execFrameToBinding (p : Fin 64) (s : State) : Host.Outcome State Fault Refusal :=
  if !s.run then .next s
  else match (s.slotsOf p).find? (fun t => !t.copied), s.nextBind p with
    | some t, some j =>
      let g := j / 8
      let base := s.rd (DYE_FRM.BASE g (j % 8))
      let s := s.setSlots p (mapFirst (fun t => !t.copied) (fun t => { t with copied := true }) (s.slotsOf p))
      let s := { s with merge := { s.merge with rotation := FMap.set 0 s.merge.rotation p (j + 1) } }
      let s := { s with dy := { s.dy with dmem := FMap.set [] s.dy.dmem g ((State.memOf s.dy.dmem g).writeBytes base t.data) } }
      let s := s.setBind j { full := true, taken := false, port := p, stamp := t.stamp, len := t.data.length }
      .next (s.raise (g * 8 + s.rd (DYE_FRM.SLOT g (j % 8))) evFrame)
    | _, _ => .next s

/-- The frame descriptor (Table 05-9): the slot handle is the device's own number, a free value (notes/assumptions/4). -/
def descWord (base len handle port : Nat) : Nat :=
  base % 2 ^ 16 + len % 2 ^ 14 * 2 ^ 16 + handle % 2 ^ 16 * 2 ^ 30 + port % 64 * 2 ^ 46 + 2 ^ 63

def execFget (t : Fin 8192) (rd rs1 : Fin 32) (imm : Fin 65536) (s : State) : Host.Outcome State Fault Refusal :=
  s.instr t fun s x =>
    let k : Nat := imm
    let g := (t : Nat) / 8
    let b := s.bind (g * 8 + k)
    if rs1 ≠ 0 ∨ 7 < k then illegal
    else if !s.flag (DYE_FRM.EN g k) ∨ s.rd (DYE_FRM.SLOT g k) ≠ (t : Nat) % 8 then .error { cause := 0x22, info := some k }
    else if !b.full || b.taken then s.done t ((x.w rd 0).setB true)
    else
      let d := descWord (s.rd (DYE_FRM.BASE g k)) b.len s.freeVal b.port
      let s := s.drew.setBind (g * 8 + k) { b with taken := true }
      s.done t { (x.w rd (BitVec.ofNat 64 d)).setB false with descs := x.descs ++ [{ word := d, port := b.port, stamp := b.stamp }] }

/-- The binding of engine `g` that a descriptor names by the address of its area (Table 05-9); none of them: the fault record's INFO is free. -/
def State.bindOf (s : State) (g d : Nat) : Option Nat := (List.range 8).find? (fun k => s.flag (DYE_FRM.EN g k) && s.rd (DYE_FRM.BASE g k) == bits d 0 16)

/-- MFILL and MDROP: the descriptor must be one that the thread holds; the binding is released at once, and the request is on its way
to the merge store (R181, R184). -/
def State.fill (s : State) (t rd rs1 : Nat) (drop : Bool) (control : Nat) (x : Thread) : Except Flt State :=
  match x.descs.find? (fun d => d.word == (x.r rs1).toNat) with
  | none => .error { cause := 0x22, info := s.bindOf (t / 8) (x.r rs1).toNat }
  | some d =>
    let s := s.freeBinding (t / 8) d.port d.stamp
    let req : FillReq := { thread := t, port := d.port, stamp := d.stamp, drop := drop, control := control }
    let s := { s with merge := { s.merge with fills := s.merge.fills ++ [req] } }
    s.memwait t x (.status rd)

def execMfill (t : Fin 8192) (rd rs1 rs2 : Fin 32) (funct : Fin 2048) (s : State) : Host.Outcome State Fault Refusal :=
  s.instr t fun s x => if funct ≠ 0 then illegal else s.fill t rd rs1 false (x.r rs2).toNat x

def execMdrop (t : Fin 8192) (rd rs1 _rs2 : Fin 32) (funct : Fin 2048) (s : State) : Host.Outcome State Fault Refusal :=
  s.instr t fun s x => if funct ≠ 0 then illegal else s.fill t rd rs1 true 0 x

/-- The payload that a control word names: the frame's bytes from OFF, whole units, zero beyond the end (R182, Table 05-10). -/
def fillPayload (data : List Byte) (control : Nat) : List Byte :=
  let off := bits control 45 14
  let units := bits control 40 5
  let units := if units = 0 then min 31 (max 1 (ceilDiv (data.length - off) 64)) else units
  slice data off (64 * units)

/-- A control word that MFILL refuses with TYPE: a type reserved to the device (06 R208), or bits [63:59] not zero (R183). -/
def badControl (control : Nat) : Bool := decide (bits control 0 8 < 0x70) || decide (bits control 59 5 ≠ 0)

/-- The parse deadline of a slot's stamp has come (03 R104). -/
def State.parseOver (s : State) (st : Stamp) : Bool :=
  decide (stampTb st + (s.rd SEQ_CFG.WINDOW_NS + s.rd SEQ_CFG.PARSE_LIMIT_NS) * tbNs ≤ s.tamp.tb)

/-- The outcome of a fill or drop at the merge store: its status and the store (R183). -/
def State.fillAt (s : State) (r : FillReq) : Nat × State :=
  let mine : Slot → Bool := fun t => t.stamp == r.stamp && t.st == .pending
  match (s.slotsOf r.port).find? mine with
  | none => (1, s)
  | some t =>
    if s.parseOver t.stamp then (1, s)
    else if r.drop then
      (0, (s.setSlots r.port (mapFirst mine (fun t => { t with st := .dropped }) (s.slotsOf r.port))).count (SEQ_PCNT0.PARSE_DROP r.port))
    else if badControl r.control then (2, s)
    else
      let c : Rec := { stamp := t.stamp, port := r.port, typ := bits r.control 0 8, session := bits r.control 8 32,
                       payload := fillPayload t.data r.control }
      (0, s.setSlots r.port (mapFirst mine (fun t => { t with st := .ready, cand := c }) (s.slotsOf r.port)))

/-- A status returns to a thread that waits for it: the register and B (R181, R186). -/
def State.statusBack (s : State) (t st : Nat) : State :=
  let x := s.th t
  match x.acc with
  | some (.status rd) => s.setTh t { x with acc := some (.done [(rd, st)] (some (statusB st))) }
  | _ => s

/-- SLOT_FILL_ARRIVE (R183, R184): the thread's oldest fill or drop reaches the merge store. -/
def execSlotFillArrive (t : Fin 8192) (s : State) : Host.Outcome State Fault Refusal :=
  match s.merge.fills.find? (fun r => r.thread == (t : Nat)) with
  | none => .next s
  | some r =>
    let s := { s with merge := { s.merge with fills := dropFirst (fun r => r.thread == (t : Nat)) s.merge.fills } }
    let (st, s) := s.fillAt r
    if r.dead then .next s
    else
      let x := s.th t
      let s := if st = 2 then s
        else s.setTh t { x with descs := dropFirst (fun d => d.port == r.port && d.stamp == r.stamp) x.descs }
      .next (s.statusBack t st)

def execHand (t : Fin 8192) (rd rs1 rs2 : Fin 32) (funct : Fin 2048) (s : State) : Host.Outcome State Fault Refusal :=
  s.instr t fun s x =>
    if funct ≠ 0 then illegal
    else
      let req : HandReq := { thread := t, seq := (x.r rs1).toNat, verdict := (x.r rs2).toNat % 2 ^ 16 }
      { s with dy := { s.dy with hands := s.dy.hands ++ [req] } }.memwait t x (.status rd)

end Sys2Proof.Machine
end

