-- ==== Sys2Proof/Machine/Issue.lean ====
section
/-!
DEFINITION. The issue lanes (03 R108 to R113; 06 R208, R214), the dispatch of verdict requests (05 R185), verdicts and their deadline (06 R209;
05 R186).
-/

namespace Sys2Proof.Machine

/-! ### Verdict requests -/

/-- The cluster, channel and session index that the session map gives (05 R185), moved by a cluster remap to the fallback (14 R548). -/
def State.session (s : State) (n : Nat) : Option (Nat × Nat × Nat) :=
  match s.dy.sessions.find? (fun r => decide (r.first ≤ n) && decide (n < r.first + r.count)) with
  | none => none
  | some r =>
    match FMap.look s.dy.remaps r.cluster with
    | none => some (r.cluster, r.chan, r.index + (n - r.first))
    | some none => none
    | some (some (k, off)) => some (k, r.chan, off + r.index + (n - r.first))

/-- The dispatch message (05 Table 05-11). -/
def dispatchMsg (r : Rec) (index : Nat) : List Word :=
  let w := fun n => BitVec.ofNat 64 n
  [w r.seq, w (r.stamp % 2 ^ 64),
   w (r.stamp / 2 ^ 64 + r.port * 2 ^ 32 + r.typ * 2 ^ 40 + r.payload.length * 2 ^ 48),
   w (r.session + index % 2 ^ 16 * 2 ^ 32),
   w (field r.payload 0 8), w (field r.payload 8 8), w (field r.payload 16 8), w (field r.payload 24 8)]

/-- The deadline cycle of an issued record has come (06 R209): DEADLINE_NS after the cycle of its issue. -/
def State.deadline (s : State) (i : Issued) : Bool := decide (i.tick + ceilDiv (s.rd CRF_VERDICT_CFG.DEADLINE_NS * 5) 4 ≤ s.ticks)

/-- The first waiting message whose channel has a free credit and whose record's deadline has not come (05 R185). -/
def State.dispatchable (s : State) : Option (Rec × Nat × Nat × Nat) :=
  s.merge.dispatch.findSome? fun r => match s.session r.session with
    | some (k, c, i) => if 0 < s.chanFree k c ∧ !s.crf.issued.any (fun i => i.r.seq == r.seq && s.deadline i) then some (r, k, c, i) else none
    | none => none

/-- DISPATCH (05 R185): the message takes a credit and is on its way to the channel. -/
def execDispatch (s : State) : Host.Outcome State Fault Refusal :=
  match s.dispatchable with
  | none => .next s
  | some (r, k, c, i) =>
    let s := { s with merge := { s.merge with dispatch := dropFirst (fun x => x.seq == r.seq) s.merge.dispatch } }
    let ch := s.chan k c
    .next ((s.setChan k c { ch with credits := ch.credits + 1 }).sendRemote k c (dispatchMsg r i))

/-- Change an issued record. -/
def State.setIssued (s : State) (q : Seq) (f : Issued → Issued) : State :=
  { s with crf := { s.crf with issued := mapFirst (fun i => i.r.seq == q) f s.crf.issued },
           merge := { s.merge with dispatch := s.merge.dispatch.filter (fun r => r.seq != q) } }

/-- The verdict is set by the device (06 R209). -/
def Issued.byDevice (i : Issued) (v : Nat) : Issued := { i with verdict := some v, r := { i.r with flags := setBits i.r.flags 1 1 1 } }

/-- VERDICT_DEADLINE (06 R209): every record whose deadline has come without a verdict takes LATE_VALUE; its waiting dispatch is never written. -/
def execVerdictDeadline (s : State) : Host.Outcome State Fault Refusal :=
  let late := s.crf.issued.filter (fun i => !i.fixed && s.deadline i)
  .next (late.foldl (fun s i => (s.setIssued i.r.seq (fun i => i.byDevice (s.rd CRF_VERDICT_CFG.LATE_VALUE))).count CRF_CNT2.VERDICT_LATE) s)

/-- The outcome of a HAND at Carafe (05 R186): a record not dispatched to the thread's cluster is NOT_OWNER; one whose deadline has come, or whose
late value stands, is LATE; one that has a verdict is DUP. -/
def State.handAt (s : State) (h : HandReq) : Nat × State :=
  match s.crf.issued.find? (fun i => i.r.seq == h.seq) with
  | none =>
    -- the record has been appended: its verdict is attached already
    match (s.crf.cur.recs ++ s.crf.pages.flatMap (fun e => e.2.recs)).find? (fun r => r.seq == h.seq && needsVerdict r.typ) with
    | none => (3, s)
    | some r => if r.mapped ≠ some (h.thread / 128) then (3, s) else if bitAt r.flags 1 then (1, s) else (2, s)
  | some i =>
    if i.r.mapped ≠ some (h.thread / 128) then (3, s)
    else if i.verdict.isSome then (if bitAt i.r.flags 1 then 1 else 2, s)
    else if s.deadline i then (1, s)
    else (0, s.setIssued h.seq (fun i => { i with verdict := some h.verdict }))

/-- HAND_ARRIVE (05 R186): the thread's oldest HAND reaches Carafe, and its status returns. -/
def execHandArrive (t : Fin 8192) (s : State) : Host.Outcome State Fault Refusal :=
  match s.dy.hands.find? (fun h => h.thread == (t : Nat)) with
  | none => .next s
  | some h =>
    let s := { s with dy := { s.dy with hands := dropFirst (fun h => h.thread == (t : Nat)) s.dy.hands } }
    let (st, s) := s.handAt h
    .next (if h.dead then s else s.statusBack t st)

/-! ### Issue -/

/-- The record's request for a verdict (06 R209): dispatched to the session's cluster, or NOMAP_VALUE. -/
def State.ask (s : State) (r : Rec) : Issued × State :=
  let i : Issued := { r := r, tick := s.ticks }
  if !needsVerdict r.typ then (i, s)
  else match s.session r.session with
    | none => (i.byDevice (s.rd CRF_VERDICT_CFG.NOMAP_VALUE), s.count CRF_CNT2.VERDICT_NOMAP)
    | some (k, _, _) => ({ i with r := { r with mapped := some k } }, { s with merge := { s.merge with dispatch := s.merge.dispatch ++ [r] } })

/-- A frame enters its port's queue of the Pour gate when its EGRESS record is sequenced (06 R236; 09 R349). -/
def State.gateIn (s : State) (r : Rec) : State :=
  let p := field r.payload 0 1 % 64
  let x := s.eport p
  let f : EFrame := { seq := r.seq, dep := r.depends, data := r.frame, ring := r.ring, tag := r.tag.getD 0, slice := r.slice, stamp := r.stamp,
                      entry := r.entry, gated := true }
  s.setEport p { x with held := x.held ++ [f], since := if x.held.isEmpty then s.ticks else x.since }

/-- What the issue of certain records brings: the roll's closing index, SEQ of TRACE, the boundary of a MODE_CHANGE (06 R227), the answers that wait for a
STRIPE_PLAN (07 R287) or FEATURE_LEVEL (12 R486) record, the frame of an EGRESS record. -/
def State.issueEffect (s : State) (r : Rec) : State :=
  match r.typ with
  | 1 => s.wr TMP_TRC_SEQ.SEQ r.seq
  | 4 => ((s.closeEpoch { epoch := seqEpoch r.seq, index := seqIndex r.seq, roll := true }).count SEQ_CNT.ROLLS).wr EZN_STATUS.EPOCH (seqEpoch r.seq + 1)
  | 6 =>
    let nm := field r.payload 1 1
    if field r.payload 0 1 = nm then s
    else ((s.wr CRF_CFG.MODE nm).wr CRF_BOUNDARY.SEQ r.seq).wr CRF_STATUS.BOUNDARY_PENDING 1
  | 8 =>
    let s := { s with ezn := { s.ezn with levels := s.ezn.levels ++ [(field r.payload 1 1, r.seq)] } }.wr EZN_LEVEL.RAISE_PENDING 1
    (match s.ezn.raising with
     | some a => { s with ezn := { s.ezn with raising := none } }.answer a 0 (leBytes 8 r.seq)
     | none => s)
  | 0x0B =>
    let mine := s.nand.retireAns.filter (fun a => a.2 == field r.payload 0 4)
    let s := { s with nand := { s.nand with retireAns := s.nand.retireAns.filter (fun a => a.2 != field r.payload 0 4) } }
    mine.foldl (fun s a => s.answer a.1 0 (leBytes 4 a.2 ++ zeros 4)) s
  | 0x60 => s.gateIn r
  | _ => s

/-- Give a record the number SEQ_NEXT (03 R110, R112). -/
def State.issueRec (s : State) (r : Rec) : State :=
  let r := { r with seq := s.rd SEQ_NEXT.NEXT, flags := setBits r.flags 0 1 (b2n (needsVerdict r.typ)) }
  let (i, s) := ((s.setNext r.after).count SEQ_ISSUED.ISSUED).ask r
  let s := s.issueEffect r
  let s := if r.port = 0xFF then s.setSub r.ring { s.sub r.ring with last := r.seq } else s
  { s with crf := { s.crf with issued := s.crf.issued ++ [i] } }

/-- A device record with what is known only at its issue: its STAMP, and L and W of a CHECKPOINT (06 Table 06-1, Table 06-3). -/
def State.stampDevice (s : State) (r : Rec) : Rec :=
  { r with stamp := s.nowStamp,
           payload := if r.typ = 9 then patch r.payload 64 (leBytes 8 (s.rd CRF_LOCAL.SEQ) ++ leBytes 8 (s.rd CRF_WMARK.SEQ)) else r.payload }

/-- The merge sequencer may issue now (03 R111, R113; 06 R214; 12 R475; 13 R514; 14 R533); a new primary issues nothing before its marker page is LOCAL_OK and its epoch
opens (01 R41). -/
def State.issuing (s : State) : Bool :=
  s.run && s.sequencing && s.merge.open_ && !s.merge.hold && !s.ezStop && !s.flag SEQ_STATUS.EPOCH_EXHAUSTED && decide (s.crf.issued.length < 65536)
    && !s.ezn.wait && s.ezn.mark.isNone && s.ezn.closing.isNone

/-- SEQ_NEXT has reached the index that the epoch's EPOCH_ROLL record takes (03 R112). -/
def State.rollDue (s : State) : Bool := seqIndex (s.rd SEQ_NEXT.NEXT) + 1 == 2 ^ s.rd SEQ_CFG.ROLL_LOG2

/-- The roll (03 R112, R113). -/
def State.roll (s : State) : State :=
  if seqEpoch (s.rd SEQ_NEXT.NEXT) = 0xFFFF then s.exhaust else s.issueRec (s.stampDevice { port := 0xFE, typ := 4 })

/-- A sequencer cycle passes (03 R108). -/
def State.nextCycle (s : State) : State := { s with merge := { s.merge with cycle := s.merge.cycle + 1 } }

/-- A device record is issued ahead of all others in a sequencer cycle of its own, after the roll where that is due (03 R108, R112): the records that open a run and those of
an apply. -/
def State.issueNow (s : State) (typ : Nat) (payload : List Byte) : State :=
  let s := if s.rollDue then s.roll.nextCycle else s
  if s.flag SEQ_STATUS.EPOCH_EXHAUSTED then s else (s.issueRec (s.stampDevice { port := 0xFE, typ := typ, payload := payload })).nextCycle

/-- The host lane's record: a device record ahead of any host record (06 R208); a REPLAY, JOURNAL_START, STRIPE_PLAN or CONFIG_APPLIED record among them in the
order queued. -/
def State.takeHost (s : State) : Option State :=
  match s.merge.device, s.merge.host with
  | r :: rs, _ => some ({ s with merge := { s.merge with device := rs } }.issueRec (s.stampDevice r))
  | [], r :: rs => some ({ s with merge := { s.merge with host := rs } }.issueRec r)
  | [], [] => none

def State.takeMerge (s : State) : Option State :=
  match s.merge.lane with
  | r :: rs => some ({ s with merge := { s.merge with lane := rs } }.issueRec r)
  | [] => none

/-- SEQUENCE_ISSUE (03 R108 to R113): one sequencer cycle. The roll takes its index first; the merge lane issues in even cycles and the host lane in odd
cycles when both offer. -/
def execSequenceIssue (s : State) : Host.Outcome State Fault Refusal :=
  let c := s.merge.cycle
  let s := { s with merge := { s.merge with cycle := c + 1 } }
  if !s.issuing then .next s
  else
    if s.rollDue then .next s.roll
    else
      let m := s.takeMerge
      let h := s.takeHost
      .next ((if c % 2 = 0 then m.orElse (fun _ => h) else h.orElse (fun _ => m)).getD s)

end Sys2Proof.Machine
end

