-- ==== Sys2Proof/Machine/Pour.lean ====
section
/-!
DEFINITION. The Pour gate and the ports' transmit side (06 R236 to R239; 01 R44 to R49; 09 R349, R367).
-/

namespace Sys2Proof.Machine

/-- EGRESS_DONE of a frame (09 R366, R367). -/
def State.egressDone (s : State) (p : Nat) (f : EFrame) (status : Nat) : State :=
  s.complete f.ring f.entry (.done 0x91 (status + p * 256) f.tag (if f.gated then f.seq else 0) f.stamp f.ring)

/-- The head of port `p` leaves the gate; the next frame becomes head. -/
def State.popHead (s : State) (p : Nat) : State :=
  let x := s.eport p
  s.setEport p { x with held := x.held.tail, since := s.ticks }

/-- What the gate decides for a frame (06 R236). -/
inductive Gate where
  | invalid | unknown | void | release | hold
  deriving DecidableEq, Repr

/-- The decision for a frame (06 R236), with W as it stands. -/
def State.gate (s : State) (f : EFrame) : Gate :=
  let d := f.dep
  let e := seqEpoch d
  let c := s.closed.find? (fun c => c.epoch == e)
  let above := fun (c : Closed) => decide (c.index < seqIndex d)
  if f.seq ≤ d ∨ c.elim false (fun c => c.roll && above c) = true then .invalid
  else if e < seqEpoch (s.rd PRG_WM.SEQ) ∧ c.isNone then .unknown
  else if c.elim false (fun c => !c.roll && above c) then .void
  else if s.flag CRF_STATUS.WM_VALID ∧ d ≤ s.rd PRG_WM.SEQ then .release
  else .hold

/-- Release a head frame to its port's MAC queue, or complete it with PORT_DOWN when the link is down (06 R237). -/
def State.release (s : State) (p : Nat) (f : EFrame) : State :=
  let s := s.popHead p
  if s.flag (SEQ_PST.LINK p) then
    let x := s.eport p
    (s.setEport p { x with gatedQ := x.gatedQ ++ [f] }).count PRG_CNT.SENT
  else (s.count PRG_CNT.PORT_DOWN).egressDone p f 4

/-- One decision for port `p`. -/
def State.decide1 (s : State) (p : Nat) : State :=
  match (s.eport p).held with
  | [] => s
  | f :: _ => match s.gate f with
    | .invalid => ((s.popHead p).count PRG_CNT.DEP_BAD).egressDone p f 2
    | .unknown => ((s.popHead p).count PRG_CNT.DEP_BAD).egressDone p f 3
    | .void => ((s.popHead p).count PRG_CNT.DEP_VOID).egressDone p f 1
    | .release => s.release p f
    | .hold => s

/-- The gate works: the device runs and the core is not fatal (14 R532). -/
def State.gateOn (s : State) : Bool := s.run && !s.isFatal .core

/-- POUR_DECIDE (06 R236): one sequencer cycle of the gate. -/
def execPourDecide (s : State) : Host.Outcome State Fault Refusal :=
  if s.gateOn then .next ((List.range 64).foldl State.decide1 s) else .next s

/-- The head of port `p` has been held for the limit, and its dependency is not releasable (06 R237). -/
def State.holdOver (s : State) (p : Nat) : Option EFrame :=
  let x := s.eport p
  match x.held with
  | f :: _ => if s.rd PRG_CFG.HOLD_LIMIT_US ≠ 0 ∧ x.since + s.rd PRG_CFG.HOLD_LIMIT_US * 1250 ≤ s.ticks ∧ s.gate f = .hold then some f else none
  | [] => none

/-- HOLD_TIMEOUT (06 R237). -/
def execHoldTimeout (s : State) : Host.Outcome State Fault Refusal :=
  if !s.gateOn then .next s
  else .next ((List.range 64).foldl (fun s p => match s.holdOver p with
    | some f => ((s.popHead p).count PRG_CNT.HOLD_TIMEOUT).egressDone p f 5
    | none => s) s)

/-- The next frame of a port's MAC: released gated and ungated frames alternate when both are ready (06 R238). -/
def EPort.next (x : EPort) : Option (EFrame × EPort) :=
  match x.gatedQ, x.ungatedQ with
  | g :: gs, u :: us => if x.lastGated then some (u, { x with ungatedQ := us, lastGated := false }) else some (g, { x with gatedQ := gs, lastGated := true })
  | g :: gs, [] => some (g, { x with gatedQ := gs, lastGated := true })
  | [], u :: us => some (u, { x with ungatedQ := us, lastGated := false })
  | [], [] => none

/-- EGRESS_TRANSMIT (06 R238; 09 R367): the port starts its next frame; with the link down a frame completes with PORT_DOWN at its turn. -/
def execEgressTransmit (p : Fin 64) (s : State) : Host.Outcome State Fault Refusal :=
  let x := s.eport p
  match x.tx, x.next with
  | none, some (f, x) =>
    if !s.run then .next s
    else if s.flag (SEQ_PST.LINK p) then .next ((s.setEport p { x with tx := some f }).emit (.frame p f.data))
    else .next (((s.setEport p x).count PRG_CNT.PORT_DOWN).egressDone p f 4)
  | _, _ => .next s

/-- EGRESS_DONE (09 R366): the frame in transmission ends; with an invalid FCS once the device is fatal or its power fails (14 R533). -/
def execEgressDone (p : Fin 64) (s : State) : Host.Outcome State Fault Refusal :=
  let x := s.eport p
  match x.tx with
  | some f => .next (if s.run then (s.setEport p { x with tx := none }).egressDone p f 0 else (s.setEport p { x with tx := none }).emit (.frameCut p))
  | none => .next s

/-- What the loss of port `p`'s link does to its transmit side (06 R237; 01 R49): the frame in transmission is cut, and released frames that have not
started are discarded; all complete with PORT_DOWN. Ungated frames wait for their turn (09 R367). -/
def State.txLoss (s : State) (p : Nat) : State :=
  let x := s.eport p
  let s := s.setEport p { x with tx := none, gatedQ := [] }
  let s := if x.tx.isSome then s.emit (.frameCut p) else s
  (x.tx.toList ++ x.gatedQ).foldl (fun s f => (s.count PRG_CNT.PORT_DOWN).egressDone p f 4) s

/-- A port goes down: its receive side (03 R99) and its transmit side. -/
def State.portDown (s : State) (p : Nat) : State := (s.portLoss p).txLoss p

/-- PORT_LINK_LOSS (03 R99; 06 R237). -/
def execPortLinkLoss (p : Fin 64) (s : State) : Host.Outcome State Fault Refusal :=
  if s.flag (SEQ_PST.LINK p) then .next (s.portDown p) else .next s

end Sys2Proof.Machine
end

