-- ==== Sys2Proof/Machine/Archive.lean ====
section
/-!
DEFINITION. Stripe plans and their changes, lost LUNs and channels, re-home, the archive and its segments (06 R222, R240 to R242; 07 R254 to R258, R286 to
R294).
-/

namespace Sys2Proof.Machine

/-! ### Plan changes (06 R222; 07 R287, R289) -/

/-- The payload of a STRIPE_PLAN record (06 Table 06-3). -/
def stripePlan (p : Plan) (reason channel fromStripe : Nat) : List Byte :=
  leBytes 4 p.id ++ leBytes 4 p.mask ++ leBytes 1 p.width ++ leBytes 1 reason ++ leBytes 1 channel ++ zeros 5 ++ leBytes 8 fromStripe ++ zeros 40

/-- The payload of a JOURNAL_START record (06 Table 06-3). -/
def State.journalStart (s : State) : List Byte :=
  leBytes 8 (s.rd CRF_JOURNAL_ID.ID) ++ leBytes 2 (s.rd EZN_STATUS.LEVEL) ++ zeros 2 ++ leBytes 4 (s.rd CRF_RET_CFG.RET_DAYS) ++ leBytes 4 s.crf.plan.id
    ++ leBytes 4 s.crf.plan.mask ++ leBytes 1 s.crf.plan.width ++ zeros 39

/-- A new plan from the next stripe on, with its record. -/
def State.newPlan (s : State) (mask reason channel : Nat) : State :=
  let p : Plan := { id := (s.crf.plan.id + 1) % 2 ^ 32, mask := mask, width := ((List.range 32).filter (bitAt mask)).length }
  ({ s with crf := { s.crf with plan := p } }.localRec 0x0B (stripePlan p reason channel (s.rd CRF_STRIPE.NEXT))).errVector 4

/-- A re-home event begins (07 R290, R292). -/
def State.startRehome (s : State) (c kind lun : Nat) : State :=
  let r : Rehome := { ch := c, kind := kind, lun := lun, width := s.crf.plan.width, plan := s.crf.plan.id, first := 0, index := 0, count := 0 }
  let s := { s with crf := { s.crf with rehomes := s.crf.rehomes ++ [r] } }.wr (NDC_STAT.REHOME_DONE c) 0
  let s := if kind = 2 then s.wr (NDC_LUN_STAT.REHOMING c lun) 1 else s
  if 8 < s.crf.rehomes.length then s.wr CRF_STATUS.JOURNAL_FULL 1 else s

/-- The operation with this tag is in progress on a channel that is not lost: it runs to its end (07 R269). -/
def State.running (s : State) (tag : OpTag) : Bool :=
  s.nand.ctx.any (fun e => !s.nand.lost.contains (e.1 / 16) && !s.lunLost (e.1 / 16) (e.1 % 16) && e.2.op.elim false (fun o => o.tag == tag))

/-- Programs of pages and parity that have not passed on a part that is gone, and are not in progress there, fail (06 R222, R578). -/
def State.failCopies (s : State) (gone : Copy → Bool) : State :=
  let pages := s.crf.pages.flatMap (fun e => (List.range e.2.copies.length).filterMap (fun i =>
    match e.2.copies[i]? with | some c => if gone c && c.st == .waiting && !s.running (.page e.1 i) then some (e.1, i) else none | none => none))
  let par := s.crf.stripes.filter (fun t => t.parityIssued && gone t.parity && t.parity.st == .waiting && !s.running (.parity t.no))
  let s := pages.foldl (fun s p => s.copyDone p.1 p.2 false) s
  (par.foldl (fun s t => s.parityDone t.no false) s).settle

/-- Operations that wait for a part that is gone, of those that `p` names, complete with ABORTED: their owner places the pages elsewhere. -/
def State.dropOps (s : State) (c : Nat) (gone : Nat → Bool) (p : NandOp → Bool) : State :=
  let todo := s.nand.todo.filter (fun t => t.1 == c && gone t.2.1 && p t.2.2)
  let queued := ((List.range 16).filter gone).flatMap (fun l => ((s.ctx c l).queue.filter p).map (fun o => (c, l, o)))
  let s := (List.range 16).foldl (fun s l => if gone l && (s.ctx c l).queue.any p then s.setCtx c l { s.ctx c l with queue := (s.ctx c l).queue.filter (fun o => !p o) } else s) s
  let ends := ((queued ++ todo).filter (fun t => t.2.2.tag.owner != 2)).map (fun t => { ch := t.1, lun := t.2.1, op := t.2.2, status := 4 : NandDone })
  { s with nand := { s.nand with todo := s.nand.todo.filter (fun t => !(t.1 == c && gone t.2.1 && p t.2.2)), done := s.nand.done ++ ends } }

/-- An operation that only reads a page. -/
def NandOp.reads (o : NandOp) : Bool := o.kind == 3 || o.kind == 4

/-- Retire a channel from the plan (07 R287): its Drip stays idle after the operations in progress, but for reads of a channel that is not lost (R269, R288); its pages are
programmed elsewhere, the plan goes on with one channel fewer, and what it held is re-homed. -/
def State.retire (s : State) (c reason : Nat) : State :=
  let s := (s.wr (NDC_STAT.RETIRED c) 1).dropOps c (fun _ => true) (fun o => s.nand.lost.contains c || !o.reads || o.tag.owner == 2)
  let member := bitAt s.crf.plan.mask c
  let s := if member then (s.newPlan (setBits s.crf.plan.mask c 1 0) reason c).startRehome c 1 0xFF else s
  s.failCopies (fun k => k.ch == c)

/-- A channel is lost (07 R286, R287): 1 training, 2 LUNs, 3 escalation. -/
def State.loseChannel (s : State) (c info : Nat) : State :=
  if s.flag (NDC_STAT.RETIRED c) ∧ s.nand.lost.contains c then s
  else
    let s := { s with nand := { s.nand with lost := c :: s.nand.lost } }
    let s := (List.range 16).foldl (fun s l => if s.flag (NDC_LUN_CFG.PRESENT c l) && !s.lunLost c l then s.poisonLun c l else s) s
    let s := s.logError (16 + c) 0x1006 5 0 info
    let s := if info = 1 then s.wr (NDC_STAT.TRAIN_FAIL c) 1 else s
    if s.flag (NDC_STAT.RETIRED c) then s else s.retire c 2

/-- Whether a region of a channel had LUNs and all of them are lost. -/
def State.regionGone (s : State) (c r : Nat) : Bool :=
  (List.range 16).any (fun l => s.flag (NDC_LUN_CFG.PRESENT c l) && s.rd (NDC_LUN_CFG.REGION c l) == r) && (s.region c r).isEmpty

/-- A LUN is lost (07 R286, R289): 1 resets, 2 identity, 3 no spare. -/
def State.loseLun (s : State) (c l info : Nat) : State :=
  if s.lunLost c l then s
  else
    let s := ((s.wrBit (NDC_STAT.LUN_LOST c) l true).wr (NDC_LUN_STAT.LOST c l) 1).logError (16 + c) 0x1002 3 l info
    let s := (s.dropOps c (· == l) (fun _ => true)).poisonLun c l
    let s := if bitAt s.crf.plan.mask c ∧ !s.flag (NDC_STAT.RETIRED c) then (s.newPlan s.crf.plan.mask 4 c).startRehome c 2 l else s
    let s := s.failCopies (fun k => k.ch == c && k.lun == l)
    if s.regionGone c 1 ∨ s.regionGone c 2 then s.loseChannel c 2 else s

/-- A channel declared fatal by an escalation is lost (07 R286; 14 Table 14-9). -/
def State.loseFatal (s : State) : State :=
  (s.err.fatal.filterMap (fun u => match u with | .channel c => if s.nand.lost.contains c then none else some c | _ => none)).foldl
    (fun s c => s.loseChannel c 3) s

/-- NAND_RETIRE_CHANNEL (07 R287, R293, Table 07-12): answered once the STRIPE_PLAN record has been sequenced. -/
def execNandRetireChannel (sl : Fin 256) (s : State) : Host.Outcome State Fault Refusal :=
  .next (s.serve sl 0x0300 (· == 4) true false (fun s pl =>
    let c := field pl 0 1
    if field pl 1 3 ≠ 0 then (s, some (5, []))
    else if 32 ≤ c ∨ !s.hasChannel c ∨ s.flag (NDC_STAT.RETIRED c) ∨ s.nand.lost.contains c ∨ !bitAt s.crf.plan.mask c then (s, some (0x0100, []))
    else if s.crf.plan.width < 4 then (s, some (0x0101, []))
    else if 8 ≤ s.crf.rehomes.length then (s, some (0x0102, []))
    else
      let s := s.retire c 2
      if s.sequencing then ({ s with nand := { s.nand with retireAns := s.nand.retireAns ++ [((sl : Nat), s.crf.plan.id)] } }, none)
      else (s, some (0, leBytes 4 s.crf.plan.id ++ zeros 4))))

/-! ### Archive stripes (06 R240; 07 R257) -/

/-- Pages of a native wordline. -/
def State.bpc (s : State) (p : Plan) : Nat := max 1 ((p.chans.map (fun c => s.rd (NDC_CFG.BPC c))).foldl max 0)

/-- The data position of archive stripe `a` that channel `c` holds. -/
def ArchStripe.pos (t : ArchStripe) (a c : Nat) : Option Nat := (List.range (t.plan.width - 1)).find? (fun j => t.plan.dataChan a j == c)

/-- The page of archive stripe `a` on channel `c`: its data page (a journal page, a re-homed page of another stripe, or an index page), its parity, or zero beyond its
pages. Re-homed pages of re-home stripes are followed `f` deep. -/
def State.archPageN (s : State) : Nat → Nat → Nat → List Byte
  | 0, _, _ => zeros 16384
  | f + 1, a, c =>
    match FMap.look s.crf.arch a with
    | none => zeros 16384
    | some t =>
      let data := fun (j : Nat) =>
        match t.part with
        | some k => match t.ranks[j]? with | some r => State.archPageN s f r k | none => zeros 16384
        | none =>
          if !t.index.isEmpty then padTo 16384 (((t.index.drop (2048 * j)).take 2048).flatMap (leBytes 8 ·))
          else match (t.pages[j]?).bind (fun n => (s.page n).map (fun p => p.bytes n)) with | some b => b | none => zeros 16384
      if t.plan.parityChan a = c then (List.range (t.plan.width - 1)).foldl (fun x j => xorBytes x (data j)) (zeros 16384)
      else match t.pos a c with | some j => data j | none => zeros 16384
def State.archPage (s : State) (a c : Nat) : List Byte := s.archPageN 32 a c

/-- The page of archive stripe `a` on channel `c` reads where it was programmed. -/
def State.archReads (s : State) (a c : Nat) : Bool :=
  match FMap.look s.crf.arch a with
  | some t => t.passed.contains c && !t.unread.contains c && s.chanReads c && t.slots.any (fun k => k.ch == c && !s.lunLost c k.lun && (s.lun c k.lun).valid)
  | none => false

/-- The re-home stripe and channel that hold the re-homed copy of channel `c`'s page of stripe `a`. -/
def State.rehomed (s : State) (a c : Nat) : Option (Nat × Nat) :=
  s.crf.arch.findSome? (fun e => if e.2.part = some c then (firstIdx (· == a) e.2.ranks).map (fun j => (e.1, e.2.plan.dataChan e.1 j)) else none)

/-- The page can be obtained: from its place, from its re-homed copy, which is rebuilt from its own stripe first, or from the other pages of its stripe (07 R280, R288,
R291). -/
def State.archGets (s : State) : Nat → Nat → Nat → Bool
  | 0, a, c => s.archReads a c
  | f + 1, a, c =>
    let other := fun (c : Nat) => s.archReads a c || (match s.rehomed a c with | some (r, k) => State.archGets s f r k | none => false)
    other c || (match FMap.look s.crf.arch a with
      | some t => bitAt t.plan.mask c && t.plan.chans.all (fun k => k == c || other k)
      | none => false)

/-- The next wordline of an ARCHIVE LUN. -/
def State.takeWl (s : State) (c l b : Nat) : Option (Nat × Nat × State) :=
  let x := s.lun c l
  let put := fun (x : Lun) k p => s.setLun c l { x with stripeBlk := some k, stripePg := p }
  let fresh := fun _ : Unit =>
    let k := x.alloc
    if !x.valid || decide (x.logical ≤ k) || FMap.get false x.used k then none
    else some (k, 0, put { x with used := FMap.set false x.used k true, alloc := if k + 1 < x.logical then k + 1 else 0 } k b)
  match x.stripeBlk with
  | some k => if x.stripePg + b ≤ s.rd (NDC_GEOM.PAGES_NATIVE c) then some (k, x.stripePg, put x k (x.stripePg + b)) else fresh ()
  | none => fresh ()

/-- The channels of archive stripe `a`'s plan that still take programs. -/
def State.archChans (s : State) (p : Plan) : List Nat := p.chans.filter (fun c => s.chanUp c && !(s.region c 2).isEmpty)

/-- The wordline of the group of archive stripes from `a` on, on channel `c`, is issued (07 R257); none: no block is erased. A page that is lost, and the parity over
it, are free bytes. -/
def State.programArch (s : State) (a b c : Nat) : Option State :=
  match pick (s.region c 2) (a / b) with
  | none => none
  | some l => (s.takeWl c l b).map fun (k, p, s) =>
    let lost := fun (i : Nat) => match FMap.look s.crf.arch (a + i) with
      | some t => t.unread.contains c || (!t.unread.isEmpty && t.plan.parityChan (a + i) == c)
      | none => false
    let data := (List.range b).flatMap (fun i => if lost i then leBytes 16384 s.freeVal else s.archPage (a + i) c)
    let s := if (List.range b).any lost then s.drew else s
    let arch := (List.range b).foldl (fun m i => match FMap.look m (a + i) with
      | some t => FMap.ins m (a + i) { t with slots := t.slots ++ [{ ch := c, lun := l, blk := k, page := p }] }
      | none => m) s.crf.arch
    { s with crf := { s.crf with arch := arch } }.submit c l { kind := 6, tag := .arch a, blk := k, page := p, data := data, cls := 2 }

/-- A whole group on every channel of its plan that takes programs, or none of it. -/
def State.programGroup (s : State) (a b : Nat) : List Nat → Option State
  | [] => some s
  | c :: cs => match s.programArch a b c with
    | some s => State.programGroup s a b cs
    | none => none

/-- The newest stamp of a list of pages. -/
def State.newestOf (s : State) (ps : List Nat) : Stamp :=
  (ps.flatMap (fun n => match s.page n with | some p => p.recs.map (fun r => r.stamp) | none => [])).foldl max 0

/-- A hot stripe may migrate (06 R240): it takes no more pages, and every page of it is LOCAL_OK, or void. -/
def State.migratable (s : State) (t : Stripe) : Bool :=
  !t.migrated && (match s.openStripe with | some o => o.no != t.no | none => true)
    && t.pages.all (fun n => decide (2 ^ 64 ≤ n) || s.crf.voids.contains n || (match s.crf.link with | some k => decide (n ≤ k) | none => false))

/-- The hot stripes to migrate next: up to `b` of one plan in stripe order; fewer only where the plan changes after them (07 R257). -/
def State.nextGroup (s : State) (b : Nat) : List Stripe :=
  match (s.crf.stripes.filter (fun t => !t.migrated)).reverse with
  | [] => []
  | t :: ts =>
    let same := ((t :: ts).takeWhile (fun u => u.plan == t.plan && s.migratable u)).take b
    let rest := (t :: ts).drop same.length
    if same.length = b then same
    else match rest with
      | u :: _ => if u.plan = t.plan then [] else same
      | [] => if s.crf.plan = t.plan then [] else same

/-! ### Carafe's reads, and pages that cannot be rebuilt (07 R280) -/

/-- JOURNAL_LOSS: pages of one stripe that cannot be rebuilt (07 R280; 14 Table 14-4), once for each. -/
def State.logLoss (s : State) (ns : List Nat) : State :=
  match ns with
  | [] => s
  | n :: _ =>
    let no := match s.page n with | some p => p.stripe | none => 0
    let e := (no, ns.foldl min n, ns.foldl max n)
    if s.crf.losses.contains e then s
    else { s with crf := { s.crf with losses := s.crf.losses ++ [e] } }.logError 3 0x0301 4 ns.length no

/-- The owner has rebuilt a page of the LUN: its UNCORR_PAGE record is acknowledged (14 Table 14-4). -/
def State.ackUncorr (s : State) (c l : Nat) : State :=
  let n := 16 + c
  if s.flag ERR_CFG.AUTO_ACK ∧ s.rd (ERR_STAT.FIRST_VALID n) = 1 ∧ s.rd (ERR_FIRST.CODE n) = 0x1001 ∧ s.rd (ERR_FIRST.SUB n) = l then s.clearFirst n else s

/-- The page of a hot stripe can be obtained: from a copy, from staging, or from its stripe (07 R280). -/
def State.hotGets (s : State) (n : Nat) : Bool := match s.page n with | some p => s.hotReads p || s.hotRebuilds n p | none => false

/-- Copy `i` of a page has the state `st` from now on; 255 is the parity page of its stripe. -/
def State.markCopy (s : State) (n i : Nat) (st : ProgState) : State :=
  match s.page n with
  | none => s
  | some p =>
    if i = 255 then (match s.stripe p.stripe with | some t => s.setStripe { t with parity := { t.parity with st := st } } | none => s)
    else s.setPage n { p with copies := p.copies.mapIdx (fun k c => if k = i then { c with st := st } else c) }

/-- Channel `c`'s page of archive stripe `a` cannot be read any more, or can again. -/
def State.markArch (s : State) (a c : Nat) (bad : Bool) : State :=
  match FMap.look s.crf.arch a with
  | some t => { s with crf := { s.crf with arch := FMap.ins s.crf.arch a { t with unread := if bad then c :: t.unread else t.unread.filter (· != c) } } }
  | none => s

/-- What a page of a HOT or ARCHIVE LUN holds: a copy of a journal page, the parity page of a hot stripe, or a page of an archive stripe. -/
inductive Held where
  | copy (n i : Nat)
  | parity (no : Nat)
  | arch (a : Nat)
  deriving DecidableEq, Repr

/-- What page `g` of logical block `b` of a LUN holds for Carafe. -/
def State.heldAt (s : State) (c l b g : Nat) : Option Held :=
  let at_ := fun (k : Copy) => k.ch == c && k.lun == l && k.blk == b && k.page == g && k.st != .never
  let n := s.crf.earlier.length
  let old := s.crf.earlier.zipIdx.flatMap (fun j => j.1.2.map (fun e => (e.1 + (n - j.2) * 2 ^ 64, e.2)))
  match (s.crf.pages ++ old).findSome? (fun e => (firstIdx at_ e.2.copies).map (fun i => Held.copy e.1 i)) with
  | some h => some h
  | none => match s.crf.stripes.find? (fun t => at_ t.parity) with
    | some t => some (.parity t.no)
    | none => s.crf.arch.findSome? (fun e =>
        if e.2.slots.any (fun k => k.ch == c && k.lun == l && k.blk == b && k.page + e.1 % s.bpc e.2.plan == g) then some (Held.arch e.1) else none)

/-- A page of a HOT or ARCHIVE LUN reads as UNCORR: Carafe rebuilds it, which acknowledges the error, or JOURNAL_LOSS is logged (07 R280). `keep`: the rebuilt copy
is written in its place. -/
def State.ownerUncorr (s : State) (c l b g : Nat) (keep : Bool) : State :=
  match s.heldAt c l b g with
  | none => s.ackUncorr c l
  | some (.copy n i) =>
    let t := s.markCopy n i .unread
    if t.hotGets n then (if keep then s else t).ackUncorr c l else t.logLoss [n]
  | some (.parity no) =>
    match s.stripe no with
    | some t =>
      if t.pages.all s.hotGets then (if keep then s else s.setStripe { t with parity := { t.parity with st := .unread } }).ackUncorr c l
      else (s.setStripe { t with parity := { t.parity with st := .unread } }).logLoss (t.pages.filter (fun n => !s.hotGets n))
    | none => s
  | some (.arch a) =>
    let t := s.markArch a c true
    if t.archGets 8 a c then (if keep then s else t).ackUncorr c l
    else t.logLoss (((FMap.look s.crf.arch a).bind (fun t => (t.pos a c).bind (fun j => t.pages[j]?))).toList)

/-- The copies that Carafe reads to obtain a hot page: the first that reads, or what the page is rebuilt from; none, where staging still holds it. -/
def State.hotSources (s : State) (n : Nat) : List (Nat × Nat × Copy) :=
  let one := fun (n : Nat) => match s.page n with
    | some p => ((p.copies.zipIdx.find? (fun c => s.copyReads c.1)).map (fun c => (n, c.2, c.1))).toList
    | none => []
  match s.page n with
  | none => []
  | some p => match s.stripe p.stripe with
    | some t => if t.staged then [] else if (one n).isEmpty then (t.pages.filter (· != n)).flatMap one ++ [(n, 255, t.parity)] else one n
    | none => one n

/-- A read of Carafe. -/
def OpTag.ofCarafe : OpTag → Bool
  | .hotRead .. => true
  | .archRead .. => true
  | _ => false

/-- A page that Carafe has read and found UNCORR. -/
def State.readBad (s : State) (d : NandDone) : State := if d.status = 0 then s else s.ownerUncorr d.ch d.lun d.op.blk d.op.page false

/-- Carafe obtains pages before it goes on (07 R260, R280): it submits the reads `rs`; once all have ended, and none found a page UNCORR, `go` follows; where one did,
the pages are obtained anew. -/
def State.afterReads (s : State) (mig : Bool) (rs : List (Nat × Nat × OpTag × Nat × Nat)) (go : State → State) : State :=
  match s.crf.reading with
  | none =>
    if rs.isEmpty then go s
    else rs.foldl (fun s r => s.readPage r.1 r.2.1 r.2.2.1 r.2.2.2.1 r.2.2.2.2 2) { s with crf := { s.crf with reading := some mig } }
  | some m =>
    if m ≠ mig ∨ s.waitsFor OpTag.ofCarafe then s
    else
      let (ds, s) := s.takeDone OpTag.ofCarafe
      if s.waitsFor OpTag.ofCarafe then s
      else
        let s : State := { s with crf := { s.crf with reading := none } }
        if ds.any (fun d => d.status != 0) then ds.foldl State.readBad s else go s

/-- The pages of a stripe that cannot be obtained. -/
def State.lostOf (s : State) (ns : List Nat) : List Nat := ns.filter (fun n => !s.hotGets n)

/-- A group of hot stripes is written to archive stripes of the same plan; missing stripes of a plan's last group are zero, and pages that cannot be obtained are lost
(06 R240; 07 R257, R280). -/
def State.migrate (s : State) (b : Nat) (t : Stripe) (ts : List Stripe) : State :=
  let a := s.crf.nextArch
  let put := fun (m : FMap ArchStripe) (i : Nat) =>
    let u := (t :: ts)[i]?
    let ps := u.elim [] (fun u => u.pages)
    let unread := ps.zipIdx.filterMap (fun n => if s.hotGets n.1 then none else some (t.plan.dataChan (a + i) n.2))
    FMap.ins m (a + i) { plan := t.plan, stripe := u.elim 0 (fun u => u.no), pages := ps, newest := s.newestOf ps, unread := unread }
  let done := (t :: ts).map (fun u => u.no)
  let mark := s.crf.stripes.map (fun u => if done.contains u.no then { u with migrated := true } else u)
  let next := (((t :: ts).getLast?.getD t).no + 1) % 2 ^ 64
  let s1 := { s with crf := { s.crf with arch := (List.range b).foldl put s.crf.arch, nextArch := a + b, nextMig := next, stripes := mark } }
  match s1.programGroup a b (s1.archChans t.plan) with
  | some s2 => ((t :: ts).foldl (fun s2 u => s2.logLoss (s.lostOf u.pages)) s2).space
  | none => s

/-- ARCHIVE_MIGRATE (06 R240; 07 R257): the next group of hot stripes is copied into the archive, once Carafe has read the pages that staging no longer holds. -/
def execArchiveMigrate (s : State) : Host.Outcome State Fault Refusal :=
  match (s.crf.stripes.filter (fun t => !t.migrated)).getLast? with
  | none => .next s
  | some t0 =>
    let b := s.bpc t0.plan
    match s.nextGroup b with
    | [] => .next s
    | t :: ts =>
      if !s.appending then .next s
      else
        let rs := (((t :: ts).flatMap (fun u => u.pages)).flatMap s.hotSources).map (fun r => (r.2.2.ch, r.2.2.lun, OpTag.hotRead r.1 r.2.1, r.2.2.blk, r.2.2.page))
        .next (s.afterReads true rs (fun s => s.migrate b t ts))

/-- An erase of the block waits or is in progress. -/
def State.erasing (s : State) (c l b : Nat) : Bool :=
  s.nand.todo.any (fun u => u.1 == c && u.2.1 == l && u.2.2.tag == .erase b) || ((s.ctx c l).queue ++ (s.ctx c l).op.toList).any (fun o => o.tag == .erase b)

/-- Every copy of a page of a stripe that has not been migrated, those of earlier journals among them. -/
def State.liveCopies (s : State) : List Copy :=
  s.crf.pages.flatMap (fun e => e.2.copies) ++ s.crf.earlier.flatMap (fun j => j.2.flatMap (fun e => e.2.copies))
    ++ s.crf.stripes.flatMap (fun t => t.parity :: (t.home ++ t.twin))

/-- Of the blocks of HOT LUNs given, those that no page of an unmigrated stripe needs are erased (06 R240; 07 R256). -/
def State.eraseHotBlks (s : State) (blks : List (Nat × Nat × Nat)) : State :=
  let live := s.liveCopies
  blks.foldl (fun s t =>
    let (c, l, b) := t
    let x := s.lun c l
    if x.stripeBlk == some b || x.sideBlk == some b || !FMap.get false x.used b || !s.chanUp c || live.any (fun k => k.ch == c && k.lun == l && k.blk == b)
      || x.freed.contains b || s.erasing c l b then s
    else s.submit c l { kind := 7, tag := .erase b, blk := b, cls := 2 }) s
def State.eraseHot (s : State) (cs : List Copy) : State := s.eraseHotBlks ((cs.map (fun c => (c.ch, c.lun, c.blk))).eraseDups)

/-- An archive group has passed on every channel: the hot copies of its stripes are given up (06 R240). -/
def State.groupPassed (s : State) (a b : Nat) : State :=
  let as := (List.range b).filterMap (fun i => FMap.look s.crf.arch (a + i))
  let ps := as.flatMap (fun t => t.pages)
  let sts := s.crf.stripes.filter (fun t => t.migrated && as.any (fun u => u.stripe == t.no && u.ranks.isEmpty))
  let old := ps.flatMap (fun n => match s.page n with | some p => p.copies | none => []) ++ sts.flatMap (fun t => t.parity :: (t.home ++ t.twin))
  let drop := fun (k : Nat) (e : Nat × JPage) => if ps.contains (e.1 + k * 2 ^ 64) then (e.1, { e.2 with copies := [] }) else e
  let n := s.crf.earlier.length
  let s := { s with crf := { s.crf with pages := s.crf.pages.map (drop 0), earlier := s.crf.earlier.mapIdx (fun i (j : Nat × FMap JPage) => (j.1, j.2.map (drop (n - i)))),
                                        stripes := s.crf.stripes.filter (fun t => !sts.any (fun u => u.no == t.no)) } }
  s.eraseHot old

/-- The result of an archive wordline: a failed one is programmed again on another wordline of the LUN. -/
def State.archDone (s : State) (c a : Nat) (ok : Bool) : State :=
  match FMap.look s.crf.arch a with
  | none => s
  | some t =>
    let b := s.bpc t.plan
    if !ok then (s.programArch a b c).getD s
    else
      let arch := (List.range b).foldl (fun m i => match FMap.look m (a + i) with
        | some t => FMap.ins m (a + i) { t with passed := if t.passed.contains c then t.passed else t.passed ++ [c] }
        | none => m) s.crf.arch
      let s := { s with crf := { s.crf with arch := arch } }
      if (s.archChans t.plan).all (fun k => k = c || t.passed.contains k) then s.groupPassed a b else s

/-- A result that Carafe takes: of a program, or of an erase of its own. -/
def State.isPage (s : State) (d : NandDone) : Bool :=
  match d.op.tag with
  | .page .. => true
  | .parity _ => true
  | .arch _ => true
  | .anchor .. => true
  | .erase _ => s.rd (NDC_LUN_CFG.REGION d.ch d.lun) != 3
  | _ => false

/-- PAGE_PROGRAM_DONE (R221): Carafe takes the oldest of its operations that has ended. One that ABORTED never ran, and is issued again while its LUN takes programs. -/
def execPageProgramDone (s : State) : Host.Outcome State Fault Refusal :=
  match s.nand.done.find? s.isPage with
  | none => .next s
  | some d =>
    let s := { s with nand := { s.nand with done := dropFirst s.isPage s.nand.done } }
    if d.status = 4 then .next (if s.chanUp d.ch && !s.lunLost d.ch d.lun then s.submit d.ch d.lun d.op else s)
    else .next (match d.op.tag with
      | .page n i => s.copyDone n i (d.status == 0)
      | .parity no => s.parityDone no (d.status == 0)
      | .arch a => s.archDone d.ch a (d.status == 0)
      | .anchor n c => s.anchorDone n c (d.status == 0)
      | _ => s).settle

/-! ### Re-home (07 R290 to R293) -/

/-- The archive stripes that the part of a re-home event held pages of, in ascending order. -/
def State.affected (s : State) (r : Rehome) : List Nat :=
  (s.crf.arch.filter (fun e => e.2.slots.any (fun t => t.ch == r.ch && (r.kind == 1 || t.lun == r.lun))
    || (r.kind == 1 && bitAt e.2.plan.mask r.ch && !e.2.passed.contains r.ch && e.2.plan != s.crf.plan))).map (fun e => e.1)

/-- The serial of the journal page that archive stripe `a` holds on channel `c`, where it holds one. -/
def State.archData (s : State) (a c : Nat) : Option Nat := (FMap.look s.crf.arch a).bind (fun t => (t.pos a c).bind (fun j => t.pages[j]?))

/-- Split a list into pieces of `n`. -/
def chunks (n : Nat) : Nat → List Nat → List (List Nat)
  | 0, _ => []
  | f + 1, l => if l.isEmpty then [] else l.take n :: chunks n f (l.drop n)

/-- An entry is free once every segment that holds an affected stripe has been erased (07 R293). -/
def State.freeRehomes (s : State) : State :=
  { s with crf := { s.crf with rehomes := s.crf.rehomes.filter (fun r => !(decide (1 ≤ r.done) && r.ranks.all (fun a => s.crf.erased.contains (a / 4096)))) } }

/-- A re-home event that is complete: its pages are re-homed and programmed (07 R292); the LUN_LOST record of its LUN is acknowledged (14 Table 14-4). -/
def State.rehomeDone (s : State) (r : Rehome) : State :=
  let s := { s with crf := { s.crf with rehomes := s.crf.rehomes.map (fun x => if x = r then { x with done := 2 } else x) } }
  let s := (s.wr (NDC_STAT.REHOME_DONE r.ch) 1).errVector 4
  let s := if r.kind = 2 then s.wr (NDC_LUN_STAT.REHOMING r.ch r.lun) 0 else s
  let n := 16 + r.ch
  let s := if r.kind = 2 ∧ s.flag ERR_CFG.AUTO_ACK ∧ s.rd (ERR_STAT.FIRST_VALID n) = 1 ∧ s.rd (ERR_FIRST.CODE n) = 0x1002 ∧ s.rd (ERR_FIRST.SUB n) = r.lun then s.clearFirst n
    else s
  s.freeRehomes

/-- Every re-home stripe of an event has passed. -/
def State.rehomePassed (s : State) (r : Rehome) : Bool :=
  let n := ceilDiv r.count (r.width - 1)
  (List.range n).all (fun i => match FMap.look s.crf.arch (r.first + i) with
    | some t => (s.archChans t.plan).all (fun c => t.passed.contains c)
    | none => true)

/-- The pages that Carafe reads to re-home channel `c`'s page of stripe `a`: the page itself, or for a lost part those that it is rebuilt from (07 R288). -/
def State.archSources (s : State) (a c : Nat) : List (Nat × Nat × OpTag × Nat × Nat) :=
  match FMap.look s.crf.arch a with
  | none => []
  | some t =>
    let from_ := fun (k : Nat) => if s.archReads a k then
        ((t.slots.filter (fun w => w.ch == k)).getLast?.map (fun w => (k, w.lun, OpTag.archRead a k, w.blk, w.page + a % s.bpc t.plan))).toList else []
    if s.archReads a c then from_ c else (t.plan.chans.filter (· != c)).flatMap from_

/-- The event's pages are written: page of rank k to position k mod (m − 1) of re-home stripe FIRST + k / (m − 1), and the index pages after them, in whole groups; a
page that cannot be obtained is lost (07 R280, R290, R292). -/
def State.writeRehome (s : State) (r : Rehome) (ranks : List Nat) : State :=
  let m := s.crf.plan.width
  let b := s.bpc s.crf.plan
  let first := s.crf.nextArch
  let pieces := chunks (m - 1) ranks.length ranks
  let idx := ceilDiv ranks.length (2048 * (m - 1))
  let n := ceilDiv (pieces.length + idx) b * b
  let put := fun (f : FMap ArchStripe) (i : Nat) =>
    let rk := pieces.getD i []
    let ps := rk.filterMap (fun a => s.archData a r.ch)
    let unread := rk.zipIdx.filterMap (fun e => if s.archGets 8 e.1 r.ch then none else some (s.crf.plan.dataChan (first + i) e.2))
    let index := if pieces.length ≤ i then (ranks.drop ((i - pieces.length) * 2048 * (m - 1))).take (2048 * (m - 1)) else []
    FMap.ins f (first + i) { plan := s.crf.plan, ranks := rk, part := if rk.isEmpty then none else some r.ch, index := index, newest := s.newestOf ps, unread := unread }
  let r' := { r with width := m, first := first, index := first + pieces.length, count := ranks.length, ranks := ranks, done := 1 }
  let s1 := { s with crf := { s.crf with arch := (List.range n).foldl put s.crf.arch, nextArch := first + n,
                                         rehomes := s.crf.rehomes.map (fun x => if x = r then r' else x) } }
  if ranks.isEmpty then { s with crf := { s.crf with rehomes := s.crf.rehomes.map (fun x => if x = r then r' else x) } }.rehomeDone r'
  else
    match (List.range (n / b)).foldl (fun (o : Option State) g => o.bind (fun s => s.programGroup (first + g * b) b (s.archChans s.crf.plan))) (some s1) with
    | some t => (ranks.filter (fun a => !s.archGets 8 a r.ch)).foldl (fun t a => t.logLoss (s.archData a r.ch).toList) t
    | none => s

/-- REHOME (07 R290): the oldest event that is not complete goes on. Once no hot stripe of an older plan is left to migrate, Carafe reads or rebuilds its pages and
writes them to re-home stripes in rank order, with the index pages after them; once those have passed it is complete. -/
def execRehome (s : State) : Host.Outcome State Fault Refusal :=
  match s.crf.rehomes.find? (fun r => decide (r.done < 2)) with
  | none => .next s
  | some r =>
    if !s.appending then .next s
    else if r.done = 1 then .next (if s.rehomePassed r then s.rehomeDone r else s)
    else if s.crf.stripes.any (fun t => !t.migrated && t.plan.id < r.plan && bitAt t.plan.mask r.ch) then .next s
    else .next (s.afterReads false ((s.affected r).flatMap (fun a => s.archSources a r.ch)) (fun s => s.writeRehome r (s.affected r)))

/-! ### Segments (06 R241) -/

/-- A READ of an export namespace that has not taken its data names one of these pages (10 R414). -/
def State.exporting (s : State) (ps : List Nat) : Bool :=
  s.blk.cmds.any (fun c => c.opc == 0x10 && decide (17 ≤ c.nsid) && decide (c.nsid ≤ 20) && decide (c.phase < 4) && (
    let a := field c.bytes 8 8 + (if c.nsid = 17 then 0 else (s.crf.earlier.length + 18 - c.nsid) * 2 ^ 64)
    ps.any (fun n => decide (a ≤ n) && decide (n < a + field c.bytes 16 2 + 1))))

/-- Of the blocks of ARCHIVE LUNs given, those that hold no archive stripe are erased. -/
def State.eraseArch (s : State) (blks : List (Nat × Nat × Nat)) : State :=
  blks.foldl (fun s t =>
    let (c, l, b) := t
    let x := s.lun c l
    if x.stripeBlk == some b || !FMap.get false x.used b || !s.chanUp c || s.crf.arch.any (fun e => e.2.slots.any (fun w => w.ch == c && w.lun == l && w.blk == b))
      || x.freed.contains b || s.erasing c l b then s
    else s.submit c l { kind := 8, tag := .erase b, blk := b, cls := 2 }) s

/-- SEGMENT_ERASE (06 R241; 10 R414): the first archive segment past retention, or covered by an applied ARCHIVE_RELEASE, is erased; blocks that hold nothing else go back,
and so do re-home entries that only concerned erased segments (07 R293). -/
def execSegmentErase (s : State) : Host.Outcome State Fault Refusal :=
  match (if s.appending then s.erasable else none) with
  | none => .next s
  | some k =>
    let gone := s.crf.arch.filter (fun e => decide (e.1 / 4096 = k))
    let arch := s.crf.arch.filter (fun e => !decide (e.1 / 4096 = k))
    let ps := (gone.filter (fun e => e.2.ranks.isEmpty)).flatMap (fun e => e.2.pages)
    let erased := s.crf.erased ++ [k]
    let n := s.crf.earlier.length
    if s.exporting ps then .next s
    else
      let old := fun (i : Nat) (j : Nat × FMap JPage) => (j.1, j.2.filter (fun e => !ps.contains (e.1 + (n - i) * 2 ^ 64)))
      let s := { s with crf := { s.crf with arch := arch, erased := erased, released := s.crf.released.filter (· != k),
                                            pages := s.crf.pages.filter (fun e => !ps.contains e.1), earlier := s.crf.earlier.mapIdx old } }.freeRehomes
      .next (s.eraseArch ((gone.flatMap (fun e => e.2.slots)).map (fun w => (w.ch, w.lun, w.blk))).eraseDups).space

end Sys2Proof.Machine
end

