-- ==== Sys2Proof/Machine/LunRecord.lean ====
section
/-!
DEFINITION. LUN records (07 R252, R253, Table 07-3): the pages of a record version, its programs, and the version that a LUN goes by after a reset.
-/

namespace Sys2Proof.Machine

/-- The second record block: the first good physical block after block 0 (R252). -/
def Lun.recordBlk (x : Lun) : Nat := ((x.defects.find? (fun d => d.2 == 3 && d.1 != 0)).map (fun d => d.1)).getD 0

/-- The physical block of record block 0 or 1. -/
def Lun.recordPhys (x : Lun) (k : Nat) : Nat := if k = 0 then 0 else x.recordBlk

/-- The good physical blocks that no logical block is mapped to, of `n` (R252). -/
def LunRec.spares (r : LunRec) (n : Nat) : List Nat :=
  (List.range n).filter (fun p => FMap.get 0 r.defects p == 0 && !r.map.any (fun e => e.2 == p + 1))

/-- 8,190 16-bit entries of a table, from entry `8190 k` on. -/
def tablePage (m : Nat → Nat) (k : Nat) : List Byte := (List.range 8190).flatMap (fun i => leBytes 2 (m (8190 * k + i)))

/-- Bytes 0 to 16,379 of page `k` of a record of global LUN `g`, of `n` physical blocks (Table 07-3). The widths of the header's last four fields are a DESIGN CHOICE,
notes/assumptions/78. -/
def LunRec.body (r : LunRec) (g n k : Nat) : List Byte :=
  if k = 0 then
    padTo 64 (leBytes 4 0x524E554C ++ leBytes 2 1 ++ leBytes 8 r.serial ++ leBytes 2 g ++ leBytes 2 r.logical ++ leBytes 2 (r.spares n).length
      ++ leBytes 2 (r.defects.filter (fun d => d.2 == 2)).length)
    ++ (List.range (ceilDiv n 4)).flatMap (fun i => leBytes 1 (((List.range 4).map (fun j => FMap.get 0 r.defects (4 * i + j) * 4 ^ j)).sum))
  else if k ≤ 3 then tablePage (fun b => FMap.get 0 r.map b - 1) (k - 1)
  else if k ≤ 6 then tablePage (FMap.get 0 r.erases) (k - 4)
  else tablePage (FMap.get 0 r.days) (k - 7)

/-- The page, its CRC-32C in the last four bytes. -/
def LunRec.page (r : LunRec) (g n k : Nat) : List Byte := let b := padTo 16380 (r.body g n k); b ++ leBytes 4 (crc32c b)

/-- A new record version with what `y` holds: 10 pages in the record block in use, or in the other one, erased first, when it is full (R253). -/
def State.writeRecord (s : State) (c l : Nat) (y : Lun) : State :=
  let x := s.lun c l
  let full := decide (s.slcPages c < 10 * (x.recUsed + 1))
  let k := if full then 1 - x.recBlk else x.recBlk
  let n := if full then 0 else x.recUsed
  let r : LunRec := { serial := x.serial + 1, blk := k, defects := y.defects, map := y.map, logical := y.logical, erases := y.erases, days := y.days }
  let p := y.recordPhys k
  let s := s.setLun c l { x with serial := r.serial, recBlk := k, recUsed := n + 1, recs := r :: x.recs }
  let s := if full then s.submit c l { kind := 7, tag := .record r.serial 10, blk := p, raw := true, cls := 2 } else s
  (List.range 10).foldl (fun s i =>
    s.submit c l { kind := 5, tag := .record r.serial i, blk := p, raw := true, page := 10 * n + i, cls := 2, data := r.page (16 * c + l) (s.rd (NDC_GEOM.BLOCKS c)) i }) s

/-- A record version is complete: a LUN that was formatted has a record from then on, and a substitution that waited for it takes effect, its old block grown bad or
a spare again (R276, R279). -/
def State.recordDone (s : State) (c l serial : Nat) : State :=
  let x := { s.lun c l with valid := true }
  match x.subst with
  | some b =>
    if b.serial ≠ serial then s.setLun c l x
    else
      let spares := if b.broken then x.spares else x.spares ++ [b.old]
      let x : Lun := { x with map := FMap.set 0 x.map b.blk (b.new + 1), spares := spares, refresh := x.refresh.filter (· != b.blk), subst := none }
      let s := (s.setLun c l x).wr (NDC_LUN_STAT.SPARE_FREE c l) spares.length
      if b.broken then s else s.count (NDC_REF_STAT.REFRESHED c)
  | none => s.setLun c l x

/-- The end of an operation on a record block: a page of a version; a version with a page that failed is written again (DESIGN CHOICE, notes/assumptions/78). An erase
takes the older versions of its block. -/
def State.recordEnd (s : State) (c l serial k status : Nat) : State :=
  let x := s.lun c l
  match x.recs.find? (fun r => r.serial == serial) with
  | none => s
  | some r =>
    if k = 10 then s.setLun c l { x with recs := x.recs.filter (fun o => o.serial == serial || o.blk != r.blk) }
    else if status = 0 then
      let s := s.setLun c l { x with recs := x.recs.map (fun o => if o.serial = serial then { o with left := o.left - 1 } else o) }
      if r.left = 1 ∧ !r.failed then s.recordDone c l serial else s
    else if r.failed then s
    else
      let y : Lun := { x with defects := r.defects, map := r.map, logical := r.logical, erases := r.erases, days := r.days }
      let s := s.setLun c l { x with recs := x.recs.map (fun o => if o.serial = serial then { o with failed := true } else o),
                                     subst := x.subst.map (fun b => if b.serial = serial then { b with serial := x.serial + 1 } else b) }
      s.writeRecord c l y

/-- The record that a LUN goes by: the version with the highest RECORD_SERIAL whose 10 pages were programmed and pass their CRC (R253); `bad` are the serials of those
that do not. -/
def Lun.record (x : Lun) (bad : List Nat) : Option LunRec :=
  (x.recs.filter (fun r => r.left == 0 && !r.failed && !bad.contains r.serial)).foldl (fun a r => match a with
    | some b => if b.serial < r.serial then some r else a
    | none => some r) none

/-- The channel reads the LUN's record (R248 step 5, R252); a LUN without a valid one has no map. -/
def State.readRecord (s : State) (c l : Nat) (bad : List Nat) : State :=
  let x := s.lun c l
  match x.record bad with
  | none => s.setLun c l { x with valid := false, subst := none, sweepLeft := 0 }
  | some r => s.setLun c l { x with valid := true, subst := none, sweepLeft := 0, defects := r.defects, map := r.map, logical := r.logical, erases := r.erases, days := r.days,
                                    spares := r.spares (s.rd (NDC_GEOM.BLOCKS c)) }

end Sys2Proof.Machine
end

