-- ==== Sys2Proof/Machine/Drip.lean ====
section
/-!
DEFINITION. Drip sequencers (07 R260 to R275): dispatch at operation boundaries, micro-operations, waits and transfers, faults, and what the end of an operation
brings to its channel.
-/

namespace Sys2Proof.Machine

/-- The channel's Drip runs: the device has booted (operations also end while a reset waits for them, 14 R577, and after a power failure, R272), and the channel is
present. An operation in progress runs to its end even where the channel has been retired or lost since (R269). -/
def State.dripOn (s : State) (c : Nat) : Bool :=
  (s.rd RST_STATUS.STATE == 1 || s.err.pend.isSome || s.flag PWR_STATUS.POWER_FAIL) && s.hasChannel c

/-- The channel dispatches: all operations, or only reads where it was retired by request (R287, R288); none once it is lost. -/
def State.dispatches (s : State) (c : Nat) (o : NandOp) : Bool :=
  s.dripOn c && !s.nand.lost.contains c && !s.isFatal (.channel c) && (!s.flag (NDC_STAT.RETIRED c) || (o.reads && s.chanReads c))

def State.busOf (s : State) (c : Nat) : Option Nat := FMap.get none s.nand.bus c
def State.setBus (s : State) (c : Nat) (o : Option Nat) : State := { s with nand := { s.nand with bus := FMap.set none s.nand.bus c o } }
def State.busSaucer (s : State) (c : Nat) : List Nat := FMap.get [] s.nand.saucer c
def State.setSaucer (s : State) (c : Nat) (l : List Nat) : State := { s with nand := { s.nand with saucer := FMap.set [] s.nand.saucer c l } }

/-- Context `l` lets the bus go. -/
def State.freeBus (s : State) (c l : Nat) : State := if s.busOf c = some l then s.setBus c none else s

/-- The chip enable of a LUN (R244). -/
def State.ceOf (_ : State) (_ l : Nat) : Nat := l / 2

/-- The row address of an operation (NDC_GEOM). -/
def State.rowAddr (s : State) (c l : Nat) (o : NandOp) : Nat :=
  o.page + (s.lun c l).physOf o * 2 ^ s.rd (NDC_GEOM.BLK_SHIFT c) + (l % 2) * 2 ^ s.rd (NDC_GEOM.LUN_SHIFT c)

/-- Ticks of `n` sequencer cycles: 625 MHz (R260). -/
def dripTicks (n : Nat) : Nat := 2 * n

/-! ### The end of an operation -/

/-- An operation that never dispatched completes with ABORTED (R271, R272); the channel issues one of its own again. -/
def State.abortOp (s : State) (c l : Nat) (o : NandOp) : State :=
  match o.tag.owner with
  | 2 => s.submit c l o
  | _ => { s with nand := { s.nand with done := s.nand.done ++ [{ ch := c, lun := l, op := o, status := 4 }] } }

/-- The boundary of a context: queued operations that an ABORT covers, or that the power-failure rule does not run, are ABORTED (R269, R271, R272). -/
def State.boundary (s : State) (c l : Nat) : State :=
  let x := s.ctx c l
  let k := x.aborts
  let rest := x.queue.drop k
  let keep := fun (o : NandOp) => !s.failing || (o.kind == 5 && s.rd (NDC_LUN_CFG.REGION c l) == 1)
  let gone := x.queue.take k ++ rest.filter (fun o => !keep o)
  let s := s.setCtx c l { x with queue := rest.filter keep, aborts := 0 }
  gone.foldl (fun s o => s.abortOp c l o) s

/-- A block becomes grown bad (R277). -/
def State.growBad (s : State) (c l phys : Nat) : State :=
  let x := s.lun c l
  if FMap.get 0 x.defects phys = 2 then s
  else ((s.setLun c l { x with defects := FMap.set 0 x.defects phys 2 }).count (NDC_LUN_STAT.GROWN_BAD c l)).showLife c l

/-- Roaster acknowledges a DRIP_FAULT or OP_TIMEOUT record when the RESET_LUN that follows ends OK (14 Table 14-4). -/
def State.ackDrip (s : State) (c l : Nat) : State :=
  let n := 16 + c
  let code := s.rd (ERR_FIRST.CODE n)
  if s.flag ERR_CFG.AUTO_ACK ∧ s.rd (ERR_STAT.FIRST_VALID n) = 1 ∧ (code = 0x1003 ∨ code = 0x1004) ∧ s.rd (ERR_FIRST.SUB n) = l then s.clearFirst n else s

/-- The recovery of a context (R266): a RESET_LUN that ends OK is followed by the check of the ID bytes; two failed resets in a row, or another identity, lose
the LUN or the target's LUNs (R286). An IDENT that ends with TIMEOUT or ILLEGAL has checked nothing, and another RESET_LUN follows. -/
def State.recovered (s : State) (c l kind status : Nat) (buf : List Byte) : State :=
  let x := s.ctx c l
  if kind = 0 ∧ x.needReset then
    if status = 0 then (s.setCtx c l { x with needReset := false, needIdent := true, resetFails := 0 }).ackDrip c l
    else if 1 ≤ x.resetFails then (s.setCtx c l { x with resetFails := x.resetFails + 1 }).loseLun c l 1
    else s.setCtx c l { x with resetFails := x.resetFails + 1 }
  else if kind = 1 ∧ x.needIdent then
    let m := s.rd (NDC_ID_MASK.MASK c)
    let s := s.setCtx c l { x with needIdent := false }
    if status = 3 ∨ status = 5 then s
    else if status = 0 ∧ (field buf 0 8 &&& m) = (s.rd (NDC_ID.ID c) &&& m) then s
    else
      let s := s.wrBit (NDC_STAT.ID_MISMATCH c) (l / 2) true
      ((List.range 16).filter (fun k => k / 2 == l / 2 && s.flag (NDC_LUN_CFG.PRESENT c k))).foldl (fun s k => s.loseLun c k 2) s
  else s

/-- Counters of an operation that ended (NDC_CNT0, NDC_CNT1; R284). -/
def State.countOp (s : State) (c l : Nat) (o : NandOp) (x : Ctx) (status : Nat) : State :=
  let s := match o.kind with
    | 3 | 4 =>
      let s := s.count (NDC_CNT0.READS c)
      if x.lc.headD 0 ≠ o.level then s.count (NDC_CNT1.RETRIES c) else s
    | 5 | 6 => s.count (NDC_CNT0.PROGRAMS c)
    | 7 | 8 => if status ≤ 1 then s.countErases c l 1 (o.kind == 8) else s.count (NDC_CNT1.ERASES c)
    | _ => s
  match status with
  | 1 => s.count (NDC_CNT1.FAILS c)
  | 2 => (s.count (NDC_CNT1.UNCORR c)).logError (16 + c) 0x1001 3 l (s.rowAddr c l o)
  | 3 => s.count (NDC_CNT1.TIMEOUTS c)
  | 5 => s.count (NDC_CNT1.ILLEGALS c)
  | _ => s

/-- The day, modulo 65,536 (R252), and the days since day `d`. -/
def State.day (s : State) : Nat := tbSec s.tamp.tb / 86400 % 65536
def State.daysSince (s : State) (d : Nat) : Nat := (s.day + 65536 - d % 65536) % 65536

/-- Pages of a block in its LUN's mode. -/
def State.blkPages (s : State) (c l : Nat) : Nat := if s.rd (NDC_LUN_CFG.REGION c l) = 1 then s.slcPages c else s.rd (NDC_GEOM.PAGES_NATIVE c)

/-- The erase of a block has ended: it is counted (R252); one that passed frees the block and what lay in it, and one that failed leaves it for a substitution (R277). -/
def State.eraseEnd (s : State) (c l : Nat) (o : NandOp) (p status : Nat) : State :=
  let x := s.lun c l
  let x : Lun := if status ≤ 1 then { x with erases := FMap.set 0 x.erases p (min (FMap.get 0 x.erases p + 1) 65535) } else x
  let x : Lun := if o.raw then x else if status = 0 then { x with used := FMap.set false x.used o.blk false } else if status = 1 then { x with freed := o.blk :: x.freed } else x
  let s := s.setLun c l x
  if o.raw ∨ o.kind ≠ 7 ∨ 2 ≤ o.blk then s
  else { s with crf := { s.crf with anchors := s.crf.anchors.filter (fun a => !(a.ch == c && a.lun == l && a.blk == o.blk && a.st != .waiting)) } }

/-- A program has passed: its block is programmed, and a program that fills it dates it (R252). -/
def State.progEnd (s : State) (c l : Nat) (o : NandOp) (p : Nat) : State :=
  let x := s.lun c l
  let n := if o.kind = 6 then s.rd (NDC_CFG.BPC c) else 1
  let x : Lun := if o.raw then x else { x with used := FMap.set false x.used o.blk true }
  s.setLun c l (if s.blkPages c l ≤ o.page + n then { x with days := FMap.set 0 x.days p s.day } else x)

/-- A read of a block has ended (R277, R278): the level that succeeded is where the LUN's next reads start, and a block that needed RETIRE_LVL within 30 days of its
program day is grown bad. -/
def State.readEnd (s : State) (c l : Nat) (o : NandOp) (p status level : Nat) : State :=
  let s := if status = 0 then s.setLun c l { s.lun c l with level := level } else s
  if (status = 0 ∨ status = 2) ∧ !o.raw ∧ s.rd (NDC_REF_CFG.RETIRE_LVL c) ≤ level ∧ s.daysSince (FMap.get 0 (s.lun c l).days p) ≤ 30 then s.growBad c l p else s

/-- A read of the sweep has ended (R282): the block is due for refresh if the page did not read, or read poorly, or is old. -/
def State.sweepEnd (s : State) (c l : Nat) (o : NandOp) (p status level corrected : Nat) : State :=
  let x := s.lun c l
  let again := status == 2 || decide (s.rd (NDC_REF_CFG.REFRESH_LVL c) ≤ level) || decide (s.rd (NDC_REF_CFG.CORR_THR c) ≤ corrected)
    || decide (s.rd (NDC_REF_CFG.REFRESH_DAYS c) ≤ s.daysSince (FMap.get 0 x.days p))
  let s := s.setLun c l { x with sweepLeft := x.sweepLeft - 1, sweepAt := if x.sweepLeft ≤ 1 then o.blk + 1 else x.sweepAt, refresh := if again && !x.refresh.contains o.blk then x.refresh ++ [o.blk] else x.refresh }
  if status ≠ 2 then s
  else if s.rd (NDC_LUN_CFG.REGION c l) = 3 then
    s.poison 1 (16 * c + l) (fun e => entCh e == c && entLun e == l && entBlk e == o.blk && entPage e == o.page && !entPoison e)
  else s.ownerUncorr c l o.blk o.page true

/-- What the end of an operation tells the LUN: a FAIL makes the block grown bad (R277; a record block stays, notes/assumptions/78), and its kind says the rest. -/
def State.lunEnd (s : State) (c l : Nat) (o : NandOp) (status level corrected : Nat) : State :=
  let p := (s.lun c l).physOf o
  let s := if status = 1 ∧ 5 ≤ o.kind ∧ o.kind ≤ 8 ∧ !o.raw then s.growBad c l p else s
  let s := if o.kind = 7 ∨ o.kind = 8 then s.eraseEnd c l o p status
    else if (o.kind = 5 ∨ o.kind = 6) ∧ status = 0 then s.progEnd c l o p
    else if o.reads then s.readEnd c l o p status level
    else s
  match o.tag with
  | .record n k => s.recordEnd c l n k status
  | .sweep => s.sweepEnd c l o p status level corrected
  | _ => s

/-- The operation in progress ends (R263, R266): its status goes to its owner, and the context is at a boundary. -/
def State.endOp (s : State) (c l status : Nat) : State :=
  let x := s.ctx c l
  match x.op with
  | none => s
  | some o =>
    let s := s.countOp c l o x status
    let s := s.lunEnd c l o status (x.lc.headD 0) x.decBits
    let s := if o.tag.owner = 2 ∨ o.tag = .erase o.blk then s
      else
        let e : NandDone := { ch := c, lun := l, op := o, status := status, corrected := x.decBits, level := x.lc.headD 0, data := x.buf }
        { s with nand := { s.nand with done := s.nand.done ++ [e] } }
    let y : Ctx := { s.ctx c l with op := none, st := .idle, wait := none, din := none, decs := [], stack := [], needReset := x.needReset || status == 3 || status == 5 }
    let s := (s.setCtx c l y).freeBus c l
    let s := s.setSaucer c ((s.busSaucer c).filter (· != l))
    ((s.recovered c l o.kind status x.buf).boundary c l).fillQueues.loseFatal

/-- A microcode fault or a timeout (R264, R266): DRP_FAULT, the channel's error, and the end of the operation. -/
def State.dripFault (s : State) (c l pc hi cause status : Nat) : State :=
  let x := s.ctx c l
  let v := pc + 4096 + l * 2 ^ 13 + cause * 2 ^ 17 + x.bank * 2 ^ 20 + hi * 2 ^ 32
  let s := if s.flag (DRP_FAULT.VALID c) then s
    else ((((((s.wr (DRP_FAULT.PC c) pc).wr (DRP_FAULT.VALID c) 1).wr (DRP_FAULT.CTX c) l).wr (DRP_FAULT.CAUSE c) cause).wr (DRP_FAULT.BANK c) x.bank).wr
      (DRP_FAULT.WORD_HI c) hi)
  let s := if status = 3 then s.logError (16 + c) 0x1004 3 l (x.op.elim 0 (fun o => o.kind)) else s.logError (16 + c) 0x1003 3 l v
  s.endOp c l status

/-! ### Dispatch (R261) -/

/-- The operation that context `l` dispatches next: the oldest of the highest class, unless an older one on its physical block waits, or it writes to a block whose
substitution has no record yet (R279); a BACKGROUND operation queued for more than 100 ms comes first (R261). -/
def State.nextOp (s : State) (c l : Nat) : Option Nat :=
  let q := (s.ctx c l).queue
  let y := s.lun c l
  let held := fun (o : NandOp) => !o.raw && !o.reads && (match y.subst with | some b => b.blk == o.blk | none => false)
  let free := (List.range q.length).filter (fun i => match q[i]? with
    | some o => !(q.take i).any (fun p => y.physOf p == y.physOf o) && !held o && s.dispatches c o
    | none => false)
  let at' := fun i => q.getD i { kind := 0, tag := .own 0 }
  match free.find? (fun i => (at' i).cls == 2 && decide ((at' i).at_ + 125000000 < s.ticks)) with
  | some i => some i
  | none => free.foldl (fun a i => match a with
    | none => some i
    | some j => if (at' i).cls < (at' j).cls then some i else some j) none

/-- An operation starts under the active bank (R261, R274). -/
def State.start (s : State) (c l : Nat) (o : NandOp) : State :=
  let b := s.rd (DRP_STAT.ACTIVE_BANK c)
  let e := FMap.get 0 (s.bank c b).entry o.kind
  let x := s.ctx c l
  let s := s.setCtx c l { x with op := some o, st := .issuing, pc := e % 4096, bank := b, lc := [0, 0, 0, 0], stack := [], cursor := 0, sr := 0, buf := o.data,
                                 wait := none, polled := false, waitAt := s.ticks, pollAt := s.ticks, cmdAt := s.ticks, began := s.ticks, din := none, decs := [],
                                 senses := 0, decOk := true, decBits := 0, erased := false }
  if bitAt e 12 then s else s.dripFault c l (e % 4096) 0 1 5

/-- DRIP_DISPATCH (R261, R266, R270): at an operation boundary, a recovery RESET_LUN or IDENT first, else the next queued operation. -/
def execDripDispatch (c : Fin 32) (l : Fin 16) (s : State) : Host.Outcome State Fault Refusal :=
  let s := if s.dripOn c && (s.ctx c l).op.isNone then s.boundary c l else s
  let x := s.ctx c l
  if x.op.isSome ∨ !s.dripOn c ∨ s.err.pend.isSome ∨ s.flag (DRP_CTRL.SUSPEND c) ∨ s.lunLost c l then .next s
  else if (x.needReset ∨ x.needIdent) ∧ !s.dispatches c { kind := 3, tag := .own 0 } then .next s
  else if x.needReset then .next (s.start c l { kind := 0, tag := .own 0 })
  else if x.needIdent then .next (s.start c l { kind := 1, tag := .own 0 })
  else match s.nextOp c l with
    | none => .next s
    | some i => match x.queue[i]? with
      | none => .next s
      | some o => .next ((s.setCtx c l { x with queue := x.queue.eraseIdx i }).start c l o).fillQueues

/-! ### Micro-operations (R262, R263) -/

/-- The microword at a context's PC, in the bank that it runs under (R263, R274). -/
def State.wordAt (s : State) (c l : Nat) : Nat := FMap.get 0 (s.bank c (s.ctx c l).bank).words (s.ctx c l).pc

/-- Micro-opcodes that use the channel bus. -/
def usesBus (uop : Nat) : Bool := [1, 2, 3, 4, 6, 7, 15].contains uop

/-- A decode result has not come yet. -/
def Ctx.decReady (x : Ctx) : Bool := x.decs.isEmpty

/-- The context is ready to issue the word at its PC; a BR on a decode result is ready once that has come (R265). -/
def State.ctxReady (s : State) (c l : Nat) : Bool :=
  let x := s.ctx c l
  let w := s.wordAt c l
  x.op.isSome && x.st == .issuing && !(bits w 58 6 == 10 && decide (4 ≤ bits w 48 10) && decide (bits w 48 10 ≤ 6) && !x.decReady)

/-- Other contexts that are ready to issue a word that does not use the bus, in rotating order (R262). -/
def State.rotation (s : State) (c : Nat) : List Nat :=
  ((List.range 16).map (fun i => (FMap.get 0 s.nand.rotor c + 1 + i) % 16)).filter (fun l => s.ctxReady c l && s.busOf c != some l && !usesBus (bits (s.wordAt c l) 58 6))

/-- It is the context's turn to issue (R262): the bus holder's first, then that of the next other context with a word that does not use the bus; then any with a bus word. -/
def State.turn (s : State) (c l : Nat) : Bool :=
  match s.busOf c with
  | some h => h == l || (!s.ctxReady c h && (usesBus (bits (s.wordAt c l) 58 6) || (s.rotation c).head? == some l))
  | none => match s.rotation c with
    | k :: _ => k == l
    | [] => true

/-- Issue one microword: the context must be ready to issue, and its turn; its PC must lie within the bank's used length, the word there must be no reserved one, and
its operands legal (`ok`): otherwise a fault ends the operation. Nothing happens for a word other than the one at its PC. A word that needs the bus while another
context holds it, or waits for it, parks its context. -/
def State.micro (s : State) (c l uop a b w : Nat) (ok : Bool) (f : State → Ctx → State) : State :=
  let x := s.ctx c l
  let word := s.wordAt c l
  if !s.ctxReady c l ∨ !s.dripOn c then s
  else if (s.bank c x.bank).used ≤ x.pc then s.dripFault c l x.pc (word / 2 ^ 32) 2 5
  else if 0x11 ≤ bits word 58 6 then s.dripFault c l x.pc (word / 2 ^ 32) 1 5
  else if word ≠ uop * 2 ^ 58 + a * 2 ^ 48 + b * 2 ^ 32 + w then s
  else if usesBus uop ∧ s.busOf c ≠ some l ∧ ((s.busOf c).isSome ∨ !(s.busSaucer c).isEmpty) then
    (s.setCtx c l { x with st := .parked }).setSaucer c (s.busSaucer c ++ [l])
  else if !s.turn c l then s
  else if !ok then s.dripFault c l x.pc (word / 2 ^ 32) 1 5
  else
    let s : State := if usesBus uop then s.setBus c (some l)
      else if s.busOf c = some l then s else { s with nand := { s.nand with rotor := FMap.set 0 s.nand.rotor c l } }
    f s { x with pc := x.pc + 1 }

def execDripNop (c : Fin 32) (l : Fin 16) (a : Fin 1024) (b : Fin 65536) (w : BitVec 32) (s : State) : Host.Outcome State Fault Refusal :=
  .next (s.micro c l 0 a b w.toNat (a == 0 && b == 0 && w == 0) (fun s x => s.setCtx c l x))

def execDripCmd (c : Fin 32) (l : Fin 16) (a : Fin 1024) (b : Fin 65536) (w : BitVec 32) (s : State) : Host.Outcome State Fault Refusal :=
  .next (s.micro c l 1 a b w.toNat (a == 0 && b == 0 && decide (w.toNat < 256)) (fun s x =>
    (s.setCtx c l { x with cmdAt := s.ticks }).emit (.nandCmd c (s.ceOf c l) (BitVec.ofNat 8 w.toNat))))

/-- The address bytes of a source: 0 column, 1 row, 2 column then row, 3 literal (R263). -/
def State.addrBytes (s : State) (c l : Nat) (o : NandOp) (src w : Nat) : List Byte :=
  match src with
  | 0 => leBytes 2 o.col
  | 1 => leBytes 3 (s.rowAddr c l o)
  | 2 => leBytes 2 o.col ++ leBytes 3 (s.rowAddr c l o)
  | _ => leBytes 4 w

def execDripAddr (c : Fin 32) (l : Fin 16) (a : Fin 1024) (b : Fin 65536) (w : BitVec 32) (s : State) : Host.Outcome State Fault Refusal :=
  .next (s.micro c l 2 a b w.toNat (decide (1 ≤ (a : Nat)) && decide ((a : Nat) ≤ 8) && decide ((b : Nat) < 4) && (b == 3 || w == 0)) (fun s x =>
    let o := x.op.getD { kind := 0, tag := .own 0 }
    (s.setCtx c l x).emit (.nandAddr c (s.ceOf c l) (padTo a (s.addrBytes c l o b w.toNat)))))

def execDripLit (c : Fin 32) (l : Fin 16) (a : Fin 1024) (b : Fin 65536) (w : BitVec 32) (s : State) : Host.Outcome State Fault Refusal :=
  .next (s.micro c l 3 a b w.toNat (decide (1 ≤ (a : Nat)) && decide ((a : Nat) ≤ 4) && b == 0) (fun s x =>
    (s.setCtx c l x).emit (.nandData c (s.ceOf c l) ((leBytes 4 w.toNat).take a))))

/-- `n` bytes of row `r` of table `t`, from byte `k` on; bytes past the row's end are not stated, and free. -/
def State.tableBytes (s : State) (c l t r k n : Nat) : List Byte :=
  (List.range n).map (fun i => if k + i < 8 then BitVec.ofNat 8 (FMap.get 0 (s.bank c (s.ctx c l).bank).table (512 * t + 8 * r + k + i))
    else BitVec.ofNat 8 (s.freeVal / 256 ^ i))

def execDripTbl (c : Fin 32) (l : Fin 16) (a : Fin 1024) (b : Fin 65536) (w : BitVec 32) (s : State) : Host.Outcome State Fault Refusal :=
  .next (s.micro c l 4 a b w.toNat (decide (1 ≤ (a : Nat)) && decide ((a : Nat) ≤ 8) && decide ((b : Nat) < 32) && decide (w.toNat < 8)) (fun s x =>
    let r := x.lc.headD 0
    if FMap.get 0 (s.bank c x.bank).rows b ≤ r then s.dripFault c l (x.pc - 1) (4 * 2 ^ 26 + a * 2 ^ 16 + b) 4 5
    else
      let bs := s.tableBytes c l b r w.toNat a
      ((if w.toNat + a ≤ 8 then s else s.drew).setCtx c l x).emit (.nandData c (s.ceOf c l) bs)))

def execDripBset (c : Fin 32) (l : Fin 16) (a : Fin 1024) (b : Fin 65536) (w : BitVec 32) (s : State) : Host.Outcome State Fault Refusal :=
  .next (s.micro c l 5 a b w.toNat (a == 0 && b == 0 && decide (w.toNat < 2 ^ 18)) (fun s x => s.setCtx c l { x with cursor := w.toNat }))

/-- Codewords of the buffer from `at_` on (R249): 2,048 data bytes each, then 256 parity bytes, whose code the manual does not give and which are free. -/
def State.codewords (s : State) (buf : List Byte) (at_ : Nat) : Nat → List Byte × State
  | 0 => ([], s)
  | n + 1 =>
    let (r, s') := s.drew.codewords buf (at_ + 2048) n
    (slice buf at_ 2048 ++ leBytes 256 s.freeVal ++ r, s')

/-- DOUT (R249, R263): the transfer starts; with ENC the channel emits codewords, and the cursor moves over the data bytes they hold. -/
def execDripDout (c : Fin 32) (l : Fin 16) (a : Fin 1024) (b : Fin 65536) (w : BitVec 32) (s : State) : Host.Outcome State Fault Refusal :=
  .next (s.micro c l 6 a b w.toNat (decide ((a : Nat) < 2) && b == 0 && decide (w.toNat < 2 ^ 18) && (a == 0 || decide (w.toNat % 2304 = 0))) (fun s x =>
    let n := if a = 1 then w.toNat / 2304 * 2048 else w.toNat
    let (bs, s) := if a = 1 then s.codewords x.buf x.cursor (w.toNat / 2304) else (slice x.buf x.cursor w.toNat, s)
    (s.setCtx c l { x with cursor := x.cursor + n, st := .transfer, din := none }).emit (.nandData c (s.ceOf c l) bs)))

/-- DIN (R263): the transfer starts; modes 1 and 3 latch a decode result. -/
def execDripDin (c : Fin 32) (l : Fin 16) (a : Fin 1024) (b : Fin 65536) (w : BitVec 32) (s : State) : Host.Outcome State Fault Refusal :=
  .next (s.micro c l 7 a b w.toNat (decide ((a : Nat) < 4) && b == 0 && decide (w.toNat < 2 ^ 18)) (fun s x =>
    s.setCtx c l { x with st := .transfer, din := some ((a : Nat), w.toNat, x.cursor) }))

/-- WAITC (R264): the wait begins, and the bus is free. -/
def execDripWaitc (c : Fin 32) (l : Fin 16) (a : Fin 1024) (b : Fin 65536) (w : BitVec 32) (s : State) : Host.Outcome State Fault Refusal :=
  .next (s.micro c l 8 a b w.toNat (decide ((a : Nat) < 4) && (a == 1 || b == 0)) (fun s x =>
    let t := if w = 0 then s.rd (NDC_TIMING.DEF_TMO c) else w.toNat
    (s.setCtx c l { x with st := .waiting, wait := some ((a : Nat), (b : Nat), t), waitAt := s.ticks, pollAt := s.ticks, polled := false }).freeBus c l))

/-- DELAY (R262, R263): the context waits and keeps the bus. -/
def execDripDelay (c : Fin 32) (l : Fin 16) (a : Fin 1024) (b : Fin 65536) (w : BitVec 32) (s : State) : Host.Outcome State Fault Refusal :=
  .next (s.micro c l 9 a b w.toNat (a == 0 && b == 0) (fun s x => s.setCtx c l { x with st := .waiting, wait := some (16, 0, w.toNat), waitAt := s.ticks }))

/-- Loop counter `i`. -/
def Ctx.lcAt (x : Ctx) (i : Nat) : Nat := x.lc.getD i 0

/-- BR (R265, R266): conditions 4 to 6 wait for the decode result. -/
def execDripBr (c : Fin 32) (l : Fin 16) (a : Fin 1024) (b : Fin 65536) (w : BitVec 32) (s : State) : Host.Outcome State Fault Refusal :=
  let legal := match (a : Nat) with
    | 0 | 4 | 5 | 6 => b == 0
    | 1 | 2 => true
    | 3 => decide ((b : Nat) < 4)
    | _ => false
  .next (s.micro c l 10 a b w.toNat (legal && decide (w.toNat < 4096)) (fun s x =>
    let go := fun (x : Ctx) (t : Bool) => s.setCtx c l (if t then { x with pc := w.toNat } else x)
    let m := bits (b : Nat) 0 8
    let e := bits (b : Nat) 8 8
    if (s.bank c x.bank).used ≤ w.toNat then s.dripFault c l (x.pc - 1) (10 * 2 ^ 26 + a * 2 ^ 16 + b) 2 5
    else match (a : Nat) with
      | 0 => go x true
      | 1 => go x (x.sr &&& m == e)
      | 2 => go x (x.sr &&& m != e)
      | 3 =>
        let v := (x.lcAt b + 65535) % 65536
        go { x with lc := x.lc.set b v } (v != 0)
      | k => go x (if k = 4 then !x.decOk else if k = 5 then x.decOk else x.erased)))

def execDripCall (c : Fin 32) (l : Fin 16) (a : Fin 1024) (b : Fin 65536) (w : BitVec 32) (s : State) : Host.Outcome State Fault Refusal :=
  .next (s.micro c l 11 a b w.toNat (a == 0 && b == 0 && decide (w.toNat < 4096)) (fun s x =>
    let hi := 11 * 2 ^ 26
    if (s.bank c x.bank).used ≤ w.toNat then s.dripFault c l (x.pc - 1) hi 2 5
    else if 4 ≤ x.stack.length then s.dripFault c l (x.pc - 1) hi 3 5
    else s.setCtx c l { x with stack := x.pc :: x.stack, pc := w.toNat }))

def execDripRet (c : Fin 32) (l : Fin 16) (a : Fin 1024) (b : Fin 65536) (w : BitVec 32) (s : State) : Host.Outcome State Fault Refusal :=
  .next (s.micro c l 12 a b w.toNat (a == 0 && b == 0 && w == 0) (fun s x =>
    match x.stack with
    | p :: ps => s.setCtx c l { x with stack := ps, pc := p }
    | [] => s.dripFault c l (x.pc - 1) (12 * 2 ^ 26) 3 5))

/-- LDC (R263): a value, or the operation's retry start level. -/
def execDripLdc (c : Fin 32) (l : Fin 16) (a : Fin 1024) (b : Fin 65536) (w : BitVec 32) (s : State) : Host.Outcome State Fault Refusal :=
  .next (s.micro c l 13 a b w.toNat (decide ((a : Nat) < 8) && b == 0 && decide (w.toNat < 65536) && (decide ((a : Nat) < 4) || w == 0)) (fun s x =>
    s.setCtx c l { x with lc := x.lc.set ((a : Nat) % 4) (if (a : Nat) < 4 then w.toNat else x.op.elim 0 (fun o => o.level)) }))

def execDripBusrel (c : Fin 32) (l : Fin 16) (a : Fin 1024) (b : Fin 65536) (w : BitVec 32) (s : State) : Host.Outcome State Fault Refusal :=
  .next (s.micro c l 14 a b w.toNat (a == 0 && b == 0 && w == 0) (fun s x => (s.setCtx c l x).freeBus c l))

/-- The cycles of a status read: plain, or enhanced with the row address (R263). -/
def State.statusRead (s : State) (c l : Nat) (enh : Bool) (o : NandOp) : State :=
  if enh then (s.emit (.nandCmd c (s.ceOf c l) 0x78)).emit (.nandAddr c (s.ceOf c l) (leBytes 3 (s.rowAddr c l o))) else s.emit (.nandCmd c (s.ceOf c l) 0x70)

def execDripSrd (c : Fin 32) (l : Fin 16) (a : Fin 1024) (b : Fin 65536) (w : BitVec 32) (sr : Byte) (s : State) : Host.Outcome State Fault Refusal :=
  .next (s.micro c l 15 a b w.toNat (decide ((a : Nat) < 2) && b == 0 && w == 0) (fun s x =>
    (s.setCtx c l { x with sr := sr.toNat }).statusRead c l (a == 1) (x.op.getD { kind := 0, tag := .own 0 })))

/-- END (R263, Table 07-9): a status from 7 on is reserved. -/
def execDripEnd (c : Fin 32) (l : Fin 16) (a : Fin 1024) (b : Fin 65536) (w : BitVec 32) (s : State) : Host.Outcome State Fault Refusal :=
  .next (s.micro c l 16 a b w.toNat (a == 0 && b == 0 && decide (w.toNat < 7)) (fun s x => (s.setCtx c l x).endOp c l w.toNat))

/-! ### Waits and transfers (R264, R265) -/

/-- The condition of the WAITC that runs holds (R264): R/B# is high (the command says so) TWB cycles after the last command; the status read in the wait's form
matches in SR[6:0]; or the buffer is full. -/
def State.waitHolds (s : State) (c : Nat) (x : Ctx) : Bool :=
  match x.wait with
  | some (0, _, _) => decide (x.cmdAt + dripTicks (s.rd (NDC_TIMING.TWB c)) ≤ s.ticks)
  | some (1, b, _) => x.polled && (x.sr &&& bits b 0 7) == bits b 8 7
  | some (3, _, _) => x.op.elim false (fun o => o.filled)
  | _ => false

/-- The timeout of the wait that runs, or the cycles of the DELAY, have passed. -/
def State.waitOver (s : State) (x : Ctx) : Bool := match x.wait with | some (_, _, t) => decide (x.waitAt + dripTicks t ≤ s.ticks) | none => false

def execDripWaitcDone (c : Fin 32) (l : Fin 16) (s : State) : Host.Outcome State Fault Refusal :=
  let x := s.ctx c l
  if x.st = .waiting ∧ s.waitHolds c x ∧ s.dripOn c then .next (s.setCtx c l { x with st := .issuing, wait := none }) else .next s

/-- DRIP_WAITC_TIMEOUT (R264): TIME waits out its timeout and continues; any other condition that does not hold ends the operation with TIMEOUT. -/
def execDripWaitcTimeout (c : Fin 32) (l : Fin 16) (s : State) : Host.Outcome State Fault Refusal :=
  let x := s.ctx c l
  if x.st ≠ .waiting ∨ !s.dripOn c ∨ !s.waitOver x then .next s
  else match x.wait with
    | some (2, _, _) => .next (s.setCtx c l { x with st := .issuing, wait := none })
    | some (k, b, _) => if k < 4 then .next (s.dripFault c l (x.pc - 1) (8 * 2 ^ 26 + k * 2 ^ 16 + b) 5 3) else .next s
    | none => .next s

def execDripDelayExpire (c : Fin 32) (l : Fin 16) (s : State) : Host.Outcome State Fault Refusal :=
  let x := s.ctx c l
  match x.wait with
  | some (16, _, _) => if x.st = .waiting ∧ s.dripOn c ∧ s.waitOver x then .next (s.setCtx c l { x with st := .issuing, wait := none }) else .next s
  | _ => .next s

/-- STATUS_POLL (R264): the status read of a WAITC STATUS, in the form of B[15], is repeated every POLL_NS. -/
def execStatusPoll (c : Fin 32) (l : Fin 16) (sr : Byte) (s : State) : Host.Outcome State Fault Refusal :=
  let x := s.ctx c l
  match x.wait, x.op with
  | some (1, b, _), some o =>
    if x.st = .waiting ∧ s.dripOn c ∧ (!x.polled ∨ x.pollAt + ceilDiv (s.rd (NDC_TIMING.POLL_NS c) * 5) 4 ≤ s.ticks) then
      .next ((s.setCtx c l { x with sr := sr.toNat, polled := true, pollAt := s.ticks }).statusRead c l (bitAt b 15) o)
    else .next s
  | _, _ => .next s

/-- What a DIN read is ERASED (R249): every codeword of 2,304 bytes reads as ones with fewer than 64 zero bits. -/
def zeroBits (b : Byte) : Nat := 8 - ((List.range 8).filter (fun i => b.getLsbD i)).length
def erasedCodewords : Nat → List Byte → Bool
  | 0, _ => true
  | n + 1, bs => decide (((bs.take 2304).map zeroBits).sum < 64) && erasedCodewords n (bs.drop 2304)

/-- DRIP_TRANSFER_DONE (R263): a DIN's raw or captured bytes are in the buffer; those of a decode mode go to the decoder. -/
def execDripTransferDone (c : Fin 32) (l : Fin 16) (data : List Byte) (s : State) : Host.Outcome State Fault Refusal :=
  let x := s.ctx c l
  if x.st ≠ .transfer ∨ !s.dripOn c then .next s
  else match x.din with
    | some (m, n, at_) =>
      let x : Ctx := { x with st := .issuing, din := none, erased := decide (2304 ≤ n) && erasedCodewords (n / 2304) (padTo n data) }
      if m % 2 = 1 then .next (s.setCtx c l { x with cursor := at_ + n / 2304 * 2048, decs := x.decs ++ [(m, n, at_, s.ticks)] })
      else
        let buf := patch (padTo (max x.buf.length (at_ + n)) x.buf) at_ (padTo n data)
        .next (s.setCtx c l { x with cursor := at_ + n, buf := buf, senses := if m = 2 then x.senses + 1 else x.senses })
    | none => .next (s.setCtx c l { x with st := .issuing })

/-- DRIP_DECODE_READY (R249, R265): the result of the oldest decode, 2 µs after the last byte of a hard one and 20 µs after that of a soft one. `errors` is the largest
count of bit errors in a codeword: a hard decode corrects 120, a soft one, which needs two sense captures before it, 180. The corrected data is placed where the DIN
put it. -/
def execDripDecodeReady (c : Fin 32) (l : Fin 16) (errors : Fin 18433) (data : List Byte) (s : State) : Host.Outcome State Fault Refusal :=
  let x := s.ctx c l
  match x.decs with
  | (m, n, at_, t) :: ds =>
    if !s.dripOn c ∨ s.ticks < t + (if m = 1 then 2500 else 25000) then .next s
    else
      let ok := decide ((errors : Nat) ≤ if m = 1 ∨ x.senses < 2 then 120 else 180)
      let k := n / 2304 * 2048
      let buf := if ok then patch (padTo (max x.buf.length (at_ + k)) x.buf) at_ (padTo k data) else x.buf
      .next (s.setCtx c l { x with decs := ds, decOk := ok, decBits := if ok then (errors : Nat) else x.decBits, buf := buf })
  | [] => .next s

/-- DRIP_BUS_GRANT (R262): the context parked longest takes the free bus. -/
def execDripBusGrant (c : Fin 32) (s : State) : Host.Outcome State Fault Refusal :=
  match s.busSaucer c, s.busOf c with
  | l :: ls, none => if s.dripOn c then .next (((s.setSaucer c ls).setBus c (some l)).setCtx c l { s.ctx c l with st := .issuing }) else .next s
  | _, _ => .next s

/-! ### Control (R269 to R274) -/

/-- A write of DRP_CTRL.SUSPEND by Roaster or Carafe (R270). -/
def execDripSuspend (c : Fin 32) (on : Bool) (s : State) : Host.Outcome State Fault Refusal :=
  if s.hasChannel c then .next (s.wrB (DRP_CTRL.SUSPEND c) on) else .next s

/-- A write of DRP_CTRL.ABORT (R271): idle contexts are at a boundary. -/
def State.abortAll (s : State) (c : Nat) : State :=
  (List.range 16).foldl (fun s l =>
    let x := s.ctx c l
    if x.queue.isEmpty then s
    else
      let s := s.setCtx c l { x with aborts := x.queue.length }
      if x.op.isNone then (s.boundary c l).fillQueues else s) s

def execDripAbort (c : Fin 32) (s : State) : Host.Outcome State Fault Refusal := if s.hasChannel c then .next (s.abortAll c) else .next s

/-- A write of DRP_CTRL.SWAP (R274): dispatches from the next cycle use the standby bank. -/
def State.swapBank (s : State) (c : Nat) : State :=
  if !s.flag (DRP_STAT.STANDBY_VALID c) then s
  else
    let b := 1 - s.rd (DRP_STAT.ACTIVE_BANK c)
    let k := s.bank c b
    let s := ((s.wr (DRP_STAT.ACTIVE_BANK c) b).wr (DRP_STAT.STANDBY_VALID c) 0).wr (DRP_STAT.UCODE_ID c) k.id
    (List.range 16).foldl (fun s i => (s.wr (DRP_ENTRY.PC c i) (FMap.get 0 k.entry i)).wr (DRP_ENTRY.VALID c i) (FMap.get 0 k.entry i / 4096)) s

def execDripSwap (c : Fin 32) (s : State) : Host.Outcome State Fault Refusal := if s.hasChannel c then .next (s.swapBank c) else .next s

end Sys2Proof.Machine
end

