-- ==== Sys2Proof/Machine/Group.lean ====
section
/-!
DEFINITION. Journal groups (chapter 12): what a member knows of the others, resends, catch-up streams, truncation, promotion and elections.
-/

namespace Sys2Proof.Machine

/-! ### Members -/

/-- The member is primary, or passing its role on. -/
def State.primary (s : State) : Bool := s.rd EZN_STATUS.ROLE == 1 || s.rd EZN_STATUS.ROLE == 6

/-- The highest epoch the member knows: its own, and those its peers have reported. -/
def State.highestEpoch (s : State) : Nat := (s.others.map (fun m => s.rd (EZN_MEMBER.EPOCH m))).foldl max (s.rd EZN_STATUS.EPOCH)

/-- The votes that an election needs, the candidate's among them (R467, Table 12-7). -/
def State.threshold (s : State) : Nat := s.groupN - 1

/-- The other members of S (R467): those whose STATE shows LOST_PRIMARY and the same EPOCH. -/
def State.electors (s : State) : List Nat :=
  s.others.filter (fun m => s.presentM m && s.flag (EZN_MEMBER.LOST_PRIMARY m) && s.rd (EZN_MEMBER.EPOCH m) == s.rd EZN_STATUS.EPOCH)

/-! ### Links -/

/-- Every unacknowledged frame of a link end is sent again, in order (R454). -/
def State.resendAll (s : State) (k : Nat) : State :=
  let x := s.ezl k
  let fs := x.unacked.map (fun f => { f with tries := f.tries + 1 })
  let s := (s.setEzl k { x with unacked := fs, ackAt := s.ticks }).countBy (EZN_LINK_STAT.RESENDS k) fs.length
  fs.foldl (fun s f => s.putFrame k f) s

/-- A frame number is covered by LACK; the numbers are 32 bits and wrap. -/
def lackCovers (lack lseq : Nat) : Bool := decide ((lack + 2 ^ 32 - lseq % 2 ^ 32) % 2 ^ 32 < 2 ^ 31)

/-- The acknowledgement and the credits of a received header (R454, R455). -/
def State.ackFrames (s : State) (k lack credit : Nat) : State :=
  let x := s.ezl k
  let rest := x.unacked.filter (fun f => !lackCovers lack f.lseq)
  let s := s.setEzl k { x with unacked := rest, ackAt := if rest.length < x.unacked.length then s.ticks else x.ackAt }
  (s.wr (EZN_LINK_STAT.CREDITS k) (min 64 (s.rd (EZN_LINK_STAT.CREDITS k) + credit))).drainLink k (x.waiting.length + 1)

/-! ### Records in frames -/

/-- The record that begins a RECORDS payload, and the rest of it. -/
def parseRec (bs : List Byte) : Option (Rec × List Byte) :=
  let n := field bs 26 2
  let size := 64 * (1 + ceilDiv n 64)
  if bs.length < size then none
  else
    let r : Rec := { seq := field bs 0 8, stamp := field bs 8 12, port := field bs 20 1, typ := field bs 21 1, session := field bs 22 4, verdict := field bs 28 2,
                     depends := field bs 30 8, slice := field bs 38 1, flags := field bs 39 1, payload := slice bs 64 n, tag := none }
    some (r, bs.drop size)

/-- The records of a payload. -/
def parseRecs : Nat → List Byte → List Rec
  | 0, _ => []
  | n + 1, bs => match parseRec bs with
    | none => []
    | some (r, rest) => r :: parseRecs n rest

/-- Records in payloads of at most 8,192 bytes, each whole (Table 12-3). -/
def packRecs (rs : List Rec) : List (List Byte) :=
  let (done, cur) := rs.foldl (fun (a : List (List Byte) × List Byte) r =>
    let b := r.bytes
    if a.2.length + b.length ≤ 8192 then (a.1, a.2 ++ b) else (a.1 ++ [a.2], b)) ([], [])
  if cur.isEmpty then done else done ++ [cur]

/-! ### The journal as a stream (R481) -/

/-- An item of a catch-up stream: a record, or the crossing of an epoch closed by failover. -/
inductive Item where
  | record (r : Rec)
  | close (block : List Byte)
  deriving DecidableEq, Repr

/-- The durable history and the open page, in order. -/
def State.items (s : State) : List Item :=
  (s.crf.pages.filter (fun e => !s.crf.voids.contains e.1)).flatMap (fun e =>
    if e.2.kind = 1 then (e.2.live.filter (fun r => !s.truncated r.seq)).map Item.record
    else if field e.2.marker 0 2 = 1 then [.close e.2.marker] else [])
  ++ (s.crf.cur.recs.filter (fun r => !s.truncated r.seq)).map Item.record

/-- The item comes after a member that expects `next`: a record from `next` on, or the close of the epoch that `next` lies above. -/
def Item.due (next : Seq) : Item → Bool
  | .record r => decide (next ≤ r.seq)
  | .close b => field b 2 2 == seqEpoch next && decide (field b 8 8 < next)

/-- The items still to send to a member that expects `next`. -/
def State.itemsFrom (s : State) (next : Seq) : List Item := s.items.dropWhile (fun i => !i.due next)

/-- The records at the head of a list of items, up to 8,192 bytes. -/
def headRecs : Nat → List Item → List Rec
  | n, .record r :: l => if n + r.bytes.length ≤ 8192 then r :: headRecs (n + r.bytes.length) l else []
  | _, _ => []

/-- The oldest record that the primary retains. -/
def State.oldest (s : State) : Seq := s.lowest

/-- The marker that closes an epoch below the sequence number `q`, if the primary's history holds one: `q` is then truncated (R481). -/
def State.closedBelow (s : State) (q : Seq) : Option Seq :=
  s.items.findSome? fun i => match i with
    | .close b => if field b 2 2 = seqEpoch q ∧ field b 8 8 < q then some (field b 8 8) else none
    | .record _ => none

/-- The RESUME of the first REPLAY record of the epoch of `q` that lies below `q`: a member that holds a record there as another one discards what it holds above that
RESUME (06 R232). -/
def State.replayBelow (s : State) (q : Seq) : Option Seq :=
  (s.journal.find? (fun r => r.typ == 5 && r.port == 0xFE && seqEpoch r.seq == seqEpoch q && decide (field r.payload 0 8 < q))).map (fun r => field r.payload 0 8)

/-- FROM for a member by its last STATE (R481), and whether its stream brings its whole history (R483). -/
def State.streamFrom (s : State) (m : Nat) : Seq × Bool :=
  let st := (s.ezm m).state
  let l := field st 16 8
  let old := (s.oldest, true)
  match s.closedBelow l with
  | some q => (q + 1, bitAt (field st 3 1) 1)
  | none =>
    let back := match s.replayBelow l with | some q => (q + 1, bitAt (field st 3 1) 1) | none => old
    match s.journal.find? (fun r => r.seq == l) with
    | some r => if r.crc = field st 40 4 then (r.after, bitAt (field st 3 1) 1) else back
    | none => back

/-- The primary starts a catch-up stream at `q` (R481). -/
def State.startStream (s : State) (m : Nat) (q : Seq) (backfill : Bool) : State :=
  let s := (s.setEzm m { s.ezm m with joining := true, started := true, next := some q, backfill := backfill, conf := none, paidAt := s.ticks }).wr EZN_RESYNC.FROM q
  let s := s.wr (EZN_MEMBER.SLOT_VALID m) 0
  s.sendTo m { ftype := 8, payload := leBytes 1 1 ++ leBytes 1 (b2n backfill) ++ zeros 6 ++ leBytes 8 q ++ zeros 8 }

/-- The conditions of R480 on a member's STATE. -/
def State.admits (s : State) (m : Nat) : Bool :=
  let st := (s.ezm m).state
  let g := s.rd EZN_STATUS.LEVEL
  decide (field st 4 1 ≤ g) && decide (g ≤ field st 5 1) && decide (field st 7 1 ≤ field st 5 1) && decide (field st 8 2 ≤ s.rd EZN_STATUS.EPOCH)

/-- A member counts in its follower slot (R459). -/
def State.validSlot (s : State) (m : Nat) : State :=
  if s.flag (EZN_MEMBER.SLOT_VALID m) then s
  else ((s.wr (EZN_MEMBER.SLOT m) (s.slotOfMember m)).wr (EZN_MEMBER.SLOT_VALID m) 1).setEzm m { s.ezm m with confAt := s.ticks }

/-- The primary makes a member DETACHED (R465); a handover to it ends, and its request is answered TARGET_NOT_READY. -/
def State.detach (s : State) (m : Nat) : State :=
  let s := (s.wr (EZN_MEMBER.SLOT_VALID m) 0).setEzm m { s.ezm m with joining := false, started := false, next := none, conf := none }
  let s := (s.count EZN_CNT.DETACHES).warn 9 0x0902 m (s.rd (EZN_MEMBER_L.L m))
  let s := match s.ezn.handover with
    | some (sl, t, _) => if t = m then ({ s with ezn := { s.ezn with handover := none } }.wr EZN_STATUS.ROLE 1).answer sl 0x0101 [] else s
    | none => s
  s.advanceW

/-! ### Losing and taking the primary role -/

/-- Ports of the active set leave it under R99's rule, their links up (R477). -/
def State.leavePorts (s : State) : State :=
  (List.range 64).foldl (fun s p =>
    if s.constrains p then
      ({ s with merge := { s.merge with lossAt := FMap.set 0 s.merge.lossAt p s.tamp.tb } }).wr (SEQ_PST.LEAVING p) 1
    else s) s

/-- A member stops sequencing (R460, R476): nothing of its merge store, its issue lanes or its Pour gate is kept. -/
def State.demote (s : State) : State :=
  let shared := (s.merge.slots.map (fun e => (e.2.filter (fun t => t.shared)).length)).sum
  let s := s.wr SEQ_STATUS.SHARED_FREE (s.rd SEQ_STATUS.SHARED_FREE + shared)
  let s := { s with merge := { s.merge with slots := [], fills := [], lane := [], device := [], host := [], dispatch := [], lossAt := [] },
                    tamp := { s.tamp with waiting := [] }, crf := { s.crf with issued := [] },
                    eports := (s.eports.map (fun e => (e.1, { e.2 with held := [] }))).filter (fun e => decide (e.2 ≠ {})) }
  (List.range 64).foldl (fun s p => (s.wr (SEQ_PST.ACTIVE p) 0).wr (SEQ_PST.LEAVING p) 0) s

/-- A higher epoch is heard of (R476): the member joins that epoch's primary. A handover has found its new primary. -/
def State.higherEpoch (s : State) (e p : Nat) : State :=
  let s := if s.primary then s.demote else s
  let s := match s.ezn.handover with
    | some (sl, _, _) => s.answer sl 0 (leBytes 2 e ++ zeros 6)
    | none => s
  let s := { s with ezn := { s.ezn with handover := none, claim := none, wait := false } }
  let s := (s.wr EZN_STATUS.ROLE 3).wr EZN_STATUS.EPOCH e
  if p < 4 then s.wr EZN_STATUS.PRIMARY p else s

/-- No record above `q` is still to be delivered (01 R42). -/
def State.undeliver (s : State) (q : Seq) : State :=
  let keep : Group → Bool := fun g => match g with | .record r => decide (r.seq ≤ q) | _ => true
  { s with hq := { s.hq with out := s.hq.out.filter (fun e => keep e.2),
                             dlv := s.hq.dlv.map (fun e => (e.1, { e.2 with backlog := e.2.backlog.filter keep, redo := e.2.redo.filter keep })) } }

/-- Everything above `q` is void (R472; 06 R232): pages above it, records of the page in which it falls and of the open page, and what has been received. -/
def State.truncate (s : State) (q : Seq) : State :=
  let gone := (s.crf.pages.filter (fun e => decide (q < e.2.first) && !s.crf.voids.contains e.1)).map (fun e => e.1)
  let voids := s.crf.voids ++ gone
  let keep := s.crf.cur.recs.filter (fun r => decide (r.seq ≤ q))
  let link := match s.crf.link with
    | none => none
    | some k => ((s.crf.pages.filter (fun e => decide (e.1 ≤ k) && !voids.contains e.1)).getLast?).map (fun e => e.1)
  let cut := fun (e : Nat × JPage) =>
    (e.1, if e.2.first ≤ q ∧ q < e.2.lastSeq ∧ !s.crf.voids.contains e.1 then { e.2 with cut := some q } else e.2)
  let s := { s with crf := { s.crf with pages := s.crf.pages.map cut, voids := voids, issued := [], link := link, hasL := s.crf.hasL && link.isSome,
                                        cur := if keep.isEmpty then {} else { s.crf.cur with recs := keep } },
                    ezn := { s.ezn with gaps := [], inbox := s.ezn.inbox.filter (fun r => decide (r.seq ≤ q)), flush := false,
                                        levels := s.ezn.levels.filter (fun l => decide (l.2 ≤ q)) } }
  let s := s.wrB EZN_LEVEL.RAISE_PENDING (!s.ezn.levels.isEmpty)
  (s.undeliver q).wr CRF_LOCAL.SEQ (if s.crf.hasL then min (s.rd CRF_LOCAL.SEQ) q else 0)

/-- The EPOCH_CLOSE marker block (06 Table 06-6). -/
def State.markerBlock (s : State) (q : Seq) (old : Nat) : List Byte :=
  leBytes 2 1 ++ leBytes 2 (seqEpoch q) ++ leBytes 1 old ++ leBytes 1 s.me ++ zeros 2 ++ leBytes 8 q ++ leBytes 8 s.seenW ++ leBytes 12 s.nowStamp ++ zeros 28

/-- The member promotes itself to the primary of epoch `e` (R471, R474, R478): it closes the epoch of its L at its L, sends each voter what it lacks and CLOSE,
writes the marker page, and waits. A change of primary beyond the last epoch is fatal (03 R113). -/
def State.promote (s : State) (e : Nat) (voters : List Nat) : State :=
  if 2 ^ 16 ≤ e then s.exhaust
  else
    let q := s.rd CRF_LOCAL.SEQ
    let block := s.markerBlock q (s.rd EZN_STATUS.PRIMARY)
    let recs := s.journal
    let s := s.truncate q
    let s := (((s.wr EZN_STATUS.EPOCH e).wr EZN_STATUS.PRIMARY s.me).wr EZN_STATUS.ROLE 1).count EZN_CNT.PROMOTIONS
    let s := { s with ezn := { s.ezn with claim := none, handover := none, wait := true, expect := none, inbox := [],
                                          mark := some (block, q, { epoch := seqEpoch q, index := seqIndex q, roll := false }, true) } }
    let s := s.others.foldl (fun s m => (s.wr (EZN_MEMBER.SLOT_VALID m) 0).setEzm m { s.ezm m with joining := false, started := false, next := none, conf := none }) s
    let s := (s.wr CRF_APPEND.NEXT (e * 2 ^ 48)).setNext (e * 2 ^ 48)
    let s := (s.wr CRF_STATUS.BOUNDARY_PENDING 0).wr CRF_STATUS.MODE_OLD (s.rd CRF_CFG.MODE)
    let s := voters.foldl (fun s m =>
      let l := s.rd (EZN_MEMBER_L.L m)
      let s := (packRecs (recs.filter (fun r => decide (l < r.seq) && decide (r.seq ≤ q)))).foldl (fun s b => s.sendTo m { ftype := 1, payload := b }) s
      (s.sendTo m { ftype := 7, payload := block }).setEzm m { s.ezm m with started := true, next := some (e * 2 ^ 48) }) s
    s.settle.sendState

/-- The candidate claims epoch `e` of the members `dest` (R468); its own claim counts as its vote. A change of primary beyond the last epoch is fatal (03 R113). -/
def State.sendClaim (s : State) (e : Nat) (dest : List Nat) (always : List Nat) : State :=
  if 2 ^ 16 ≤ e then s.exhaust
  else
  let s := { s with ezn := { s.ezn with claim := some { epoch := e, at_ := s.ticks } } }.wr EZN_STATUS.VOTED_EPOCH e
  let s : State := dest.foldl (fun s m => s.sendTo m { ftype := 5, payload := leBytes 2 e ++ zeros 6 ++ leBytes 8 (s.rd CRF_LOCAL.SEQ) }) s
  if s.threshold ≤ 1 then s.promote e always else s

/-- Enter ELECTING (R466). -/
def State.startElection (s : State) : State :=
  { (s.wr EZN_STATUS.ROLE 4) with ezn := { s.ezn with electAt := s.ticks, claim := none } }.sendState

/-- One election decision (R467, R468). -/
def State.elect (s : State) : State :=
  let S := s.electors
  if S.length + 1 < s.threshold then { s with ezn := { s.ezn with electAt := s.ticks } }
  else
    let cands := ((s.me, s.rd CRF_LOCAL.SEQ, s.flag EZN_STATUS.BACKFILL_DONE) :: S.map (fun m => (m, s.rd (EZN_MEMBER_L.L m), s.flag (EZN_MEMBER.BACKFILL_DONE m)))).filter
      (fun c => c.2.2)
    let best := cands.foldl (fun (a : Option (Nat × Nat × Bool)) c => match a with
      | none => some c
      | some b => if b.2.1 < c.2.1 ∨ (b.2.1 = c.2.1 ∧ c.1 < b.1) then some c else some b) none
    match best with
    | some (c, _, _) => if c = s.me then s.sendClaim (s.highestEpoch + 1) S [] else { s with ezn := { s.ezn with electAt := s.ticks } }
    | none => { s with ezn := { s.ezn with electAt := s.ticks } }

/-- The handover's last step (R477): once the target has confirmed the last number issued, STATE names it. -/
def State.handoverStep (s : State) : State :=
  match s.ezn.handover with
  | some (sl, t, false) =>
    let quiet := s.merge.slots.all (fun e => e.2.isEmpty) && s.merge.lane.isEmpty && s.merge.device.isEmpty && s.merge.host.isEmpty && s.crf.issued.isEmpty
    if quiet && (s.ezm t).conf == some s.lastIssued then { s with ezn := { s.ezn with handover := some (sl, t, true) } }.sendState else s
  | _ => s

end Sys2Proof.Machine
end

