-- ==== Sys2Proof/Machine/Ezoon.lean ====
section
/-!
DEFINITION. Ezoon: link ends, received frames, timers and the group requests of the mailbox (chapter 12).
-/

namespace Sys2Proof.Machine

/-! ### Link ends -/

/-- EZN_LINK_TRAIN (R452): training ends; both ends start with 64 credits and frame number 1, and exchange STATE. -/
def execEznLinkTrain (k : Fin 4) (s : State) : Host.Outcome State Fault Refusal :=
  if !s.ezOn k ∨ !s.linkPresent k ∨ 2 ≤ s.linkState k then .next s
  else
    let s := (((s.setEzl k {}).wr (EZN_LINK_STAT.STATE k) 2).wr (EZN_LINK_STAT.CREDITS k) 64).count (EZN_LINK_STAT.RETRAINS k)
    .next (s.sendOn k { ftype := 4, payload := s.statePayload })

/-- A link end goes down, into state `st` (0 DOWN, 1 TRAINING); its unacknowledged frames go to another UP link to the same member, in order (R456). -/
def State.linkFall (s : State) (k st : Nat) : State :=
  let x := s.ezl k
  let fs := (x.unacked ++ x.waiting).filter (fun f => f.ftype != 4)
  let s := ((s.setEzl k {}).wr (EZN_LINK_STAT.STATE k) st).wr (EZN_LINK_STAT.CREDITS k) 0
  match s.bestLink (s.peer k) with
  | none => s
  | some j => (fs.foldl (fun s f => s.sendOn j { f with lseq := 0, tries := 0 }) s).countBy (EZN_LINK_STAT.RESENDS j) fs.length

/-- EZN_LINK_DOWN (R456): the link end lost lock, and trains again, or 8 resends of one frame failed. -/
def execEznLinkDown (k : Fin 4) (lock : Bool) (s : State) : Host.Outcome State Fault Refusal :=
  if !s.ezOn k ∨ s.linkState k < 2 ∨ (!lock ∧ !((s.ezl k).unacked.any (fun f => decide (8 ≤ f.tries)))) then .next s
  else .next ((s.warn 9 0x0901 k (if lock then 1 else 2)).linkFall k (if lock then 1 else 0))

/-- EZN_RESEND_TIMER (R454): 2 µs without progress of LACK. -/
def execEznResendTimer (k : Fin 4) (s : State) : Host.Outcome State Fault Refusal :=
  let x := s.ezl k
  if s.ezOn k && decide (2 ≤ s.linkState k) && !x.unacked.isEmpty && decide (x.ackAt + 2500 ≤ s.ticks) then .next (s.resendAll k) else .next s

/-- EZN_IDLE_TIMER (R455): nothing sent on an UP link for 1 µs. -/
def execEznIdleTimer (k : Fin 4) (s : State) : Host.Outcome State Fault Refusal :=
  if s.ezOn k && s.linkState k == 3 && decide ((s.ezl k).txAt + 1250 ≤ s.ticks) then .next (s.sendIdle k) else .next s

/-- CONFIRM_SEND (R463). -/
def execConfirmSend (k : Fin 4) (s : State) : Host.Outcome State Fault Refusal :=
  let x := s.ezl k
  match x.conf with
  | some c =>
    if s.ezOn k ∧ x.confAt + 250 ≤ s.ticks + 1 then
      .next ((s.setEzl k { x with conf := none, confAt := s.ticks + 1 }).sendOn k { ftype := 2, payload := leBytes 8 c })
    else .next s
  | none => .next s

/-- WMARK_SEND (R463). -/
def execWmarkSend (k : Fin 4) (s : State) : Host.Outcome State Fault Refusal :=
  let x := s.ezl k
  match x.wm with
  | some w =>
    if s.ezOn k ∧ x.wmAt + 625 ≤ s.ticks + 1 then
      .next ((s.setEzl k { x with wm := none, wmAt := s.ticks + 1 }).sendOn k { ftype := 3, payload := leBytes 8 w })
    else .next s
  | none => .next s

/-! ### Received frames (R454) -/

/-- A NAK goes out with the next header. -/
def State.nak (s : State) (k : Nat) : State := s.setEzl k { s.ezl k with nak := true }

/-- A frame of member `m` was heard; a primary that is heard ends an election or a detachment (R465, R466), and shows that the island has kept power. -/
def State.heardFrom (s : State) (m : Nat) : State :=
  let s := s.setEzm m { s.ezm m with heard := some s.ticks }
  if m = s.rd EZN_STATUS.PRIMARY ∧ (s.roleOf m = 1 ∨ s.roleOf m = 6) ∧ s.rd (EZN_MEMBER.EPOCH m) = s.rd EZN_STATUS.EPOCH ∧ !s.sequencing then
    let s := s.wr EZN_STATUS.ISLAND_LOST 0
    if s.rd EZN_STATUS.ROLE = 4 ∨ s.rd EZN_STATUS.ROLE = 5 then { (s.wr EZN_STATUS.ROLE 3) with ezn := { s.ezn with claim := none } } else s
  else s

/-- A frame is received on link end `k`: it is discarded with a NAK for a CRC failure, another group, another member or a number out of order; its header acts; a
frame of a version that this member does not accept is discarded (R452, R454, R485). -/
def State.rx (s : State) (k : Nat) (h : EzHead) (ftype : Nat) (crcOk : Bool) (f : State → State) : State :=
  let st := s.linkState k
  if !s.ezOn k ∨ !s.linkPresent k ∨ st < 2 then s
  else if !crcOk then (s.count (EZN_LINK_STAT.CRC_ERR k)).nak k
  else if h.group.toNat ≠ s.rd EZN_GROUP_ID.ID ∨ (h.src : Nat) ≠ s.peer k ∨ (h.dst : Nat) ≠ s.me then (s.count EZN_CNT.BAD_FRAMES).nak k
  else if st = 2 ∧ ftype ≠ 0 ∧ ftype ≠ 4 then s.nak k
  else
    let s := (s.ackFrames k h.lack.toNat h.credit).heardFrom h.src
    let s := if bitAt h.flags 0 then s.resendAll k else s
    if ftype = 0 then f s
    else
      let x := s.ezl k
      if h.lseq.toNat ≠ (x.rcvd + 1) % 2 ^ 32 then s.nak k
      else
        let s := s.setEzl k { x with rcvd := x.rcvd + 1, freed := min 64 (x.freed + 1) }
        if ftype ≠ 4 ∧ (h.fver : Nat) ≠ s.rd EZN_STATUS.LEVEL ∧ !(s.ezn.levels.any (fun l => l.1 == (h.fver : Nat))) then s.count EZN_CNT.BAD_FRAMES else f s

/-- IDLE (R455). -/
def execIdle (k : Fin 4) (h : EzHead) (crcOk : Bool) (s : State) : Host.Outcome State Fault Refusal := .next (s.rx k h 0 crcOk id)

/-- What a primary makes of a member's STATE: another epoch detaches it (R465); a member that has no stream may join (R480); one that has caught up and reports FOLLOWER
takes its slot (R459, R482). -/
def State.primaryHears (s : State) (m : Nat) : State :=
  let x := s.ezm m
  let role := s.roleOf m
  let s := if s.flag (EZN_MEMBER.SLOT_VALID m) ∧ s.rd (EZN_MEMBER.EPOCH m) ≠ s.rd EZN_STATUS.EPOCH then s.detach m else s
  let x := if s.flag (EZN_MEMBER.SLOT_VALID m) then x else s.ezm m
  if !x.started then
    if role = 2 ∨ role = 3 ∨ role = 5 then
      if s.admits m then
        let (q, b) := s.streamFrom m
        s.startStream m q b
      else s.count EZN_CNT.BAD_FRAMES
    else s
  else if !x.joining ∧ role = 2 ∧ s.rd (EZN_MEMBER.EPOCH m) = s.rd EZN_STATUS.EPOCH then (s.validSlot m).advanceW
  else s

/-- STATE (R452, R476, R477, R480). -/
def execState (k : Fin 4) (h : EzHead) (payload : List Byte) (crcOk : Bool) (s : State) : Host.Outcome State Fault Refusal :=
  .next (s.rx k h 4 crcOk (fun s =>
    let m := s.peer k
    if field payload 1 1 ≠ m then s.count EZN_CNT.BAD_FRAMES
    else
      let fl := field payload 3 1
      let e := field payload 8 2
      let p := field payload 2 1
      let s := if s.linkState k = 2 then s.wr (EZN_LINK_STAT.STATE k) 3 else s
      let s := ((((s.wr (EZN_MEMBER.ROLE m) (field payload 0 1)).wrB (EZN_MEMBER.LOST_PRIMARY m) (bitAt fl 0)).wrB (EZN_MEMBER.BACKFILL_DONE m) (bitAt fl 1)).wr
        (EZN_MEMBER.LEVEL_MAX m) (field payload 5 1)).wr (EZN_MEMBER.LEVEL_MIN m) (field payload 4 1)
      let s := (s.wr (EZN_MEMBER.EPOCH m) e).wr (EZN_MEMBER_L.L m) (field payload 16 8)
      let s := s.setEzm m { s.ezm m with state := payload, stateAt := some s.ticks }
      if s.rd EZN_STATUS.ROLE = 0 then s
      else if s.rd EZN_STATUS.EPOCH < e then s.higherEpoch e p
      else if s.primary then s.primaryHears m
      else
        let s := if e = s.rd EZN_STATUS.EPOCH ∧ (field payload 0 1 = 1 ∨ field payload 0 1 = 6) then (s.wr EZN_STATUS.PRIMARY m).heardFrom m else s
        if s.rd EZN_STATUS.ROLE = 2 ∧ m = s.rd EZN_STATUS.PRIMARY ∧ field payload 12 1 = s.me ∧ s.ezn.claim.isNone then
          s.sendClaim (s.rd EZN_STATUS.EPOCH + 1) s.others [m]
        else s))

/-- The next frame's records belong after what this member has received: the next number, or index 0 of a later epoch after a CLOSE. -/
def nextOk (expect q : Seq) : Bool := q == expect || (seqIndex expect == 0 && seqIndex q == 0 && decide (expect < q))

/-- A REPLAY record of the primary's that the member does not hold: it discards the records that it holds above RESUME, and goes on with the REPLAY record (06 R232). -/
def State.followReplay (s : State) (r : Rec) : State :=
  if r.typ ≠ 5 ∨ r.port ≠ 0xFE ∨ (s.journal ++ s.ezn.inbox).any (fun h => h.seq == r.seq && h.crc == r.crc) then s
  else
    let s := s.truncate (field r.payload 0 8)
    let s : State := { s with ezn := { s.ezn with expect := some r.seq } }
    (s.wr CRF_APPEND.NEXT (min (s.rd CRF_APPEND.NEXT) r.seq)).setNext (min (s.rd SEQ_NEXT.NEXT) r.seq)

/-- Take records in order: those below the next expected are discarded (R456). -/
def State.takeRecs (s : State) : List Rec → State
  | [] => s
  | r :: rs =>
    let s := if s.ezn.expect.elim false (fun q => decide (r.seq < q)) then s.followReplay r else s
    match s.ezn.expect with
    | none => s
    | some q =>
      if nextOk q r.seq then
        State.takeRecs ({ s with ezn := { s.ezn with expect := some r.after, inbox := s.ezn.inbox ++ [r] } }.wr EZN_RESYNC_POS.NEXT r.after) rs
      else State.takeRecs s rs

/-- Frames that waited for a gap are taken once it has filled (R457). -/
def State.takeGaps (s : State) : Nat → State
  | 0 => s
  | n + 1 =>
    match s.ezn.gaps.find? (fun g => match g.2, s.ezn.expect with | r :: _, some q => decide (r.seq ≤ q) || nextOk q r.seq | _, _ => true) with
    | none => s
    | some g =>
      let s := { s with ezn := { s.ezn with gaps := s.ezn.gaps.erase g } }
      let s := s.setEzl g.1 { s.ezl g.1 with freed := min 64 ((s.ezl g.1).freed + 1) }
      State.takeGaps (s.takeRecs g.2) n

/-- RECORDS (R457, R462): from the primary, or from the candidate that this member voted for (R471). -/
def execRecords (k : Fin 4) (h : EzHead) (payload : List Byte) (crcOk : Bool) (s : State) : Host.Outcome State Fault Refusal :=
  .next (s.rx k h 1 crcOk (fun s =>
    let role := s.rd EZN_STATUS.ROLE
    let mine := ((role = 2 ∨ role = 3) ∧ s.peer k = s.rd EZN_STATUS.PRIMARY) ∨ (role = 4 ∧ (h.epoch : Nat) = s.rd EZN_STATUS.VOTED_EPOCH)
    if !decide mine then s
    else
      let rs := parseRecs (payload.length / 64) payload
      let s := { s with ezn := { s.ezn with flush := s.ezn.flush || bitAt h.flags 1 } }
      let late := match rs, s.ezn.expect with
        | r :: _, some q => decide (q < r.seq) && !nextOk q r.seq
        | _, _ => false
      let s := if late then
          { (s.setEzl k { s.ezl k with freed := (s.ezl k).freed - 1 }).count EZN_CNT.REORDER_WAITS with ezn := { s.ezn with gaps := s.ezn.gaps ++ [((k : Nat), rs)] } }
        else (s.takeRecs rs).takeGaps (s.ezn.gaps.length + 1)
      s.drainInbox (s.ezn.inbox.length + 1)))

/-- CONFIRM (R463): C of a follower enters the watermark, and may end a handover's wait. -/
def execConfirm (k : Fin 4) (h : EzHead) (payload : List Byte) (crcOk : Bool) (s : State) : Host.Outcome State Fault Refusal :=
  .next (s.rx k h 2 crcOk (fun s =>
    let m := s.peer k
    let x := s.ezm m
    if !s.primary ∨ !x.started ∨ x.joining then s
    else
      let c := field payload 0 8
      let at_ := if x.conf.elim true (fun o => decide (o < c)) then s.ticks else x.confAt
      let s := (s.setEzm m { x with conf := some c, confAt := at_ }).validSlot m
      (s.setEzm m { s.ezm m with confAt := at_ }).advanceW.handoverStep))

/-- WMARK (R460): the follower publishes the primary's W. -/
def execWmark (k : Fin 4) (h : EzHead) (payload : List Byte) (crcOk : Bool) (s : State) : Host.Outcome State Fault Refusal :=
  .next (s.rx k h 3 crcOk (fun s =>
    let w := field payload 0 8
    if s.rd EZN_STATUS.ROLE ≠ 2 ∨ s.peer k ≠ s.rd EZN_STATUS.PRIMARY ∨ (s.ezn.lastW.elim false (fun o => decide (w ≤ o))) then s
    else
      let s : State := { s with ezn := { s.ezn with lastW := some w } }
      if s.flag CRF_STATUS.WM_VALID ∧ w ≤ s.rd CRF_WMARK.SEQ then s else s.setW w))

/-- CLAIM (R469, R477): a vote is written to the always-on island before it is sent. -/
def execClaim (k : Fin 4) (h : EzHead) (payload : List Byte) (crcOk : Bool) (s : State) : Host.Outcome State Fault Refusal :=
  .next (s.rx k h 5 crcOk (fun s =>
    let c := s.peer k
    let e := field payload 0 2
    let l := field payload 8 8
    let mine := s.rd CRF_LOCAL.SEQ
    let lost := s.lostPrimary || (match s.ezn.handover with | some (_, t, true) => t == c | _ => false)
    let ok := lost && decide (s.rd EZN_STATUS.VOTED_EPOCH < e) && (decide (mine < l) || (l == mine && decide (c ≤ s.me)))
      && (!s.flag EZN_STATUS.ISLAND_LOST || decide (s.highestEpoch + 2 ≤ e))
    let s := if ok then s.wr EZN_STATUS.VOTED_EPOCH e else s
    s.sendTo c { ftype := 6, payload := leBytes 2 e ++ leBytes 1 (b2n ok) ++ zeros 5 }))

/-- VOTE (R470): enough granted votes promote the candidate. -/
def execVote (k : Fin 4) (h : EzHead) (payload : List Byte) (crcOk : Bool) (s : State) : Host.Outcome State Fault Refusal :=
  .next (s.rx k h 6 crcOk (fun s =>
    match s.ezn.claim with
    | none => s
    | some c =>
      if field payload 0 2 ≠ c.epoch ∨ field payload 2 1 ≠ 1 ∨ c.votes.contains (s.peer k) then s
      else
        let vs := c.votes ++ [s.peer k]
        if s.threshold ≤ vs.length + 1 then s.promote c.epoch vs
        else { s with ezn := { s.ezn with claim := some { c with votes := vs } } }))

/-- CLOSE (R473, R474, R481): the member truncates, writes its own marker page and becomes FOLLOWER; a member in a catch-up stream goes on in it. -/
def execClose (k : Fin 4) (h : EzHead) (payload : List Byte) (crcOk : Bool) (s : State) : Host.Outcome State Fault Refusal :=
  .next (s.rx k h 7 crcOk (fun s =>
    let e := (h.epoch : Nat)
    let q := field payload 8 8
    let next := (field payload 2 2 + 1) * 2 ^ 48
    if s.rd EZN_STATUS.ROLE = 0 ∨ e < s.rd EZN_STATUS.EPOCH then s
    else
      let streams := s.rd EZN_STATUS.ROLE = 3 ∧ s.rd EZN_STATUS.VOTED_EPOCH ≠ e
      let s := if s.primary then s.demote else s
      let s := match s.ezn.handover with
        | some (sl, _, _) => s.answer sl 0 (leBytes 2 e ++ zeros 6)
        | none => s
      let s := if streams then s else (s.wr EZN_STATUS.ROLE 2).wr EZN_STATUS.PRIMARY (field payload 5 1)
      let s : State := { s.wr EZN_STATUS.EPOCH e with ezn := { s.ezn with inbox := s.ezn.inbox.filter (fun r => decide (r.seq ≤ q)), flush := false } }
      let s := (s.drainInbox (s.ezn.inbox.length + 1)).truncate q
      let s := { s with ezn := { s.ezn with handover := none, claim := none, wait := false, expect := some next,
                                            mark := some (payload.take 64, q, { epoch := seqEpoch q, index := seqIndex q, roll := false }, false) } }
      let s := ((s.wr CRF_APPEND.NEXT next).wr EZN_RESYNC_POS.NEXT next).setNext next
      (s.advanceAllEpochs (some q)).settle))

/-- The member gives its journal up and starts a new one (R481; 06 R243), beginning with its own JOURNAL_START. -/
def State.newJournal (s : State) (q : Seq) : State :=
  let all := (s.crf.pages.filter (fun e => !s.crf.voids.contains e.1)).map (fun e => e.1)
  let s := { s with crf := { s.crf with voids := s.crf.voids ++ all, issued := [], link := none, hasL := false, cur := {}, ckpts := [] },
                    ezn := { s.ezn with gaps := [], inbox := [], flush := false, levels := [] } }
  let s := (((s.wr CRF_LOCAL.SEQ 0).wr CRF_APPEND.NEXT q).wr EZN_LEVEL.RAISE_PENDING 0).noW
  s.localRec 0x0A (s.journalStart)

/-- RESYNC_CTL (R481 to R483): START makes the member JOINING; IN_SYNC makes it FOLLOWER. -/
def execResyncCtl (k : Fin 4) (h : EzHead) (payload : List Byte) (crcOk : Bool) (s : State) : Host.Outcome State Fault Refusal :=
  .next (s.rx k h 8 crcOk (fun s =>
    let kind := field payload 0 1
    let q := field payload 8 8
    let role := s.rd EZN_STATUS.ROLE
    if role = 0 ∨ s.primary ∨ s.peer k ≠ s.rd EZN_STATUS.PRIMARY then s
    else if kind = 1 then
      let cont := s.crf.hasL ∧ (q = s.rd CRF_LOCAL.SEQ + 1 ∨ q = (seqEpoch (s.rd CRF_LOCAL.SEQ) + 1) * 2 ^ 48 ∨ q ≤ s.rd CRF_LOCAL.SEQ ∧ seqEpoch q = seqEpoch (s.rd CRF_LOCAL.SEQ))
      let s := ((s.wr EZN_STATUS.ROLE 3).wr EZN_RESYNC.FROM q).wr EZN_RESYNC_POS.NEXT q
      let s := { s with ezn := { s.ezn with expect := some (if decide cont ∧ q < s.rd CRF_APPEND.NEXT then s.rd CRF_APPEND.NEXT else q), gaps := [] } }
      if cont then s else s.newJournal q
    else if kind = 2 ∧ role = 3 then
      let s := (s.wr EZN_STATUS.ROLE 2).wrB EZN_STATUS.BACKFILL_DONE (field payload 1 1 == 1)
      s.sendState.sendConfirm
    else s))

/-- CATCH_UP_SEND (R465, R482): the next records of a member's stream, or the CLOSE that it crosses, or IN_SYNC once all of it has been sent and taken; at most
RESYNC_MBPS. -/
def execCatchUpSend (m : Fin 4) (s : State) : Host.Outcome State Fault Refusal :=
  let x := s.ezm m
  match x.next with
  | none => .next s
  | some n =>
    if !s.primary ∨ !s.run ∨ s.isFatal .ezoon ∨ !x.started ∨ s.ticks < x.paidAt ∨ (s.bestLink m).isNone then .next s
    else
      let pay := fun (s : State) (b : Nat) (next : Seq) =>
        let t := ceilDiv (b * 1250) (s.rd EZN_CFG.RESYNC_MBPS)
        s.setEzm m { s.ezm m with next := some next, paidAt := s.ticks + t,
                                  confAt := if (s.ezm m).conf.elim true (fun c => decide (n ≤ c + 1)) then s.ticks else (s.ezm m).confAt }
      match s.itemsFrom n with
      | .close b :: rest =>
        let next := (rest.findSome? (fun i => match i with | .record r => some r.seq | .close _ => none)).getD (s.rd EZN_STATUS.EPOCH * 2 ^ 48)
        .next (pay (s.sendTo m { ftype := 7, payload := b }) 64 next)
      | .record r :: rest =>
        let rs := headRecs 0 (.record r :: rest)
        let b := rs.flatMap Rec.bytes
        .next (pay (s.sendTo m { ftype := 1, flags := if x.joining then 4 else 0, payload := b }) b.length ((rs.getLast?.getD r).after))
      | [] =>
        let busy := (List.range 4).any (fun k => s.peer k == (m : Nat) && s.linkPresent k && ((s.ezl k).unacked ++ (s.ezl k).waiting).any (fun f => f.ftype == 1 || f.ftype ≥ 7))
        if x.joining ∧ !busy then
          .next ((s.sendTo m { ftype := 8, payload := leBytes 1 2 ++ leBytes 1 (b2n x.backfill) ++ zeros 22 }).setEzm m { x with joining := false })
        else .next s

/-! ### Timers -/

/-- HB_TIMER (R466): STATE every HB_US. -/
def execHbTimer (s : State) : Host.Outcome State Fault Refusal :=
  if s.run && !s.isFatal .ezoon && decide (2 ≤ s.groupN) && decide (s.ezn.hbAt + usTicks (s.rd EZN_TMO.HB_US) ≤ s.ticks) then .next s.sendState else .next s

/-- PRIMARY_TIMEOUT (R466): in LOCAL, where no failover runs, the follower is detached until it hears the primary. -/
def execPrimaryTimeout (s : State) : Host.Outcome State Fault Refusal :=
  if !s.run ∨ s.rd EZN_STATUS.ROLE ≠ 2 ∨ s.within (s.ezm (s.rd EZN_STATUS.PRIMARY)).heard then .next s
  else if s.rd CRF_CFG.MODE = 0 then .next ((s.wr EZN_STATUS.ROLE 5).sendState)
  else .next s.startElection

/-- ELECT_WAIT_EXPIRE (R467, R468). -/
def execElectWaitExpire (s : State) : Host.Outcome State Fault Refusal :=
  let all := decide (s.electors.length + 2 = s.groupN)
  if s.run && s.rd EZN_STATUS.ROLE == 4 && s.ezn.claim.isNone && (all || decide (s.ezn.electAt + usTicks (s.rd EZN_TMO.ELECT_WAIT_US) ≤ s.ticks)) then .next s.elect
  else .next s

/-- CLAIM_RETRY (R470). -/
def execClaimRetry (s : State) : Host.Outcome State Fault Refusal :=
  match s.ezn.claim with
  | some c =>
    if s.run ∧ s.rd EZN_STATUS.ROLE = 4 ∧ c.at_ + 2 * usTicks (s.rd EZN_TMO.ELECT_WAIT_US) ≤ s.ticks then .next (s.sendClaim (c.epoch + 1) s.electors []) else .next s
  | none => .next s

/-- FOLLOWER_TIMEOUT (R465). -/
def execFollowerTimeout (m : Fin 4) (s : State) : Host.Outcome State Fault Refusal :=
  let x := s.ezm m
  let behind := match x.conf, x.next with
    | some c, some n => decide (c + 1 < n)
    | none, some _ => s.flag (EZN_MEMBER.SLOT_VALID m)
    | _, _ => false
  let stalled := behind && !x.joining && s.flag (EZN_MEMBER.SLOT_VALID m) && decide (x.confAt + usTicks (s.rd EZN_TMO.FOLLOWER_TMO_US) ≤ s.ticks)
  if s.run ∧ s.primary ∧ x.started ∧ (!s.within x.heard ∨ stalled) then .next (s.detach m) else .next s

/-- NEW_EPOCH_OPEN (R474, R475): the marker is LOCAL_OK and the mode has its followers. A mode that changed while the epoch waited is journaled at index 0. -/
def execNewEpochOpen (s : State) : Host.Outcome State Fault Refusal :=
  if !s.run ∨ s.rd EZN_STATUS.ROLE ≠ 1 ∨ !s.ezn.wait ∨ s.ezn.mark.isSome ∨ s.ezn.closing.isSome ∨ s.followers.length < modeNeeds (s.rd CRF_CFG.MODE) then .next s
  else
    let dev : List Rec := match s.ezn.modeRec with
      | some p => [{ port := 0xFE, typ := 6, payload := p }]
      | none => []
    .next { s with ezn := { s.ezn with wait := false, modeRec := none }, merge := { s.merge with device := dev ++ s.merge.device } }

/-- FORM_TIMEOUT (R479): P* has not been heard since the group start. -/
def execFormTimeout (s : State) : Host.Outcome State Fault Refusal :=
  let heard := (s.ezm (s.rd EZN_STATUS.PRIMARY)).heard.elim false (fun t => decide (s.ezn.formAt ≤ t))
  if s.run && s.rd EZN_STATUS.ROLE == 3 && s.rd CRF_CFG.MODE != 0 && !heard && decide (s.ezn.formAt + s.rd EZN_TMO.FORM_S * 1250000000 ≤ s.ticks) then
    .next s.startElection
  else .next s

/-! ### Requests (R489) -/

def execGroupStatus (sl : Fin 256) (s : State) : Host.Outcome State Fault Refusal :=
  .next (s.serve sl 0x0600 (· == 0) true false (fun s _ => (s, some (0, s.statePayload))))

/-- GROUP_HANDOVER (R477): answered with the new epoch once the target has taken it. -/
def execGroupHandover (sl : Fin 256) (s : State) : Host.Outcome State Fault Refusal :=
  .next (s.serve sl 0x0601 (· == 4) true false (fun s pl =>
    let t := field pl 0 1
    if field pl 1 3 ≠ 0 then (s, some (5, []))
    else if s.rd EZN_STATUS.ROLE ≠ 1 then (s, some (0x0100, []))
    else if !(s.followers.contains t) ∨ s.ezn.wait then (s, some (0x0101, []))
    else ({ (s.wr EZN_STATUS.ROLE 6).leavePorts with ezn := { s.ezn with handover := some ((sl : Nat), t, false) } }.handoverStep, none)))

/-- GROUP_PROMOTE (R478). -/
def execGroupPromote (sl : Fin 256) (s : State) : Host.Outcome State Fault Refusal :=
  .next (s.serve sl 0x0602 (· == 4) true false (fun s pl =>
    if field pl 1 3 ≠ 0 then (s, some (5, []))
    else if s.sequencing ∨ s.seesPrimary then (s, some (0x0100, []))
    else if field pl 0 1 ≠ 1 then (s, some (0x0101, []))
    else
      let q := s.rd CRF_LOCAL.SEQ
      let w := s.seenW
      (s.promote (s.highestEpoch + 1) [], some (0, leBytes 8 q ++ leBytes 8 w))))

/-- GROUP_RESYNC (R481). -/
def execGroupResync (sl : Fin 256) (s : State) : Host.Outcome State Fault Refusal :=
  .next (s.serve sl 0x0603 (· == 16) true false (fun s pl =>
    let m := field pl 0 1
    let q := if field pl 8 8 = 0 then s.oldest else field pl 8 8
    if field pl 1 7 ≠ 0 then (s, some (5, []))
    else if !s.primary then (s, some (0x0100, []))
    else if !(s.others.contains m) ∨ s.roleOf m ≠ 3 ∨ !s.presentM m then (s, some (0x0101, []))
    else if q < s.oldest ∨ !(s.journal.any (fun r => r.seq == q)) then (s, some (0x0102, []))
    else (s.startStream m q (q == s.oldest), some (0, leBytes 8 q))))

/-- The FEATURE_LEVEL payload (R486, Table 12-9). -/
def State.levelPayload (s : State) (new : Nat) : List Byte :=
  let all := List.range 4
  let mx := fun m => if m = s.me then s.rd EZN_LEVEL.LEVEL_MAX else if m < s.groupN then s.rd (EZN_MEMBER.LEVEL_MAX m) else 0
  let mn := fun m => if m = s.me then s.rd EZN_LEVEL.LEVEL_MIN else if m < s.groupN then s.rd (EZN_MEMBER.LEVEL_MIN m) else 0
  leBytes 1 (s.rd EZN_STATUS.LEVEL) ++ leBytes 1 new ++ leBytes 1 s.me
    ++ leBytes 1 (all.map (fun m => if m = s.me ∨ s.followers.contains m then 2 ^ m else 0)).sum
    ++ all.flatMap (fun m => leBytes 1 (mx m)) ++ all.flatMap (fun m => leBytes 1 (mn m)) ++ zeros 52

/-- GROUP_RAISE_LEVEL (R486): answered when the FEATURE_LEVEL record is sequenced. -/
def execGroupRaiseLevel (sl : Fin 256) (s : State) : Host.Outcome State Fault Refusal :=
  .next (s.serve sl 0x0604 (· == 4) true false (fun s pl =>
    let p := field pl 0 1
    if field pl 1 3 ≠ 0 then (s, some (5, []))
    else if s.rd EZN_STATUS.ROLE ≠ 1 ∧ s.rd EZN_STATUS.ROLE ≠ 0 then (s, some (0x0100, []))
    else if p ≤ s.rd EZN_STATUS.LEVEL ∨ s.groupMax < p then (s, some (0x0101, []))
    else if !(s.others.all (fun m => s.followers.contains m && s.flag (EZN_MEMBER.BACKFILL_DONE m))) then (s, some (0x0102, []))
    else if s.flag EZN_LEVEL.RAISE_PENDING ∨ s.ezn.raising.isSome then (s, some (0x0103, []))
    else ({ s with ezn := { s.ezn with raising := some (sl : Nat) } }.deviceRec 8 (s.levelPayload p), none)))

end Sys2Proof.Machine
end

