-- ==== Sys2Proof/Machine/Sections.lean ====
section
/-!
DEFINITION. Configuration sections: which section holds which field (13 Table 13-8, R499), writing a section's fields and items, and the checks that Roaster
runs on a section by itself and on sections together (13 R502, R504; 03 R97, R115; 07 R251, R267, R275; 08 R316; 09 R341, R345; 10 R387, R388; 11 R422,
R438; 12 R458; 14 R549).
-/

namespace Sys2Proof.Machine

/-! ### Whose field it is -/

/-- The section that holds the LCK field at bit `lo` of the register at offset `b` (13 Table 13-8). -/
def ownerOf (b lo : Nat) : Nat :=
  if b < 0x1000 then 5
  else if b < 0x10000 then 4
  else if b < 0x12000 then 6
  else if b < 0x20000 then 3
  else if b = 0x20000 ∧ lo = 0 then 8
  else if b < 0x40000 then 7
  else if b < 0x60000 then 9
  else if b < 0x80000 then 0x0D
  else if b < 0x90000 then 1
  else if b < 0xA0000 then 9
  else if b < 0xB0000 then 0x0E
  else if b < 0xC0000 then 8
  else if b < 0xD0000 then 1
  else if b < 0xE0000 then 0x0F
  else if b < 0xE8000 then 2
  else if b < 0x100000 then 1
  else if b < 0x180000 then 0x0B
  else if 0x500 ≤ (b - 0x1000000) % 0x20000 ∧ (b - 0x1000000) % 0x20000 < 0x600 then 0x0A
  else 0x10 + (b - 0x1000000) / 0x200000

/-- The register is a DYE_TCTL_s of quadrant `q` (R499). -/
def isTctl (b q : Nat) : Bool :=
  decide (0x1000000 + q * 0x200000 ≤ b) && decide (b < 0x1000000 + (q + 1) * 0x200000) && decide (0x10000 ≤ b % 0x20000)
    && decide (0x100 ≤ b % 0x1000) && decide (b % 0x1000 < 0x300) && b % 0x40 == 0

/-- The fields that a register item of section `id` writes (R499). -/
def itemFields (r : RegRow) (b id : Nat) : List RegField :=
  if 0x10 ≤ id ∧ isTctl b (id - 0x10) then r.fields.filter (fun f => f.lo == 8)
  else r.fields.filter (fun f => f.ty == .LCK && ownerOf b f.lo == id)

/-- A register item has a register of the section, of its own width, and no other bit set (R499). -/
def regFormOk (id width off value : Nat) : Bool :=
  match regAt off with
  | none => false
  | some (r, b) =>
    let fs := itemFields r b id
    b == off && r.bits == 8 * width && !fs.isEmpty
      && value == (fs.map (fun f => bits value f.lo f.width * 2 ^ f.lo)).sum

/-- Write the fields of a register item. -/
def State.putReg (s : State) (id off value : Nat) : State :=
  if s.fused off then s
  else match regAt off with
    | none => s
    | some (r, b) => (itemFields r b id).foldl (fun s f => s.wr (f.at b) (bits value f.lo f.width)) s

/-- A field's key belongs to section `id`. -/
def ownsKey (id key : Nat) : Bool :=
  match regAt (key / 8) with
  | none => false
  | some (r, b) => ownerOf b (key - 8 * b) == id && r.fields.any (fun f => f.ty == .LCK && f.lo == key - 8 * b)

/-- Every field of section `id` takes its default, and what else it holds is empty (00 R19). -/
def State.clearSec (s : State) (id : Nat) : State :=
  let s := { s with regs := s.regs.filter (fun e => !ownsKey id e.1) }
  match id with
  | 4 => { s with tamp := { s.tamp with laneMode := [] } }
  | 9 => { s with hq := { s.hq with desc := [] } }
  | 0x0A => { s with dy := { s.dy with sessions := [] } }
  | _ => s

/-- The place of SEQ_PORT's fields in a mode word, plus 1 (R79, R499). -/
def modeOf (v : Nat) : Nat := (v &&& 0x3FFE) + 1

/-- What an item configures: its fields, and the parts of the configuration held in structures. -/
def State.putItem (s : State) (id : Nat) (it : CfgItem) : State :=
  match it with
  | .reg _ off v => s.putReg id off v
  | .range k c f n i => { s with dy := { s.dy with sessions := s.dy.sessions ++ [{ cluster := k, chan := c, first := f, count := n, index := i }] } }
  | .ring r dir d => { s with hq := { s.hq with desc := FMap.set {} s.hq.desc (r + if dir then 32768 else 0) d } }
  | .lane n m => { s with tamp := { s.tamp with laneMode := FMap.set 0 s.tamp.laneMode n (modeOf m) } }
  | _ => s

/-- The configuration as it stands with a section's items in force. -/
def State.trial (s : State) (id : Nat) (its : List CfgItem) : State := its.foldl (fun s it => s.putItem id it) (s.clearSec id)

/-! ### Checks: a refusal is CAUSE and WHERE -/

def chk (ok : Bool) (cause wh : Nat) : Option (Nat × Nat) := if ok then none else some (cause, wh)

/-- The register that holds a field. -/
def Fld.base (f : Fld) : Nat := match regAt (f.key / 8) with | some (_, b) => b | none => f.key / 8

/-- A field's range (CAUSE 3). -/
def State.inRange (s : State) (f : Fld) (lo hi : Nat) : Option (Nat × Nat) := chk (decide (lo ≤ s.rd f) && decide (s.rd f ≤ hi)) 3 f.base


/-- The clusters of a quadrant on the part. -/
def State.quadrant (s : State) (q : Nat) : List Nat := ((List.range 16).map (· + 16 * q)).filter s.hasCluster
def State.channels (s : State) : List Nat := (List.range 32).filter s.hasChannel

/-- A field's range, for a register of a unit that may be off: it counts when the unit is on, or when the section carries an item for the register (00 R19; a
register of a unit that is off and has no item is not refused: DESIGN CHOICE, notes/assumptions/80). -/
def State.rangeIf (s : State) (its : List CfgItem) (on : Bool) (f : Fld) (lo hi : Nat) : Option (Nat × Nat) :=
  if on || its.any (fun i => match i with | .reg _ off _ => off == f.base | _ => false) then s.inRange f lo hi else none

/-- The ranges that the register descriptions give, by section. -/
def State.ranges (s : State) (id : Nat) (its : List CfgItem) : List (Option (Nat × Nat)) :=
  match id with
  | 1 => [s.inRange PCI_DMA_CFG.MAX_RD 0 5, s.inRange CFG_CTRL.APPLY_LIMIT_MS 1 60000]
  | 2 => [s.inRange PWR_LIMIT.TEMP_WARN_C 60 110, s.inRange PWR_LIMIT.POWER_WARN_W 50 400]
  | 5 => (List.range 4).flatMap (fun k => [s.inRange (TMP_PTP_CFG.TRANSPORT k) 0 2, s.inRange (TMP_PTP_CFG.LOG_ANN k) 0 6, s.inRange (TMP_PTP_CFG.LOG_SYNC k) 0 7,
          s.inRange (TMP_PTP_CFG.LOG_DREQ k) 0 7])
      ++ [s.inRange TMP_SRC_CFG.PPS_MODE 0 2, s.inRange TMP_SERVO_CFG.BW_MHZ 1 255, s.inRange TMP_SERVO_CFG.LOCK_N 1 15, s.inRange TMP_PPS_CFG.WIDTH_US 1 500000]
  | 6 => [s.inRange SEQ_CFG.WINDOW_NS 64 10000, s.inRange SEQ_CFG.PARSE_LIMIT_NS 100 100000, s.inRange SEQ_CFG.ROLL_LOG2 32 48]
  | 7 => [s.inRange CRF_CFG.FLUSH_NS 1000 1000000, s.inRange CRF_CFG.CKPT_STRIPES 1 255, s.inRange CRF_VERDICT_CFG.DEADLINE_NS 200 100000]
  | 8 => [s.inRange CRF_CFG.MODE 0 2, s.inRange EZN_CFG.MEMBERS 1 4, s.inRange EZN_CFG.RESYNC_MBPS 100 50000, s.inRange EZN_TMO.HB_US 1 255,
          s.inRange EZN_TMO.PRIMARY_TMO_US 50 65535, s.inRange EZN_TMO.ELECT_WAIT_US 10 65535, s.inRange EZN_TMO.FOLLOWER_TMO_US 100 65535,
          s.inRange EZN_TMO.FORM_S 1 255]
  | 9 => [s.inRange HQ_CFG.RETRY_NS 100 65535, s.inRange HQ_CFG.RETRY_MAX 1 15] ++ (List.range 256).map (fun n => s.inRange (HQ_SBKLG.LIMIT_MIB n) 1 4096)
  | 0x0B => s.channels.flatMap fun c =>
      let on := s.flag (NDC_CFG.EN c)
      [s.rangeIf its on (NDC_CFG.RATE c) 0 5, s.rangeIf its on (NDC_CFG.BPC c) 3 4, s.rangeIf its on (NDC_GEOM.PAGES_NATIVE c) 1 4096,
            s.rangeIf its on (NDC_GEOM.BLOCKS c) 0 16384, s.inRange (NDC_REF_CFG.SCAN_DAYS c) 1 255]
        ++ (List.range 4).map (fun k => s.inRange (NDC_MARK.BYTE c k) 0 18431)
        ++ (List.range 16).map (fun l => s.inRange (NDC_LUN_CFG.SPARE_PCT c l) 2 30)
  | 0x0D => [s.inRange HQ_BLK_CFG.MAX_OUT 1 8192, s.inRange HQ_BLK_CFG.RING_MAX 1 1023, s.inRange HQ_BLK_CFG.OP_PCT 7 50, s.inRange HQ_BLK_CFG.MAP_CKPT_GIB 1 4095]
  | 0x0E => [s.inRange CPH_CFG.POLL_NS 100 65535, s.inRange CPH_CFG.SEAL_UNITS 1 96, s.inRange CPH_CFG.OOS_THR 1 15]
      ++ (List.range 64).map (fun q => s.rangeIf its (s.flag (CPH_JQA.EN q)) (CPH_JQA.ENTRIES_LOG2 q) 6 16)
  | 0x0F => [s.inRange ERR_CFG.ESC_WAIT_MS 1 65535]
  | _ => if id < 0x10 then [] else (s.quadrant (id - 0x10)).flatMap fun k =>
      s.inRange (CLU_CFG.LEASE_US k) 1 16777215
        :: (List.range 256).map (fun c => s.rangeIf its (s.flag (CLU_CHAN_CFG.EN k c)) (CLU_CHAN_CFG.DEPTH k c) 1 32)

/-! #### PORT (03 R115) -/

/-- The rows of 01 Table 01-6: SPEED, FEC, LANES_LOG2. -/
def portRows : List (Nat × Nat × Nat) :=
  [(0, 0, 0), (1, 0, 0), (1, 1, 0), (2, 2, 0), (3, 1, 2), (3, 2, 0), (3, 2, 1), (4, 2, 1), (4, 2, 2), (5, 2, 2)]

/-- A port, enabled or not: LANE0, MAXLEN and the encodings; an enabled one: its row, its lanes. -/
def State.portChecks (s : State) : List (Option (Nat × Nat)) :=
  (List.range 64).map fun p =>
    let others := (s.enabledPorts.filter (· != p)).flatMap s.lanesOf
    chk (s.rd (SEQ_PORT.LANE0 p) % 2 ^ s.rd (SEQ_PORT.LANES_LOG2 p) == 0 && decide (64 ≤ s.rd (SEQ_PORT.MAXLEN p)) && decide (s.rd (SEQ_PORT.MAXLEN p) ≤ 9216)
      && decide (s.rd (SEQ_PORT.SPEED p) ≤ 5) && decide (s.rd (SEQ_PORT.FEC p) ≤ 2) && decide (s.rd (SEQ_PORT.LANES_LOG2 p) ≤ 2)
      && (!s.flag (SEQ_PORT.EN p) || (portRows.contains (s.rd (SEQ_PORT.SPEED p), s.rd (SEQ_PORT.FEC p), s.rd (SEQ_PORT.LANES_LOG2 p))
        && (s.lanesOf p).all (fun l => s.hasLane l && !others.contains l)))) 3 (SEQ_PORT.EN p).base

/-! #### GROUP (12 R458) -/

def State.groupChecks (s : State) : List (Option (Nat × Nat)) :=
  let n := s.rd EZN_CFG.MEMBERS
  let m := s.rd CRF_CFG.MODE
  [chk (n != 1 || m == 0) 3 CRF_CFG.MODE.base, chk (m != 1 || decide (2 ≤ n)) 3 CRF_CFG.MODE.base, chk (m != 2 || decide (3 ≤ n)) 3 CRF_CFG.MODE.base,
   chk (decide (s.rd EZN_CFG.MEMBER < n) && decide (s.rd EZN_CFG.PRIMARY0 < n)) 3 EZN_CFG.MEMBERS.base,
   chk ((List.range n).all (fun i => i == s.rd EZN_CFG.MEMBER
     || (List.range 4).any (fun k => s.flag (EZN_LINK_CFG.EN k) && s.rd (EZN_LINK_CFG.PEER k) == i))) 3 (EZN_LINK_CFG.EN 0).base]

/-! #### RING_LAYOUT (08 R316; 09 R341, R345, Table 09-1) -/

def mask (lo w : Nat) : Nat := (2 ^ w - 1) * 2 ^ lo
def inMask (v m : Nat) : Bool := (v &&& m) == v

/-- The zero bits of a descriptor (Table 09-1). -/
def RDesc.formOk (d : RDesc) (dir : Bool) : Bool :=
  d.w0 % 4096 == 0 &&
  (if dir then inMask d.w1 (mask 0 7 + mask 16 8 + mask 48 6) && bitAt d.w1 6 && inMask d.w2 (mask 0 40)
   else inMask d.w1 (mask 0 6 + mask 7 2 + (if d.cls = 0 then mask 9 1 else 0) + mask 10 1 + mask 16 8 + (if d.cls < 2 then mask 32 15 else 0))
     && decide (d.cls < 3) && inMask d.w2 (mask 0 11 + (if d.ahead then mask 11 16 else 0) + (if d.cls = 2 then mask 32 13 else 0)) && d.w3 == 0)

def RDesc.pollNs (d : RDesc) : Nat := bits d.w2 11 16

/-- One enabled descriptor against the rest of the layout (R345). -/
def State.ringOk (s : State) (r : Nat) (dir : Bool) (d : RDesc) : Bool :=
  !d.en ||
  (decide (12 ≤ d.log2) && decide (d.log2 ≤ 26) &&
   (dir || (d.weight != 0 && (!d.ahead || decide (100 ≤ d.pollNs))
     && (d.cls == 2 || ((s.ddesc d.pair).en && (s.ddesc d.pair).slice == d.slice)) && (d.cls != 2 || s.hasCluster (d.thread / 128)))
     && (!(s.ddesc r).en || (s.ddesc r).slice == d.slice)))

/-- No record can be routed to more than 8 delivery rings (R345). -/
def State.routesOk (s : State) : Bool :=
  let ds := s.dlvRings.map s.ddesc
  [0, 1].all (fun b => ds.all (fun x => decide ((ds.filter (fun d => bitAt d.route b && decide (d.sessLo ≤ x.sessLo) && decide (x.sessLo ≤ d.sessHi))).length ≤ 8)))
    && [2, 3, 4, 5].all (fun b => decide ((ds.filter (fun d => bitAt d.route b)).length ≤ 8))

/-- No two enabled slices share a PASID (08 R316). -/
def State.pasidsOk (s : State) : Bool :=
  let l := (List.range 256).filter (fun n => s.flag (SLC_CFG.EN n) && s.flag (SLC_CFG.PASID_EN n))
  l.all (fun n => l.all (fun m => n == m || s.rd (SLC_CFG.PASID n) != s.rd (SLC_CFG.PASID m)))

def State.ringChecks (s : State) (its : List (Nat × CfgItem)) : List (Option (Nat × Nat)) :=
  its.map (fun i => match i.2 with
    | .ring r dir d => if !d.formOk dir then some (2, i.1) else chk (s.ringOk r dir d) 3 i.1
    | _ => none)
  ++ [chk s.routesOk 3 0, chk s.pasidsOk 3 (SLC_CFG.EN 0).base]

/-! #### SESSION_MAP and ENGINE: tables, ranges, frame areas, memory targets -/

/-- The resident part of each table lies in the cluster's SRAM, and is part of the table (05 CLU_TBL_t, CLU_TBLS_t). -/
def State.tableChecks (s : State) : List (Option (Nat × Nat)) :=
  ((List.range 64).filter s.hasCluster).flatMap fun k => (List.range 16).map fun t =>
    chk (decide (s.rd (CLU_TBLS.RES k t) ≤ s.rd (CLU_TBL.COUNT k t))
      && decide (s.rd (CLU_TBL.BASE_64 k t) * 64 + s.rd (CLU_TBLS.RES k t) * s.entrySize k t ≤ 2 ^ 20)) 3 (CLU_TBL.EN k t).base

/-- The parts of a block's TARGET (Table 13-7), and whether a block of `n` bytes may stand there in section `id`. -/
def tgtSpace (t : Nat) : Nat := bits t 56 8
def tgtAddr (t : Nat) : Nat := bits t 0 56
def State.blockOk (s : State) (id t n : Nat) : Bool :=
  let a := tgtAddr t
  let u := a / 0x100000
  let o := a % 0x100000
  match tgtSpace t with
  | 1 => decide (0x10 ≤ id) && u / 256 == id - 0x10 && s.hasCluster (u / 16) && decide (o + n ≤ 0x8000)
  | 2 => decide (0x10 ≤ id) && u / 256 == id - 0x10 && s.hasCluster (u / 16) && decide (o + n ≤ 0x10000)
  | 3 => (id == 0x0A || (decide (0x10 ≤ id) && u / 16 == id - 0x10)) && decide (u < 64) && s.hasCluster u && decide (o + n ≤ 0x100000)
  | 4 => id != 1 && decide (a + n ≤ 60 * 2 ^ 30)
  | 5 => id == 1
  | _ => false

/-- Table `t` of a cluster holds the entries from `i`, `n` of them. -/
def State.tableHolds (s : State) (k t i n : Nat) : Bool :=
  decide (k < 64) && s.hasCluster k && decide (t < 16) && s.flag (CLU_TBL.EN k t) && decide (i + n ≤ s.rd (CLU_TBL.COUNT k t))

/-- DYE_FRM areas lie in the shared part of engine data memory (04 DYE_FRM). -/
def State.frameChecks (s : State) (q : Nat) : List (Option (Nat × Nat)) :=
  (s.quadrant q).flatMap fun k => (List.range 16).flatMap fun e => (List.range 8).map fun i =>
    let g := 16 * k + e
    let b := s.rd (DYE_FRM.BASE g i)
    chk (!s.flag (DYE_FRM.EN g i) || (decide (0x8000 ≤ b) && b % 64 == 0 && decide (b + s.rd (DYE_FRM.SIZE g i) ≤ 0x10000))) 3 (DYE_FRM.EN g i).base

/-! #### NAND (07 R251) and DRIP (07 R267, R275) -/

def State.nandLuns (s : State) (c : Nat) : List Nat := if s.flag (NDC_CFG.EN c) then (List.range 16).filter (fun l => s.flag (NDC_LUN_CFG.PRESENT c l)) else []

def State.nandChecks (s : State) : List (Option (Nat × Nat)) :=
  s.channels.map (fun c => chk (!s.flag (NDC_CFG.EN c)
    || ((s.nandLuns c).any (fun l => s.rd (NDC_LUN_CFG.REGION c l) == 1) && (s.nandLuns c).any (fun l => s.rd (NDC_LUN_CFG.REGION c l) == 2))) 3 (NDC_CFG.EN c).base)
  ++ [chk (decide ((s.channels.map (fun c => (s.nandLuns c).length * (s.rd (NDC_GEOM.BLOCKS c) * s.rd (NDC_GEOM.PAGES_NATIVE c) * 16384))).sum ≤ 64 * 2 ^ 40)) 6
        (NDC_GEOM.BLOCKS 0).base]

def ucodeUsed (u : List Byte) : Nat := field u 4 2
def ucodeEntry (u : List Byte) (k : Nat) : Nat := field u (8 + 4 * k) 4
def ucodeWord (u : List Byte) (i : Nat) : Nat := field u (16512 + 8 * i) 8

/-- A microcode set by itself (R275, Table 07-11). -/
def ucodeOk (u : List Byte) : Bool :=
  let n := ucodeUsed u
  decide (1 ≤ n) && decide (n ≤ 4096) && field u 6 2 == 0 && field u 104 24 == 0 && decide (16512 + 8 * n ≤ u.length)
    && (List.range 16).all (fun k => decide (ucodeEntry u k < 8192) && (!bitAt (ucodeEntry u k) 12 || decide (ucodeEntry u k % 4096 < n)))
    && (List.range 32).all (fun t => decide (field u (72 + t) 1 ≤ 64))
    && (List.range n).all (fun i =>
      let w := ucodeWord u i
      let op := bits w 58 6
      let a := bits w 48 4
      decide (op ≤ 16) && (op != 8 || decide (a ≤ 3)) && (op != 10 || decide (a ≤ 6)) && ((op != 10 && op != 11) || decide (bits w 0 12 < n)))

/-- The operation kinds that the NAND section uses on the channels of a mask (R267). -/
def State.kindsUsed (s : State) (m : Nat) : List Nat :=
  let cs := s.channels.filter (fun c => bitAt m c && s.flag (NDC_CFG.EN c))
  if cs.isEmpty then []
  else [0, 1, 2, 3, 5, 7]
    ++ (if cs.any (fun c => (s.nandLuns c).any (fun l => 2 ≤ s.rd (NDC_LUN_CFG.REGION c l))) then [4, 6, 8] else [])
    ++ (if cs.any (fun c => (List.range 4).any (fun k => s.flag (NDC_MARK.EN c k))) then [11] else [])

def State.hasKinds (s : State) (m : Nat) (u : List Byte) : Bool := (s.kindsUsed m).all (fun k => bitAt (ucodeEntry u k) 12)

/-! #### STORAGE (10 R387, R388) -/

def State.nsSum (s : State) : Nat := ((List.range 16).map (fun n => if s.flag (HQ_BLK_NS.EN n) then s.rd (HQ_BLK_NS.SIZE n) else 0)).sum

/-- The good, non-spare logical blocks of a LUN: what it was formatted with, or all its blocks less the spares (DESIGN CHOICE, notes/assumptions/70). -/
def State.lunBlocks (s : State) (c l : Nat) : Nat :=
  let x := FMap.get {} s.nand.lun (16 * c + l)
  if x.valid then x.logical else s.rd (NDC_GEOM.BLOCKS c) - s.rd (NDC_GEOM.BLOCKS c) * s.rd (NDC_LUN_CFG.SPARE_PCT c l) / 100

/-- The BLOCK LUNs, in ascending channel and index. -/
def State.blockLuns (s : State) : List (Nat × Nat) :=
  s.channels.flatMap (fun c => ((s.nandLuns c).filter (fun l => s.rd (NDC_LUN_CFG.REGION c l) == 3)).map (fun l => (c, l)))

/-- U, for the geometry of the first BLOCK LUN's channel (R388). -/
def State.usableU (s : State) : Nat :=
  match s.blockLuns with
  | [] => 0
  | (c, _) :: _ =>
    let b := s.rd (NDC_CFG.BPC c)
    ((s.blockLuns.map (fun p => s.lunBlocks p.1 p.2)).sum - 4) * s.rd (NDC_GEOM.PAGES_NATIVE c) * 4 * (100 - s.rd HQ_BLK_CFG.OP_PCT) * (4 * b - 1) / (400 * b)

/-! #### Items, and all the checks of one section -/

/-- The form of a context item (11 R420, R423, Table 11-4). -/
def ctxCheck (form : Nat) (body : List Byte) (off : Nat) : Option (Nat × Nat) :=
  let src := match form with | 1 => [1] | 2 => [2] | 3 => [1, 2, 3] | _ => [3]
  let len := match form with | 1 => 128 | 2 => if field body 5 1 = 64 then 236 else 204 | 3 => 160 | _ => 64
  if form = 0 ∨ 4 < form ∨ body.length ≠ len ∨ !ctxImageOk (body.take 64) src then some (2, off)
  else chk (usageOk (body.take 64)) 3 off

def rising : List (Nat × Int) → Bool
  | a :: b :: l => decide (a.1 < b.1) && rising (b :: l)
  | _ => true

/-- The check of one item; `t` is the configuration with the section in it. -/
def State.itemCheck (t : State) (id : Nat) (i : Nat × CfgItem) : Option (Nat × Nat) :=
  match i.2 with
  | .reg w off v => chk (regFormOk id w off v) 2 off
  | .block tgt d => chk (t.blockOk id tgt d.length) 3 i.1
  | .range k _ _ _ _ => chk (decide (k < 64) && t.hasCluster k) 3 i.1
  | .start k _ => chk (decide (16 * (id - 0x10) ≤ k) && decide (k < 16 * (id - 0x10) + 16) && t.hasCluster k) 3 i.1
  | .move a b tb si di n => chk (t.tableHolds b tb di n && decide (a < 64) && t.hasCluster a && decide (si + n < 2 ^ 32)) 3 i.1
  | .ctx _ form body => ctxCheck form body i.1
  | .ring _ _ _ => none
  | .leap es => chk (rising es) 3 i.1
  | .lane n _ => chk (decide (n < 64)) 3 i.1
  | .drip _ u => chk (ucodeOk u) 2 i.1

/-- The section's own checks (R502, R512, R513); none: it passes. -/
def State.ownChecks (s : State) (id : Nat) (b : List Byte) : Option (Nat × Nat) :=
  if !secFormOk b id then some (2, 0)
  else match secItems b with
    | .error off => some (2, off)
    | .ok its =>
      let t := s.trial id (its.map (fun i => i.2))
      (its.map (t.itemCheck id) ++ t.ranges id (its.map (fun i => i.2)) ++ (match id with
        | 3 => t.portChecks
        | 8 => t.groupChecks
        | 9 => t.ringChecks its
        | 0x0A => t.tableChecks
        | 0x0B => t.nandChecks
        | 0x0D => [chk (decide (t.nsSum ≤ t.rd HQ_BLK_MAP.SIZE_4K * 512)) 3 HQ_BLK_MAP.BASE_4K.base]
        | _ => if 0x10 ≤ id then t.frameChecks (id - 0x10)
            ++ (t.quadrant (id - 0x10)).map (fun k => chk (decide (((List.range 256).map (fun c =>
                if t.flag (CLU_CHAN_CFG.EN k c) then t.rd (CLU_CHAN_CFG.DEPTH k c) else 0)).sum ≤ 2048)) 6 (CLU_CHAN_CFG.EN k 0).base)
          else [])).findSome? (fun x => x)

/-! ### Checks that span sections (R502): two section IDs, and whether they agree -/

/-- An area of the usable GDDR7 space: its section, its base and size in 4 KiB units, and whether it is a cipher data window (R504). -/
structure Area where
  id : Nat
  base : Nat
  size : Nat
  data : Bool := false
  deriving DecidableEq, Repr

def Area.over (a b : Area) : Bool := decide (a.base < b.base + b.size) && decide (b.base < a.base + a.size)

/-- The areas against which windows are checked (R504): staging, the Pour gate buffer, the backlog pool, the block map, the download buffer. -/
def State.coreAreas (s : State) : List Area :=
  [{ id := 7, base := s.rd CRF_STAGE.BASE_4K, size := s.rd CRF_STAGE.SIZE_4K }, { id := 7, base := s.rd PRG_BUF.BASE_4K, size := 262144 },
   { id := 9, base := s.rd HQ_BKLG.BASE_4K, size := s.rd HQ_BKLG.SIZE_4K }, { id := 0x0D, base := s.rd HQ_BLK_MAP.BASE_4K, size := s.rd HQ_BLK_MAP.SIZE_4K },
   { id := 1, base := s.rd CFG_DLBUF.BASE_4K, size := 65536 }].filter (fun a => 0 < a.size)

/-- The other areas: table spills, job queues and their data windows. -/
def State.moreAreas (s : State) : List Area :=
  (((List.range 64).filter s.hasCluster).flatMap fun k => (List.range 16).filterMap fun t =>
    let n := (s.rd (CLU_TBL.COUNT k t) - s.rd (CLU_TBLS.RES k t)) * s.entrySize k t
    if s.flag (CLU_TBL.EN k t) ∧ 0 < n then some { id := 0x0A, base := s.rd (CLU_TBLS.SPILL_4K k t), size := ceilDiv n 4096 } else none)
  ++ (((List.range 64).filter (fun q => s.flag (CPH_JQA.EN q))).flatMap (fun q =>
    [({ id := 0x0E, base := s.rd (CPH_JQA.BASE_4K q), size := ceilDiv (64 * 2 ^ s.rd (CPH_JQA.ENTRIES_LOG2 q)) 4096 } : Area),
     { id := 0x0E, base := s.rd (CPH_JQD.DATA_BASE_4K q), size := s.rd (CPH_JQD.DATA_SIZE_4K q), data := true }])).filter (fun a => 0 < a.size)

/-- Windows that software reaches GDDR7 through. -/
def State.winAreas (s : State) : List Area :=
  (((List.range 64).filter s.hasCluster).flatMap fun k => ((List.range 4).filter (fun i => s.flag (CLU_GWIN.EN k i))).map fun i =>
    ({ id := 0x10 + k / 16, base := s.rd (CLU_GWIN.BASE_4K k i), size := s.rd (CLU_GWIN.SIZE_4K k i) } : Area))
  ++ (if 0 < s.rd PCI_PEER_AREA.SIZE_4K then [{ id := 1, base := s.rd PCI_PEER_AREA.BASE_4K, size := s.rd PCI_PEER_AREA.SIZE_4K }] else [])

/-- R504. -/
def State.areaSpans (s : State) : List (Nat × Nat × Bool) :=
  let core := s.coreAreas
  let all := core ++ s.moreAreas
  all.map (fun a => (a.id, a.id, decide (a.base + a.size ≤ 15728640)))
  ++ (List.range all.length).flatMap (fun i => match all.drop i with
    | [] => []
    | a :: rest => rest.map (fun b => (a.id, b.id, !a.over b || (a.data && b.data) || (a.id == 0x0A && b.id == 0x0A))))
  ++ s.winAreas.flatMap (fun w => core.map (fun a => (w.id, a.id, !w.over a)))

/-- The context items of the cipher section. -/
def ctxItems (its : List CfgItem) : List (Nat × List Byte) := its.filterMap (fun i => match i with | .ctx c _ b => some (c, b) | _ => none)

/-- R422: the contexts that the journal and storage sections name, against the cipher section's. A context that the cipher section does not load is empty. -/
def State.ctxSpans (s : State) (cipher : List CfgItem) : List (Nat × Nat × Bool) :=
  let cs := ctxItems cipher
  [(7, 0x0E, (cs.filter (fun c => c.1 == s.rd CRF_CFG.SEAL_CTX)).all (fun c => bitAt (field c.2 3 1) 6 && field c.2 6 2 == s.rd CRF_CFG.KEY_ID))]
  ++ (List.range 16).map (fun n => (0x0D, 0x0E, !(s.flag (HQ_BLK_NS.EN n) && s.flag (HQ_BLK_NS.ENC n))
      || (cs.filter (fun c => c.1 == s.rd (HQ_BLK_NS.CTX n))).any (fun c => bitAt (field c.2 3 1) 7)))

/-- R549. -/
def State.fallbackSpans (s : State) : List (Nat × Nat × Bool) :=
  ((List.range 64).filter (fun k => s.hasCluster k && s.flag (ERR_CLU_FB.EN k))).map fun k =>
    let f := s.rd (ERR_CLU_FB.FB_CLUSTER k)
    let b := s.rd (ERR_CLU_FB.FB_BASE k)
    (0x0A, 0x0F, f != k && s.hasCluster f
      && (List.range 16).all (fun t => !s.flag (CLU_TBL.EN k t)
        || (s.flag (CLU_TBL.EN f t) && decide (b + s.rd (CLU_TBL.COUNT k t) ≤ s.rd (CLU_TBL.COUNT f t))
          && (s.dy.sessions.filter (fun r => r.cluster == f)).all (fun r => decide (r.index + r.count ≤ b) || decide (b + s.rd (CLU_TBL.COUNT k t) ≤ r.index))))
      && (s.dy.sessions.filter (fun r => r.cluster == k)).all (fun r => s.flag (CLU_CHAN_CFG.EN f r.chan)))

/-- Every check that spans sections, on a configuration whose cipher and microcode items are given. -/
def State.spans (s : State) (cipher drip : List CfgItem) : List (Nat × Nat × Bool) :=
  [(5, 6, decide (s.rd TMP_RECAL_CFG.LIMIT_PS ≤ s.rd SEQ_CFG.GUARD_PS))]
  ++ s.ctxSpans cipher ++ s.areaSpans ++ s.fallbackSpans
  ++ ((List.range 64).filter (fun q => s.flag (CPH_JQA.EN q) && s.hasCluster q && 0 < s.rd (CPH_JQD.DATA_SIZE_4K q))).map (fun q =>
      (0x0E, 0x10 + q / 16, s.gwinOk q (s.rd (CPH_JQD.DATA_BASE_4K q) * 4096) (s.rd (CPH_JQD.DATA_SIZE_4K q) * 4096) false))
  ++ drip.map (fun i => match i with | .drip m u => (0x0B, 0x0C, s.hasKinds m u) | _ => (0x0B, 0x0C, true))
  ++ [(0x0B, 0x0D, decide (s.nsSum ≤ s.usableU))]
  ++ ((List.range 64).filter s.hasCluster).flatMap (fun k => (List.range 16).flatMap fun e => (List.range 8).map fun i =>
      (3, 0x10 + k / 16, !s.flag (DYE_FRM.EN (16 * k + e) i) || decide (s.rd (SEQ_PORT.MAXLEN (s.rd (DYE_FRM.PORT (16 * k + e) i))) ≤ s.rd (DYE_FRM.SIZE (16 * k + e) i))))

/-- The items of a section in force. -/
def State.itemsInForce (s : State) (id : Nat) : List CfgItem := itemsOf (s.sec id).bytes

/-- The checks that span sections, for a section against those in force (R512, R513). -/
def State.spanCheck (s : State) (id : Nat) (b : List Byte) : Option (Nat × Nat) :=
  let its := itemsOf b
  let t := s.trial id its
  let pick := fun n => if n = id then its else s.itemsInForce n
  chk ((t.spans (pick 0x0E) (pick 0x0C)).all (fun x => (x.1 != id && x.2.1 != id) || x.2.2)) 4 0

/-- CRCs, own checks and spanning checks (R512, R513). -/
def State.fullCheck (s : State) (c : Cand) (id : Nat) : Option (Nat × Nat) :=
  if !c.crc then some (1, 0)
  else (s.ownChecks id c.bytes).orElse (fun _ => s.spanCheck id c.bytes)

end Sys2Proof.Machine
end

