-- ==== Sys2Proof/Machine/Apply.lean ====
section
/-!
DEFINITION. Loading and applying sections (13 R499, R506, R511 to R517), the requests of 13 Table 13-10, and attestation (13 R507, R509, R510).
-/

namespace Sys2Proof.Machine

/-! ### Writing what a section's items hold besides fields -/

/-- Write bytes at a block's TARGET (Table 13-7). -/
def State.putBlock (s : State) (t : Nat) (d : List Byte) : State :=
  let a := tgtAddr t
  let u := a / 0x100000
  let o := a % 0x100000
  match tgtSpace t with
  | 1 => { s with dy := { s.dy with imem := FMap.set [] s.dy.imem u (Memory.writeBytes (FMap.get [] s.dy.imem u) o d) } }
  | 2 => { s with dy := { s.dy with dmem := FMap.set [] s.dy.dmem u (Memory.writeBytes (FMap.get [] s.dy.dmem u) o d) } }
  | 3 => { s with dy := { s.dy with sram := FMap.set [] s.dy.sram u (Memory.writeBytes (FMap.get [] s.dy.sram u) o d) } }
  | 4 => { s with gddr := Memory.writeBytes s.gddr a d }
  | _ => { s with ro := { s.ro with presets := Memory.writeBytes s.ro.presets a d } }

/-- The bytes of entry `i` of table `t` of cluster `k`, and writing them. -/
def State.entryBytes (s : State) (k t i : Nat) : List Byte :=
  match s.entry k t i with
  | some (.resident a) => Memory.readBytes (FMap.get [] s.dy.sram k) a (s.entrySize k t)
  | some (.spilled a) => Memory.readBytes s.gddr a (s.entrySize k t)
  | none => []

def State.putEntry (s : State) (k t i : Nat) (d : List Byte) : State :=
  let d := d.take (s.entrySize k t)
  match s.entry k t i with
  | some (.resident a) => { s with dy := { s.dy with sram := FMap.set [] s.dy.sram k (Memory.writeBytes (FMap.get [] s.dy.sram k) a d) } }
  | some (.spilled a) => { s with gddr := Memory.writeBytes s.gddr a d }
  | none => s

/-- Copy `n` entries of table `t` from cluster `a` at `si` to cluster `b` at `di` (13 R514; 14 R548). -/
def State.moveEntries (s : State) (a b t si di n : Nat) : State :=
  (List.range n).foldl (fun s i => s.putEntry b t (di + i) (s.entryBytes a t (si + i))) s

/-- A microcode bank from its set (07 Table 07-11). -/
def bankOf (u : List Byte) : Bank :=
  { id := field u 0 4, used := ucodeUsed u,
    entry := (List.range 16).foldl (fun m k => FMap.set 0 m k (ucodeEntry u k)) [],
    rows := (List.range 32).foldl (fun m t => FMap.set 0 m t (field u (72 + t) 1)) [],
    table := (List.range 16384).foldl (fun m i => FMap.set 0 m i (field u (128 + i) 1)) [],
    words := (List.range (ucodeUsed u)).foldl (fun m i => FMap.set 0 m i (ucodeWord u i)) [] }

/-- The channels of a DRIP section's mask that the part has. -/
def State.dripChans (s : State) (m : Nat) : List Nat := s.channels.filter (bitAt m)

/-- Load a context of the cipher section (11 R421, R422; 13 R506): a device key is LOCKED while the keys are. A body that cannot be unwrapped leaves the
context empty. -/
def State.putCtx (s : State) (c form : Nat) (body : List Byte) : State :=
  if s.flag RST_STATUS.KEYS_LOCKED ∧ form ≠ 1 then s.setCctx c { locked := true, pinned := true }
  else match s.loadBody form body with
    | .ok k => s.setCctx c { imageCtx body k with pinned := true }
    | .error _ => s.setCctx c { pinned := true }

/-- What an item writes besides configuration fields; moves and start masks are taken apart from it. -/
def State.putContents (s : State) (live : Bool) (it : CfgItem) : State :=
  match it with
  | .block t d => s.putBlock t d
  | .move a b t si di n => if live then s.moveEntries a b t si di n else s
  | .leap es => if s.tamp.leap.isEmpty then { s with tamp := { s.tamp with leap := es } } else s
  | _ => s

/-- The threads that start masks mark (04 R129). -/
def marked (its : List CfgItem) : List Nat :=
  its.flatMap fun i => match i with
    | .start k m => ((List.range 128).filter (bitAt m)).map (· + 128 * k)
    | _ => []

/-- Marked threads that are IDLE start at their ENTRY_PC (13 R516). -/
def State.startMarked (s : State) (its : List CfgItem) : State :=
  (marked its).foldl (fun s t => if (s.th t).st = .idle then s.startThread t else s) s

/-! ### Measurements and status -/

/-- The measurement of a section in force (R509). -/
def State.measure (s : State) (kind id len gen : Nat) (bytes : List Byte) : State :=
  let m : Measure := { kind := kind, id := id, len := len, gen := gen, hash := sha384 bytes }
  let same := fun (x : Measure) => decide (4 ≤ x.kind) && decide (4 ≤ kind) && x.id == id
  let s := s.count CPH_CNT0.TASKS
  { s with ro := { s.ro with measures := if s.ro.measures.any same then s.ro.measures.map (fun x => if same x then m else x) else s.ro.measures ++ [m] } }

/-- RST_STATUS.SECTION_FALLBACK: a section in force is not its highest-generation candidate. -/
def State.syncFallback (s : State) : State :=
  let img := s.bootedImage
  s.wrB RST_STATUS.SECTION_FALLBACK (sectionIds.any (fun id => (s.sec id).gen != 0 && (s.cands img id).any (fun c => decide ((s.sec id).gen < c.gen))))

/-- RST_SLOT and RST_GEN show the slots (R497). -/
def State.syncSlots (s : State) : State :=
  (((s.wr RST_GEN_A.GEN (s.slotGen 0)).wr RST_GEN_B.GEN (s.slotGen 1)).wrB RST_SLOT.A_VALID (s.slotImage 0).isSome).wrB RST_SLOT.B_VALID (s.slotImage 1).isSome

/-- The CONFIG_APPLIED payload (Table 13-12). -/
def State.configApplied (s : State) (id kind : Nat) : List Byte :=
  let x := s.sec id
  leBytes 2 id ++ leBytes 1 kind ++ leBytes 1 s.me ++ zeros 4 ++ leBytes 8 x.gen ++ leBytes 4 x.bytes.length ++ zeros 4 ++ leBytes 8 s.ro.imageGen
    ++ sha384 x.bytes ++ leBytes 12 s.nowStamp ++ leBytes 4 (s.rd CPH_STATUS.BOOT_COUNT) ++ zeros 32

/-! ### The safe points (Table 13-8) -/

/-- The rings whose descriptor a layout changes, by descriptor key. -/
def State.changedRings (s t : State) : List Nat :=
  ((s.hq.desc ++ t.hq.desc).map (fun e => e.1)).eraseDups.filter (fun k => FMap.get {} s.hq.desc k != FMap.get {} t.hq.desc k)

/-- The slices that own them (09 R344). -/
def State.ringSlices (s t : State) : List Nat :=
  ((s.changedRings t).flatMap (fun k => ([FMap.get {} s.hq.desc k, FMap.get {} t.hq.desc k].filter RDesc.en).map RDesc.slice)).eraseDups

/-- The context items of two cipher sections differ at context `c`. -/
def ctxsOf (its : List CfgItem) (c : Nat) : List CfgItem := its.filter (fun i => match i with | .ctx d _ _ => d == c | _ => false)
def changedCtxs (old new : List CfgItem) : List Nat := (List.range 256).filter (fun c => ctxsOf old c != ctxsOf new c)

def cphFields (q : Nat) : List Fld :=
  [CPH_JQA.BASE_4K q, CPH_JQA.ENTRIES_LOG2 q, CPH_JQA.EN q, CPH_JQA.CTX_LO q, CPH_JQA.CTX_HI q, CPH_JQD.DATA_BASE_4K q, CPH_JQD.DATA_SIZE_4K q]
def State.changedQueues (s t : State) : List Nat := (List.range 64).filter (fun q => (cphFields q).any (fun f => s.rd f != t.rd f))

/-- The threads of quadrant `q`. -/
def inQuadrant (q t : Nat) : Bool := t / 2048 == q

/-- Every thread of the quadrant is IDLE. -/
def State.quadIdle (s : State) (q : Nat) : Bool := s.dy.threads.all (fun e => !inQuadrant q e.1 || e.2.st == .idle)

/-- The bindings of quadrant `q` are disabled, or enabled as a section gives (R516). -/
def State.unbind (s : State) (q : Nat) : State :=
  (s.quadrant q).foldl (fun s k => (List.range 16).foldl (fun s e => (List.range 8).foldl (fun s i => s.wr (DYE_FRM.EN (16 * k + e) i) 0) s) s) s

def isFrm (off : Nat) : Bool := decide (0x10000 ≤ off % 0x20000) && decide (0x400 ≤ off % 0x1000) && decide (off % 0x1000 < 0x440)

def State.rebind (s : State) (id : Nat) : State :=
  (s.itemsInForce id).foldl (fun s i => match i with | .reg _ off v => if isFrm off then s.putReg id off v else s | _ => s) s

/-- The contents of the quadrant's bindings are discarded (R516). -/
def State.dropBinds (s : State) (q : Nat) : State :=
  { s with dy := { s.dy with binds := s.dy.binds.filter (fun e => e.1 / 8 / 256 != q) } }

/-- What Roaster does to reach a section's safe point (R514 to R516; 09 R344; 07 R274). -/
def State.beginApply (s : State) (a : Apply) (t : State) : State :=
  let its := itemsOf a.bytes
  match a.id with
  | 9 =>
    let sl := s.ringSlices t
    let s : State := { s with ro := { s.ro with apply := some { a with slices := sl } } }
    sl.foldl (fun s n => if (s.slc n).st = 0 then (s.beginReset n 1 0 none).setSlc n { (s.beginReset n 1 0 none).slc n with apply := true } else s) s
  | 0x0A => { s with merge := { s.merge with hold := true } }
  | 0x0C => its.foldl (fun s i => match i with
      | .drip m u => (s.dripChans m).foldl (fun s c => (s.setBank c (1 - s.rd (DRP_STAT.ACTIVE_BANK c)) (bankOf u)).wr (DRP_STAT.STANDBY_VALID c) 1) s
      | _ => s) s
  | 0x0E => { s with ro := { s.ro with quietQ := s.changedQueues t, quietC := changedCtxs (s.itemsInForce 0x0E) its } }
  | id =>
    if id < 0x10 then s
    else
      let q := id - 0x10
      let s := s.unbind q
      let s := s.wrBit CFG_QDRAIN.REQ q true
      (s.quadrant q).foldl (fun s k => s.raise (s.supv k) evCtrl) s

/-- The safe point is reached. A sequencing member's CONFIG_APPLIED must be able to issue, apart from a hold of its own: Carafe holds room for it, for a MODE_CHANGE before it
and for a roll among them (06 R214). -/
def State.atSafePoint (s : State) (a : Apply) : Bool :=
  let n := if a.id = 8 then 2 else 1
  let roll := b2n (decide (2 ^ s.rd SEQ_CFG.ROLL_LOG2 ≤ seqIndex (s.rd SEQ_NEXT.NEXT) + n))
  (!s.sequencing || s.ezn.wait || (s.merge.open_ && !s.flag SEQ_STATUS.EPOCH_EXHAUSTED && decide (s.crf.issued.length + n + roll ≤ 65536))) && s.run
    && (match a.id with
      | 9 => a.slices.all (fun n => decide (3 ≤ (s.slc n).st))
      | 0x0A => s.crf.issued.all Issued.fixed
      | 0x0E => s.cipher.jobs.all (fun j => !s.ro.quietQ.contains j.queue && !s.ro.quietC.contains (jobCtx j.entry))
      | id => decide (id < 0x10) || s.quadIdle (id - 0x10))

/-- The timing slot of the source, or PPS_IN, changes (Table 13-8, TIME). -/
def State.sourceChanged (s t : State) : Bool :=
  match s.rd TMP_STATUS.SOURCE with
  | 0 => false
  | 5 => s.rd TMP_SRC_CFG.PPS_MODE != t.rd TMP_SRC_CFG.PPS_MODE
  | k => s.rd TMP_SRC_CFG.PPS_MODE != t.rd TMP_SRC_CFG.PPS_MODE || s.tport (k - 1) != t.tport (k - 1)
    || [TMP_PTP_CFG.DOMAIN (k - 1), TMP_PTP_CFG.TRANSPORT (k - 1), TMP_PTP_CFG.ONE_STEP (k - 1), TMP_PTP_CFG.SLAVE_ONLY (k - 1), TMP_PTP_CFG.L1SYNC_EN (k - 1),
        TMP_PTP_CFG.LOG_ANN (k - 1), TMP_PTP_CFG.LOG_SYNC (k - 1), TMP_PTP_CFG.LOG_DREQ (k - 1), TMP_PTP_CFG.ASYM_PS (k - 1)].any (fun f => s.rd f != t.rd f)

def portFields (p : Nat) : List Fld :=
  [SEQ_PORT.EN p, SEQ_PORT.SPEED p, SEQ_PORT.FEC p, SEQ_PORT.LANES_LOG2 p, SEQ_PORT.LANE0 p, SEQ_PORT.MAXLEN p]


/-- A ring takes the state of its new descriptor; the events that stopped it earlier still count for its resume point (01 R40). -/
def State.resetRing (s : State) (k : Nat) : State :=
  let st : RState := if (FMap.get {} s.hq.desc k).en then .stopped else .disabled
  if k < 32768 then s.setSub k { st := st } else s.setDlv (k - 32768) { st := st, stops := (s.dlv (k - 32768)).stops ++ [none], anew := (s.dlv (k - 32768)).anew }

/-- Slices enter STOPPED when they come into use, and DISABLED when they go out of it (08 R325). -/
def State.syncSlices (s : State) : State :=
  (List.range 256).foldl (fun s n =>
    if s.flag (SLC_CFG.EN n) then (if (s.slc n).st = 4 then s.setSlc n { s.slc n with st := 3 } else s)
    else s.setSlc n { s.slc n with st := 4 }) s

/-- At the safe point: the section's fields and contents (R513 to R516, Table 13-8). -/
def State.writeLive (s : State) (id : Nat) (its : List CfgItem) : State :=
  let t := s.trial id its
  match id with
  | 3 =>
    let ch := (List.range 64).filter (fun p => (portFields p).any (fun f => s.rd f != t.rd f))
    let s := ch.foldl (fun s p => if s.flag (SEQ_PST.LINK p) then s.portDown p else s) s
    s.trial id its
  | 4 =>
    let s := { s with tamp := { s.tamp with calPending := (List.range 64).foldl (fun m n => FMap.set none m n (some (t.lcal n))) s.tamp.calPending } }
    s.calGaps
  | 5 =>
    let s := if s.sourceChanged t then s.deselect else s
    its.foldl (State.putContents · true ·) (s.trial id its)
  | 7 =>
    let t' := ((t.wr CRF_CFG.PROT (s.rd CRF_CFG.PROT)).wr CRF_CFG.FLUSH_NS (s.rd CRF_CFG.FLUSH_NS)).wr CRF_CFG.CKPT_STRIPES (s.rd CRF_CFG.CKPT_STRIPES)
    let p : Pending := { prot := t.rd CRF_CFG.PROT, flush := t.rd CRF_CFG.FLUSH_NS, ckpt := t.rd CRF_CFG.CKPT_STRIPES }
    let same := p.prot == s.rd CRF_CFG.PROT && p.flush == s.rd CRF_CFG.FLUSH_NS && p.ckpt == s.rd CRF_CFG.CKPT_STRIPES
    { t' with crf := { t'.crf with pending := if same then none else some p } }
  | 8 =>
    let om := s.rd CRF_CFG.MODE
    let nm := t.rd CRF_CFG.MODE
    let pl := modeChange om nm (s.rd CRF_CFG.PROT) (s.rd CRF_CFG.PROT) (s.rd CRF_CFG.FLUSH_NS) (s.rd CRF_CFG.FLUSH_NS)
    if om = nm then s
    else if s.sequencing ∧ !s.ezn.wait then s.issueNow 6 pl
    else
      let s := (s.wr CRF_CFG.MODE nm).wr CRF_STATUS.MODE_OLD nm
      if s.sequencing then { s with ezn := { s.ezn with modeRec := some pl } } else s
  | 9 =>
    let ch := s.changedRings t
    (ch.foldl State.resetRing t).syncSlices
  | 0x0A => its.foldl (State.putContents · true ·) { t with dy := { t.dy with remaps := [] } }
  | 0x0C => its.foldl (fun s i => match i with | .drip m _ => (s.dripChans m).foldl State.swapBank s | _ => s) s
  | 0x0E =>
    let cs := changedCtxs (s.itemsInForce 0x0E) its
    let qs := s.changedQueues t
    let s := cs.foldl (fun s c => s.setCctx c {}) t
    let s := its.foldl (fun s i => match i with | .ctx c f b => if cs.contains c then s.putCtx c f b else s | _ => s) s
    let s := qs.foldl (fun s q => s.wr (CPH_JQS.NEXT q) 0) s
    { s with ro := { s.ro with quietQ := [], quietC := [] }, cipher := { s.cipher with polled := s.cipher.polled.filter (fun p => !qs.contains p.1) } }
  | _ =>
    if id < 0x10 then its.foldl (State.putContents · true ·) t
    else
      let q := id - 0x10
      let s := its.foldl (State.putContents · true ·) (t.dropBinds q)
      (s.wrBit CFG_QDRAIN.REQ q false).startMarked its

/-! ### APPLY_SECTION (R513) -/

/-- The fields that a live apply may not change (Table 13-8). -/
def resetOnly (id : Nat) : List Fld :=
  match id with
  | 6 => [SEQ_CFG.ROLL_LOG2]
  | 7 => [CRF_JOURNAL_ID.ID, CRF_STAGE.BASE_4K, CRF_STAGE.SIZE_4K, PRG_BUF.BASE_4K]
  | 8 => [EZN_CFG.MEMBERS, EZN_CFG.MEMBER, EZN_CFG.SPLIT_A, EZN_CFG.SPLIT_B, EZN_CFG.PRIMARY0, EZN_CFG.RESYNC_MBPS, EZN_GROUP_ID.ID, EZN_TMO.HB_US,
          EZN_TMO.PRIMARY_TMO_US, EZN_TMO.ELECT_WAIT_US, EZN_TMO.FOLLOWER_TMO_US, EZN_TMO.FORM_S]
      ++ (List.range 4).flatMap (fun k => [EZN_LINK_CFG.EN k, EZN_LINK_CFG.PEER k])
  | 9 => [HQ_BKLG.BASE_4K, HQ_BKLG.SIZE_4K]
  | 0x0E => [CPH_CFG.SEAL_UNITS]
  | _ => []

/-- A lane calibration would raise an active port's receive total by more than GUARD_PS (03 R97). -/
def State.raises (s t : State) (p : Nat) : Bool :=
  let n := s.rd (SEQ_PORT.LANE0 p)
  s.flag (SEQ_PST.ACTIVE p) && decide (s.rdInt (TMP_LCAL_RX.BOARD n) * 1000 + (s.rd SEQ_CFG.GUARD_PS * 4096 : Nat) < t.rdInt (TMP_LCAL_RX.BOARD n) * 1000)

/-- The checks that a live apply adds to those of R512: 03 R97, 06 R227, 11 R422, and the live-change check; a status and CAUSE, WHERE. -/
def State.liveCheck (s : State) (id : Nat) (its : List CfgItem) : Option (Nat × Nat × Nat) :=
  let t := s.trial id its
  let up := s.enabledPorts.find? (s.raises t)
  let pinned := (changedCtxs (s.itemsInForce 0x0E) its).any (fun c => s.rd CRF_CFG.SEAL_CTX == c
    || (List.range 16).any (fun n => s.flag (HQ_BLK_NS.EN n) && s.flag (HQ_BLK_NS.ENC n) && s.rd (HQ_BLK_NS.CTX n) == c))
  if id = 4 ∧ up.isSome then some (0x0102, 4, (TMP_LCAL_RX.BOARD (s.rd (SEQ_PORT.LANE0 (up.getD 0)))).base)
  else if id = 8 ∧ s.flag CRF_STATUS.BOUNDARY_PENDING ∧ s.rd CRF_CFG.MODE ≠ t.rd CRF_CFG.MODE then some (0x0102, 5, CRF_CFG.MODE.base)
  else if id = 0x0E ∧ pinned then some (0x0102, 4, 0)
  else if id = 1 ∨ id = 0x0B ∨ id = 0x0D then some (0x0103, 0, 0)
  else match (resetOnly id).find? (fun f => s.rd f != t.rd f) with
    | some f => some (0x0102, 5, f.base)
    | none => none

/-- The response payload of APPLY_SECTION (Table 13-10). -/
def applyRsp (seq gen cause wh : Nat) : List Byte := leBytes 8 seq ++ leBytes 8 gen ++ leBytes 2 cause ++ zeros 2 ++ leBytes 4 wh

/-- The end of an apply, shown in CFG_APPLY. -/
def State.applied (s : State) (id status : Nat) : State :=
  ((((s.wr CFG_APPLY.BUSY 0).wr CFG_APPLY.WAITING 0).wr CFG_APPLY.SECTION_ID id).wr CFG_APPLY.LAST_STATUS status)

def execApplySection (sl : Fin 256) (s : State) : Host.Outcome State Fault Refusal :=
  if s.ro.apply.isSome then .next s
  else .next (s.serve sl 0x0200 (· == 12) true false (fun s pl =>
    let id := field pl 0 2
    let gen := field pl 4 8
    let no := fun (s : State) st cause wh => (s.applied id st, some (st, applyRsp 0 gen cause wh))
    if field pl 2 2 ≠ 0 ∨ !sectionIds.contains id then (s, some (5, []))
    else match (s.cands s.bootedImage id).find? (fun c => c.gen == gen) with
      | none => no s 0x0100 0 0
      | some c =>
        if (s.sec id).gen = gen ∧ (s.sec id).source = c.source then no s 0x0101 0 0
        else match s.fullCheck c id with
          | some (cause, wh) => no s 0x0102 cause wh
          | none =>
            let b := c.bytes.take (secLen c.bytes)
            let its := itemsOf b
            match s.liveCheck id its with
            | some (st, cause, wh) => no s st cause wh
            | none =>
              let a : Apply := { id := id, gen := gen, source := c.source, bytes := b, asker := sl, at_ := s.ticks }
              let s : State := { s with ro := { s.ro with apply := some a } }
              let s := ((s.wr CFG_APPLY.BUSY 1).wr CFG_APPLY.WAITING 1).wr CFG_APPLY.SECTION_ID id
              (s.beginApply a (s.trial id its), none)))

/-- SAFE_POINT (R513 to R517): the section takes effect, is measured, and its CONFIG_APPLIED record issues; the request is answered OK. -/
def execSafePoint (s : State) : Host.Outcome State Fault Refusal :=
  match s.ro.apply with
  | none => .next s
  | some a =>
    if !s.atSafePoint a then .next s
    else
      let s := s.writeLive a.id (itemsOf a.bytes)
      let old := s.sec a.id
      let s := s.setSec a.id { gen := a.gen, source := a.source, bytes := a.bytes, applies := satInc 8 old.applies, skipped := old.skipped }
      let s := (s.measure 5 a.id a.bytes.length a.gen a.bytes).syncFallback
      let s : State := { s with ro := { s.ro with apply := none } }
      let p := s.configApplied a.id 2
      let s := if !s.sequencing then s else if s.ezn.wait then s.deviceRec 7 p else s.issueNow 7 p
      let seq := if s.sequencing ∧ !s.ezn.wait ∧ !s.flag SEQ_STATUS.EPOCH_EXHAUSTED then s.lastIssued else 0
      let s := if a.id = 0x0A then { s with merge := { s.merge with hold := false } } else s
      .next (((s.applied a.id 0).count CFG_APPLY.APPLIES).answer a.asker 0 (applyRsp seq a.gen 0 0))

/-- APPLY_LIMIT_EXPIRE (R513, R516): nothing changes, and what was stopped for the safe point goes on. -/
def execApplyLimitExpire (s : State) : Host.Outcome State Fault Refusal :=
  match s.ro.apply with
  | none => .next s
  | some a =>
    if s.ticks < a.at_ + msTicks (s.rd CFG_CTRL.APPLY_LIMIT_MS) then .next s else
    let s : State := { s with ro := { s.ro with apply := none } }
    let s : State := match a.id with
      | 9 => a.slices.foldl (fun s n => if (s.slc n).apply ∧ (s.slc n).st = 1 then s.setSlc n { s.slc n with st := 0, apply := false } else s) s
      | 0x0A => { s with merge := { s.merge with hold := false } }
      | 0x0C => (itemsOf a.bytes).foldl (fun s i => match i with
          | .drip m _ => (s.dripChans m).foldl (fun s c => s.wr (DRP_STAT.STANDBY_VALID c) 0) s
          | _ => s) s
      | 0x0E => { s with ro := { s.ro with quietQ := [], quietC := [] } }
      | id =>
        if id < 0x10 then s
        else (((s.dropBinds (id - 0x10)).rebind id).wrBit CFG_QDRAIN.REQ (id - 0x10) false).startMarked (s.itemsInForce id)
    .next ((s.applied a.id 0x0104).answer a.asker 0x0104 (applyRsp 0 a.gen 0 0))

/-! ### Writing the flash (R496, R511, R512) -/

/-- The commit record of a region at `a` of `n` bytes is erased, if it is valid. -/
def State.unmark (s : State) (a n target : Nat) : State := if (s.record a n target).isSome then s.flashErase (a + n - 4096) 4096 else s

/-- Program 512 bytes of a region; a failure leaves bytes that the manual does not state. -/
def State.program512 (s : State) (a n target off : Nat) (d : List Byte) (ok : Bool) : State :=
  let s := s.unmark a n target
  if ok then s.flashWrite (a + off) d else ((s.flashWrite (a + off) (leBytes 512 (s.freeVal % 2 ^ 4096))).drew).flashFail

/-- The standby copy of a section (R511). -/
def State.standby (s : State) (id : Nat) : Nat :=
  match s.copyCand id 0, s.copyCand id 1 with
  | some a, some b => if a.gen ≤ b.gen then 0 else 1
  | some _, none => 1
  | _, _ => 0

def execSectionWrite (sl : Fin 256) (flashOk : Bool) (s : State) : Host.Outcome State Fault Refusal :=
  if s.ro.apply.isSome then .next s
  else .next (s.serve sl 0x0201 (· == 520) true true (fun s pl =>
    let id := field pl 0 2
    let off := field pl 4 4
    let c := s.standby id
    let (a, n) := s.copyAt id c
    if field pl 2 2 ≠ 0 ∨ off % 512 ≠ 0 ∨ !sectionIds.contains id then (s, some (5, []))
    else if n = 0 then (s, some (0x0100, []))
    else if n < off + 512 + 4096 then (s, some (0x0101, []))
    else if s.flag CFG_FLASH.WP then (s, some (0x0102, []))
    else (((s.program512 a n (copyTarget id c) off (pl.drop 8) flashOk).syncFallback), some (if flashOk then 0 else 0x0103, []))))

/-- Write a commit record (R496). -/
def State.commit (s : State) (a n : Nat) (rec_ : List Byte) (ok : Bool) : State :=
  if ok then s.flashWrite (a + n - 4096) rec_ else (s.flashErase (a + n - 4096) 4096).flashFail

def execSectionCommit (sl : Fin 256) (flashOk : Bool) (s : State) : Host.Outcome State Fault Refusal :=
  if s.ro.apply.isSome then .next s
  else .next (s.serve sl 0x0202 (· == 16) true true (fun s pl =>
    let id := field pl 0 2
    let len := field pl 4 4
    let c := s.standby id
    let (a, n) := s.copyAt id c
    let b := s.flashBytes a (min len n)
    let gen := secGen b
    let rsp := fun cause wh => leBytes 8 gen ++ leBytes 2 cause ++ zeros 2 ++ leBytes 4 wh
    if field pl 2 2 ≠ 0 ∨ !sectionIds.contains id then (s, some (5, []))
    else if n = 0 then (s, some (0x0100, rsp 0 0))
    else if n < len + 4096 ∨ len ≠ secLen b then (s, some (0x0101, rsp 2 0))
    else match s.fullCheck { gen := gen, source := 2 + c, bytes := b, crc := secCrcOk b && crc64 b == field pl 8 8 } id with
      | some (cause, wh) => (s, some (0x0101, rsp cause wh))
      | none =>
        if (s.cands s.bootedImage id).any (fun x => decide (gen ≤ x.gen)) then (s, some (0x0102, rsp 0 0))
        else if s.flag CFG_FLASH.WP then (s, some (0x0103, rsp 0 0))
        else ((s.commit a n (commitRecord (copyTarget id c) gen len (crc64 b) 0 0 0) flashOk).syncFallback, some (if flashOk then 0 else 0x0104, rsp 0 0))))

def execSectionInfo (sl : Fin 256) (s : State) : Host.Outcome State Fault Refusal :=
  .next (s.serve sl 0x0203 (· == 4) true true (fun s pl =>
    let id := field pl 0 2
    let gen := fun (c : Option Cand) => match c with | some c => if c.crc then c.gen else 0 | none => 0
    if field pl 2 2 ≠ 0 ∨ !sectionIds.contains id then (s, some (5, []))
    else (s, some (0, leBytes 8 (s.sec id).gen ++ leBytes 1 (s.sec id).source ++ leBytes 1 (s.standby id) ++ zeros 6 ++ leBytes 8 (gen (imageCand s.bootedImage id))
      ++ leBytes 8 (gen (s.copyCand id 0)) ++ leBytes 8 (gen (s.copyCand id 1))))))

/-- The slot that an image is written into (R512). -/
def State.spareSlot (s : State) : Nat := if s.rd RST_SLOT.BOOTED = 1 then 1 else 0

def execImageWrite (sl : Fin 256) (flashOk : Bool) (s : State) : Host.Outcome State Fault Refusal :=
  if s.ro.apply.isSome then .next s
  else .next (s.serve sl 0x0204 (· == 520) true true (fun s pl =>
    let off := field pl 0 4
    let k := s.spareSlot
    if field pl 4 4 ≠ 0 ∨ off % 512 ≠ 0 then (s, some (5, []))
    else if s.slotSize < off + 512 + 4096 then (s, some (0x0100, []))
    else if s.flag CFG_FLASH.WP then (s, some (0x0101, []))
    else ((s.program512 (s.slotAt k) s.slotSize (slotTarget k) off (pl.drop 8) flashOk).syncSlots, some (if flashOk then 0 else 0x0102, []))))

/-- Commit the image of `len` bytes in slot `k` (R512; 10 R412): its generation is one above the higher generation of the valid slots. -/
def State.nextGen (s : State) : Nat := max (s.slotGen 0) (s.slotGen 1) + 1
def State.commitImage (s : State) (k gen : Nat) (img : List Byte) (ok : Bool) : State :=
  (s.commit (s.slotAt k) s.slotSize
    (commitRecord (slotTarget k) gen img.length (crc64 (imageCore img)) (field img 16 4) (field img 23 1) (field img 24 1)) ok).syncSlots

def execImageCommit (sl : Fin 256) (flashOk : Bool) (s : State) : Host.Outcome State Fault Refusal :=
  if s.ro.apply.isSome then .next s
  else .next (s.serve sl 0x0205 (· == 8) true true (fun s pl =>
    let len := field pl 0 8
    let k := s.spareSlot
    let img := s.flashBytes (s.slotAt k) (min len s.slotSize)
    if img.length ≠ len ∨ !s.imageOk img then (s, some (0x0100, leBytes 8 0))
    else if s.flag CFG_FLASH.WP then (s, some (0x0101, leBytes 8 0))
    else
      let gen := s.nextGen
      (s.commitImage k gen img flashOk, some (if flashOk then (0, leBytes 8 gen) else (0x0102, leBytes 8 0)))))

/-! ### BOOT_STATUS, ATTEST and JTAG -/

/-- A register as software reads it, without the effect of the read. -/
def State.peek (s : State) (off : Nat) : Nat := match regAt off with | some (r, b) => s.regValue r b | none => 0

/-- BOOT_STATUS (Table 13-10). The report of the fused units (00 R4) has no field in the payload that the table gives: it stands in `Roaster.absent`, which the boot writes
(DESIGN CHOICE, notes/assumptions/39). -/
def execBootStatus (sl : Fin 256) (s : State) : Host.Outcome State Fault Refusal :=
  .next (s.serve sl 0x0206 (· == 0) true true (fun s _ =>
    (s, some (0, leBytes 8 (s.peek 0xC0000) ++ leBytes 8 (s.peek 0xC0008) ++ leBytes 8 (s.peek 0xC0028)))))

/-- The attestation record (Table 13-11); `k` is the signature's per-message number. -/
def State.attestation (s : State) (nonce : List Byte) (k : Nat) : List Byte :=
  let n := s.ro.measures.length
  let b := leBytes 4 0x54535441 ++ leBytes 2 1 ++ leBytes 2 n ++ leBytes 8 s.fuses.serial ++ leBytes 4 (s.rd CPH_STATUS.BOOT_COUNT) ++ leBytes 4 (s.peek 0xC0028)
    ++ leBytes 12 s.nowStamp ++ leBytes 1 (s.rd RST_SLOT.BOOTED)
    ++ leBytes 1 (s.rd RST_STATUS.GEN_TIE + 2 * b2n s.recovery + 4 * s.rd RST_STATUS.KEYS_LOCKED + 8 * s.rd RST_STATUS.CORE_FALLBACK) ++ zeros 2
    ++ leBytes 8 s.ro.imageGen ++ nonce ++ ecPublic s.fuses.importKey ++ zeros 3 ++ ecPublic s.fuses.identity ++ zeros 11
    ++ s.ro.measures.flatMap (fun m => leBytes 1 m.kind ++ zeros 1 ++ leBytes 2 m.id ++ leBytes 4 m.len ++ leBytes 8 m.gen ++ m.hash)
  b ++ ecdsaSign s.fuses.identity k (sha384 b)

def execAttest (sl : Fin 256) (s : State) : Host.Outcome State Fault Refusal :=
  .next (s.serve sl 0x0207 (· == 40) true true (fun s pl =>
    let off := field pl 32 4
    if field pl 36 4 ≠ 0 then (s, some (5, []))
    else
      let s : State := if off = 0 then (({ s with ro := { s.ro with record := s.attestation (pl.take 32) (s.freeVal % (p384N - 1) + 1) } } : State).drew).count CPH_CNT0.TASKS else s
      if s.ro.record.isEmpty then (s, some (0x0100, []))
      else if s.ro.record.length ≤ off then (s, some (0x0101, []))
      else (s, some (0, leBytes 4 s.ro.record.length ++ zeros 4 ++ (s.ro.record.drop off).take 960))))

/-- JTAG_DEBUG (R491, R507): the first access to Roaster's debug port. -/
def execJtagDebug (s : State) : Host.Outcome State Fault Refusal :=
  if s.fuses.debugLock then .next s
  else
    let s := (((s.wr RST_KL.JTAG_DEBUG 1).wr RST_STATUS.KEYS_LOCKED 1).wr CRF_STATUS.KEYS_LOCKED 1).wr CPH_STATUS.KEYS_LOCKED 1
    -- no page is sealed from now on, the open one among them (06 R225)
    let s : State := { s with crf := { s.crf with cur := { s.crf.cur with nonce := none } } }
    let gone := s.cipher.ctxs.filter (fun e => e.2.source == 2 || e.2.source == 3)
    .next (gone.foldl (fun s e => s.setCctx e.1 { locked := e.2.pinned, pinned := e.2.pinned }) s)

end Sys2Proof.Machine
end

