-- ==== Sys2Proof/Machine/Resets.lean ====
section
/-!
DEFINITION. The resets that restart sequencing: their ranks (14 R537, R538), what each keeps (00 R19; 02 R575; 14 R525, R535, R574 to R577), and their trigger. The boot that
follows is in Boot.lean.
-/

namespace Sys2Proof.Machine

/-- The width of a reset by its RESET_TYPE (14 R538): 3 power-on, 2 cold, 1 warm. -/
def resetRank (t : Nat) : Nat := if t = 1 then 3 else if t = 2 ∨ t = 3 then 2 else 1

/-- Frames in transmission end with an invalid FCS (01 R49; 14 R533). -/
def State.cutFrames (s : State) : State :=
  let s' : State := { s with eports := (s.eports.map (fun e => (e.1, { e.2 with tx := none }))).filter (fun e => e.2 != ({} : EPort)) }
  s.eports.foldl (fun t e => if e.2.tx.isSome then t.emit (.frameCut e.1) else t) s'

/-- The link is down (08 PCI_LINK). -/
def State.linkDown (s : State) : State := (((s.wr PCI_LINK.UP 0).wr PCI_LINK.SPEED 0).wr PCI_LINK.WIDTH 0).wr PCI_LINK.FLIT 0

/-- Counters "since cold reset", which warm reset keeps (00 R19). -/
def sinceCold : List Fld :=
  [SEQ_CNT.ROLLS, SEQ_ISSUED.ISSUED, PCI_LINK.RETRAINS, PCI_WIN_EPOCH.EPOCH, EZN_CNT.PROMOTIONS]
    ++ (List.range 4).map EZN_LINK_STAT.RETRAINS ++ (List.range 256).map SLC_CNT.RESETS

/-- Fields that every reset but power-on keeps, outside the always-on blocks: delivery epochs (00 R19), VOTED_EPOCH and what goes with it (14 R535; 12 R469). -/
def sinceOn : List Fld := [EZN_STATUS.VOTED_EPOCH, EZN_STATUS.ISLAND_LOST] ++ (List.range 256).map SLC_STAT.DELIVERY_EPOCH

/-- Fields that every reset keeps: W stays valid for the journal's whole life (01 R30), and a journal whose epochs are exhausted stays so (03 R113; DESIGN CHOICE,
notes/assumptions/39). -/
def sinceJournal : List Fld := [CRF_STATUS.WM_VALID, CRF_WMARK.SEQ, PRG_WM.SEQ, SEQ_STATUS.EPOCH_EXHAUSTED]

def hasKey (l : List Fld) (key : Nat) : Bool := l.any (fun f => f.key == key)

/-- A field of Tamp that a cold reset clears: the counters of TMP_CNT, the RW1C flags of TMP_STATUS, TMP_LDIE_n.REJECT (02 R575). -/
def tampCold (off lo : Nat) : Bool :=
  (decide (0x38 ≤ off) && decide (off < 0x40)) || (off / 8 == 3 && decide (12 ≤ lo) && decide (lo < 16))
    || (decide (0x1000 ≤ off) && decide (off < 0x1800) && off / 8 % 4 == 2 && lo == 57)

/-- A field's value survives a reset of the given rank (00 R19; 02 R575; 14 R525, R535). Tamp, the ERR_ block, and power and clock control lie in the always-on
island; the NAND channels' fields stay while their operations run to their ends (14 R577). -/
def fieldKept (rank key : Nat) : Bool :=
  let off := key / 64 * 8
  let lo := key % 64
  if hasKey sinceJournal key then true
  else if rank = 3 then false
  else if off < 0x10000 then rank == 1 || !tampCold off lo
  else if 0xD0000 ≤ off ∧ off < 0xE0000 then rank == 1 || off == 0xD0028
  else if 0xE0000 ≤ off ∧ off < 0xF0000 then true
  else if 0x100000 ≤ off ∧ off < 0x180000 then true
  else hasKey sinceOn key || (rank == 1 && hasKey sinceCold key)

/-- Tamp at a reset that leaves its island powered (02 R575): its ports' links are down, and the record of the second in which it begins is not made; the records
that wait are submitted when the merge sequencer issues again (02 R91). -/
def Tamp.atReset (t : Tamp) : Tamp :=
  { t with startUnlocked := false, highStamp := none, ptp := [], laneUp := [], measuring := [], recal := none, recalReq := [], calPending := [], traceOpen := false }

/-- What NAND holds of the journal, and the anchor (06 R230; 07 R258); all else of Carafe is lost. -/
def Carafe.atReset (c : Carafe) : Carafe :=
  { plan := c.plan, stripes := c.stripes, pages := c.pages, voids := c.voids, arch := c.arch, nextArch := c.nextArch, nextMig := c.nextMig, earlier := c.earlier,
    erased := c.erased, released := c.released, anchors := c.anchors, island := c.island, ckpts := c.ckpts, rehomes := c.rehomes, losses := c.losses }

/-- What the medium holds of the block function (10 R396), and the deferred error logs, which a warm reset keeps (10 R408). -/
def Blk.atReset (b : Blk) (rank : Nat) : Blk :=
  { prog := b.prog, nextWl := b.nextWl, done := b.done, ckpt := b.ckpt, ckpts := b.ckpts, anchorPgs := b.anchorPgs, logs := if rank = 1 then b.logs else [], unitsRead := b.unitsRead,
    unitsWritten := b.unitsWritten, unsafe_ := b.unsafe_, mediaErrs := b.mediaErrs, hostReads := b.hostReads, hostWrites := b.hostWrites }

/-- The host queue unit at a reset: the events that stopped its delivery rings still count for their resume points (01 R40; DESIGN CHOICE, notes/assumptions/39). -/
def HostQ.atReset (h : HostQ) (rank : Nat) : HostQ :=
  if rank = 3 then {} else { dlv := (h.dlv.filter (fun e => !e.2.stops.isEmpty)).map (fun e => (e.1, { stops := e.2.stops })) }

/-- NAND channels while operations in progress run to their ends: nothing waits any more (14 R577). -/
def Nand.drain (n : Nand) : Nand :=
  { n with ctx := (n.ctx.map (fun e => (e.1, { e.2 with queue := [], aborts := 0 }))).filter (fun e => e.2 != ({} : Ctx)), todo := [], retireAns := [] }

/-- Every domain that a power-on, cold or warm reset resets is reset, but for the NAND channels (14 R535, R574, R576). -/
def State.resetDomains (s : State) (rank : Nat) : State :=
  let s := s.cutFrames
  let s := if 1 ≤ s.rd TMP_STATUS.SOURCE ∧ s.rd TMP_STATUS.SOURCE ≤ 4 then s.deselect else s
  let errs : Errs := { corr := if rank = 1 then s.err.corr else [], gddrLost := s.err.gddrLost }
  let s : State :=
    { s with
      regs := s.regs.filter (fun e => fieldKept rank e.1)
      gddr := [], merge := { ties := if rank = 3 then [] else s.merge.ties }, dy := {}, eports := [], ezn := {}, hq := s.hq.atReset rank, cipher := {}, mbox := []
      tamp := if rank = 3 then {} else s.tamp.atReset
      crf := s.crf.atReset
      closed := if rank = 3 then [] else s.closed
      nand := s.nand.drain
      pci := { trained := s.pci.trained && rank == 1, perst := s.pci.perst }
      blk := s.blk.atReset rank
      err := errs
      ro := { flash := s.ro.flash, island := if rank = 3 then none else s.ro.island }
      pw := { s.pw with hold := none, tempAt := if rank = 3 then none else s.pw.tempAt, powerAt := if rank = 3 then none else s.pw.powerAt }
      ticks := if rank = 3 then 0 else s.ticks }
  let s := (s.wr (ERR_FATAL.FATAL 0) 0).wr (ERR_FATAL.FATAL 1) 0
  let s := (List.range 128).foldl (fun s n => s.wr (ERR_STAT.FATAL n) 0) s
  let s := (List.range 64).foldl (fun s n => s.wr (TMP_LDIE.VALID n) 0) s
  let s := (List.range 4).foldl (fun s k => ((s.wr (TMP_PTP_STAT.PORT_STATE k) 1).wr (TMP_PTP_STAT.L1_STATE k) 0).wr (TMP_PTP_STAT.STEPS_REMOVED k) 0) s
  let s := (s.wr TMP_STATUS.STAMPING 0).wr TMP_STATUS.BEHIND_JOURNAL 0
  (s.wr (PWR_DOM.ON 0) 0).wr (PWR_DOM.ON 1) (2 ^ 15 + 2 ^ 4 * (s.rd (PWR_DOM.ON 1) / 2 ^ 4 % 16))

/-- No NAND operation is in progress (14 R533, R577). -/
def State.quiet (s : State) : Bool := s.nand.ctx.all (fun e => e.2.op.isNone)

/-- Every operation that the power-failure rule lets run has ended (07 R272; 14 R533; 15 R561). -/
def State.spent (s : State) : Bool :=
  s.nand.ctx.all (fun e => e.2.op.isNone && !(e.2.queue.any (fun o => o.kind == 5) && s.rd (NDC_LUN_CFG.REGION (e.1 / 16) (e.1 % 16)) == 1))

/-- A cold or warm reset is triggered (14 R535, R538, R577): a wider or equal one in progress discards it. Every domain is reset at once, but the NAND channels
wait for the operations in progress. A power-fail halt is left only by RESET_N or a power-on reset (15 R561). -/
def State.trigger (s : State) (t : Nat) : State :=
  if s.err.pend.elim false (fun p => decide (resetRank t ≤ resetRank p)) ∨ (s.flag PWR_STATUS.POWER_FAIL ∧ t ≠ 2) then s
  else
    let s := s.resetDomains (resetRank t)
    { s with err := { s.err with pend := some t } }

end Sys2Proof.Machine
end

