-- ==== Sys2Proof/Machine/Boot.lean ====
section
/-!
DEFINITION. The boot of 13 Table 13-9: NAND at the end of a reset (14 R577), the slot (13 R500), the boot count (11 R429, R430), the sections (13 R502, R503), keys
(13 R506), recovery mode (13 R508), and the resets that lead to it (14 R533, R535 to R541; 15 R555, R561). A boot is one step (DESIGN CHOICE,
notes/assumptions/50).
-/

namespace Sys2Proof.Machine

/-! ### The NAND channels leave reset -/

/-- What had been dispatched stays for replay and the map rebuild to judge by what they find on the medium (14 R577); what had not was never programmed. The island's
counts, sweep days and cursors, and its copy of the anchor, go with its power (R258, R281, R284). -/
def State.nandReset (s : State) (rank : Nat) : State :=
  let began := s.nand.ctx.filterMap (fun e => e.2.op.map NandOp.tag) ++ (s.nand.done.filter (fun d => d.status != 4)).map (fun d => d.op.tag)
  let judge := fun (tag : OpTag) (c : Copy) => if c.st == .waiting && !began.contains tag then { c with st := .never } else c
  let pages := s.crf.pages.map (fun e => (e.1, { e.2 with copies := e.2.copies.mapIdx (fun i c => judge (.page e.1 i) c) }))
  let stripes := s.crf.stripes.map (fun t => { t with parity := judge (.parity t.no) t.parity })
  let anchors := s.crf.anchors.map (fun (a : Anchor) => if a.st = .waiting then { a with st := if began.contains (.anchor a.serial a.ch) then .pass else .never } else a)
  let won := s.blk.prog.filter (fun e => s.nand.done.any (fun d => d.op.tag == .wordline e.1 && d.status == 0))
  let named := s.blk.ckpt.filter (fun k => s.nand.done.any (fun d => d.op.tag == .mapPtr k.serial false && d.status == 0))
  let blk : Blk := { s.blk with prog := [], ckpt := none, ckpts := (named.toList ++ s.blk.ckpts).take 2, done := won.foldl (fun m e => FMap.set {} m e.2.key e.2) s.blk.done }
  let keep := fun (x : Lun) => let x := { x with sweepLeft := 0, level := 0 }; if rank = 3 then { x with sweepDay := none, sweepAt := 0 } else x
  let lun := s.nand.lun.map (fun (e : Nat × Lun) => (e.1, keep e.2))
  let nand : Nand := { lun := lun.filter (fun e => e.2 != ({} : Lun)), ptrsOpen := s.nand.ptrsOpen, lifeLost := s.nand.lifeLost || rank == 3 }
  let life := fun (key : Nat) => let o := key / 64 * 8 % 0x4000; decide (rank < 3) && decide (0x200 ≤ o) && decide (o < 0x280)
  let regs := s.regs.filter (fun e => let off := e.1 / 64 * 8; !(decide (0x100000 ≤ off) && decide (off < 0x180000)) || life e.1)
  { s with crf := { s.crf with pages := pages, stripes := stripes, anchors := anchors, island := if rank = 3 then none else s.crf.island }, blk := blk, nand := nand,
           regs := regs }

/-- The sum of the record's erase counts of the blocks that are erased in pSLC, or in native mode: a record block in pSLC, another in its region's mode (R252, R284). -/
def State.recordErases (s : State) (c l : Nat) (native : Bool) : Nat :=
  let x := s.lun c l
  ((x.erases.filter (fun e => (FMap.get 0 x.defects e.1 != 3 && s.rd (NDC_LUN_CFG.REGION c l) != 1) == native)).map (fun e => e.2)).sum

/-- The life counts of a LUN after the island has lost power: at least the sums of the record's (R284); the anchor's join them as replay reads it. -/
def State.restoreLife (s : State) (c l : Nat) : State :=
  if s.nand.lifeLost then (s.raiseTo (NDC_LIFE.SLC_ERASES c l) (s.recordErases c l false)).raiseTo (NDC_LIFE.NATIVE_ERASES c l) (s.recordErases c l true) else s

/-- A LUN that initialisation loses: 1 resets, 2 identity (R286); REPLAY journals its loss. -/
def State.bootLoseLun (s : State) (c l info : Nat) : State :=
  if !s.flag (NDC_LUN_CFG.PRESENT c l) ∨ s.lunLost c l then s
  else ((s.wrBit (NDC_STAT.LUN_LOST c) l true).wr (NDC_LUN_STAT.LOST c l) 1).logError (16 + c) 0x1002 3 l info

/-- A channel that initialisation loses: it never becomes READY (R248, R286). -/
def State.bootLoseChannel (s : State) (c info : Nat) : State :=
  let s : State := { s with nand := { s.nand with lost := c :: s.nand.lost } }
  let s := if info = 1 then s.wr (NDC_STAT.TRAIN_FAIL c) 1 else s
  s.logError (16 + c) 0x1006 5 0 info

/-- A target's identification and parameter page agree with the NAND section (R250). -/
def State.identified (s : State) (c : Nat) (t : TargetId) : Bool :=
  let m := s.rd (NDC_ID_MASK.MASK c)
  (t.id.toNat &&& m) == (s.rd (NDC_ID.ID c) &&& m)
    && (match t.pages.find? (fun p => p.crcOk) with
      | some p => p.data == 16384 && decide (2048 ≤ p.spare) && p.pages == s.rd (NDC_GEOM.PAGES_NATIVE c) && p.blocks == s.rd (NDC_GEOM.BLOCKS c)
          && p.luns == 1 + b2n (s.flag (NDC_CFG.TWO_LUN c))
      | none => false)

/-- Step 5 of Table 07-2 on one LUN, and what its registers show then; a sweep that began more than SCAN_DAYS ago starts anew (R283). -/
def State.initLun (s : State) (env : BootEnv) (c l : Nat) : State :=
  if !s.flag (NDC_LUN_CFG.PRESENT c l) ∨ s.lunLost c l then s
  else
    let s := s.readRecord c l (env.badRecs.filterMap (fun b => if (b.1 : Nat) = c ∧ (b.2.1 : Nat) = l then some b.2.2 else none))
    let x := s.lun c l
    let old := x.sweepDay.elim true (fun d => decide (s.rd (NDC_REF_CFG.SCAN_DAYS c) < s.daysSince d))
    let s := if old then s.setLun c l { x with sweepDay := none } else s
    let s := (s.wr (NDC_LUN_STAT.GROWN_BAD c l) (x.defects.filter (fun d => d.2 == 2)).length).wr (NDC_LUN_STAT.SPARE_FREE c l) x.spares.length
    (s.restoreLife c l).showLife c l

/-- Table 07-2, on one channel. A target that `env` does not give answers as the NAND section says. The channel is READY if every step succeeded for every target. -/
def State.initChannel (s : State) (env : BootEnv) (c : Nat) : State :=
  if !s.flag (NDC_CFG.EN c) then s
  else
    let has := fun (k : Nat) => bitAt (s.rd (NDC_CFG.CE_MASK c)) k
    let fails := (env.resets.filter (fun r => (r.1 : Nat) == c && has (r.2 / 2))).map (fun r => (r.2 : Nat))
    let wrong := (env.targets.filter (fun t => (t.ch : Nat) == c && has t.ce && !s.identified c t)).map (fun t => (t.ce : Nat))
    let s := fails.foldl (fun s l => s.bootLoseLun c l 1) s
    let s := wrong.foldl (fun s k => ((s.wrBit (NDC_STAT.ID_MISMATCH c) k true).bootLoseLun c (2 * k) 2).bootLoseLun c (2 * k + 1) 2) s
    if env.dead.any (fun d => (d : Nat) == c) then s.bootLoseChannel c 1
    else
      let s := (List.range 16).foldl (fun s l => s.initLun env c l) s
      if s.regionGone c 1 ∨ s.regionGone c 2 then s.bootLoseChannel c 2
      else if fails.isEmpty ∧ wrong.isEmpty then s.wr (NDC_STAT.READY c) 1
      else s

/-! ### Recovery mode (13 R508) -/

/-- The PCIe domain and the always-on island. -/
def State.recover (s : State) (env : BootEnv) (why step req : Nat) : State :=
  let s : State := { s with pci := { s.pci with perst := env.perst } }
  let s := ((s.wr RST_SLOT.RECOVERY_WHY why).wr RST_SLOT.REQ_SECTION req).wr RST_STATUS.STEP step
  let s := (s.wr (PWR_DOM.ON 0) 0).wr (PWR_DOM.ON 1) (2 ^ 11 + 2 ^ 15)
  let s := (s.wr RST_STATUS.STATE 2).wr CLK_STATUS.LOCK (0x3F + 2 ^ 14 + 2 ^ 22)
  (s.wr RST_STATUS.BOOT_US (s.freeVal % 2 ^ 32)).drew

/-! ### Step 6: the boot count (11 R429, R430) -/

/-- The count of a boot-count copy (13 R494). -/
def State.countCopy (s : State) (k : Nat) : Option Nat :=
  let b := s.flashBytes (s.bootCntAt k) 16
  if field b 0 4 = 0x544E4342 ∧ field b 8 4 = 0 ∧ field b 12 4 = crc32c (b.take 12) then some (field b 4 4) else none

def State.putCount (s : State) (k v : Nat) : State :=
  let b := leBytes 4 0x544E4342 ++ leBytes 4 v ++ zeros 4
  (s.flashErase (s.bootCntAt k) 4096).flashWrite (s.bootCntAt k) (b ++ leBytes 4 (crc32c b))

/-- No nonce is issued in this run, and the keys are locked. -/
def State.noNonce (s : State) (f : Fld) : State := s.wr f 1

def State.reserveCount (s : State) (env : BootEnv) : State :=
  let a := s.countCopy 0
  let b := s.countCopy 1
  let all := a.toList ++ b.toList ++ s.ro.island.toList
  let top := all.foldl max 0
  let fresh := all.isEmpty
  if fresh ∧ s.fuses.restart ≥ 63 then (s.noNonce RST_KL.COUNT_EXHAUSTED).wr CPH_STATUS.FUSES s.fuses.restart
  else if !fresh ∧ (top + 1) % 2 ^ 26 = 0 then (s.noNonce RST_KL.COUNT_EXHAUSTED).wr CPH_STATUS.FUSES s.fuses.restart
  else
    let s : State := if fresh then { s with fuses := { s.fuses with restart := s.fuses.restart + 1 } } else s
    let s := (if fresh then s.wr CPH_STATUS.COUNT_RESTART 1 else s).wr CPH_STATUS.FUSES s.fuses.restart
    let v := if fresh then s.fuses.restart * 2 ^ 26 + 1 else top + 1
    let k := if a = some top ∧ !fresh then 1 else 0
    if env.countFail then ((s.flashWrite (s.bootCntAt k) (leBytes 16 (s.freeVal % 2 ^ 128))).drew).noNonce RST_KL.BOOT_COUNT_WRITE
    else
      let s := s.putCount k v
      let s : State := { s with ro := { s.ro with island := some v } }
      (s.wr CPH_STATUS.BOOT_COUNT v).wr CPH_STATUS.NONCE_READY 1

/-! ### Step 7: the sections (13 R502, R503) -/

/-- A candidate that a boot may use, and whether it is loaded under R503. -/
structure Choice where
  cand : Cand
  locked : Bool
  deriving DecidableEq, Repr

/-- The usable candidates of a section, in order. -/
def State.usable (s : State) (img : List Byte) (id : Nat) : List Choice :=
  let cs := s.cands img id
  let own := fun (c : Cand) => (s.ownChecks id c.bytes).isNone
  if cs.any Cand.crc then (cs.filter (fun c => c.crc && own c)).map (fun c => ⟨c, false⟩) else (cs.filter own).map (fun c => ⟨c, true⟩)

/-- The items of the candidate at the head of a section's list. -/
def headItems (ls : List (Nat × List Choice)) (id : Nat) : List CfgItem :=
  match ls.find? (fun e => e.1 == id) with
  | some (_, c :: _) => itemsOf c.cand.bytes
  | _ => []

/-- The checks that span sections: a failing pair's higher section, or the other where that one has none in force, takes its next candidate (R502). -/
def State.settleSections (s : State) : Nat → List (Nat × List Choice) → List (Nat × List Choice)
  | 0, ls => ls
  | n + 1, ls =>
    let t := ls.foldl (fun s e => s.trial e.1 (headItems ls e.1)) s
    match (t.spans (headItems ls 0x0E) (headItems ls 0x0C)).find? (fun x => !x.2.2) with
    | none => ls
    | some (a, b, _) =>
      let left := fun (id : Nat) => ls.any (fun e => e.1 == id && !e.2.isEmpty)
      let id := if left (max a b) then max a b else min a b
      State.settleSections s n (ls.map (fun e => if e.1 = id then (e.1, e.2.drop 1) else e))

/-- A segment or section is loaded although its CRC fails: the keys will be locked (R503). -/
def State.crcCause (s : State) (seg : Nat) (isSec : Bool) : State :=
  if s.flag RST_KL.SEGMENT_CRC then s else ((s.wr RST_KL.SEGMENT_CRC 1).wr RST_KL.SEGMENT seg).wrB RST_KL.IS_SECTION isSec

/-- A chosen section is put in force and measured. -/
def State.force (s : State) (img : List Byte) (id : Nat) (c : Choice) : State :=
  let b := c.cand.bytes.take (secLen c.cand.bytes)
  let first := match s.cands img id with | d :: _ => d == c.cand | [] => true
  let s := if c.locked then s.crcCause id true else s
  (s.setSec id { gen := c.cand.gen, source := c.cand.source, bytes := b, skipped := !first, crcLocked := c.locked }).measure 4 id b.length c.cand.gen b

/-! ### Steps 11 and 12: what the sections hold -/

/-- The parts of a section that configure (13 R499, R505, R506). -/
def State.loadSection (s : State) (id : Nat) : State :=
  let its := s.itemsInForce id
  let s := s.trial id its
  match id with
  | 0x0C => its.foldl (fun s i => match i with
      | .drip m u => (s.dripChans m).foldl (fun s c =>
          let k := bankOf u
          let s := (s.setBank c 0 k).wr (DRP_STAT.UCODE_ID c) k.id
          (List.range 16).foldl (fun s e => (s.wr (DRP_ENTRY.PC c e) (FMap.get 0 k.entry e)).wr (DRP_ENTRY.VALID c e) (FMap.get 0 k.entry e / 4096)) s) s
      | _ => s) s
  | 0x0E => its.foldl (fun s i => match i with | .ctx c f b => s.putCtx c f b | _ => s) s
  | _ => its.foldl (State.putContents · false ·) s

/-- The domains that the part has (15 R552). -/
def State.domains (s : State) : Nat × Nat :=
  (((List.range 64).filter s.hasCluster).foldl (fun a k => a + 2 ^ k) 0, 0xF + (if s.part = .YL9640 then 0xF0 else 0x70) + 0xFF00)

/-- The keys are released, or locked (R506). -/
def State.keys (s : State) : State :=
  if s.flag RST_KL.SEGMENT_CRC || s.flag RST_KL.BOOT_COUNT_WRITE || s.flag RST_KL.COUNT_EXHAUSTED || s.flag RST_KL.JTAG_DEBUG then
    s.wr RST_STATUS.KEYS_LOCKED 1
  else s.wr RST_STATUS.KEYS_RELEASED 1

/-- The rings and slices of the layout, whose delivery epochs advance (01 R39), and the threads that start (09 R377; 08 R325; 04 R129). -/
def State.startUnits (s : State) : State :=
  let s := ((s.hq.desc.map (fun e => e.1)).foldl State.resetRing s).syncSlices.tickTie.showTie.advanceAllEpochs none
  let s : State := { s with crf := { s.crf with flushBase := s.ticks, flushAt := s.ticks } }
  let s : State := { s with dy := { s.dy with base := if s.ticks = 0 then [] else (List.range 1024).map (fun e => (e, s.ticks)) } }
  (List.range 4).foldl (fun s q => s.startMarked (s.itemsInForce (0x10 + q))) s

/-- Steps 9 to 15, once the sections are chosen. -/
def State.bootOn (s : State) (env : BootEnv) (img : List Byte) : State :=
  let lost := (s.err.gddrLost ++ env.badGddr.map (fun d => (d : Nat))).eraseDups
  let s : State := { s with pci := { s.pci with perst := env.perst }, err := { s.err with gddrLost := lost } }
  let s := match lost with | d :: _ => s.warn 10 0x0A01 d 0 | [] => s
  match lost with
  | _ :: d :: _ =>
    let s := (s.logError 10 0x0A03 5 d 0).wr RST_STATUS.STEP 8
    { s with err := { s.err with halted := true } }
  | _ =>
    let s := s.keys
    let old := s
    let s := sectionIds.foldl State.clearSec s
    let s := (sectionIds.filter (fun id => (s.sec id).gen != 0)).foldl State.loadSection s
    -- the lane calibration section's changes are recorded (02 R90, R91)
    let s := (List.range 64).foldl (fun s n => s.calRecord n (old.lcal n) (old.rxTotal n) (old.txTotal n)) s
    let s := ((s.wr EZN_STATUS.ROLE (if s.rd EZN_CFG.MEMBERS = 1 then 0 else 3)).wr EZN_LEVEL.LEVEL_MIN (field img 23 1)).wr EZN_LEVEL.LEVEL_MAX (field img 24 1)
    let s := s.channels.foldl (fun s c => s.initChannel env c) s
    let s := s.startUnits
    let d := s.domains
    let s := (((s.wr (PWR_DOM.ON 0) d.1).wr (PWR_DOM.ON 1) d.2).wr CLK_STATUS.LOCK (2 ^ 23 - 1 + 2 ^ 24)).wr CRF_STATUS.REPLAYING 1
    let s := ((s.wr CRF_STATUS.MODE_OLD (s.rd CRF_CFG.MODE)).wr CRF_STATUS.KEYS_LOCKED (s.rd RST_STATUS.KEYS_LOCKED)).wr CPH_STATUS.KEYS_LOCKED
      (s.rd RST_STATUS.KEYS_LOCKED)
    let s := s.rebuildMap env.badCkpts
    let gone := s.channels.flatMap (fun c => (List.range 16).filterMap (fun l => if s.nand.lost.contains c || s.lunLost c l then some (c, l) else none))
    let s := gone.foldl (fun s p => s.poisonLun p.1 p.2) s
    let s := s.syncFallback
    let s := ((s.wr RST_STATUS.STATE 1).wr RST_STATUS.STEP 15)
    (s.wr RST_STATUS.BOOT_US (s.freeVal % 2 ^ 32)).drew

/-! ### Steps 1 to 7 -/

/-- The units of the YL9640 that the part lacks (00 R3, R4). -/
def State.fusedUnits (s : State) : List FatalUnit :=
  ((List.range 64).filter (fun k => !s.hasCluster k)).map .cluster ++ ((List.range 8).filter (fun g => !s.hasLane (8 * g))).map .laneGroup
    ++ ((List.range 32).filter (fun c => !s.hasChannel c)).map .channel

/-- The slots in the order in which Roaster tries their cores (R500). -/
def State.slotOrder (s : State) : List Nat :=
  match s.slotImage 0, s.slotImage 1 with
  | some _, some _ => if s.slotGen 0 < s.slotGen 1 then [1, 0] else [0, 1]
  | some _, none => [0]
  | none, some _ => [1]
  | none, none => []

/-- The boot from step 1 on. -/
def State.bootRun (s : State) (env : BootEnv) : State :=
  let s := match s.descriptor with
    | some (k, d) => (s.wr CFG_FLASH.DESC_COPY k).wr CFG_FLASH.FLASH_MIB (field d 8 4)
    | none => (s.wr CFG_FLASH.DESC_DEFAULT 1).wr CFG_FLASH.FLASH_MIB 128
  let s : State := { s with ro := { s.ro with absent := s.fusedUnits } }
  let s := (s.wrB CFG_FLASH.WP env.wp).syncSlots
  let s := s.measure 1 0 262144 0 Config.rom
  let order := s.slotOrder
  let s := s.wrB RST_STATUS.GEN_TIE (order.length == 2 && s.slotGen 0 == s.slotGen 1)
  match order with
  | [] => s.recover env 1 4 0
  | first :: _ =>
    match order.find? (fun k => !env.badCore.any (fun b => (b : Nat) == k)) with
    | none => s.recover env 2 4 0
    | some k =>
      let s := (s.wrB RST_STATUS.CORE_FALLBACK (k != first)).wr RST_SLOT.BOOTED (k + 1)
      let img := match s.slotImage k with | some (i, _) => i | none => []
      let s : State := { s with ro := { s.ro with imageGen := s.slotGen k } }
      let s := s.wr RST_REV.REVISION (field img 16 4)
      let segs := segsOf img
      let s := (segs.filter (fun g => g.kind == 1)).foldl (fun s g => s.measure 2 g.idx g.len 0 (segBytes img g)) s
      let s := s.reserveCount env
      let s := (segs.filter (fun g => g.kind == 2)).foldl (fun s g =>
        let s := s.measure 3 g.idx g.len 0 (segBytes img g)
        if crc64 (segBytes img g) = g.crc then s else s.crcCause g.idx false) s
      let bare := sectionIds.foldl State.clearSec s
      let ls := bare.settleSections 64 (sectionIds.map (fun id => (id, bare.usable img id)))
      match ls.find? (fun e => e.2.isEmpty && s.required e.1) with
      | some e => s.recover env 3 6 e.1
      | none =>
        let s := ls.foldl (fun s e => match e.2 with | c :: _ => s.force img e.1 c | [] => s) s
        s.bootOn env img

/-- Step 1 waits for PWR_FAIL_N and for a stable REFCLK (15 R555, R561). -/
def State.boot (s : State) (t : Nat) (env : BootEnv) : State :=
  let fail := env.pwrFail || s.pw.fail
  if fail ∨ s.flag CLK_STATUS.ON_BACKUP then { s with pw := { s.pw with hold := some t, fail := fail } }
  else ({ s with pw := { s.pw with hold := none, fail := false } } : State).bootRun env

/-- A reset of type `t` up to its boot: what it keeps, and ERR_RESET (14 R535, R537). -/
def State.resetTo (s : State) (t : Nat) : State :=
  let r := resetRank t
  let clean := s.flag PWR_STATUS.PWR_SAFE
  let s := (s.resetDomains r).nandReset r
  let s : State := if r = 3 ∧ !clean then { s with blk := { s.blk with unsafe_ := s.blk.unsafe_ + 1 } } else s
  let s : State := if r = 3 then { s.wr EZN_STATUS.ISLAND_LOST 1 with pw := { s.pw with fail := false, trip := false } } else s
  let s := if r = 1 then s else ((s.wr PWR_STATUS.POWER_FAIL 0).wr PWR_STATUS.PWR_SAFE 0).wr PWR_STATUS.THERM_WARN 0
  let s := s.wr ERR_RESET.LAST_TYPE t
  let s := if 4 ≤ t then s.count ERR_RESET.WARM else if t = 1 then s else s.count ERR_RESET.COLD
  if t = 5 then s.count ERR_RESET.FATAL else s

/-! ### The commands -/

/-- POWER_ON_RESET (14 R535; 15 R559): VDD_AON rises. -/
def execPowerOnReset (env : BootEnv) (s : State) : Host.Outcome State Fault Refusal := .next ((s.resetTo 1).boot 1 env)

/-- COLD_RESET (14 R535, R577): RESET_N, or the end of the wait of a cold reset. -/
def execColdReset (pin : Bool) (env : BootEnv) (s : State) : Host.Outcome State Fault Refusal :=
  let s := if pin then s.trigger 2 else s
  match s.err.pend with
  | some t => if resetRank t = 2 ∧ s.quiet then .next ((s.resetTo t).boot t env) else .next s
  | none => .next s

/-- WARM_RESET (14 R577): the operations in progress have ended. -/
def execWarmReset (env : BootEnv) (s : State) : Host.Outcome State Fault Refusal :=
  match s.err.pend with
  | some t => if resetRank t = 1 ∧ s.quiet ∧ !s.flag PWR_STATUS.POWER_FAIL then .next ((s.resetTo t).boot t env) else .next s
  | none => .next s

/-- DEVICE_FATAL_RESET (14 R533): every NAND operation already issued has ended; the device takes a warm reset, or halts. -/
def execDeviceFatalReset (env : BootEnv) (s : State) : Host.Outcome State Fault Refusal :=
  if !s.err.device ∨ s.err.halted ∨ s.err.pend.isSome ∨ s.flag PWR_STATUS.POWER_FAIL ∨ !s.spent then .next s
  else if s.flag ERR_CFG.FATAL_HALT ∨ (s.rd RST_STATUS.STATE = 0 ∧ s.rd ERR_RESET.LAST_TYPE = 5) then .next { s with err := { s.err with halted := true } }
  else .next ((s.resetTo 5).boot 5 env)

/-- WATCHDOG (14 R540). -/
def execWatchdog (rpc : BitVec 32) (s : State) : Host.Outcome State Fault Refusal :=
  if s.recovery ∨ s.err.pend.isSome ∨ s.flag PWR_STATUS.POWER_FAIL then .next s
  else .next ((s.logError 0 0x0006 5 0 rpc.toNat).trigger 6)

/-- DEVICE_RESET (14 R541, R542). -/
def execDeviceReset (sl : Fin 256) (s : State) : Host.Outcome State Fault Refusal :=
  .next (s.serve sl 0x0500 (· == 8) true true (fun s pl =>
    let k := field pl 0 1
    if field pl 1 3 ≠ 0 ∨ k = 0 ∨ 2 < k then (s, some (5, []))
    else if field pl 4 4 ≠ 0x54455352 then (s, some (0x0100, []))
    else ({ s with err := { s.err with ask := some ((sl : Nat), if k = 1 then 4 else 3), askAt := none } }, some (0, []))))

/-- DEVICE_RESET_ACK_TIMEOUT (14 R541): 10 ms after DONE. -/
def execDeviceResetAckTimeout (s : State) : Host.Outcome State Fault Refusal :=
  match s.err.ask with
  | some (_, t) => if s.err.askAt.any (fun a => decide (a + msTicks 10 ≤ s.ticks)) then .next (s.trigger t) else .next s
  | none => .next s

/-- POWER_FAIL_CLEAR (15 R561): a held boot leaves step 1 once REFCLK is stable too. -/
def execPowerFailClear (env : BootEnv) (s : State) : Host.Outcome State Fault Refusal :=
  let s : State := { s with pw := { s.pw with fail := false } }
  match s.pw.hold with
  | some t => .next (s.boot t env)
  | none => .next s

/-- ROOT_PLL_RELOCK (15 R555): the timebase returns to the root PLL at a tick boundary; a held boot leaves step 1 once PWR_FAIL_N is deasserted too. -/
def execRootPllRelock (env : BootEnv) (s : State) : Host.Outcome State Fault Refusal :=
  let s := s.wr CLK_STATUS.ON_BACKUP 0
  match s.pw.hold with
  | some t => if s.pw.fail then .next s else .next (s.boot t env)
  | none => .next s

end Sys2Proof.Machine
end

