-- ==== Sys2Proof/Machine/Endpoint.lean ====
section
/-!
DEFINITION. The PCIe endpoint (chapter 08): completions of device reads (R311 to R315), mailboxes (R319 to R324), function resets, power state and
link (R296, R331 to R333) and peer windows (R334 to R337).
-/

namespace Sys2Proof.Machine

/-- An endpoint error in log 6 (08 R339; 14 Table 14-4): its INFO is the TLP's header, which no command carries (a free value). -/
def State.pcieError (s : State) (code fn : Nat) : State := ((s.aer code fn).logError 6 code 3 fn (s.freeVal % 2 ^ 64)).drew

/-- The PF0 device ID (08 Table 08-1; 15 R573). -/
def State.deviceId (s : State) : Nat := match s.part with | .YL9640 => 0x9640 | .YL9632 => 0x9632

/-! ### Completions -/

/-- A read has ended: its data is handed to the block that asked for it, or the read has failed (08 R311, R315; 09 R359 to R361; 10 R402). -/
def State.readDone (s : State) (h : HostRead) (ok : Bool) : State :=
  match h.purpose with
  | .grant r index _ => if ok then s.takeGrants r (s.sub r).grants else s.ringError r 1 index
  | .poll r index =>
    if ok then ((s.setSub r { s.sub r with polling := false, polledAt := some s.ticks }).announce r index h.data) else s.ringError r 1 index
  | .indirect r =>
    if ok then s.setSub r { s.sub r with indData := some h.data } else s.ringError r 1 (s.sub r).h
  | .storage id =>
    { s with blk := { s.blk with cmds := s.blk.cmds.map fun c =>
        if c.id = id then (if ok then { c with data := c.data ++ h.data, phase := if s.pci.reads.any (fun o => o.purpose == .storage id) then c.phase else 2 }
                           else { c with phase := 4, sct := 0, sc := 0x04, result := if c.opc = 0x11 then field c.bytes 8 8 else 0 })
        else c } }

/-- The request of a read that holds a tag and still waits for data. -/
def HostRead.waits (h : HostRead) (tag : Nat) : Bool := h.reqs.any (fun q => q.tag == some tag && decide (q.got.length < q.len))

/-- A read leaves the list, and waiting requests may take its tags. -/
def State.endRead (s : State) (tag : Nat) : State :=
  { s with pci := { s.pci with reads := dropFirst (fun h => h.waits tag) s.pci.reads } }

/-- A grant stays in the list until its ring takes it in order. -/
def Purpose.kept : Purpose → Bool
  | .grant .. => true
  | _ => false

/-- A read fails: a UR or CA status, a poisoned completion, or a timeout. Its other requests' completions are still awaited, and discarded. -/
def State.failRead (s : State) (tag : Nat) (h : HostRead) : State :=
  let rest := h.reqs.filter (fun q => q.tag.isSome && q.tag != some tag && decide (q.got.length < q.len))
  let s := s.endRead tag
  let s := if rest.isEmpty then s else { s with pci := { s.pci with reads := s.pci.reads ++ [{ h with reqs := rest, dead := true }] } }
  if h.dead then s else s.readDone h false

/-- READ_COMPLETION (08 R311, R315, R328): a completion is accepted in any piece and order; the read is handed over when whole. One for a quarantined tag
or for no request is discarded and reported as unexpected, but for a squashed read's, which is discarded in silence. -/
def execReadCompletion (tag : Fin 16384) (c : Cpl) (s : State) : Host.Outcome State Fault Refusal :=
  match s.pci.reads.find? (fun h => h.waits tag) with
  | none => .next ((s.count PCI_TAG_STAT.UNEXPECTED).pcieError 0x13 1)
  | some h =>
    match c with
    | .failed => let s := (s.failRead tag h).issueReads; .next (if h.squashed then s else s.pcieError 0x15 1)
    | .poisoned => let s := (s.failRead tag h).issueReads; .next (if h.squashed then s else s.pcieError 0x11 1)
    | .data bs =>
      let h' := { h with reqs := mapFirst (fun q => q.tag == some (tag : Nat) && decide (q.got.length < q.len))
                                  (fun q => { q with got := (q.got ++ bs).take q.len }) h.reqs }
      let whole := h'.reqs.all (fun q => decide (q.len ≤ q.got.length))
      let s := { s with pci := { s.pci with reads := mapFirst (fun o => o.waits tag) (fun _ => h') s.pci.reads } }
      let drop := fun (s : State) => { s with pci := { s.pci with reads := dropFirst (fun o => o == h') s.pci.reads } }
      if !whole then .next s
      else if h.dead then .next (drop s).issueReads
      else if h.purpose.kept then .next ((s.readDone h' true).issueReads)
      else .next (((drop s).readDone h' true).issueReads)

/-- The time after which a read request times out, in microseconds (08 R314, Table 08-7). -/
def PcieFn.timeoutUs (f : PcieFn) : Nat :=
  match f.ctoValue with
  | 1 => 80 | 2 => 8000 | 6 => 160000 | 9 => 700000 | 10 => 3000000 | _ => 40000

/-- The request that holds a tag has timed out. -/
def State.timedOut (s : State) (h : HostRead) (tag : Nat) : Bool :=
  !s.pci.fn1.ctoDisable && h.reqs.any (fun q => q.tag == some tag && decide (q.got.length < q.len) && decide (q.at_ + usTicks s.pci.fn1.timeoutUs ≤ s.ticks))

/-- COMPLETION_TIMEOUT (08 R315): the whole read fails, and the tag is quarantined. -/
def execCompletionTimeout (tag : Fin 16384) (s : State) : Host.Outcome State Fault Refusal :=
  match s.pci.reads.find? (fun h => h.waits tag) with
  | none => .next s
  | some h =>
    if !s.timedOut h tag then .next s
    else if h.squashed then .next (s.failRead tag h).issueReads
    else
      let s := s.failRead tag h
      let s := { s with pci := { s.pci with quarantine := s.pci.quarantine ++ [((tag : Nat), s.ticks)] } }
      .next ((s.count PCI_TAG_STAT.TIMEOUTS).pcieError 0x12 1)

/-- TAG_QUARANTINE_END (08 R315): one further timeout period has passed. -/
def execTagQuarantineEnd (tag : Fin 16384) (s : State) : Host.Outcome State Fault Refusal :=
  .next { s with pci := { s.pci with quarantine := s.pci.quarantine.filter (fun e => e.1 != (tag : Nat) || decide (s.ticks < e.2 + usTicks s.pci.fn1.timeoutUs)) } }.issueReads

/-! ### Mailboxes -/

/-- A write of 1 to GO (08 R320). -/
def State.goWrite (s : State) (sl : Nat) : State :=
  let m := s.mb sl
  if m.st ≠ .idle then s.setMb sl { m with overrun := true }
  else
    let env := Memory.readBytes m.req 0 16
    let cur := env ++ Memory.readBytes m.req 16 (min (field env 2 2) 1008)
    let m := { m with st := .busy, cur := cur, order := s.goCount, taken := false, ans := none, cut := false, lastOp := field env 0 2,
                      requests := satInc 32 m.requests }
    { (s.setMb sl m) with goCount := s.goCount + 1 }

def State.ackWrite (s : State) (sl : Nat) : State :=
  let m := s.mb sl
  if m.st = .done then s.setMb sl { m with st := .idle } else s

/-- PF0 takes memory requests: its link is up, and no FLR or endpoint reset holds it (08 R332). -/
def State.pf0On (s : State) : Bool := s.flag PCI_LINK.UP && !s.pci.fn0.flr && !s.pci.perst && !s.isFatal .pcie

/-- GO and ACK (08 R320, R332). The ACK of a DEVICE_RESET response begins the reset (14 R541). -/
def execGo (sl : Fin 256) (s : State) : Host.Outcome State Fault Refusal := .next (if s.pf0On then s.goWrite sl else s)
def State.ackNow (s : State) (sl : Nat) : State :=
  match s.err.ask with
  | some (a, t) => if a = sl ∧ (s.mb sl).st = .done then (s.ackWrite sl).trigger t else s.ackWrite sl
  | none => s.ackWrite sl

def execAck (sl : Fin 256) (s : State) : Host.Outcome State Fault Refusal := .next (if s.pf0On then s.ackNow sl else s)

/-- The opcodes that some chapter assigns (08 R323, Table 08-11). -/
def opcodes : List Nat :=
  [0x0001, 0x0002, 0x0003, 0x0100, 0x0101, 0x0102, 0x0103, 0x0200, 0x0201, 0x0202, 0x0203, 0x0204, 0x0205, 0x0206, 0x0207, 0x0300] ++
  [0x0400, 0x0401, 0x0402, 0x0500, 0x0501, 0x0502, 0x0503, 0x0600, 0x0601, 0x0602, 0x0603, 0x0604, 0x0700, 0x0701, 0x0702, 0x0703]

/-- A request whose opcode nobody owns is answered by the slice manager itself (08 R322, R323). -/
def State.orphan (s : State) (sl : Nat) : State :=
  let m := s.mb sl
  if m.st = .busy ∧ m.ans.isNone ∧ !m.taken ∧ !opcodes.contains m.op ∧ (s.run ∨ s.recovery) then
    s.answer sl (if !s.sliceOn sl then 3 else if s.recovery then 4 else 1) []
  else s

/-- MAILBOX_DONE (08 R320, R321, R332): the response is written, the mailbox enters DONE, and vector `sl` is sent; a request cut off by an FLR of PF0
leaves no response. -/
def execMailboxDone (sl : Fin 256) (s : State) : Host.Outcome State Fault Refusal :=
  let s := s.orphan sl
  let m := s.mb sl
  match m.st, m.ans with
  | .busy, some (st, pl) =>
    let asks := s.err.ask.any (fun a => a.1 == (sl : Nat))
    if m.cut then
      let s : State := if asks then { s with err := { s.err with ask := none } } else s
      .next (s.setMb sl { m with st := .idle, cut := false, taken := false, ans := none, cur := [] })
    else
      let rsp := leBytes 2 m.op ++ leBytes 2 pl.length ++ slice m.cur 4 4 ++ leBytes 2 st ++ zeros 6 ++ pl
      let s := s.setMb sl { m with st := .done, rsp := Memory.writeBytes m.rsp 0 rsp, taken := false, ans := none, cur := [] }
      let s : State := if asks then { s with err := { s.err with askAt := some s.ticks } } else s
      .next (if m.irqEn then s.msix 0 sl else s)
  | _, _ => .next s

/-- ECHO (08 R323). -/
def execEcho (sl : Fin 256) (s : State) : Host.Outcome State Fault Refusal :=
  .next (s.serve sl 0x0001 (fun n => decide (n ≤ 1008)) false true (fun s pl => (s, some (0, pl))))

/-- SLICE_INFO (08 R323). -/
def execSliceInfo (sl : Fin 256) (s : State) : Host.Outcome State Fault Refusal :=
  .next (s.serve sl 0x0002 (· == 0) false true (fun s _ =>
    (s, some (0, leBytes 1 sl ++ leBytes 1 (b2n (s.sliceAdmin sl)) ++ zeros 2 ++ leBytes 4 (s.rd (SLC_STAT.DELIVERY_EPOCH sl))
      ++ leBytes 4 (s.rd (SLC_CFG.PASID sl)) ++ leBytes 1 (s.slc sl).st))))

/-! ### Function resets, power state, link -/

/-- PF1_FLR (08 R331, Table 08-13). -/
def execPf1Flr (s : State) : Host.Outcome State Fault Refusal :=
  .next (if s.pci.fn1.flr then s else { s with pci := { s.pci with fn1 := { s.pci.fn1 with flr := true, flrAt := s.ticks } } }.squashAll)

/-- The mailbox handshakes of an FLR of PF0, and of an endpoint reset (08 R332). -/
def State.resetMailboxes (s : State) : State :=
  { s with mbox := s.mbox.map fun e =>
      (e.1, if e.2.st = .busy then { e.2 with cut := true, aborted := true } else { e.2 with st := .idle }) }

/-- PF0_FLR (08 R332). -/
def execPf0Flr (s : State) : Host.Outcome State Fault Refusal :=
  .next (if s.pci.fn0.flr then s else { s with pci := { s.pci with fn0 := { s.pci.fn0 with flr := true, flrAt := s.ticks } } }.resetMailboxes)

/-- An FLR has run for 1 ms (08 Table 08-13). -/
def State.flrOver (s : State) (f : PcieFn) : Bool := f.flr && decide (f.flrAt + usTicks 1000 ≤ s.ticks)

/-- FLR_COMPLETE (08 R331, R332): at 1 ms the function's configuration space holds its reset values, and it accepts requests again. -/
def execFlrComplete (pf1 : Bool) (s : State) : Host.Outcome State Fault Refusal :=
  if pf1 then .next (if s.flrOver s.pci.fn1 then { s with pci := { s.pci with fn1 := {}, msix1 := [], pend1 := [] } } else s)
  else .next (if s.flrOver s.pci.fn0 then { s with pci := { s.pci with fn0 := {}, msix0 := [], pend0 := [] } } else s)

/-- PF1_D3HOT, BUS_MASTER_CLEAR, PCIE_LINK_LOSS (08 R333): each acts on the slices as an FLR of PF1, and leaves PF1's configuration space. -/
def execPf1D3hot (s : State) : Host.Outcome State Fault Refusal :=
  .next ({ s with pci := { s.pci with fn1 := { s.pci.fn1 with d3 := true } } }.squashAll)

def execBusMasterClear (s : State) : Host.Outcome State Fault Refusal :=
  .next (if s.pci.fn1.busMaster then { s with pci := { s.pci with fn1 := { s.pci.fn1 with busMaster := false } } }.squashAll else s)

def execPcieLinkLoss (s : State) : Host.Outcome State Fault Refusal :=
  .next (if s.flag PCI_LINK.UP then s.linkDown.squashAll else s)

/-- PCIE_LINK_UP (08 R296): 64 GT/s is used only in FLIT mode. Training again after the first time is a retrain. -/
def execPcieLinkUp (speed : Fin 3) (width : Fin 5) (flit : Bool) (s : State) : Host.Outcome State Fault Refusal :=
  if s.flag PCI_LINK.UP || s.pci.perst || s.isFatal .pcie || !bitAt (s.rd (PWR_DOM.ON 1)) 11 || (speed == 2 && !flit) then .next s
  else
    let s := if s.pci.trained then s.count PCI_LINK.RETRAINS else s
    let s := { s with pci := { s.pci with trained := true } }
    .next ((((s.wr PCI_LINK.SPEED (4 + (speed : Nat))).wr PCI_LINK.WIDTH (2 ^ (width : Nat))).wrB PCI_LINK.FLIT flit).wr PCI_LINK.UP 1)

/-- An endpoint reset (14 R539): the configuration space, MSI-X tables and PBA of both functions take their reset values, both peer window sets are cleared, and
slices and mailboxes act as 08 R332 and R333 give. -/
def State.endpointReset (s : State) : State :=
  let s := (s.linkDown.squashAll).resetMailboxes
  { s with pci := { s.pci with fn0 := {}, fn1 := {}, msix0 := [], msix1 := [], pend0 := [], pend1 := [] },
           regs := s.regs.filter (fun e => let off := e.1 / 64 * 8; !(decide (0x81000 ≤ off) && decide (off < 0x82000))) }

/-- ENDPOINT_RESET (14 R539): PERST# is asserted, or a hot reset is received. A wider reset in progress discards it (14 R538). -/
def execEndpointReset (perst : Bool) (s : State) : Host.Outcome State Fault Refusal :=
  if s.err.pend.isSome then .next { s with pci := { s.pci with perst := s.pci.perst || perst } }
  else
    let s := s.endpointReset
    .next { s with pci := { s.pci with perst := s.pci.perst || perst } }

/-- PERST_DEASSERT (14 R539): the link may train. -/
def execPerstDeassert (s : State) : Host.Outcome State Fault Refusal := .next { s with pci := { s.pci with perst := false } }

/-! ### Peer windows -/

/-- A shadow window's byte range in BAR2, from its base to one past its end, in 4 KiB units. -/
def State.shadowRange (s : State) (k : Nat) : Nat × Nat :=
  (s.rd (PCI_SWINA.BAR_4K k), s.rd (PCI_SWINA.BAR_4K k) + s.rd (PCI_SWINA.SIZE_4K k))

/-- The case that refuses a commit, 0 for none (08 R336). -/
def State.commitCase (s : State) : Nat :=
  let en := (List.range 16).filter (fun k => s.flag (PCI_SWINA.EN k))
  let kind := fun k => s.rd (PCI_SWINA.KIND k)
  let base := s.rd PCI_PEER_AREA.BASE_4K
  let tgt := fun k => s.rd (PCI_SWINT.TGT_4K k)
  let size := fun k => s.rd (PCI_SWINA.SIZE_4K k)
  if en.any (fun j => en.any (fun k => decide (j < k) && decide ((s.shadowRange j).1 < (s.shadowRange k).2)
      && decide ((s.shadowRange k).1 < (s.shadowRange j).2))) then 1
  else if en.any (fun k => kind k == 0 && (decide (tgt k < base) || decide (base + s.rd PCI_PEER_AREA.SIZE_4K < tgt k + size k)
      || s.rd PCI_PEER_AREA.SIZE_4K == 0)) then 2
  else if en.any (fun k => kind k == 1 && (s.flag (PCI_SWINA.RD k) || decide (32768 < tgt k + size k))) then 3
  else if en.any (fun k => decide (2 ≤ kind k)) then 4
  else 0

/-- The shadow registers of window `k` become active. -/
def State.copyWindow (s : State) (k : Nat) : State :=
  let s := (((s.wr (PCI_WINA.EN k) (s.rd (PCI_SWINA.EN k))).wr (PCI_WINA.RD k) (s.rd (PCI_SWINA.RD k))).wr (PCI_WINA.WR k)
    (s.rd (PCI_SWINA.WR k))).wr (PCI_WINA.KIND k) (s.rd (PCI_SWINA.KIND k))
  let s := (s.wr (PCI_WINA.BAR_4K k) (s.rd (PCI_SWINA.BAR_4K k))).wr (PCI_WINA.SIZE_4K k) (s.rd (PCI_SWINA.SIZE_4K k))
  let s := (s.wr (PCI_WINT.TGT_4K k) (s.rd (PCI_SWINT.TGT_4K k))).wr (PCI_WINT.SLICE k) (s.rd (PCI_SWINT.SLICE k))
  (s.wr (PCI_WINR.RID k) (s.rd (PCI_SWINR.RID k))).wr (PCI_WINR.RID_MASK k) (s.rd (PCI_SWINR.RID_MASK k))

/-- PCI_WIN_COMMIT (08 R335, R336). -/
def State.winCommit (s : State) : State :=
  match s.commitCase with
  | 0 =>
    let s := (List.range 16).foldl State.copyWindow s
    (s.wr PCI_WIN_COMMIT.REFUSED 0).wr PCI_WIN_EPOCH.EPOCH (s.rd PCI_WIN_EPOCH.EPOCH + 1)
  | c => (s.wr PCI_WIN_COMMIT.REFUSED 1).wr PCI_WIN_COMMIT.REASON c

def execPciWinCommit (s : State) : Host.Outcome State Fault Refusal := .next (if s.pf0On then s.winCommit else s)

/-- A refused peer TLP (08 R337). -/
def State.peerRefuse (s : State) (rid off cause : Nat) (isRead : Bool) : State :=
  let s := if s.flag PCI_WIN_LOG.VALID then s
    else (((s.wr PCI_WIN_LOG.OFFSET off).wr PCI_WIN_LOG.CAUSE cause).wr PCI_WIN_LOG.RID rid).wr PCI_WIN_LOG.VALID 1
  let s := (s.count PCI_WIN_LOG.COUNT).pcieError 0x14 1
  if isRead then s.emit (.completion none) else s

/-- Active window `k` matches the requester, and the TLP starts in it; it lies whole in it (08 R334). -/
def State.winStarts (s : State) (k rid off : Nat) : Bool :=
  let m := s.rd (PCI_WINR.RID_MASK k)
  s.flag (PCI_WINA.EN k) && (rid &&& m) == (s.rd (PCI_WINR.RID k) &&& m)
    && decide (s.rd (PCI_WINA.BAR_4K k) * 4096 ≤ off) && decide (off < (s.rd (PCI_WINA.BAR_4K k) + s.rd (PCI_WINA.SIZE_4K k)) * 4096)
def State.winWhole (s : State) (k off len : Nat) : Bool :=
  decide (off + len ≤ (s.rd (PCI_WINA.BAR_4K k) + s.rd (PCI_WINA.SIZE_4K k)) * 4096)

/-- The slice that a doorbell page belongs to. -/
def State.pageSlice (s : State) (r : Nat) : Option Nat :=
  if (s.sdesc r).en then some (s.sdesc r).slice else if (s.ddesc r).en then some (s.ddesc r).slice else none

/-- PEER_TLP (08 R334, R337): a read carries no data and `len` bytes are asked for. -/
def execPeerTlp (rid : Fin 65536) (off : Fin 68719476736) (len : Nat) (data : Option (List Byte)) (s : State) : Host.Outcome State Fault Refusal :=
  let n := match data with | some d => d.length | none => len
  if !s.flag PCI_LINK.UP || s.pci.perst || s.isFatal .pcie then .next s
  else if s.pci.fn1.flr || s.pci.fn1.d3 || s.recovery then .next (if data.isNone then (s.pcieError 0x14 1).emit (.completion none) else s)
  else match (List.range 16).find? (fun k => s.winStarts k rid off) with
    | none => .next (s.peerRefuse rid off 1 data.isNone)
    | some k =>
      let a := s.rd (PCI_WINT.TGT_4K k) * 4096 + ((off : Nat) - s.rd (PCI_WINA.BAR_4K k) * 4096)
      if !s.winWhole k off n then .next (s.peerRefuse rid off 2 data.isNone)
      else match data with
        | none =>
          if !s.flag (PCI_WINA.RD k) then .next (s.peerRefuse rid off 3 true)
          else .next (s.emit (.completion (some (if s.rd (PCI_WINA.KIND k) = 0 then Memory.readBytes s.gddr a n else zeros n))))
        | some d =>
          if !s.flag (PCI_WINA.WR k) then .next (s.peerRefuse rid off 3 false)
          else if s.rd (PCI_WINA.KIND k) = 0 then .next { s with gddr := Memory.writeBytes s.gddr a d }
          else if s.pageSlice (a / 4096) ≠ some (s.rd (PCI_WINT.SLICE k)) then .next (s.peerRefuse rid off 4 false)
          else .next (s.doorbell (a / 4096) (a % 4096) d)

end Sys2Proof.Machine
end

