-- ==== Sys2Proof/Machine/Errors.lean ====
section
/-!
DEFINITION. Errors detected by blocks (14 R518 to R534), escalation (R530), fatal units and what follows from their loss (R532, R545), cluster remaps (R548), and the
service requests of the mailbox (R542 to R544).
-/

namespace Sys2Proof.Machine

/-! ### What follows from a fatal unit (Table 14-9) -/

/-- The log reads as zero and takes nothing: reserved, or of a fused unit (R521). -/
def State.noLog (s : State) (n : Nat) : Bool :=
  n == 14 || n == 15 || decide (112 ≤ n) || (decide (16 ≤ n) && decide (n < 48) && !s.hasChannel (n - 16))
    || (decide (48 ≤ n) && decide (n < 112) && !s.hasCluster (n - 48))

/-- The loss of one unit. -/
def State.loseUnit (s : State) (u : FatalUnit) : State :=
  match u with
  | .laneGroup g => (List.range 64).foldl (fun s p => if s.flag (SEQ_PST.LINK p) && (s.lanesOf p).any (fun n => n / 8 == g) then s.portDown p else s) s
  | .netHalf h => (List.range 64).foldl (fun s p => if s.flag (SEQ_PST.LINK p) && (s.lanesOf p).any (fun n => n / 32 == h) then s.portDown p else s) s
  | .link k => s.linkFall k 0
  | .ezoon =>
    let s := (List.range 4).foldl (fun s k => s.linkFall k 0) s
    if s.ezStop then (List.range 64).foldl (fun s p => if s.flag (SEQ_PST.ACTIVE p) then (s.wr (SEQ_PST.ACTIVE p) 0).wr (SEQ_PST.LEAVING p) 0 else s) s else s
  | .pcie => if s.flag PCI_LINK.UP then s.linkDown.squashAll else s
  | _ => s

/-- Every unit declared fatal since `old` is isolated (R532, R533). -/
def State.isolate (s : State) (old : State) : State :=
  let new := s.err.fatal.filter (fun u => !old.err.fatal.contains u)
  let s := new.foldl State.loseUnit s
  let s := if s.err.device ∧ !old.err.device then s.cutFrames else s
  s.loseFatal

/-! ### ERROR_DETECT (R522, R526, R527) -/

/-- A CORRECTED error is counted; more than CORR_WARN of one log within a second of the timebase bring one warning (R527). -/
def State.corrected (s : State) (n : Nat) : State :=
  let s := s.count (ERR_CNT.CORRECTED n)
  let sec := tbSec s.tamp.tb
  let old := FMap.get (0, 0) s.err.corr n
  let k := if old.1 = sec then old.2 + 1 else 1
  let s : State := { s with err := { s.err with corr := FMap.set (0, 0) s.err.corr n (sec, k) } }
  if s.rd ERR_CFG.CORR_WARN ≠ 0 ∧ k = s.rd ERR_CFG.CORR_WARN + 1 then s.warn n 0x00F3 0 k else s

/-- A GDDR7 device is lost (R547). -/
def State.gddrGone (s : State) (code sub : Nat) : State :=
  if code = 0x0A01 ∧ !s.err.gddrLost.contains sub then { s with err := { s.err with gddrLost := s.err.gddrLost ++ [sub] } } else s

/-- MEM_UNCORR of a cluster: the word of the memory instance holds an uncorrectable error from now on, and the access that met it takes the error response (04 Table 04-7; R519,
Table 14-4; notes/assumptions/13). -/
def State.markBad (s : State) (log code cls sub info : Nat) : State :=
  if 48 ≤ log ∧ log < 112 ∧ code = 0x00F1 ∧ cls = 2 ∧ sub ≤ 32 then
    let m := 33 * (log - 48) + sub
    { s with dy := { s.dy with bad := s.dy.bad.filter (fun b => !(b.mem == m && b.word == info / 8)) ++ [{ mem := m, word := info / 8 }] } }
  else s

/-- ERROR_DETECT (R522 to R532): a block detects an error of class `cls` + 1. -/
def execErrorDetect (log : Fin 128) (code : Fin 65536) (cls : Fin 5) (sub : Fin 256) (info : BitVec 64) (s : State) : Host.Outcome State Fault Refusal :=
  if s.noLog log then .next s
  else
    let o := s
    let s := if (log : Nat) = 6 then s.aer code sub else s
    let t : State := match (cls : Nat) with
      | 0 => s.corrected log
      | 1 => (s.warn log code sub info.toNat).gddrGone code sub
      | c => s.logError log code (c + 1) sub info.toNat
    .next ((t.markBad log code cls sub info.toNat).isolate o)

/-- A write of 1 to FIRST_VALID (R523). -/
def State.ackLog (s : State) (n : Nat) : State := if s.flag (ERR_STAT.FIRST_VALID n) then s.clearFirst n else s

/-- ERR_ACK (R523): by host software, the board management controller or JTAG. -/
def execErrAck (n : Fin 128) (s : State) : Host.Outcome State Fault Refusal := .next (s.ackLog n)

/-- ESC_WAIT_EXPIRE (R530): the source log's first record still stands after ESC_WAIT_MS, so its unit is declared fatal. -/
def execEscWaitExpire (s : State) : Host.Outcome State Fault Refusal :=
  let n := s.rd (ERR_FIRST.SUB 0)
  let i := s.rd (ERR_FIRST_INFO.INFO 0)
  if s.rd (ERR_STAT.FIRST_VALID 0) = 1 ∧ s.rd (ERR_FIRST.CODE 0) = 1 ∧ n < 128 ∧ s.rd (ERR_STAT.FIRST_VALID n) = 1
      ∧ s.err.escAt + msTicks (s.rd ERR_CFG.ESC_WAIT_MS) ≤ s.ticks then
    .next ((if s.flag (ERR_FIRST.INJECTED 0) then s.warn 0 7 n (i % 2 ^ 24) else s.declareFatal (unitOf n (bits i 0 16) (bits i 16 8))).isolate s)
  else .next s

/-! ### CLUSTER_REMAP (R548) -/

/-- Sessions dispatched to cluster `k`, and those that earlier remaps moved there, move to `to_` with an index offset, or take NOMAP. -/
def State.remap (s : State) (k : Nat) (to_ : Option (Nat × Nat)) : State :=
  let m := s.dy.remaps.map (fun e => (e.1, match e.2, to_ with
    | some (j, off), some (f, b) => if j = k then some (f, b + off) else e.2
    | some (j, _), none => if j = k then none else e.2
    | none, _ => none))
  { s with dy := { s.dy with remaps := FMap.ins m k to_ } }

/-- The remap is recorded, and the cluster powered off. -/
def State.remapped (s : State) (k seq : Nat) : State := ((s.warn 0 0x0005 k seq).errVector 4).power k false

/-- CLUSTER_REMAP (R548): without a fallback the sessions take NOMAP; otherwise an issue hold, and once every issued verdict is fixed, the copy of the tables. -/
def execClusterRemap (k : Fin 64) (readFail : Bool) (s : State) : Host.Outcome State Fault Refusal :=
  let f := s.rd (ERR_CLU_FB.FB_CLUSTER k)
  let b := s.rd (ERR_CLU_FB.FB_BASE k)
  let release := fun (s : State) => if s.ro.apply.any (fun a => a.id == 0x0A) then s else { s with merge := { s.merge with hold := false } }
  if !s.run ∨ !s.isFatal (.cluster k) ∨ (FMap.look s.dy.remaps k).isSome then .next s
  else if !s.flag (ERR_CLU_FB.EN k) ∨ !s.hasCluster f ∨ s.isFatal (.cluster f) then .next (release ((s.remap k none).remapped k 0))
  else if !(s.merge.hold && s.crf.issued.all Issued.fixed) then .next { s with merge := { s.merge with hold := true } }
  else if readFail then .next (release ((s.remap k none).remapped k 0))
  else
    let s := (List.range 16).foldl (fun s t => if s.flag (CLU_TBL.EN k t) then s.moveEntries k f t 0 b (s.rd (CLU_TBL.COUNT k t)) else s) s
    .next (release ((s.remap k (some (f, b))).remapped k (s.rd SEQ_NEXT.NEXT)))

/-! ### DOMAIN_RESET (R543) -/

/-- A unit is no longer fatal: its bits of ERR_FATAL and ERR_STAT clear when no other unit of its log is, and its domain is powered. -/
def State.mend (s : State) (us : List FatalUnit) : State :=
  let fs := s.err.fatal.filter (fun u => !us.contains u)
  let logs := (us.map logOf).eraseDups.filter (fun n => !fs.any (fun u => logOf u == n))
  let s : State := { s with err := { s.err with fatal := fs } }
  let s := logs.foldl (fun s n => (s.wrBit (ERR_FATAL.FATAL (n / 64)) (n % 64) false).wr (ERR_STAT.FATAL n) 0) s
  let s := us.foldl (fun s u => match u, domOf u with
    | .cluster k, _ => s.power k true
    | _, some d => s.power d true
    | _, none => s) s
  s.errVector 4

/-- An item of an engine image or session map that lies in cluster `k`. -/
def itemOfCluster (k : Nat) : CfgItem → Bool
  | .reg _ off _ => decide (0x1000000 ≤ off) && (off - 0x1000000) / 0x20000 == k
  | .block t _ => (tgtSpace t == 3 && tgtAddr t / 0x100000 == k) || ((tgtSpace t == 1 || tgtSpace t == 2) && tgtAddr t / 0x100000 / 16 == k)
  | .start j _ => j == k
  | _ => false

/-- A cluster is powered again with nothing in it, and what the sections in force give it is written; marked threads start (R536, R543). -/
def State.rebootCluster (s : State) (k : Nat) : State :=
  let out := fun (n : Nat) (e : Nat) => decide (e / n ≠ k)
  let d := s.dy
  let dy : Dyaris :=
    { d with threads := d.threads.filter (fun e => out 128 e.1), imem := d.imem.filter (fun e => out 16 e.1), dmem := d.dmem.filter (fun e => out 16 e.1),
             sram := d.sram.filter (fun e => out 1 e.1), locks := d.locks.filter (fun e => out 512 e.1), chans := d.chans.filter (fun e => out 256 e.1),
             binds := d.binds.filter (fun e => out 128 e.1), stalled := d.stalled.filter (fun e => out 16 e.1), supvAt := d.supvAt.filter (fun e => out 1 e.1),
             hands := d.hands.filter (fun h => out 128 h.thread), bad := d.bad.filter (fun b => out 33 b.mem),
             base := (List.range 16).foldl (fun m e => FMap.set 0 m (16 * k + e) s.ticks) d.base }
  let regs := s.regs.filter (fun e => let off := e.1 / 64 * 8; !(decide (0x1000000 ≤ off) && (off - 0x1000000) / 0x20000 == k))
  let s : State := { s with dy := dy, regs := regs }
  let load := fun (s : State) (id : Nat) =>
    let its := (s.itemsInForce id).filter (itemOfCluster k)
    its.foldl (State.putContents · false ·) (its.foldl (fun s i => s.putItem id i) s)
  let s := load (load s 0x0A) (0x10 + k / 16)
  (s.startMarked ((s.itemsInForce (0x10 + k / 16)).filter (itemOfCluster k)))

/-- The cipher array's reset (11 R444): jobs are abandoned, every enabled queue is zeroed, and withdrawn units return. -/
def State.resetCipher (s : State) : State :=
  let s : State := { s with cipher := { s.cipher with jobs := [], polled := [], units := [] } }
  let s := (List.range 64).foldl (fun s q =>
    if s.flag (CPH_JQA.EN q) then
      let n := 64 * 2 ^ s.rd (CPH_JQA.ENTRIES_LOG2 q)
      let a := s.rd (CPH_JQA.BASE_4K q) * 4096
      ({ s with gddr := s.gddr.filter (fun e => decide (e.1 < a) || decide (a + n ≤ e.1)) } : State).wr (CPH_JQS.NEXT q) 0
    else s) s
  (s.wr (CPH_UNIT_OOS.OOS 0) 0).wr (CPH_UNIT_OOS.OOS 1) 0

/-- The Ezoon domain's reset: every link end trains again (12 R452); a primary in MIRRORED or QUORUM joins anew (Table 14-9). -/
def State.resetEzoon (s : State) : State :=
  let stop := s.ezStop
  let s := (List.range 4).foldl (fun s k => if s.linkPresent k then ((s.setEzl k {}).wr (EZN_LINK_STAT.STATE k) 1).wr (EZN_LINK_STAT.CREDITS k) 0 else s) s
  if stop then ({ s with ezn := { s.ezn with formAt := s.ticks } } : State).wr EZN_STATUS.ROLE 3 else s

/-- The effect of a domain reset: a status, and the state after it. -/
def State.domainReset (s : State) (kind i : Nat) : Nat × State :=
  match kind with
  | 1 =>
    if 64 ≤ i ∨ !s.hasCluster i then (0x0100, s)
    else if !s.isFatal (.cluster i) then (0x0101, s)
    else (0, (s.rebootCluster i).mend [.cluster i])
  | 2 =>
    if 4 ≤ i then (0x0100, s)
    else if !(s.quadrant i).all (fun k => s.isFatal (.cluster k)) then (0x0101, s)
    else (0, ((s.quadrant i).foldl State.rebootCluster s).mend ((s.quadrant i).map .cluster))
  | 3 =>
    if 8 ≤ i ∨ !s.hasLane (8 * i) then (0x0100, s)
    else
      let s := s.loseUnit (.laneGroup i)
      let half := s.isFatal (.netHalf (i / 4))
      (0, if s.isFatal (.laneGroup i) ∨ half then s.mend [.laneGroup i, .netHalf (i / 4)] else s)
  | 4 => if i ≠ 0 then (0x0100, s) else
    let s' := s.resetCipher
    let us := s.err.fatal.filter (fun u => match u with | .cipherUnit _ => true | .cipherArray => true | _ => false)
    (0, if us.isEmpty then s' else s'.mend us)
  | _ =>
    if i ≠ 0 then (0x0100, s)
    else if !(s.isFatal .ezoon ∨ s.rd EZN_STATUS.ROLE = 0 ∨ !s.sequencing) then (0x0101, s)
    else
      let us := s.err.fatal.filter (fun u => match u with | .link _ => true | .ezoon => true | _ => false)
      let s' := s.resetEzoon
      (0, if us.isEmpty then s' else s'.mend us)

def execDomainReset (sl : Fin 256) (s : State) : Host.Outcome State Fault Refusal :=
  .next (s.serve sl 0x0501 (· == 4) true false (fun s pl =>
    let k := field pl 0 1
    if field pl 2 2 ≠ 0 ∨ k = 0 ∨ 5 < k then (s, some (5, []))
    else
      let (st, s) := s.domainReset k (field pl 1 1)
      (s, some (st, []))))

/-! ### LANE_RECAL, ERR_INJECT (R544) -/

/-- LANE_RECAL (R544; 02 R84 to R89): a measurement starts at once when no other runs, and answers on its outcome; `idle` is false while no 2 µs idle has arisen:
1 s after the request it is answered NO_IDLE. -/
def execLaneRecal (sl : Fin 256) (idle : Bool) (s : State) : Host.Outcome State Fault Refusal :=
  let begin_ := fun (s : State) (n : Nat) =>
    if s.tamp.recal = none ∧ !s.laneBusy n then ({ s with tamp := { s.tamp with recal := some n } } : State) else s
  match s.tamp.recalReq.find? (fun r => r.2.1 == (sl : Nat)) with
  | some r =>
    if idle then .next (begin_ s r.1)
    else if s.ticks < r.2.2 + msTicks 1000 then .next s
    else
      let s : State := { s with tamp := { s.tamp with recalReq := s.tamp.recalReq.filter (fun x => x != r) } }
      .next (s.answer sl 0x0102 [])
  | none =>
    .next (s.serve sl 0x0502 (· == 4) true false (fun s pl =>
      let n := field pl 0 1
      let linked : Bool := match s.portOfLane n with | some p => s.flag (SEQ_PST.LINK p) | none => false
      if field pl 1 3 ≠ 0 ∨ 64 ≤ n then (s, some (5, []))
      else if !linked ∨ !s.flag (TMP_LDIE.VALID n) then (s, some (0x0100, []))
      else
        let t : State := { s with tamp := { s.tamp with recalReq := s.tamp.recalReq ++ [(n, (sl : Nat), s.ticks)] } }
        (if idle then begin_ t n else t, none)))

/-- ERR_INJECT (R544): a synthetic error of a class; no unit becomes fatal. -/
def execErrInject (sl : Fin 256) (s : State) : Host.Outcome State Fault Refusal :=
  .next (s.serve sl 0x0503 (· == 16) true false (fun s pl =>
    let n := field pl 0 1
    let c := field pl 1 1
    let code := field pl 2 2
    let sub := field pl 4 1
    let info := field pl 8 8
    if field pl 5 3 ≠ 0 ∨ c = 0 ∨ 5 < c then (s, some (5, []))
    else if 128 ≤ n ∨ n = 14 ∨ n = 15 ∨ 112 ≤ n then (s, some (0x0100, []))
    else if s.noLog n then (s, some (0, []))
    else
      let t := match c with
        | 1 => s.corrected n
        | 2 => s.warn n code sub info
        | _ => s.logError n code c sub info true
      (t, some (0, []))))

end Sys2Proof.Machine
end

