-- ==== Sys2Proof/Machine/Power.lean ====
section
/-!
DEFINITION. Power and clock control (chapter 15): power failure and hold-up (R561), REFCLK and PLL losses (R555, R556), rails and temperature (R560, R563 to R565),
and the board management sideband (R569 to R572).
-/

namespace Sys2Proof.Machine

/-! ### Power failure (R561; 06 R233; 07 R272; 08 R574) -/

/-- From the cycle of the signal: Carafe and the Drips stop all but what holds the journal, and domains 0 to 67, 72 to 75 and 77 are powered off. A reset in progress
ends in the halt. -/
def State.powerFail (s : State) : State :=
  if s.flag PWR_STATUS.POWER_FAIL then s
  else
    let s := s.cutFrames
    let s := (s.wr PWR_STATUS.POWER_FAIL 1).wr CRF_STATUS.POWER_FAIL 1
    let s := (List.range 64).foldl (fun s p => if s.flag (SEQ_PST.LINK p) then s.portDown p else s) s
    let s := (List.range 4).foldl (fun s k => (s.setEzl k {}).wr (EZN_LINK_STAT.STATE k) 0) s
    let s := s.linkDown.squashAll
    let s := (s.wr (PWR_DOM.ON 0) 0).wr (PWR_DOM.ON 1) (s.rd (PWR_DOM.ON 1) &&& (0xF0 + 2 ^ 12 + 2 ^ 14 + 2 ^ 15))
    let s : State := { s with dy := { sessions := s.dy.sessions, remaps := s.dy.remaps }, cipher := { s.cipher with jobs := [], polled := [], ctxs := [] },
                              pci := { s.pci with reads := [], quarantine := [] }, hq := { s.hq with out := [] }, err := { s.err with pend := none, ask := none } }
    (s.nand.ctx.filter (fun e => e.2.op.isNone)).foldl (fun s e => s.boundary (e.1 / 16) (e.1 % 16)) s

/-- POWER_FAIL: PWR_FAIL_N is asserted. A boot that waits at step 1 goes on waiting. -/
def execPowerFail (s : State) : Host.Outcome State Fault Refusal :=
  let s : State := { s with pw := { s.pw with fail := true } }
  if s.pw.hold.isSome ∨ s.flag PWR_STATUS.POWER_FAIL then .next s
  else .next ((s.warn 11 0x0B06 0 s.timeWord.2).powerFail)

/-- PWR_SAFE: every NAND operation has ended; the device halts. -/
def execPwrSafe (s : State) : Host.Outcome State Fault Refusal :=
  if s.flag PWR_STATUS.POWER_FAIL ∧ !s.flag PWR_STATUS.PWR_SAFE ∧ s.spent then
    .next { (s.wr PWR_STATUS.PWR_SAFE 1) with err := { s.err with halted := true } }
  else .next s

/-! ### Clocks (R555, R556) -/

/-- REFCLK_LOSS (R555): REFCLK is absent, or the root PLL has lost lock (`root`). -/
def execRefclkLoss (root : Bool) (s : State) : Host.Outcome State Fault Refusal :=
  if s.flag CLK_STATUS.ON_BACKUP then .next s
  else
    let t := ((s.wr CLK_STATUS.ON_BACKUP 1).wr CLK_STATUS.LOCK (s.rd CLK_STATUS.LOCK / 64 * 64)).count CLK_CNT.REFCLK_LOSSES
    .next (((t.deselect).logError 11 0x0B05 5 0 (if root then 2 else 1)).isolate s)

/-- Operations in progress on a channel end with TIMEOUT (R556). -/
def State.timeoutAll (s : State) (c : Nat) : State :=
  (List.range 16).foldl (fun s l =>
    let x := s.ctx c l
    if x.op.isSome then s.dripFault c l x.pc 0 5 3 else s) s

/-- PLL_UNLOCK (R556): each interface acts as at a loss of its link. Reads of a GDDR7 half, and flash accesses in progress, fail as they are made. -/
def execPllUnlock (domain : Fin 25) (us : BitVec 32) (s : State) : Host.Outcome State Fault Refusal :=
  let d : Nat := domain
  if d < 6 ∨ d = 23 ∨ !bitAt (s.rd CLK_STATUS.LOCK) d then .next s
  else
    let s := ((s.wrBit CLK_STATUS.LOCK d false).count CLK_CNT.UNLOCKS).warn 11 0x0B04 d us.toNat
    let s : State := { s with pw := { s.pw with pllAt := FMap.set 0 s.pw.pllAt d s.ticks } }
    if d < 14 then
      .next ((List.range 64).foldl (fun s p => if s.flag (SEQ_PST.LINK p) && (s.lanesOf p).any (fun n => n / 8 == d - 6) then s.portDown p else s) s)
    else if d = 14 then .next (if s.flag PCI_LINK.UP then s.linkDown.squashAll else s)
    else if 17 ≤ d ∧ d < 21 then .next ((List.range 8).foldl (fun s i => s.timeoutAll (8 * (d - 17) + i)) s)
    else if d = 21 then
      .next ((List.range 4).foldl (fun s k => if s.ezOn k ∧ 2 ≤ s.linkState k then (s.warn 9 0x0901 k 1).linkFall k 1 else s) s)
    else .next s

/-- PLL_RELOCK (R556). -/
def execPllRelock (domain : Fin 25) (s : State) : Host.Outcome State Fault Refusal :=
  let d : Nat := domain
  if d < 6 ∨ d = 23 then .next s else .next (s.wrBit CLK_STATUS.LOCK d true)

/-- CHANNEL_PLL_TIMEOUT (R556; 07 R286): an ONFI group's PLL has stayed unlocked for 10 ms, and its channels are lost. -/
def execChannelPllTimeout (group : Fin 4) (s : State) : Host.Outcome State Fault Refusal :=
  if bitAt (s.rd CLK_STATUS.LOCK) (17 + (group : Nat)) ∨ !s.run ∨ s.ticks < FMap.get 0 s.pw.pllAt (17 + (group : Nat)) + msTicks 10 then .next s
  else
    let cs := ((List.range 8).map (· + 8 * (group : Nat))).filter (fun c => s.hasChannel c && s.flag (NDC_CFG.EN c))
    .next ((cs.foldl (fun s c => s.loseChannel c 1) s).isolate s)

/-! ### Rails and temperature (R560, R563 to R565) -/

/-- At most one warning of a kind per second. -/
def State.sinceSecond (s : State) (at_ : Option Nat) : Bool := at_.elim true (fun t => decide (t + 1250000000 ≤ s.ticks))

/-- RAIL_SAMPLE (R560, R565): the rails in the order of Table 15-3; VDD_CORE, VDD_SRAM and VDD_AON out of tolerance stop the device. -/
def execRailSample (rails : List RailIn) (s : State) : Host.Outcome State Fault Refusal :=
  let ix := (rails.take 8).zipIdx
  let t := ix.foldl (fun s e => ((s.wr (PWR_RAIL.MV e.2) e.1.mv).wr (PWR_RAIL.CURRENT e.2) (min e.1.current 65535)).wrB (PWR_RAIL.IN_TOL e.2) e.1.inTol) s
  let dw := min 65535 ((ix.map (fun e => (e.1.mv : Nat) * e.1.current)).sum / 10000)
  let t := t.wr PWR_STATUS.POWER_DW dw
  let t := ix.foldl (fun s e =>
    if !e.1.out10 then s
    else if e.2 = 0 ∨ e.2 = 1 ∨ e.2 = 7 then (if s.pw.fail then s else s.logError 11 0x0B03 5 e.2 e.1.mv)
    else s.warn 11 0x0B03 e.2 e.1.mv) t
  let t : State := if 10 * t.rd PWR_LIMIT.POWER_WARN_W < dw ∧ t.sinceSecond t.pw.powerAt then
      { (t.warn 11 0x0B07 0 dw) with pw := { t.pw with powerAt := some t.ticks } } else t
  .next (t.isolate s)

/-- The sensor with the highest reading, and that reading. -/
def hottest (ts : List (Int × Nat)) : Nat × Int :=
  match ts with
  | [] => (0, 0)
  | (v, i) :: r => r.foldl (fun a e => if a.2 < e.1 then (e.2, e.1) else a) (i, v)

/-- TEMP_SAMPLE (R563 to R565): the 8 sensors, in 1/16 °C; 115 °C is FATAL, and the device acts as at power failure and halts. -/
def execTempSample (temps : List Int) (s : State) : Host.Outcome State Fault Refusal :=
  let ix := (temps.take 8).zipIdx
  let t := ix.foldl (fun s e => s.wr (PWR_TEMP.SENSOR e.2) (ofInt 16 e.1)) s
  let (i, v) := hottest ix
  let hot := decide (((16 * t.rd PWR_LIMIT.TEMP_WARN_C : Nat) : Int) ≤ v)
  let t := (t.wr PWR_STATUS.HOTTEST i).wrB PWR_STATUS.THERM_WARN hot
  let t : State := if hot ∧ t.sinceSecond t.pw.tempAt then { (t.warn 11 0x0B01 i v.toNat) with pw := { t.pw with tempAt := some t.ticks } } else t
  if 115 * 16 ≤ v then .next (((t.logError 11 0x0B02 5 i v.toNat).isolate s).powerFail) else .next t

/-- THERMTRIP (R564): the comparator asserts THERMTRIP_N. -/
def execThermtrip (s : State) : Host.Outcome State Fault Refusal := .next { s with pw := { s.pw with trip := true } }

/-! ### The sideband (R569 to R572, Tables 15-8 and 15-9) -/

/-- A command's answer, or PEC_ERR where the write block failed its PEC. -/
def State.side (s : State) (pec : Bool) (f : State → State × Nat × List Byte) : Host.Outcome State Fault Refusal :=
  if !pec then .next (s.emit (.sideband 5 []))
  else
    let (t, st, d) := f s
    .next (t.emit (.sideband st d))

def execGetStatus (pec : Bool) (s : State) : Host.Outcome State Fault Refusal :=
  s.side pec fun s => (s, 0, leBytes 8 (s.peek 0xC0000) ++ leBytes 8 (s.peek 0xC0008) ++ leBytes 4 (s.peek 0xC0028) ++ leBytes 8 (s.peek 0xE0080))

def execGetTemp (pec : Bool) (s : State) : Host.Outcome State Fault Refusal :=
  s.side pec fun s => (s, 0, leBytes 8 (s.peek 0xE0020) ++ leBytes 8 (s.peek 0xE0028))

def execGetPower (pec : Bool) (s : State) : Host.Outcome State Fault Refusal :=
  s.side pec fun s => (s, 0, (List.range 8).flatMap (fun i => leBytes 8 (s.peek (0xE0040 + 8 * i))))

/-- Power-on hours (14 R535). -/
def State.hours (s : State) : Nat := s.ticks / (1250000000 * 3600)

def execGetLife (c : Fin 256) (pec : Bool) (s : State) : Host.Outcome State Fault Refusal :=
  s.side pec fun s =>
    if 32 ≤ (c : Nat) ∨ !s.hasChannel c then (s, 2, [])
    else (s, 0, leBytes 4 s.hours ++ leBytes 4 (s.rd CPH_STATUS.BOOT_COUNT)
      ++ (List.range 16).flatMap (fun l => leBytes 8 (s.peek (0x100200 + 0x4000 * (c : Nat) + 8 * l)))
      ++ (List.range 16).flatMap (fun l => leBytes 1 (s.rd (NDC_LUN_STAT.LIFE_PCT c l))))

def execGetErrors (pec : Bool) (s : State) : Host.Outcome State Fault Refusal :=
  s.side pec fun s => (s, 0, [0xD0008, 0xD0010, 0xD0018, 0xD0020].flatMap (fun o => leBytes 8 (s.peek o)))

def execGetLog (n : Fin 256) (pec : Bool) (s : State) : Host.Outcome State Fault Refusal :=
  s.side pec fun s =>
    if 128 ≤ (n : Nat) then (s, 2, [])
    else (s, 0, [0, 8, 0x10, 0x18, 0x40].flatMap (fun o => leBytes 8 (s.peek (0xD1000 + 0x80 * (n : Nat) + o))))

def execAckLog (n : Fin 256) (pec : Bool) (s : State) : Host.Outcome State Fault Refusal :=
  s.side pec fun s => if 128 ≤ (n : Nat) then (s, 2, []) else (s.ackLog n, 0, [])

/-- SIDEBAND_RESET (R571, R572): it acts at the stop condition, after its answer. KIND 3 resets the PCIe domain, powering it on again if it is fatal. -/
def execSidebandReset (kind : Fin 256) (confirm : BitVec 32) (pec : Bool) (s : State) : Host.Outcome State Fault Refusal :=
  if !pec then .next (s.emit (.sideband 5 []))
  else if (kind : Nat) = 0 ∨ 3 < (kind : Nat) then .next (s.emit (.sideband 2 []))
  else if confirm.toNat ≠ 0x54455352 then .next (s.emit (.sideband 4 []))
  else if s.err.pend.isSome then .next (s.emit (.sideband 3 []))
  else
    let s := s.emit (.sideband 0 [])
    if (kind : Nat) = 1 then .next (s.trigger 4)
    else if (kind : Nat) = 2 then .next (s.trigger 3)
    else if s.flag PWR_STATUS.POWER_FAIL then .next s
    else .next (if s.isFatal .pcie then s.endpointReset.mend [.pcie] else s.endpointReset)

def execGetIdentity (pec : Bool) (s : State) : Host.Outcome State Fault Refusal :=
  s.side pec fun s => (s, 0, leBytes 8 s.fuses.serial ++ leBytes 2 s.deviceId ++ [0xB1, 0] ++ leBytes 4 (s.peek 0xC0020) ++ leBytes 8 s.ro.imageGen)

def execGetClocks (pec : Bool) (s : State) : Host.Outcome State Fault Refusal :=
  s.side pec fun s => (s, 0, leBytes 8 (s.peek 0xE8000) ++ leBytes 8 (s.peek 0xE8008))

def execGetDomains (pec : Bool) (s : State) : Host.Outcome State Fault Refusal :=
  s.side pec fun s => (s, 0, leBytes 8 (s.peek 0xE0008) ++ leBytes 8 (s.peek 0xE0010))

/-- SMB_ALERT_N is low (R570). -/
def State.alert (s : State) : Bool := s.rd (ERR_SUM.FIRST 0) != 0 || s.rd (ERR_SUM.FIRST 1) != 0 || !s.err.fatal.isEmpty

/-- ALERT_RESPONSE (R570): a target that alerts answers with its own address. -/
def execAlertResponse (s : State) : Host.Outcome State Fault Refusal :=
  .next (if s.alert then s.emit (.sideband 0 [BitVec.ofNat 8 (0x48 + s.pw.smbAddr)]) else s)

end Sys2Proof.Machine
end

