-- ==== Sys2Proof/Machine/Upkeep.lean ====
section
/-!
DEFINITION. What a channel does for its LUNs by itself: formatting (07 R276), substitution of blocks (07 R279, R280, R286) and the retention sweep (07 R281 to R283).
-/

namespace Sys2Proof.Machine

/-- An erase of physical block `p` counts in the LUN's record and life (R252, R284). -/
def State.eraseCount (s : State) (c l p : Nat) (native : Bool) : State :=
  let x := s.lun c l
  (s.setLun c l { x with erases := FMap.set 0 x.erases p (min (FMap.get 0 x.erases p + 1) 65535) }).countErases c l 1 native

/-- The LUN's region is erased and programmed in native mode (R251). -/
def State.native (s : State) (c l : Nat) : Bool := s.rd (NDC_LUN_CFG.REGION c l) != 1

/-- The byte at marker position `k` of physical block `p`: one that `marks` does not give is that of a good block. -/
def State.markByte (s : State) (c k p : Nat) (marks : List MarkByte) : Nat :=
  match marks.find? (fun m => m.blk == p && m.page == s.rd (NDC_MARK.PAGE c k) && m.byte == s.rd (NDC_MARK.BYTE c k)) with
  | some m => m.value
  | none => s.rd (NDC_MARK.GOOD c k)

/-- FACTORY_MARK finds the block bad at one of the marker positions in use (R250, R276). -/
def State.factoryBad (s : State) (c p : Nat) (marks : List MarkByte) : Bool :=
  (List.range 4).any (fun k => s.flag (NDC_MARK.EN c k) && s.markByte c k p marks != s.rd (NDC_MARK.GOOD c k))

/-- What a LUN held is gone with its formatting: copies of journal pages, its parts of archive stripes, block wordlines. -/
def State.wipeLun (s : State) (c l : Nat) : State :=
  let gone := fun (k : Copy) => if k.ch == c && k.lun == l && k.st == .pass then { k with st := .unread } else k
  let page := fun (e : Nat × JPage) => (e.1, { e.2 with copies := e.2.copies.map gone })
  let arch := s.crf.arch.map (fun (e : Nat × ArchStripe) =>
    (e.1, if e.2.slots.any (fun k => k.ch == c && k.lun == l) && !e.2.unread.contains c then { e.2 with unread := e.2.unread ++ [c] } else e.2))
  { s with crf := { s.crf with pages := s.crf.pages.map page, earlier := s.crf.earlier.map (fun (j : Nat × FMap JPage) => (j.1, j.2.map page)),
                               stripes := s.crf.stripes.map (fun t => { t with parity := gone t.parity }), arch := arch },
           blk := { s.blk with done := s.blk.done.filter (fun e => !(e.2.ch == c && e.2.lun == l)), anchorPgs := FMap.set 0 s.blk.anchorPgs (16 * c + l) 0 } }

/-- LUN_FORMAT (R276): `marks` are the bytes that the reads of the factory markers bring, `fails` the blocks whose erase reports FAIL. The LUN is in use once its first
record version has been programmed. -/
def execLunFormat (c : Fin 32) (l : Fin 16) (marks : List MarkByte) (fails : List Nat) (s : State) : Host.Outcome State Fault Refusal :=
  let old := s.lun c l
  if !s.run ∨ !s.chanUp c ∨ !s.flag (NDC_LUN_CFG.PRESENT c l) ∨ s.rd (NDC_LUN_CFG.REGION c l) = 0 ∨ old.valid ∨ s.lunLost c l
      ∨ old.recs.any (fun r => r.serial == old.serial && r.left != 0 && !r.failed) then .next s
  else
    let blocks := List.range (s.rd (NDC_GEOM.BLOCKS c))
    let marked := blocks.filter (fun p => p == 0 || !s.factoryBad c p marks)
    let good := marked.filter (fun p => !fails.contains p || p == 0)
    let second := ((good.filter (· != 0)).head?).getD 0
    let rest := good.filter (fun p => p != 0 && p != second)
    let n := rest.length - good.length * s.rd (NDC_LUN_CFG.SPARE_PCT c l) / 100
    let defects : FMap Nat := blocks.filterMap (fun p =>
      if p = 0 ∨ p = second then some (p, 3) else if !marked.contains p then some (p, 1) else if fails.contains p then some (p, 2) else none)
    let x : Lun := { defects := defects, map := (rest.take n).zipIdx.map (fun e => (e.2, e.1 + 1)), logical := n, spares := rest.drop n,
                     erases := marked.map (fun p => (p, 1)), serial := old.serial, warned80 := old.warned80, warned95 := old.warned95 }
    let s := ((s.wipeLun c l).setLun c l x).countErases c l marked.length (s.native c l)
    let s := s.countBy (NDC_CNT1.FAILS c) (marked.length - good.length)
    let s := (s.wr (NDC_LUN_STAT.GROWN_BAD c l) (defects.filter (fun d => d.2 == 2)).length).wr (NDC_LUN_STAT.SPARE_FREE c l) (rest.drop n).length
    .next (s.writeRecord c l x)

/-! ### Substitution (R277, R279) -/

/-- A spare whose erase or program fails becomes grown bad (R277). -/
def State.spareFails (s : State) (c l p : Nat) : State :=
  let x := s.lun c l
  let s := (s.setLun c l { x with spares := x.spares.filter (· != p) }).eraseCount c l p (s.native c l)
  (s.count (NDC_CNT1.FAILS c)).growBad c l p

/-- A page in `g` of logical block `b` reads as UNCORR as the block is copied (R279, R280): its owner rebuilds a journal page; a block LUN's units are poisoned
(10 R407). -/
def State.uncorrPage (s : State) (c l b g : Nat) : State :=
  let s := (s.count (NDC_CNT1.UNCORR c)).logError (16 + c) 0x1001 3 l (s.rowAddr c l { kind := 3, tag := .own 0, blk := b, page := g })
  if s.rd (NDC_LUN_CFG.REGION c l) = 3 then s.poison 1 (16 * c + l) (fun e => entCh e == c && entLun e == l && entBlk e == b && entPage e == g && !entPoison e)
  else s.ownerUncorr c l b g true

/-- Pages of a logical block that are programmed. -/
def State.progPages (s : State) (c l b : Nat) : Nat :=
  let x := s.lun c l
  if !FMap.get false x.used b || x.freed.contains b then 0
  else if x.stripeBlk = some b then min x.stripePg (s.blkPages c l)
  else if x.sideBlk = some b then min x.sidePg (s.blkPages c l)
  else if !s.native c l ∧ b = x.anchorBlk then x.anchorPg
  else s.blkPages c l

/-- BLOCK_SUBSTITUTE (R279): a logical block whose physical block is grown bad, or that is due for refresh, moves to a spare. The erase of the first `eraseFails`
spares fails, and a program of the `progFails` after them; pages of the old block in `uncorr` read as UNCORR. The new block is in use once the record version that
names it has been programmed. With no spare left the LUN is lost (R286). -/
def execBlockSubstitute (c : Fin 32) (l : Fin 16) (b : Fin 16384) (eraseFails progFails : Nat) (uncorr : List Nat) (s : State) : Host.Outcome State Fault Refusal :=
  let x := s.lun c l
  let old := x.phys b
  let broken := FMap.get 0 x.defects old == 2
  if !s.run ∨ !s.chanUp c ∨ !x.valid ∨ s.lunLost c l ∨ x.logical ≤ b ∨ x.subst.isSome ∨ (!broken ∧ !x.refresh.contains b) then .next s
  else
    let s := (x.spares.take (eraseFails + progFails)).foldl (fun s p => s.spareFails c l p) s
    match (x.spares.drop (eraseFails + progFails)).head? with
    | none => .next ((s.wr (NDC_LUN_STAT.SPARE_FREE c l) 0).loseLun c l 3)
    | some p =>
      let n := s.progPages c l b
      let s := (uncorr.filter (fun g => decide (g < n))).foldl (fun s g => s.uncorrPage c l b g) s
      let s := (s.countBy (NDC_CNT0.READS c) n).countBy (NDC_CNT0.PROGRAMS c) (if s.native c l then ceilDiv n (s.rd (NDC_CFG.BPC c)) else n)
      let s := s.eraseCount c l p (s.native c l)
      let x := s.lun c l
      let y : Lun := { x with spares := x.spares.filter (· != p), days := if n = s.blkPages c l then FMap.set 0 x.days p s.day else x.days,
                              used := if x.freed.contains b then FMap.set false x.used b false else x.used, freed := x.freed.filter (· != (b : Nat)),
                              subst := some { blk := b, old := old, new := p, serial := x.serial + 1, broken := broken } }
      let s := (s.setLun c l y).wr (NDC_LUN_STAT.SPARE_FREE c l) y.spares.length
      .next (s.writeRecord c l { y with map := FMap.set 0 y.map b (p + 1) })

/-! ### The sweep (R281 to R283) -/

/-- The next programmed logical block from the sweep's cursor on. -/
def Lun.nextSwept (x : Lun) : Option Nat := ((x.used.filter (fun e => e.2 && decide (x.sweepAt ≤ e.1))).map (fun e => e.1)).head?

/-- RETENTION_SWEEP (R281 to R283): once the reads of the last block have ended, each page of the LUN's next programmed block is read as a BACKGROUND operation; what their
ends find is told in `State.sweepEnd`. A sweep starts SCAN_DAYS after the last one started. -/
def execRetentionSweep (c : Fin 32) (l : Fin 16) (s : State) : Host.Outcome State Fault Refusal :=
  let x := s.lun c l
  if !s.run ∨ !s.chanUp c ∨ !x.valid ∨ s.lunLost c l ∨ 0 < x.sweepLeft then .next s
  else
    let due := match x.sweepDay with
      | none => true
      | some d => x.nextSwept.isNone && decide (s.rd (NDC_REF_CFG.SCAN_DAYS c) ≤ s.daysSince d)
    let x : Lun := if due then { x with sweepDay := some s.day, sweepAt := 0 } else x
    match x.nextSwept with
    | none => .next (s.setLun c l { x with sweepAt := x.logical })
    | some b =>
      let n := s.progPages c l b
      let s := s.setLun c l { x with sweepAt := if n = 0 then b + 1 else b, sweepLeft := n }
      .next ((List.range n).foldl (fun s g => s.readPage c l .sweep b g 2) s)

end Sys2Proof.Machine
end

