-- ==== Sys2Proof/Machine/Storage.lean ====
section
/-!
DEFINITION. What the storage commands share (chapter 10): their fields, namespaces and checks (R385, R386, R389, R399 to R401, R406), host data (R400, R402), ordering
(R404), open wordlines (R391, R392) and at-rest tasks (11 R448).
-/

namespace Sys2Proof.Machine

/-! ### The entry (Tables 10-3 and 10-6) -/

def BlkCmd.arg0 (c : BlkCmd) : Nat := field c.bytes 8 8
def BlkCmd.arg1 (c : BlkCmd) : Nat := field c.bytes 16 4
def BlkCmd.arg2 (c : BlkCmd) : Nat := field c.bytes 20 4
def BlkCmd.daddr (c : BlkCmd) : Nat := field c.bytes 32 8
def BlkCmd.dlen (c : BlkCmd) : Nat := field c.bytes 40 4
def BlkCmd.dkind (c : BlkCmd) : Nat := field c.bytes 44 1
def BlkCmd.nlb (c : BlkCmd) : Nat := c.arg1 % 65536 + 1
def BlkCmd.ranges (c : BlkCmd) : Nat := c.arg1 % 256 + 1
/-- LID, CNS or FID. -/
def BlkCmd.sel (c : BlkCmd) : Nat := c.arg2 % 256

def lbaSize (nsid : Nat) : Nat := if nsid ≤ 16 then 4096 else 16384

/-- READ, WRITE, FLUSH or DEALLOCATE. -/
def BlkCmd.io (c : BlkCmd) : Bool := decide (0x10 ≤ c.opc) && decide (c.opc ≤ 0x13)
def BlkCmd.changes (c : BlkCmd) : Bool := c.opc == 0x11 || c.opc == 0x13
def BlkCmd.fromHost (c : BlkCmd) : Bool := c.changes || c.opc == 0x1C
/-- Firmware commands. -/
def BlkCmd.fw (c : BlkCmd) : Bool := c.opc == 0x1C || c.opc == 0x1D

/-- The command's transfer length; none: the entry's own (Table 10-4). -/
def BlkCmd.xfer (c : BlkCmd) : Option Nat :=
  match c.opc with
  | 0x10 => some (c.nlb * lbaSize c.nsid)
  | 0x11 => some (c.nlb * 4096)
  | 0x13 => some (16 * c.ranges)
  | 0x18 => some 4096
  | 0x19 | 0x1C => none
  | _ => some 0

/-! ### Namespaces (R385, R386, R413) -/

/-- The number of the earlier journal that an export namespace shows, as `State.page` takes it; 0: the journal in use. -/
def State.exportJournal (s : State) (nsid : Nat) : Nat := if nsid = 17 then 0 else s.crf.earlier.length + 18 - nsid

def State.nsSize (s : State) (nsid : Nat) : Nat :=
  if nsid ≤ 16 then s.rd (HQ_BLK_NS.SIZE (nsid - 1))
  else if nsid = 17 then s.rd CRF_SERIAL.NEXT
  else match s.crf.earlier[nsid - 18]? with
    | some j => match j.2.getLast? with | some e => e.1 + 1 | none => 0
    | none => 0

/-- The slice may name the namespace. -/
def State.attached (s : State) (sl nsid : Nat) : Bool :=
  if nsid = 0 ∨ 20 < nsid then false
  else if 17 ≤ nsid then s.sliceAdmin sl
  else s.flag (HQ_BLK_NS.EN (nsid - 1)) && (s.rd (HQ_BLK_NS.OWNER (nsid - 1)) == sl || bitAt (s.rd (HQ_BLK_ATT.RO_SLICES (nsid - 1) (sl / 64))) (sl % 64))

/-- The namespace's cipher context (R389). -/
def State.nsCtx (s : State) (nsid : Nat) : Option Nat :=
  if 1 ≤ nsid ∧ nsid ≤ 16 ∧ s.flag (HQ_BLK_NS.ENC (nsid - 1)) then some (s.rd (HQ_BLK_NS.CTX (nsid - 1))) else none

/-- The namespace's context uses a device key while the keys are locked (R389; 13 R507). -/
def State.nsLocked (s : State) (nsid : Nat) : Bool :=
  s.flag RST_STATUS.KEYS_LOCKED && (s.nsCtx nsid).elim false (fun k => let x := s.cctx k; x.locked || x.source == 2 || x.source == 3)

/-! ### Checks (R400, R401, R406) -/

/-- A status: SCT and SC (Table 10-7). -/
abbrev BlkStatus := Nat × Nat

/-- The zero fields of Table 10-3, and ARG0 to ARG2 as Table 10-6 gives them, are in range. -/
def BlkCmd.fieldsOk (c : BlkCmd) : Bool :=
  let a2 := c.arg2
  field c.bytes 24 8 == 0 && field c.bytes 45 19 == 0
    && (match c.opc with
        | 0x10 | 0x11 => decide (c.arg1 ≤ 255) && a2 == 0
        | 0x13 => decide (c.arg1 ≤ 255) && c.arg0 == 0 && a2 == 0
        | 0x12 => c.arg0 == 0 && c.arg1 == 0 && a2 == 0
        | 0x18 => c.arg0 == 0 && c.arg1 == 0 && decide (a2 ≤ 2)
        | 0x19 => c.arg0 % 4 == 0 && c.arg1 == 0 && (match c.sel with
            | 0xC1 => [0, 17, 18, 19, 20].contains (a2 / 256)
            | 0xC0 => decide (a2 < 512)
            | _ => decide (a2 < 256))
        | 0x1A => c.arg1 == 0 && decide (a2 < 256) && (match a2 with
            | 0xC0 => decide (10 ≤ c.arg0) && decide (c.arg0 ≤ 10000)
            | 0xC1 => decide (5 ≤ c.arg0) && decide (c.arg0 ≤ 50)
            | 0xC2 => decide (c.arg0 ≤ 1)
            | 2 => true
            | _ => false)
        | 0x1B => c.arg0 == 0 && c.arg1 == 0 && decide (a2 < 512) && [0xC0, 0xC1, 0xC2, 2].contains c.sel
        | 0x1C => c.arg0 % 4096 == 0 && c.arg1 == 0 && a2 == 0
        | _ => decide (c.arg0 ≤ 2 ^ 28) && c.arg1 == 0 && a2 == 1)

/-- The data pointer is well formed; the total of a list is checked once it has been read (R400). -/
def BlkCmd.pointerOk (c : BlkCmd) : Bool :=
  match c.dkind with
  | 0 => c.xfer.getD 0 == 0
  | 1 => c.daddr % 4 == 0 && c.xfer.elim true (· == c.dlen)
  | 2 => c.daddr % 4 == 0 && decide (1 ≤ c.dlen) && decide (c.dlen ≤ 256)
  | _ => false

/-- NSIDs that a command may name (Table 10-4). -/
def State.nsOk (s : State) (c : BlkCmd) : Bool :=
  match c.opc with
  | 0x18 => if c.sel = 0 then s.attached c.slice c.nsid else decide (c.nsid ≤ 20)
  | 0x1A | 0x1B => if c.nsid = 0 then c.sel != 0xC2 else decide (c.nsid ≤ 16) && s.attached c.slice c.nsid
  | 0x19 | 0x1C | 0x1D => c.nsid == 0
  | _ => s.attached c.slice c.nsid

/-- The checks of a command at its arrival, in order; none: it goes on. -/
def State.blkCheck (s : State) (c : BlkCmd) : Option BlkStatus :=
  let n := c.nsid - 1
  if (c.opc = 0x1A ∨ c.fw) ∧ !s.sliceAdmin c.slice then some (7, 0xC4)
  else if !s.nsOk c then some (0, 0x0B)
  else if (c.changes ∨ c.opc = 0x12) ∧ (17 ≤ c.nsid ∨ s.rd (HQ_BLK_NS.OWNER n) ≠ c.slice) then some (2, 0x86)
  else if c.changes ∧ c.wp then some (2, 0x86)
  else if c.opc = 0x19 ∧ !([0x02, 0x03, 0xC0, 0xC1].contains c.sel) then some (1, 0x09)
  else if !c.fieldsOk ∨ !c.pointerOk then some (0, 0x02)
  else if c.opc = 0x1A ∧ c.sel = 2 then some (1, 0x0E)
  else if c.io ∧ c.nsid ≤ 16 ∧ !s.flag HQ_BLK_STAT.READY then some (0, 0x82)
  else if (c.opc = 0x10 ∨ c.opc = 0x11) ∧ s.nsSize c.nsid < c.arg0 + c.nlb then some (0, 0x80)
  else if (c.opc = 0x10 ∨ c.changes) ∧ s.nsLocked c.nsid then some (7, 0xC0)
  else none

/-! ### Commands outstanding -/

def State.setCmd (s : State) (id : Nat) (f : BlkCmd → BlkCmd) : State :=
  { s with blk := { s.blk with cmds := mapFirst (fun (c : BlkCmd) => c.id == id) f s.blk.cmds } }

/-- The command has ended; STORAGE_DONE will say so. RESULT of a failed READ or WRITE is the first failed LBA (Table 10-6). -/
def State.endCmd (s : State) (c : BlkCmd) (st : BlkStatus) (result : Nat) : State :=
  s.setCmd c.id (fun c => { c with phase := 4, sct := st.1, sc := st.2, result := result })

/-- It ends as a whole with a failure. -/
def State.refuseCmd (s : State) (c : BlkCmd) (st : BlkStatus) : State := s.endCmd c st (if c.opc = 0x10 ∨ c.opc = 0x11 then c.arg0 else 0)

/-- Arrival order: stamp, then ring (R404; 09 R355). -/
def BlkCmd.before (a b : BlkCmd) : Bool :=
  decide (stampKey a.stamp < stampKey b.stamp)
    || (stampKey a.stamp == stampKey b.stamp && (decide (a.ring < b.ring) || (a.ring == b.ring && decide (a.id < b.id))))

/-- The LBA ranges of a command; those of a DEALLOCATE are not known until its data has been read (DESIGN CHOICE, notes/assumptions/72). -/
def BlkCmd.extent (c : BlkCmd) : List (Nat × Nat) :=
  if c.opc = 0x13 then
    if c.phase < 2 ∨ (c.dkind = 2 ∧ c.segs.isEmpty) then [(0, 2 ^ 64)]
    else ((List.range c.ranges).map (fun i => (field c.data (16 * i + 8) 8, field c.data (16 * i + 4) 4))).filter (fun r => r.2 != 0)
  else [(c.arg0, c.nlb)]

def BlkCmd.overlaps (a b : BlkCmd) : Bool :=
  a.nsid == b.nsid && a.extent.any (fun x => b.extent.any (fun y => decide (x.1 < y.1 + y.2) && decide (y.1 < x.1 + x.2)))

/-- Commands that arrived before `c`. -/
def State.earlierCmds (s : State) (c : BlkCmd) : List BlkCmd := s.blk.cmds.filter (fun d => d.before c)

/-- A READ may take its data (R404). -/
def State.readTurn (s : State) (c : BlkCmd) : Bool := (s.earlierCmds c).all (fun d => !(d.changes && decide (d.phase < 4) && d.overlaps c))

/-- A WRITE or DEALLOCATE may place (R404). -/
def State.mayPlace (s : State) (c : BlkCmd) : Bool :=
  (s.earlierCmds c).all (fun d => !(((d.opc == 0x10 && decide (d.phase < 4)) || (d.changes && decide (d.phase < 3))) && d.overlaps c))

/-! ### Host data (R400, R402) -/

/-- Read a list of host ranges for the command; nothing to read: the data is there. -/
def State.askSegs (s : State) (c : BlkCmd) (segs keep : List (Nat × Nat)) : State :=
  let reqs := segs.flatMap (fun g => splitRead s.maxRead g.2 g.1 g.2)
  if reqs.isEmpty then s.setCmd c.id (fun c => { c with phase := 2, segs := keep, data := [] })
  else
    let s := s.setCmd c.id (fun c => { c with phase := 1, segs := keep, data := [] })
    ({ s with pci := { s.pci with reads := s.pci.reads ++ [{ purpose := .storage c.id, slice := c.slice, reqs := reqs }] } } : State).issueReads

/-- The buffers are known. -/
def State.gotSegs (s : State) (c : BlkCmd) (segs : List (Nat × Nat)) : State :=
  let n := (segs.map (fun g => g.2)).sum
  if segs.any (fun g => g.1 % 4 != 0) ∨ c.xfer.elim false (· != n) ∨ (c.opc = 0x1C ∧ 2 ^ 28 < c.arg0 + n) then s.refuseCmd c (0, 0x02)
  else if c.fromHost then s.askSegs c segs segs
  else s.setCmd c.id (fun c => { c with phase := 2, segs := segs, data := [] })

/-- The list of a DKIND 2 command, and whether its entries' last 4 bytes are zero. -/
def BlkCmd.list (c : BlkCmd) : List (Nat × Nat) := (List.range c.dlen).map (fun i => (field c.data (16 * i) 8, field c.data (16 * i + 8) 4))
def BlkCmd.listOk (c : BlkCmd) : Bool := (List.range c.dlen).all (fun i => field c.data (16 * i + 12) 4 == 0)

/-- The next step of a command; `perform` is what it does once its host data is in the device. None: it waits. -/
def State.stepCmd (s : State) (c : BlkCmd) (perform : State → BlkCmd → Option State) : Option State :=
  match c.phase with
  | 0 => match s.blkCheck c with
    | some st => some (s.refuseCmd c st)
    | none => some (if c.dkind = 2 then s.askSegs c [(c.daddr, 16 * c.dlen)] [] else s.gotSegs c (if c.dkind = 1 then [(c.daddr, c.dlen)] else []))
  | 2 =>
    if c.dkind = 2 ∧ c.segs.isEmpty then some (if c.listOk then s.gotSegs c c.list else s.refuseCmd c (0, 0x02))
    else perform s c
  | 3 => perform s c
  | _ => none

/-- A row of the storage commands: the command of its opcode that arrived first among those that can go on takes its next step. -/
def State.blkRow (s : State) (opc : Nat) (perform : State → BlkCmd → Option State) : Host.Outcome State Fault Refusal :=
  if !s.run then .next s
  else .next (((sortBy BlkCmd.before (s.blk.cmds.filter (fun c => c.opc == opc))).findSome? (fun c => s.stepCmd c perform)).getD s)

/-- The pieces of `bs`, which begin at offset `off` of the command's data, by host address. -/
def segPieces : List (Nat × Nat) → Nat → List Byte → List (Nat × List Byte)
  | [], _, _ => []
  | (a, n) :: r, off, bs =>
    if bs.isEmpty then []
    else if n ≤ off then segPieces r (off - n) bs
    else (a + off, bs.take (n - off)) :: segPieces r 0 (bs.drop (n - off))

/-- Data of a command goes to its host buffers (08 Table 08-5). -/
def State.toBuffers (s : State) (c : BlkCmd) (off : Nat) (bs : List Byte) : State :=
  (segPieces c.segs off bs).foldl (fun s p => s.hostWrite c.slice p.1 p.2 true false) s

/-! ### At-rest tasks (11 R448) -/

/-- A task's two datapaths disagree. -/
def State.atRestMismatch (s : State) (k : Nat) : State :=
  match s.freeUnit with
  | some u => (s.dupMismatch u 0x82 k).ackDup
  | none => s

/-- A unit is free for the namespace's tasks, if it needs one. -/
def State.atRestReady (s : State) (nsid : Nat) : Bool := (s.nsCtx nsid).isNone || s.freeUnit.isSome

/-! ### Wordlines (R390 to R392, R396) -/

/-- The two LUNs whose logical blocks 0 and 1 are the map's anchor blocks (R396). -/
def State.mapAnchors (s : State) : List (Nat × Nat) :=
  ((s.blockLuns.map (fun p => p.1)).eraseDups.take 2).filterMap (fun c => s.blockLuns.find? (fun p => p.1 == c))

/-- BLOCK LUNs that take wordlines, as global LUN numbers. -/
def State.wlTargets (s : State) : List Nat :=
  (s.blockLuns.filter (fun p => s.chanUp p.1 && !s.lunLost p.1 p.2 && (s.lun p.1 p.2).valid)).map (fun p => 16 * p.1 + p.2)

/-- The targets in rotating order after the last one used (R391). -/
def State.wlOrder (s : State) : List Nat :=
  let ts := s.wlTargets
  ts.filter (fun g => decide (s.blk.rot < g)) ++ ts.filter (fun g => decide (g ≤ s.blk.rot))

/-- The next wordline of a BLOCK LUN: a full block is followed by the next erased one in cyclic order, anchor blocks skipped. -/
def State.takeBlkWl (s : State) (c l b : Nat) : Option (Nat × Nat × State) :=
  let x := s.lun c l
  let room := match x.stripeBlk with | some _ => decide (x.stripePg + b ≤ s.rd (NDC_GEOM.PAGES_NATIVE c)) | none => false
  if room then s.takeWl c l b
  else
    let lo := if s.mapAnchors.contains (c, l) then 2 else 0
    match ((List.range x.logical).map (fun i => (x.alloc + i) % x.logical)).find? (fun k => decide (lo ≤ k) && !FMap.get false x.used k) with
    | some k => (s.setLun c l { x with alloc := k, stripeBlk := none }).takeWl c l b
    | none => none

/-- Bytes of a wordline: its data units, then the summary (Table 10-2). -/
def WlItem.entry (u : Nat) : WlItem → List Byte
  | .unit nsid lba _ _ _ => leBytes 1 1 ++ leBytes 1 u ++ leBytes 1 nsid ++ zeros 1 ++ zeros 4 ++ leBytes 8 lba
  | .trim nsid slba nlb _ => leBytes 1 2 ++ zeros 1 ++ leBytes 1 nsid ++ zeros 1 ++ leBytes 4 nlb ++ leBytes 8 slba
def WlItem.data : WlItem → List Byte
  | .unit _ _ _ d _ => padTo 4096 d
  | .trim .. => []
def WlItem.isUnit : WlItem → Bool
  | .unit .. => true
  | .trim .. => false
def wlEntries : Nat → List WlItem → List Byte
  | _, [] => []
  | u, i :: is => i.entry u ++ wlEntries (if i.isUnit then u + 1 else u) is
def Wl.bytes (w : Wl) (b : Nat) : List Byte :=
  let sum := leBytes 4 0x4D4D5553 ++ leBytes 2 1 ++ leBytes 2 w.items.length ++ leBytes 8 w.serial ++ leBytes 1 (if w.map.isSome then 2 else 1) ++ zeros 47 ++ padTo 4016 (wlEntries 0 w.items) ++ zeros 12
  padTo ((4 * b - 1) * 4096) (match w.map with | some m => m.2 | none => w.items.flatMap WlItem.data) ++ sum ++ leBytes 4 (crc32c sum)

/-- A wordline is programmed on its LUN, with the next WRITE_SERIAL; where the LUN takes no programs any more, the program is ABORTED. -/
def State.submitWl (s : State) (w : Wl) : State :=
  let id := s.blk.nextWl
  let w : Wl := { w with serial := s.blk.serial + 1 }
  let s : State := { s with blk := { s.blk with prog := FMap.ins s.blk.prog id w, nextWl := id + 1, serial := w.serial } }
  let o : NandOp := { kind := 6, tag := .wordline id, blk := w.blk, page := w.page, data := w.bytes (s.rd (NDC_CFG.BPC w.ch)), cls := if w.map.isSome then 2 else 1 }
  if s.wlTargets.contains (16 * w.ch + w.lun) then s.submit w.ch w.lun o else { s with nand := { s.nand with done := s.nand.done ++ [{ ch := w.ch, lun := w.lun, op := o, status := 4 }] } }

/-- The open wordline of a LUN is programmed. -/
def State.programWl (s : State) (g : Nat) : State :=
  let w : Wl := FMap.get {} s.blk.openWl g
  if w.items.isEmpty then s else ({ s with blk := { s.blk with openWl := FMap.set {} s.blk.openWl g {} } } : State).submitWl w

/-- The wordline takes no more. -/
def State.wlFull (s : State) (w : Wl) : Bool := w.units.length + 1 == 4 * s.rd (NDC_CFG.BPC w.ch) || w.items.length == 251

/-- Place one unit or entry in the open wordline of target `g`. -/
def State.placeAt (s : State) (g : Nat) (i : WlItem) : Option State :=
  let c := g / 16
  let l := g % 16
  let w : Wl := FMap.get {} s.blk.openWl g
  let o := if w.items.isEmpty then (s.takeBlkWl c l (s.rd (NDC_CFG.BPC c))).map (fun (k, p, s) => (({ ch := c, lun := l, blk := k, page := p, since := s.ticks } : Wl), s))
    else some (w, s)
  o.map fun (w, s) =>
    let w : Wl := { w with items := w.items ++ [i] }
    let s : State := { s with blk := { s.blk with openWl := FMap.set {} s.blk.openWl g w, rot := g, placed := s.blk.placed + (if i.isUnit then 4096 else 0) } }
    if s.wlFull w then s.programWl g else s

/-- Place one on the next target that has room. -/
def State.placeItem (s : State) (i : WlItem) : Option State := s.wlOrder.findSome? (fun g => s.placeAt g i)

/-- Place them all, or none. -/
def State.placeAll (s : State) : List WlItem → Option State
  | [] => some s
  | i :: is => match s.placeItem i with
    | some s => State.placeAll s is
    | none => none

def WlItem.nsid : WlItem → Nat
  | .unit n .. => n
  | .trim n .. => n
def WlItem.lba : WlItem → Nat
  | .unit _ a .. => a
  | .trim _ a .. => a

/-- Wordlines open and programming. -/
def State.liveWls (s : State) : List Wl := s.blk.openWl.map (fun e => e.2) ++ s.blk.prog.map (fun e => e.2)

/-- WRITE and DEALLOCATE commands whose wordlines have all passed end with SUCCESS (R400). -/
def State.finishCmds (s : State) : State :=
  let busy := s.liveWls.flatMap (fun (w : Wl) => w.items.map WlItem.cmd)
  { s with blk := { s.blk with cmds := s.blk.cmds.map (fun c => if c.changes && c.phase == 3 && !busy.contains c.id then { c with phase := 4 } else c) } }

end Sys2Proof.Machine
end

