-- ==== Sys2Proof/Machine/Block.lean ====
section
/-!
DEFINITION. READ, WRITE, FLUSH and DEALLOCATE (10 R395, R401 to R404, R413, R414), wordline programs (R391, R392), relocation (R394, R398), map checkpoints (R396) and
completions (R405 to R407).
-/

namespace Sys2Proof.Machine

/-! ### READ -/

/-- A place on the medium: channel, LUN, logical block, page. -/
abbrev Place := Nat × Nat × Nat × Nat

/-- The page of a map entry, and of an operation that has ended. -/
def entPlace (e : Nat) : Place := (entCh e, entLun e, entBlk e, entPage e)
def NandDone.place (d : NandDone) : Place := (d.ch, d.lun, d.op.blk, d.op.page)

/-- The pages among results that do not read. -/
def badPlaces (ds : List NandDone) : List Place := (ds.filter (fun d => d.status != 0)).map NandDone.place

/-- What a READ finds at an LBA of a block namespace: 0 and the data; 1, it does not read; 2, its decryption ends with DUP_MISMATCH. -/
def State.readLba (s : State) (nsid lba : Nat) (bad : List Place) (dup : List Nat) : Nat × List Byte :=
  let e := s.mapEntry nsid lba
  if !entValid e then (0, zeros 4096)
  else if entPoison e ∨ bad.contains (entPlace e) then (1, [])
  else match s.unitData e, s.nsCtx nsid with
    | none, _ => (1, [])
    | some d, none => (0, d)
    | some d, some k => if dup.contains lba then (2, []) else (0, xts false (s.cctx k).key lba d)

/-- The LBAs that a command names. -/
def BlkCmd.lbas (c : BlkCmd) : List Nat := (List.range c.nlb).map (fun i => c.arg0 + i)

/-- LBAs whose pages were found UNCORR: their map entries get POISON, with one deferred error for each run of a LUN (R395, R407). -/
def State.poisonLbas (s : State) (found : List (Nat × Nat)) : State :=
  let glun := fun (x : Nat × Nat) => let e := s.mapEntry x.1 x.2; 16 * entCh e + entLun e
  let runs := (runsOf found).map (fun r => (r, glun (r.1, r.2.1)))
  let s := found.foldl (fun s x => s.setMap x.1 x.2 (setBits (s.mapEntry x.1 x.2) 1 1 1)) s
  runs.foldl (fun s r => s.deferred r.1.1 2 r.1.2.1 r.1.2.2 r.2) s

/-- A READ of a block namespace has its pages, those in `bad` as UNCORR, and ends. -/
def State.readBlock (s : State) (c : BlkCmd) (bad : List Place) (dup : List Nat) : State :=
  let found := c.lbas.map (fun a => (a, s.readLba c.nsid a bad dup))
  let units := c.lbas.filter (fun a => entValid (s.mapEntry c.nsid a))
  let s := s.poisonLbas ((units.filter (fun a => let e := s.mapEntry c.nsid a; !entPoison e && bad.contains (entPlace e))).map (fun a => (c.nsid, a)))
  let s : State := match s.nsCtx c.nsid with
    | none => s
    | some k => found.foldl (fun (s : State) (f : Nat × Nat × List Byte) => if f.2.1 = 2 then s.atRestMismatch k else if f.2.1 = 0 && units.contains f.1 then s.taskDone k else s) s
  let s : State := found.foldl (fun (s : State) (f : Nat × Nat × List Byte) => if f.2.1 = 0 then s.toBuffers c (4096 * (f.1 - c.arg0)) f.2.2 else s) s
  match found.find? (fun f => f.2.1 != 0) with
  | none => s.endCmd c (0, 0) 0
  | some (a, k, _) => s.endCmd c (if k = 1 then (2, 0x81) else (0, 0x06)) a

/-- The pages that a READ of a block namespace needs. -/
def State.blockPages (s : State) (c : BlkCmd) : List Place :=
  ((c.lbas.map (fun a => s.mapEntry c.nsid a)).filter (fun e => entValid e && !entPoison e)).map entPlace

/-- The number of the page of an export namespace at an LBA, as `State.page` takes it. -/
def State.exportPage (s : State) (nsid lba : Nat) : Nat := lba + s.exportJournal nsid * 2 ^ 64

/-- The archive stripe and channel that hold a journal page. -/
def State.archOf (s : State) (n : Nat) : Option (Nat × Nat) :=
  s.crf.arch.findSome? (fun e => (firstIdx (· == n) e.2.pages).map (fun j => (e.1, e.2.plan.dataChan e.1 j)))

/-- The page can be obtained from the hot stripes or from the archive (07 R280, R291). -/
def State.exportGets (s : State) (n : Nat) : Bool := s.hotGets n || (s.archOf n).elim false (fun a => s.archGets 8 a.1 a.2)

/-- A journal page has passed on the medium. -/
def State.onMedium (s : State) (n : Nat) : Bool := (s.page n).elim false (fun p => p.copies.any Copy.passed) || (s.archOf n).isSome

/-- What a READ finds at an LBA of an export namespace (R413, R414): a page, or a status. -/
def State.exportLba (s : State) (nsid lba : Nat) : Except BlkStatus (List Byte) :=
  let n := s.exportPage nsid lba
  match s.page n with
  | none => .error (if s.crf.erased.isEmpty then (2, 0x81) else (7, 0xC2))
  | some p =>
    if !s.onMedium n ∨ (nsid = 17 ∧ !p.copies.isEmpty ∧ !s.localOk p ∧ !s.crf.voids.contains lba) then .error (7, 0xC3)
    else if !s.exportGets n then .error (2, 0x81)
    else .ok (p.bytes lba)

/-- The pages that Carafe reads to return a journal page: a copy that reads, its archive page, or what it is rebuilt from (R413). -/
def State.exportSources (s : State) (n : Nat) : List Place :=
  match (s.page n).bind (fun p => p.copies.find? s.copyReads) with
  | some k => [(k.ch, k.lun, k.blk, k.page)]
  | none =>
    let place := fun (r : Nat × Nat × OpTag × Nat × Nat) => (r.1, r.2.1, r.2.2.2.1, r.2.2.2.2)
    match s.archOf n with
    | some (a, c) => match s.archSources a c with
      | [] => (match s.rehomed a c with | some (r, k) => (s.archSources r k).map place | none => [])
      | rs => rs.map place
    | none => (s.hotSources n).map (fun r => (r.2.2.ch, r.2.2.lun, r.2.2.blk, r.2.2.page))

/-- The pages that a READ of an export namespace needs. -/
def State.exportPages (s : State) (c : BlkCmd) : List Place :=
  c.lbas.flatMap (fun a => match s.exportLba c.nsid a with | .ok _ => s.exportSources (s.exportPage c.nsid a) | .error _ => [])

/-- A READ of an export namespace has its pages and ends; one that cannot be rebuilt is a JOURNAL_LOSS (07 R280). -/
def State.readExport (s : State) (c : BlkCmd) : State :=
  let found := c.lbas.map (fun a => (a, s.exportLba c.nsid a))
  let s := found.foldl (fun s f => match f.2 with | .error (2, 0x81) => s.logLoss [s.exportPage c.nsid f.1] | _ => s) s
  let s := found.foldl (fun s f => match f.2 with | .ok d => s.toBuffers c (16384 * (f.1 - c.arg0)) d | .error _ => s) s
  match found.find? (fun f => match f.2 with | .ok _ => false | .error _ => true) with
  | some (a, .error st) => s.endCmd c st a
  | _ => s.endCmd c (0, 0) 0

/-- The READ's pages have been read: it ends, or, where Carafe has to obtain a journal page from elsewhere, it reads again. -/
def State.pagesRead (s : State) (c : BlkCmd) (ds : List NandDone) (dup : List Nat) : State :=
  if c.nsid ≤ 16 then s.readBlock c (badPlaces ds) dup
  else if (badPlaces ds).isEmpty then s.readExport c
  else (ds.foldl State.readBad s).setCmd c.id (fun c => { c with phase := 2 })

/-- READ (R395, R401, R404): it submits a HOST read for every page that its LBAs need, and ends once they all have; `dup`: LBAs whose decryption ends with
DUP_MISMATCH. Results of reads of commands that a squash has discarded are dropped. -/
def execRead (dup : List Nat) (s : State) : Host.Outcome State Fault Refusal :=
  let known := fun (o : NandOp) => match o.tag with | .read id => s.blk.cmds.any (fun c => c.id == id) | _ => true
  let s : State := { s with nand := { s.nand with done := s.nand.done.filter (fun d => known d.op) } }
  s.blkRow 0x10 fun s c =>
    let mine := fun (t : OpTag) => t == .read c.id
    if c.phase = 2 then
      if 16 < c.nsid ∨ s.readTurn c then
        let ps := (if 16 < c.nsid then s.exportPages c else s.blockPages c).eraseDups
        some (ps.foldl (fun s p => s.readPage p.1 p.2.1 (.read c.id) p.2.2.1 p.2.2.2 1) (s.setCmd c.id (fun c => { c with phase := 3 })))
      else none
    else if s.waitsFor mine ∨ (c.nsid ≤ 16 ∧ !s.atRestReady c.nsid) then none
    else
      let (ds, s) := s.takeDone mine
      some (if s.waitsFor mine then s else s.pagesRead c ds dup)

/-! ### WRITE, DEALLOCATE and FLUSH -/

/-- The data of LBA number `i` of a WRITE as it is placed (11 R448). -/
def State.writeData (s : State) (c : BlkCmd) (i : Nat) : List Byte :=
  let d := slice c.data (4096 * i) 4096
  match s.nsCtx c.nsid with
  | some k => xts true (s.cctx k).key (c.arg0 + i) d
  | none => d

/-- WRITE (R391, R402, R404): with all its data in the device it places its units; `dup`: an encryption ends with DUP_MISMATCH, and nothing is placed. -/
def execWrite (dup : Bool) (s : State) : Host.Outcome State Fault Refusal :=
  s.blkRow 0x11 fun s c =>
    if c.phase = 3 ∨ !s.mayPlace c ∨ !s.atRestReady c.nsid then none
    else match dup, s.nsCtx c.nsid with
      | true, some k => some ((s.atRestMismatch k).refuseCmd c (0, 0x06))
      | _, k =>
        let items := (List.range c.nlb).map (fun i => WlItem.unit c.nsid (c.arg0 + i) c.id (s.writeData c i) none)
        (s.placeAll items).map fun s =>
          let s := match k with
            | some k => (List.range c.nlb).foldl (fun (s : State) _ => s.taskDone k) s
            | none => s
          s.setCmd c.id (fun c => { c with phase := 3 })

/-- DEALLOCATE (R391, R400, R404). -/
def execDeallocate (s : State) : Host.Outcome State Fault Refusal :=
  s.blkRow 0x13 fun s c =>
    let rs := c.extent
    if c.phase = 3 ∨ !s.mayPlace c then none
    else if rs.any (fun r => decide (s.nsSize c.nsid < r.1 + r.2)) then some (s.refuseCmd c (0, 0x80))
    else if rs.isEmpty then some (s.endCmd c (0, 0) 0)
    else (s.placeAll (rs.map (fun r => WlItem.trim c.nsid r.1 r.2 c.id))).map fun s => s.setCmd c.id (fun c => { c with phase := 3 })

/-- FLUSH (R403): the namespace's open wordlines are programmed, and it ends once every earlier WRITE and DEALLOCATE of the namespace has. -/
def execFlush (s : State) : Host.Outcome State Fault Refusal :=
  s.blkRow 0x12 fun s c =>
    let waits := (s.earlierCmds c).any (fun d => d.changes && d.nsid == c.nsid && decide (d.phase < 4))
    if !waits then some (s.endCmd c (0, 0) 0)
    else if c.phase = 3 then none
    else
      let gs := (s.blk.openWl.filter (fun e => e.2.items.any (fun i => i.nsid == c.nsid))).map (fun e => e.1)
      some ((gs.foldl State.programWl s).setCmd c.id (fun c => { c with phase := 3 }))

/-! ### Wordlines -/

/-- GATHER_EXPIRE (R391): GATHER_US has passed since the first unit or entry of the LUN's open wordline was placed. -/
def execGatherExpire (g : Fin 512) (s : State) : Host.Outcome State Fault Refusal :=
  let w : Wl := FMap.get {} s.blk.openWl g
  if s.run ∧ w.since + usTicks (s.blk.gather.getD (s.rd HQ_BLK_CFG.GATHER_US)) ≤ s.ticks then .next (s.programWl g) else .next s

/-- A wordline that failed, or was never programmed, is placed again, whole, on the next target (R392); none: none has room. -/
def State.replaceWl (s : State) (w : Wl) (failed : Bool) : Option State :=
  s.wlOrder.findSome? fun g =>
    let s := s.programWl g
    (s.takeBlkWl (g / 16) (g % 16) (s.rd (NDC_CFG.BPC (g / 16)))).map fun (k, p, s) =>
      let s := ({ s with blk := { s.blk with rot := g } } : State).submitWl
        { w with ch := g / 16, lun := g % 16, blk := k, page := p, tries := w.tries + b2n failed }
      if failed then s.count HQ_BLK_CNT1.WL_RETRY else s

/-- The commands with units or entries in a wordline that failed twice end with WRITE_FAULT (R392); a map checkpoint with such a wordline is given up (DESIGN CHOICE,
notes/assumptions/75). -/
def State.failWl (s : State) (w : Wl) : State :=
  let s : State := { s with blk := { s.blk with ckpt := s.blk.ckpt.filter (fun k => w.map.elim true (fun m => m.1 != k.serial)) } }
  (w.items.reverse).foldl (fun s i => s.setCmd i.cmd (fun c =>
    if c.changes then { c with phase := 4, sct := 2, sc := 0x80, result := if c.opc = 0x11 then i.lba else 0 } else c)) s

/-- The pointer page of a map checkpoint: its WRITE_SERIAL, the number of its wordlines and their places, 8 bytes each (R396; DESIGN CHOICE, notes/assumptions/75). -/
def BlkCkpt.pointer (k : BlkCkpt) : List Byte := leBytes 8 k.serial ++ leBytes 8 k.wls.length ++ k.wls.flatMap (leBytes 8 ·)

/-- The pointer page goes to the next page of the LUN's two anchor blocks, in pSLC; a full block is followed by the other one, erased first (R396; 07 R253). -/
def State.writePointer (s : State) (c l : Nat) (k : BlkCkpt) : State :=
  let n := FMap.get 0 s.blk.anchorPgs (16 * c + l)
  let p := s.slcPages c
  let b := n / p % 2
  let s : State := { s with blk := { s.blk with anchorPgs := FMap.set 0 s.blk.anchorPgs (16 * c + l) (n + 1) } }
  let s := if n ≠ 0 ∧ n % p = 0 then s.submit c l { kind := 7, tag := .mapPtr k.serial true, blk := b, cls := 2 } else s
  s.submit c l { kind := 5, tag := .mapPtr k.serial false, blk := b, page := n % p, data := padTo 16384 k.pointer, cls := 2 }

/-- The anchor LUNs that take programs. -/
def State.pointerLuns (s : State) : List (Nat × Nat) := s.mapAnchors.filter (fun p => s.wlTargets.contains (16 * p.1 + p.2))

/-- A KIND 2 wordline has passed: with the last one of its checkpoint the pointer page is written to both anchor LUNs (R396). -/
def State.mapPassed (s : State) (w : Wl) : State :=
  match s.blk.ckpt, w.map with
  | some k, some m =>
    if m.1 ≠ k.serial then s
    else
      let k : BlkCkpt := { k with left := k.left - 1, wls := k.wls ++ [w.key] }
      let s : State := { s with blk := { s.blk with ckpt := some k } }
      if k.left = 0 then s.pointerLuns.foldl (fun s p => s.writePointer p.1 p.2 k) s else s
  | _, _ => s

/-- The end of a pointer page program: the checkpoint is complete with the first that passes, and the two newest stay; one that failed is written again (R396). -/
def State.pointerDone (s : State) (c l serial status : Nat) : State :=
  match s.blk.ckpt with
  | some k =>
    if k.serial ≠ serial then s
    else if status = 0 then { s with blk := { s.blk with ckpt := none, ckpts := (k :: s.blk.ckpts).take 2 } }
    else if s.pointerLuns.contains (c, l) then s.writePointer c l k else s
  | none => s

/-- A passed wordline (R392): its summary is applied; those of later WRITE_SERIALs that have passed before it are applied again after it, so that the map follows the
serial order in which a rebuild applies them (R396, R404). -/
def State.passWl (s : State) (w : Wl) : State :=
  let later := sortBy (fun (a b : Wl) => decide (a.serial ≤ b.serial)) ((s.blk.done.map (fun e => e.2)).filter (fun (x : Wl) => decide (w.serial < x.serial)))
  let s : State := { s with blk := { s.blk with done := FMap.ins s.blk.done w.key w } }
  (later.foldl (fun s w => s.applyWl w false) (s.applyWl w true)).mapPassed w

/-- WORDLINE_PROGRAM_DONE (R392, R396): the block function takes the oldest wordline or pointer page program, or erase of its own, that has ended. One that ABORTED never ran: it is issued
again, or, where its LUN takes no programs any more, the wordline is placed elsewhere. -/
def execWordlineProgramDone (s : State) : Host.Outcome State Fault Refusal :=
  let mine := fun (d : NandDone) => match d.op.tag with | .wordline _ | .mapPtr .. => true | .erase _ => s.rd (NDC_LUN_CFG.REGION d.ch d.lun) == 3 | _ => false
  match s.nand.done.find? mine with
  | none => .next s
  | some d =>
    let t : State := { s with nand := { s.nand with done := dropFirst mine s.nand.done } }
    let up := t.chanUp d.ch && !t.lunLost d.ch d.lun
    match d.op.tag with
    | .wordline id =>
      match FMap.look s.blk.prog id with
      | none => .next t
      | some w =>
        let u : State := { t with blk := { t.blk with prog := FMap.del t.blk.prog id } }
        if d.status = 4 then .next (if up then t.submit d.ch d.lun d.op else (u.replaceWl w false).getD s)
        else if d.status = 0 then .next (u.passWl w).finishCmds
        else if w.tries = 0 then .next ((u.replaceWl w true).getD s)
        else .next (u.failWl w).finishCmds
    | .mapPtr serial erase => .next (if d.status = 4 ∧ up then t.submit d.ch d.lun d.op else if erase then t else t.pointerDone d.ch d.lun serial d.status)
    | _ => .next (if d.status = 4 ∧ up then t.submit d.ch d.lun d.op else t)

/-! ### Relocation and checkpoints -/

/-- Blocks of a BLOCK LUN that may be reclaimed: in use, neither open, unless the LUN takes no programs any more, nor with a wordline in progress, nor with one of a map
checkpoint that is kept. -/
def State.victims (s : State) (c l : Nat) : List Nat :=
  let x := s.lun c l
  let open_ := match x.stripeBlk with | some k => if s.chanUp c ∧ x.stripePg + s.rd (NDC_CFG.BPC c) ≤ s.rd (NDC_GEOM.PAGES_NATIVE c) then [k] else [] | none => []
  let busy := (s.liveWls.filter (fun (w : Wl) => w.ch == c && w.lun == l)).map (fun (w : Wl) => w.blk)
  let maps := ((s.blk.ckpts ++ s.blk.ckpt.toList).flatMap (fun k => k.wls.filterMap (FMap.look s.blk.done ·))).filter (fun (w : Wl) => w.ch == c && w.lun == l)
  let busy := busy ++ maps.map (fun (w : Wl) => w.blk)
  ((x.used.filter (fun e => e.2)).map (fun e => e.1)).filter (fun k => !open_.contains k && !busy.contains k && !x.freed.contains k && !s.erasing c l k)

/-- The LBAs mapped to a block: NSID, LBA, entry. -/
def State.liveIn (s : State) (c l k : Nat) : List (Nat × Nat × Nat) :=
  s.mapped.filter (fun x => entValid x.2.2 && entCh x.2.2 == c && entLun x.2.2 == l && entBlk x.2.2 == k)

/-- The block with the fewest mapped units, the lowest on a tie (DESIGN CHOICE, notes/assumptions/73). -/
def State.victim (s : State) (c l : Nat) : Option Nat :=
  (s.victims c l).foldl (fun o k => match o with
    | none => some k
    | some b => if (s.liveIn c l k).length < (s.liveIn c l b).length then some k else some b) none

/-- The summaries of a block go with its erase: a copy that was made from the block stands on its own from then on, or has been replaced. -/
def State.forgetBlock (s : State) (c l k : Nat) : State :=
  let from_ := fun (o : Option Nat) => match o with | some e => entCh e == c && entLun e == l && entBlk e == k | none => false
  let fix := fun (w : Wl) (i : WlItem) (u : Nat) => match i with
    | .unit n a m d o => if from_ o then (if entLoc (s.mapEntry n a) = entLoc (w.ent u) then WlItem.unit n a m d none else WlItem.unit 0 0 m d none) else i
    | i => i
  let go := fun (w : Wl) => { w with items := (w.items.foldl (fun (a : List WlItem × Nat) i => (a.1 ++ [fix w i a.2], if i.isUnit then a.2 + 1 else a.2)) ([], 0)).1 }
  let done := s.blk.done.filter (fun e => !(e.2.ch == c && e.2.lun == l && e.2.blk == k))
  { s with blk := { s.blk with done := done.map (fun e => (e.1, go e.2)) } }

/-- Mapped units of a block that are not on their way to another place already. -/
def State.toMove (s : State) (c l k : Nat) : List (Nat × Nat × Nat) :=
  let onWay := s.liveWls.flatMap (fun (w : Wl) => w.items.filterMap (fun i => match i with | .unit _ _ _ _ (some e) => some (entLoc e) | _ => none))
  (s.liveIn c l k).filter (fun x => !onWay.contains (entLoc x.2.2))

/-- A READ that was submitted against a page of the block has not taken its data (R394). -/
def State.readsBlock (s : State) (c l k : Nat) : Bool :=
  let hit := fun (d m : Nat) (o : NandOp) => d == c && m == l && o.blk == k && (match o.tag with | .read _ => true | _ => false)
  s.nand.todo.any (fun t => hit t.1 t.2.1 t.2.2) || s.nand.ctx.any (fun e => (e.2.queue ++ e.2.op.toList).any (hit (e.1 / 16) (e.1 % 16)))
    || s.nand.done.any (fun d => hit d.ch d.lun d.op)

/-- The units of block `k`, whose pages have been read, are copied into open wordlines; a page that did not read gives its LBAs POISON (R394, R395). None: no room. -/
def State.moveUnits (s : State) (c l k : Nat) (ds : List NandDone) : Option State :=
  let got := ds.map NandDone.place
  let todo := (s.toMove c l k).filter (fun x => entPoison x.2.2 || got.contains (entPlace x.2.2))
  let fresh := todo.filter (fun x => !entPoison x.2.2 && (badPlaces ds).contains (entPlace x.2.2))
  let items := todo.map (fun x => WlItem.unit x.1 x.2.1 (2 ^ 64) (if entPoison x.2.2 || fresh.contains x then [] else (s.unitData x.2.2).getD []) (some x.2.2))
  (s.poisonLbas (fresh.map (fun x => (x.1, x.2.1)))).placeAll items

/-- BLOCK_RELOCATE (R394, R398): on BLOCK LUN `g`, the still mapped units of a block are read, as BACKGROUND operations, and copied into open wordlines; once none is
mapped there, and every READ against it has taken its data, the block is erased. The block of a retired channel is not erased. -/
def execBlockRelocate (g : Fin 512) (s : State) : Host.Outcome State Fault Refusal :=
  let c : Nat := (g : Nat) / 16
  let l : Nat := (g : Nat) % 16
  let mine := fun (t : OpTag) => t == .relocRead g
  if s.waitsFor mine then .next s
  else
    let (ds, t) := s.takeDone mine
    if t.waitsFor mine then .next t
    else if !s.run ∨ !s.flag HQ_BLK_STAT.READY ∨ s.rd (NDC_LUN_CFG.REGION c l) ≠ 3 ∨ !s.chanReads c ∨ s.lunLost c l ∨ !(s.lun c l).valid then .next t
    else match ds with
      | d :: _ => .next ((t.moveUnits c l d.op.blk ds).getD s)
      | [] => match s.victim c l with
        | none => .next s
        | some k =>
          if (s.liveIn c l k).isEmpty then
            .next (if s.chanUp c ∧ !s.readsBlock c l k then (s.forgetBlock c l k).submit c l { kind := 8, tag := .erase k, blk := k, cls := 2 } else s)
          else
            let todo := s.toMove c l k
            let ps := ((todo.filter (fun x => !entPoison x.2.2)).map (fun x => entPlace x.2.2)).eraseDups
            .next (if ps.isEmpty then (s.moveUnits c l k []).getD s else ps.foldl (fun s p => s.readPage c l (.relocRead g) p.2.2.1 p.2.2.2 2) s)

/-- The WRITE_SERIAL up to which the map holds everything: below the first wordline that is still programming. -/
def State.mapSerial (s : State) : Nat := s.blk.prog.foldl (fun a e => min a (e.2.serial - 1)) s.blk.serial

/-- The rest of the map from byte `off` on is placed as KIND 2 wordlines, on the BLOCK LUNs in rotating order; none: no room. The fuel bounds their number. -/
def State.placeMap (s : State) (serial : Nat) (map : Memory) (n : Nat) : Nat → Nat → Option State
  | 0, _ => some s
  | f + 1, off =>
    if n ≤ off then some s
    else (s.wlOrder.findSome? (fun g =>
      let s := s.programWl g
      let b := s.rd (NDC_CFG.BPC (g / 16))
      let k := (4 * b - 1) * 4096
      (s.takeBlkWl (g / 16) (g % 16) b).map (fun x =>
        let w : Wl := { ch := g / 16, lun := g % 16, blk := x.1, page := x.2.1, map := some (serial, Memory.readBytes map off (min k (n - off))) }
        (k, ({ x.2.2 with blk := { x.2.2.blk with rot := g, ckpt := x.2.2.blk.ckpt.map (fun c => { c with left := c.left + 1 }) } } : State).submitWl w)))).bind
      (fun y => State.placeMap y.2 serial map n f (off + y.1))

/-- The bytes of the whole map, from its first one on. -/
def State.wholeMap (s : State) : Memory :=
  let base := s.mapBase 0
  (s.gddr.filter (fun e => decide (base ≤ e.1) && decide (e.1 < base + 8 * s.nsSum))).map (fun e => (e.1 - base, e.2))

/-- A map checkpoint begins: the whole map is written as KIND 2 wordlines; none: no room. -/
def State.beginCkpt (s : State) : Option State :=
  let n := 8 * s.nsSum
  let t : State := { s with blk := { s.blk with ckpt := some { serial := s.mapSerial, map := s.wholeMap }, placed := 0 } }
  t.placeMap s.mapSerial s.wholeMap n (ceilDiv n 12288) 0

/-- MAP_CHECKPOINT (R396): MAP_CKPT_GIB GiB have been placed since the last one; the pointer page follows once the checkpoint's wordlines have passed. -/
def execMapCheckpoint (s : State) : Host.Outcome State Fault Refusal :=
  if !s.run ∨ !s.flag HQ_BLK_STAT.READY ∨ s.pointerLuns.isEmpty ∨ s.blk.ckpt.isSome ∨ s.blk.placed < s.rd HQ_BLK_CFG.MAP_CKPT_GIB * 2 ^ 30 then .next s
  else .next (s.beginCkpt.getD s)

/-! ### Completions -/

/-- DNR: every status but the retryable ones (R406). -/
def retryable (st : BlkStatus) : Bool := [(0, 0x04), (0, 0x06), (0, 0x82), (7, 0xC3)].contains st

/-- The counters of a command that completes (HQ_BLK_CNT0, CNT1; Table 10-9). -/
def State.countCmd (s : State) (c : BlkCmd) : State :=
  let units := if c.sct = 0 ∧ c.sc = 0 then c.nlb * (lbaSize c.nsid / 512) else 0
  let s := if c.opc = 0x10 then s.count HQ_BLK_CNT0.READS else if c.opc = 0x11 then s.count HQ_BLK_CNT0.WRITES else s
  let s := if c.sct = 2 ∧ c.sc = 0x81 then s.count HQ_BLK_CNT1.UNREC else s
  let b := s.blk
  let b : Blk := if c.opc = 0x10 then { b with unitsRead := b.unitsRead + units, hostReads := b.hostReads + 1 }
    else if c.opc = 0x11 then { b with unitsWritten := b.unitsWritten + units, hostWrites := b.hostWrites + 1 } else b
  { s with blk := if c.sct = 2 ∧ c.sc = 0x81 then { b with mediaErrs := b.mediaErrs + 1 } else b }

/-- A SET_FEATURES takes effect with its completion (R411). -/
def State.setFeature (s : State) (c : BlkCmd) : State :=
  if c.opc ≠ 0x1A ∨ c.sct ≠ 0 ∨ c.sc ≠ 0 then s
  else
    let s : State := match c.sel with
      | 0xC0 => { s with blk := { s.blk with gather := some c.arg0 } }
      | 0xC1 => { s with blk := { s.blk with share := some c.arg0 } }
      | _ => s.wr (HQ_BLK_NS.WP (c.nsid - 1)) c.arg0
    s.count HQ_BLK_STAT.FEAT_SETS

/-- STORAGE_DONE (R405 to R407): the oldest command that has ended completes; DEFERRED tells its slice of errors found since the last one. -/
def execStorageDone (s : State) : Host.Outcome State Fault Refusal :=
  match s.blk.cmds.find? (fun c => c.phase == 4) with
  | none => .next s
  | some c =>
    if !s.run then .next s
    else
      let g : DefLog := FMap.get {} s.blk.logs c.slice
      let hi := c.sc + c.sct * 2 ^ 8 + b2n (!retryable (c.sct, c.sc)) * 2 ^ 11 + b2n g.flag * 2 ^ 12 + c.opc * 2 ^ 16
      let s := (s.countCmd c).setFeature c
      let s : State := { s with blk := { s.blk with cmds := dropFirst (fun (d : BlkCmd) => d.id == c.id) s.blk.cmds, logs := FMap.set {} s.blk.logs c.slice { g with flag := false } } }
      .next (s.complete c.ring c.entry (.storage [word0 0xA0 1 c.tag hi, c.result, c.ring + c.index * 2 ^ 32, 0]))

end Sys2Proof.Machine
end

