-- ==== Sys2Proof/Machine/Admin.lean ====
section
/-!
DEFINITION. The admin commands of storage rings: IDENTIFY, GET_LOG_PAGE, SET_FEATURES, GET_FEATURES, FW_DOWNLOAD and FW_COMMIT (10 R408 to R412, R414).
-/

namespace Sys2Proof.Machine

/-- Put `bs` at byte `off` of a structure of zeros. -/
def putAt (b : List Byte) (off : Nat) (bs : List Byte) : List Byte := b.take off ++ bs ++ b.drop (off + bs.length)

/-- A structure of `n` bytes: the listed fields, zero elsewhere. -/
def layout (n : Nat) (fs : List (Nat × List Byte)) : List Byte := (fs.foldl (fun b f => putAt b f.1 f.2) (zeros n)).take n

/-- A command whose result is `b`: its bytes from `off` on go to the host buffers, zeros beyond its end (R410). -/
def State.answerCmd (s : State) (c : BlkCmd) (off : Nat) (b : List Byte) : State :=
  let n := (c.segs.map (fun g => g.2)).sum
  (s.toBuffers c 0 (padTo n ((b.drop off).take n))).endCmd c (0, 0) 0

/-! ### IDENTIFY (R409) -/

def partName : Part → List Byte
  | .YL9640 => [0x59, 0x4C, 0x39, 0x36, 0x34, 0x30]
  | .YL9632 => [0x59, 0x4C, 0x39, 0x36, 0x33, 0x32]

/-- CNS 0x01. The forms of SSVID, SN and FR come from `v` (notes/assumptions/4). -/
def State.identifyController (s : State) (v : Nat) : List Byte :=
  layout 4096 [(0, leBytes 2 0x1F3C), (2, leBytes 2 v), (4, leBytes 20 (v / 2 ^ 16)), (24, partName s.part ++ List.replicate 34 0x20), (64, leBytes 8 (v / 2 ^ 176)),
    (77, leBytes 1 8), (80, leBytes 4 0x00020000), (256, leBytes 2 4), (260, leBytes 1 4), (261, leBytes 1 4), (516, leBytes 4 20), (520, leBytes 2 4)]

/-- A page of the journal that export namespace `nsid` shows is held. -/
def State.pageHeld (s : State) (n : Nat) (p : JPage) : Bool := p.copies.any Copy.passed || s.crf.arch.any (fun e => e.2.pages.contains n)

/-- The pages of the journal of an export namespace, by serial. -/
def State.journalPages (s : State) (nsid : Nat) : FMap JPage :=
  if nsid = 17 then s.crf.pages else match s.crf.earlier[nsid - 18]? with | some j => j.2 | none => []

/-- LBAs with VALID = 1, or pages held. -/
def State.nuse (s : State) (nsid : Nat) : Nat :=
  if nsid ≤ 16 then (s.mapped.filter (fun x => x.1 == nsid && entValid x.2.2)).length
  else ((s.journalPages nsid).filter (fun e => s.pageHeld (e.1 + s.exportJournal nsid * 2 ^ 64) e.2)).length

/-- CNS 0x00. -/
def State.identifyNamespace (s : State) (nsid : Nat) : List Byte :=
  let size := leBytes 8 (s.nsSize nsid)
  let block := decide (nsid ≤ 16)
  layout 4096 [(0, size), (8, size), (16, leBytes 8 (s.nuse nsid)), (33, leBytes 1 (b2n block)), (99, leBytes 1 (b2n (!block || s.flag (HQ_BLK_NS.WP (nsid - 1))))),
    (130, leBytes 1 (if block then 12 else 14))]

/-- CNS 0x02. -/
def State.identifyList (s : State) (sl : Nat) : List Byte :=
  padTo 4096 ((((List.range 20).map (· + 1)).filter (fun n => s.attached sl n)).flatMap (leBytes 4))

/-- IDENTIFY. -/
def execIdentify (s : State) : Host.Outcome State Fault Refusal :=
  s.blkRow 0x18 fun s c =>
    match c.sel with
    | 0 => some (s.answerCmd c 0 (s.identifyNamespace c.nsid))
    | 1 => some (s.drew.answerCmd c 0 (s.identifyController s.freeVal))
    | _ => some (s.answerCmd c 0 (s.identifyList c.slice))

/-! ### Log pages (R408, R410, R414) -/

/-- LID 0x02. Available Spare (a percentage) and Composite Temperature come from `v` (notes/assumptions/4). -/
def State.smartLog (s : State) (v : Nat) : List Byte :=
  let spare := v % 101
  let lost := s.blockLuns.any (fun p => s.lunLost p.1 p.2 || s.nand.lost.contains p.1)
  let life := s.blockLuns.foldl (fun a p => max a (s.rd (NDC_LUN_STAT.LIFE_PCT p.1 p.2))) 0
  let thousands := fun n => leBytes 16 (ceilDiv n 1000)
  layout 512 [(0, leBytes 1 (b2n (decide (spare < 10)) + 4 * b2n lost)), (1, leBytes 2 (v / 101)), (3, leBytes 1 spare), (5, leBytes 1 (min 255 life)),
    (32, thousands s.blk.unitsRead), (48, thousands s.blk.unitsWritten), (64, leBytes 16 s.blk.hostReads), (80, leBytes 16 s.blk.hostWrites), (128, leBytes 16 s.hours),
    (144, leBytes 16 s.blk.unsafe_), (160, leBytes 16 s.blk.mediaErrs)]

/-- LID 0x03. The forms of the two revisions come from `v` (notes/assumptions/4). -/
def State.slotLog (s : State) (v : Nat) : List Byte :=
  let next := match s.slotOrder with | k :: _ => k + 1 | [] => 0
  layout 512 [(0, leBytes 1 (s.rd RST_SLOT.BOOTED + 16 * next)), (8, leBytes 8 v), (16, leBytes 8 (v / 2 ^ 64))]

/-- An entry of Table 10-8. -/
def DefErr.bytes (e : DefErr) : List Byte :=
  leBytes 8 e.id ++ leBytes 4 e.nsid ++ leBytes 1 e.cause ++ zeros 3 ++ leBytes 8 e.slba ++ leBytes 4 e.nlb ++ zeros 4 ++ leBytes 12 e.stamp ++ leBytes 2 e.glun ++ zeros 18

/-- LID 0xC0. -/
def DefLog.bytes (g : DefLog) : List Byte :=
  leBytes 4 g.ents.length ++ leBytes 4 g.lost ++ leBytes 8 g.next ++ zeros 48 ++ g.ents.flatMap DefErr.bytes

/-- Entries that lie whole in bytes `off` to `off + n − 1` of the log go. -/
def DefLog.clear (g : DefLog) (off n : Nat) : DefLog :=
  { g with ents := (g.ents.zipIdx.filter (fun e => !(decide (off ≤ 64 + 64 * e.2) && decide (128 + 64 * e.2 ≤ off + n)))).map (fun e => e.1) }

/-- The serials of the pages of an archive segment in the journal of `nsid`, re-homed copies apart. -/
def State.segSerials (s : State) (nsid k : Nat) : List Nat :=
  ((((s.crf.arch.filter (fun e => decide (e.1 / 4096 = k) && e.2.ranks.isEmpty)).flatMap (fun e => e.2.pages)).filter
    (fun n => n / 2 ^ 64 == s.exportJournal nsid)).map (fun n => n % 2 ^ 64))

/-- An entry of Table 10-11. -/
def State.segEntry (s : State) (nsid k : Nat) : List Byte :=
  let ns := s.segSerials nsid k
  let first := ns.foldl min (ns.headD 0)
  let last := ns.foldl max 0
  let st := if s.crf.released.contains k then 3 else if s.segClosed k then 2 else 1
  let chain := match s.page (last + s.exportJournal nsid * 2 ^ 64) with | some p => p.chain | none => []
  leBytes 4 k ++ leBytes 1 st ++ zeros 3 ++ leBytes 8 first ++ leBytes 8 last ++ leBytes 12 (s.segNewest k) ++ zeros 4 ++ padTo 48 chain ++ zeros 8

/-- LID 0xC1, for the journal of `nsid`. -/
def State.segLog (s : State) (nsid : Nat) : List Byte :=
  let segs := ((List.range (ceilDiv s.crf.nextArch 4096)).filter (fun k => !s.crf.erased.contains k && !(s.segSerials nsid k).isEmpty))
  let journal := if nsid = 17 then s.rd CRF_JOURNAL_ID.ID else match s.crf.earlier[nsid - 18]? with | some j => j.1 | none => 0
  leBytes 8 journal ++ leBytes 4 segs.length ++ zeros 52 ++ segs.flatMap (s.segEntry nsid)

/-- GET_LOG_PAGE. -/
def execGetLogPage (s : State) : Host.Outcome State Fault Refusal :=
  s.blkRow 0x19 fun s c =>
    match c.sel with
    | 0x02 => some (s.drew.answerCmd c c.arg0 (s.smartLog s.freeVal))
    | 0x03 => some (s.drew.answerCmd c c.arg0 (s.slotLog s.freeVal))
    | 0xC0 =>
      let g : DefLog := FMap.get {} s.blk.logs c.slice
      let t := s.answerCmd c c.arg0 g.bytes
      some (if bitAt c.arg2 8 then { t with blk := { t.blk with logs := FMap.set {} t.blk.logs c.slice (g.clear c.arg0 ((c.segs.map (fun x => x.2)).sum)) } } else t)
    | _ => some (s.answerCmd c c.arg0 (s.segLog (if c.arg2 / 256 = 0 then 17 else c.arg2 / 256)))

/-! ### Features (R411) -/

/-- SET_FEATURES: the value takes effect with the completion (`State.setFeature`). -/
def execSetFeatures (s : State) : Host.Outcome State Fault Refusal := s.blkRow 0x1A fun s c => some (s.endCmd c (0, 0) 0)

/-- A feature's current (`sel` 0) or default (1) value. -/
def State.feature (s : State) (fid nsid sel : Nat) : Nat :=
  match fid with
  | 0xC0 => if sel = 0 then s.blk.gather.getD (s.rd HQ_BLK_CFG.GATHER_US) else s.rd HQ_BLK_CFG.GATHER_US
  | 0xC1 => if sel = 0 then s.blk.share.getD (s.rd HQ_BLK_CFG.BG_SHARE_PCT) else s.rd HQ_BLK_CFG.BG_SHARE_PCT
  | 0xC2 => if sel = 0 then s.rd (HQ_BLK_NS.WP (nsid - 1)) else 0
  | _ => 0

/-- GET_FEATURES. -/
def execGetFeatures (s : State) : Host.Outcome State Fault Refusal :=
  s.blkRow 0x1B fun s c => some (s.endCmd c (0, 0) (s.feature c.sel c.nsid (c.arg2 / 256)))

/-! ### Firmware (R412) -/

/-- No firmware command that arrived before `c` is still going on. -/
def State.fwTurn (s : State) (c : BlkCmd) : Bool := (s.earlierCmds c).all (fun d => !(d.fw && decide (d.phase < 4)))

/-- The first byte of the download buffer. -/
def State.dlBuf (s : State) : Nat := s.rd CFG_DLBUF.BASE_4K * 4096

/-- FW_DOWNLOAD. -/
def execFwDownload (s : State) : Host.Outcome State Fault Refusal :=
  s.blkRow 0x1C fun s c =>
    if !s.fwTurn c then none
    else
      let t : State := { s with gddr := Memory.writeBytes s.gddr (s.dlBuf + c.arg0) c.data }
      some (t.endCmd c (0, 0) 0)

/-- FW_COMMIT: the image goes into the slot that is not booted, with a generation above both slots'; a failed flash write ends it with INTERNAL. It waits for an
APPLY_SECTION in progress. -/
def execFwCommit (flashOk : Bool) (s : State) : Host.Outcome State Fault Refusal :=
  s.blkRow 0x1D fun s c =>
    if !s.fwTurn c ∨ s.ro.apply.isSome then none
    else if s.flag CFG_FLASH.WP then some (s.refuseCmd c (7, 0xC1))
    else
      let img := Memory.readBytes s.gddr s.dlBuf (min c.arg0 s.slotSize)
      let k := s.spareSlot
      let gen := s.nextGen
      if s.slotSize < c.arg0 + 4096 ∨ !s.imageOk img then some (s.refuseCmd c (1, 0x07))
      else
        let t := ((s.flashErase (s.slotAt k) s.slotSize).flashWrite (s.slotAt k) img).commitImage k gen img flashOk
        some (if flashOk then t.endCmd c (0, 0) gen else t.refuseCmd c (0, 0x06))

end Sys2Proof.Machine
end

