-- ==== Sys2Proof/Machine/ConfigSpace.lean ====
section
/-!
DEFINITION. The configuration space of the endpoint's two functions (08 R295, R297, R331 to R333): the identity and capabilities they show, and what software writes. The
registers are those of the PCI Express Base Specification, which R297 names (PRESUMED where the manual's tables do not give a field, notes/assumptions/42).
-/

namespace Sys2Proof.Machine

/-- The device ID of a function (08 Table 08-1). -/
def State.functionId (s : State) (pf1 : Bool) : Nat := s.deviceId + b2n pf1

/-- A half of a 64-bit BAR as it reads: the bits that a BAR of its size holds, and the type bits (08 Table 08-3). -/
def barRead32 (pf1 : Bool) (i v : Nat) : Nat :=
  match pf1, i with
  | false, 0 => v / 2 ^ 26 * 2 ^ 26 + 4
  | false, 2 => v / 2 ^ 20 * 2 ^ 20 + 4
  | _, 4 => v / 2 ^ 16 * 2 ^ 16 + 4
  | true, 0 => v / 2 ^ 27 * 2 ^ 27 + 0xC
  | true, 2 => 0xC
  | true, 3 => v / 16 * 16
  | _, _ => v

/-- The capabilities of a function, by their identifiers: standard and extended (08 Table 08-2). -/
def capabilities (pf1 : Bool) : List Nat :=
  [0x01, 0x10, 0x11] ++ [0x0001, 0x0003, 0x000E] ++ (if pf1 then [0x0017, 0x001B] else [0x0025, 0x0026, 0x0027, 0x002A, 0x0031])

/-- A register of configuration space (08 R295, R297). -/
def State.cfgReg (s : State) (pf1 : Bool) (r : CfgReg) : Nat :=
  let f := s.pcieFn (b2n pf1)
  match r with
  | .id => s.functionId pf1 * 2 ^ 16 + 0x1F3C
  | .command => 2 ^ 20 + 4 * b2n f.busMaster + 2
  | .classRev => (if pf1 then 0x120000 else 0x088000) * 2 ^ 8 + 0xB1
  | .bar i => barRead32 pf1 i (FMap.get 0 f.bars i)
  | .subsystem => leNat (Memory.readBytes s.ro.presets 0 4)
  | .caps => 0
  | .devCap => 2 + 2 ^ 5 + 2 ^ 15 + 2 ^ 28
  | .devCtl => 2 ^ 4 * b2n f.relaxed + 2 ^ 5 * f.mps + 2 ^ 12 * f.mrrs
  | .devCap2 => 7 + 2 ^ 4 + 2 ^ 16 + 2 ^ 17
  | .devCtl2 => f.ctoValue + 2 ^ 4 * b2n f.ctoDisable + 2 ^ 8 * b2n f.ido + 2 ^ 12 * b2n f.ext10
  | .linkStatus => 2 ^ 16 * s.rd PCI_LINK.SPEED + 2 ^ 20 * s.rd PCI_LINK.WIDTH
  | .pmCap => 0x00030001
  | .pmCtl => 8 + 3 * b2n f.d3
  | .msixCtl => 0x11 + 2 ^ 16 * (vectorsOf (b2n pf1) - 1) + 2 ^ 30 * b2n f.msixMask + 2 ^ 31 * b2n f.msixEn
  | .msixTable => 4
  | .msixPba => 0x8000 + 4
  | .severity => f.fatal
  | .serialLo => s.fuses.serial % 2 ^ 32
  | .serialHi => s.fuses.serial / 2 ^ 32 % 2 ^ 32
  | .ari => if pf1 then 0 else 2 ^ 8
  | .pasid => if pf1 then 20 * 2 ^ 8 else 0
  | .tphCap => if pf1 then 5 else 0
  | .tphCtl => if pf1 then 2 ^ 8 * b2n f.tph else 0

/-- What a configuration request to a function meets: nothing answers while the link is down; PF1 is not there in recovery mode (13 R508); and during an FLR it receives
Request Retry Status (08 Table 08-13). -/
def State.cfgRequest (s : State) (pf1 : Bool) (f : State → State) : State :=
  if !s.flag PCI_LINK.UP || s.pci.perst || s.isFatal .pcie then s
  else if pf1 && s.recovery then s.emit (.completion none)
  else if (s.pcieFn (b2n pf1)).flr then s.emit (.retry (b2n pf1))
  else f s

/-- A read of a configuration register. -/
def State.cfgRead (s : State) (pf1 : Bool) (r : CfgReg) : State :=
  s.cfgRequest pf1 fun s => s.emit (.completion (some (if r = .caps then (capabilities pf1).flatMap (leBytes 2) else leBytes 4 (s.cfgReg pf1 r))))

def PcieFn.set (f : PcieFn) : CfgWrite → PcieFn
  | .busMaster => { f with busMaster := true }
  | .bar i v => { f with bars := FMap.set 0 f.bars i v.toNat }
  | .devCtl mps mrrs relaxed => { f with mps := mps, mrrs := mrrs, relaxed := relaxed }
  | .ido on => { f with ido := on }
  | .tags ten fourteen => { f with ext10 := ten, ext14 := fourteen }
  | .timeout v off => { f with ctoValue := v, ctoDisable := off }
  | .msix en mask => { f with msixEn := en, msixMask := mask }
  | .tph on => { f with tph := on }
  | .d0 => { f with d3 := false }
  | .severity b => { f with fatal := b }

/-- A write of a configuration register; a vector that it unmasks is sent if it was pending. -/
def State.cfgWrite (s : State) (pf1 : Bool) (w : CfgWrite) : State :=
  s.cfgRequest pf1 fun s =>
    (if pf1 then { s with pci := { s.pci with fn1 := s.pci.fn1.set w } } else { s with pci := { s.pci with fn0 := s.pci.fn0.set w } }).sendPending (b2n pf1)

/-! ### MSI-X tables and pending bits (08 Table 08-3) -/

/-- Bytes of a table as it is stored: the Mask bit of each entry is complemented. -/
def msixFlip (off : Nat) (bs : List Byte) : List Byte :=
  (List.range bs.length).map (fun i => let b := bs.getD i 0; if (off + i) % 16 = 12 then b ^^^ 1 else b)

/-- A byte of BAR4 of a function as it reads: its MSI-X table, then the PBA at 0x8000. -/
def State.msixByte (s : State) (fn off : Nat) : Byte :=
  if off < 16 * vectorsOf fn then (let b := Memory.read (if fn = 0 then s.pci.msix0 else s.pci.msix1) off; if off % 16 = 12 then b ^^^ 1 else b)
  else if 0x8000 ≤ off then BitVec.ofNat 8 (((List.range 8).map (fun i => 2 ^ i * b2n (FMap.get false (s.pendingOf fn) (8 * (off - 0x8000) + i)))).sum)
  else 0

/-- A write into BAR4 of a function: the table takes it, and a vector that it unmasks is sent if it was pending; the PBA is read-only. -/
def State.msixWrite (s : State) (fn off : Nat) (d : List Byte) : State :=
  let d := msixFlip off (d.take (16 * vectorsOf fn - off))
  (if fn = 0 then { s with pci := { s.pci with msix0 := Memory.writeBytes s.pci.msix0 off d } }
   else { s with pci := { s.pci with msix1 := Memory.writeBytes s.pci.msix1 off d } }).sendPending fn

end Sys2Proof.Machine
end

