-- ==== Sys2Proof/Machine/Events.lean ====
section
/-!
DEFINITION. Waiting, signals, the thread timer, stamp and special reads, thread end (05 R195 to R199, R203, R204), waking
(04 R134, R135; 05 R191), and thread and debug control (04 R128 to R130, R156, R158 to R162).
-/

namespace Sys2Proof.Machine

/-- Mask bits of WAIT and ECLR: rs1[31:0] | imm16 (05 R195). -/
def evMask (x : Thread) (rs1 imm : Nat) : Nat := ((x.r rs1).toNat % 2 ^ 32) ||| imm

def execWait (t : Fin 8192) (rd rs1 : Fin 32) (imm : Fin 65536) (s : State) : Host.Outcome State Fault Refusal :=
  s.instr t fun s x =>
    let m := evMask x rs1 imm ||| 2 ^ evCtrl
    if rd ≠ 0 then illegal
    else if x.pend &&& m ≠ 0 then s.done t { x with wmask := m }
    else .ok (s.setTh t { x.nextPc with wmask := m, st := .wait })

def execEclr (t : Fin 8192) (rd rs1 : Fin 32) (imm : Fin 65536) (s : State) : Host.Outcome State Fault Refusal :=
  s.instr t fun s x =>
    if rd ≠ 0 then illegal else s.done t { x with pend := x.pend - (x.pend &&& evMask x rs1 imm) }

/-- The target of a SIG may be signalled (05 R196). -/
def State.sigOk (s : State) (t target n : Nat) : Bool :=
  s.hasCluster (target / 128) && !s.isFatal (.cluster (target / 128))
    && (decide (8 ≤ n) || (target / 128 == t / 128 && s.wgrp target == s.wgrp t && s.wgrp t != 15))

def execSig (t : Fin 8192) (rd rs1 : Fin 32) (imm : Fin 65536) (s : State) : Host.Outcome State Fault Refusal :=
  s.instr t fun s x =>
    let target := (x.r rs1).toNat % 8192
    let n : Nat := imm
    if rd ≠ 0 ∨ 16 ≤ n then illegal
    else if !s.sigOk t target n then .error { cause := 0x20, addr := some target }
    else if target / 128 = (t : Nat) / 128 then .ok ((s.setTh t x.nextPc).raise target (16 + n))
    else (s.raise target (16 + n)).memwait t x (.done [] none)

/-- The round of engine `g`: 8 engine cycles, 4 ns (05 R197). -/
def State.round (s : State) (g : Nat) : Nat := s.cycle g / 8

def execTset (t : Fin 8192) (rd rs1 : Fin 32) (imm : Fin 65536) (s : State) : Host.Outcome State Fault Refusal :=
  s.instr t fun s x =>
    let v := min ((x.r rs1).toNat % 2 ^ 32 + (imm : Nat)) (2 ^ 32 - 1)
    if rd ≠ 0 then illegal
    else s.done t { x with timer := if v = 0 then 0 else s.round ((t : Nat) / 8) + v }

/-- The timer's value in rounds (05 R197). -/
def State.timerLeft (s : State) (t : Nat) (x : Thread) : Nat := if x.timer = 0 then 0 else x.timer - s.round (t / 8)

/-- THREAD_TIMER_EXPIRE (05 R197): the timer reaches zero, raises TIMER and stops. -/
def execThreadTimerExpire (t : Fin 8192) (s : State) : Host.Outcome State Fault Refusal :=
  let x := s.th t
  if x.timer ≠ 0 ∧ s.timerLeft t x = 0 then .next ((s.setTh t { x with timer := 0 }).raise t evTimer) else .next s

def execStamp (t : Fin 8192) (rd rs1 : Fin 32) (imm : Fin 65536) (s : State) : Host.Outcome State Fault Refusal :=
  s.instr t fun s x =>
    if rs1 ≠ 0 ∨ imm ≠ 0 ∨ (rd : Nat) % 2 ≠ 0 ∨ (rd : Nat) = 0 then illegal
    else s.done t ((x.w rd (BitVec.ofNat 64 s.nowStamp)).w ((rd : Nat) + 1) (BitVec.ofNat 64 (s.nowStamp / 2 ^ 64)))

/-- The value of an MFS selector; none: not defined (05 Table 05-15). -/
def State.mfsValue (s : State) (t : Nat) (x : Thread) (sel : Nat) : Option Nat :=
  match sel with
  | 0 => some (t % 128)
  | 1 => some t
  | 2 => some (t / 128)
  | 3 => some (s.cycle (t / 8))
  | 4 => some x.pend
  | 5 => some x.wmask
  | 6 => some x.flags
  | 7 => some x.rcvLen
  | 8 => some x.dmas.length
  | 9 => some (s.timerLeft t x)
  | 10 => some x.locks.length
  | _ => none

def execMfs (t : Fin 8192) (rd rs1 : Fin 32) (imm : Fin 65536) (s : State) : Host.Outcome State Fault Refusal :=
  s.instr t fun s x =>
    if rs1 ≠ 0 then illegal
    else match s.mfsValue t x imm with
      | none => illegal
      | some v => s.done t (x.w rd (BitVec.ofNat 64 v))

/-- STOP may not stop the thread (05 R203). -/
def Thread.held (x : Thread) : Bool := !x.locks.isEmpty || x.rsv.isSome || !x.dmas.isEmpty || !x.descs.isEmpty

def execStop (t : Fin 8192) (z : Fin 67108864) (s : State) : Host.Outcome State Fault Refusal :=
  s.instr t fun s x =>
    if z ≠ 0 then illegal
    else if x.held then .error { cause := 0x23 }
    else s.done t { x with st := .idle }

def execBkpt (t : Fin 8192) (z : Fin 67108864) (s : State) : Host.Outcome State Fault Refusal :=
  s.instr t fun s x =>
    if z ≠ 0 then illegal
    else if s.flag (DYE_DBG.DBG_EN ((t : Nat) / 8)) then s.done t { x with st := .halt, haltedInWait := false }
    else s.done t x

/-! ### Waking (04 R134, R135; 05 R191) -/

/-- A parked request: whether its thread still stands in the Saucer, and the event bit of its grant. -/
def State.parked (s : State) (t : Nat) : Park → Bool × Nat
  | .lock n => ((s.lockOf (t / 128) n).saucer.contains (t % 128), evLock)
  | .chan c => ((s.chan (t / 128) c).saucer.contains (t % 128), evChanTx)

/-- THREAD_WAKE: a pending event meets a waiting thread's mask, or a fault is due to it. A parked request ends with its grant (B = 0), or is
withdrawn (B = 1); either consumes its bit (05 R191). -/
def execThreadWake (t : Fin 8192) (s : State) : Host.Outcome State Fault Refusal :=
  let x := s.th t
  let due := x.leaseLost.isSome || !x.dmaErr.isEmpty
  if x.st ≠ .wait ∨ !s.run then .next s
  else match x.park with
    | some p =>
      let (inSaucer, bit) := s.parked t p
      if inSaucer && !bitAt x.pend evCtrl && !due then .next s
      else
        let s := if inSaucer then s.unpark t else s
        let y := { (x.resume).setB inSaucer with park := none, pend := setBits x.pend bit 1 0 }
        .next ((s.leaveWait t).setTh t y)
    | none =>
      if x.pend &&& x.wmask ≠ 0 ∨ due then .next ((s.leaveWait t).setTh t x.resume) else .next s

/-! ### Thread and debug control (04 R128 to R130, R156, R158 to R162) -/

/-- The address of DYE_TCTL of thread `t` as a thread of its cluster sees it. -/
def tctlAddr (t : Nat) : Nat := 0x110000000 + 0x10000 + 0x1000 * (t / 8 % 16) + 0x100 + 0x40 * (t % 8)

/-- A write of a thread control that R128 guards: the supervisor, Roaster and JTAG may; another thread of the cluster takes an ACCESS fault; host software is ignored. A
thread's write is the issue of its store. -/
def State.guarded (s : State) (t addr : Nat) (who : Requester) (f : State → State) : State :=
  if !s.hasCluster (t / 128) then s
  else match who with
    | .roaster | .jtag => f s
    | .thread w =>
      if w / 128 ≠ t / 128 then s
      else s.issue w fun s x => if w = s.supv (t / 128) then .ok (f (s.setTh w x.nextPc)) else .error { cause := 0x03, addr := some addr }
    | .host | .sideband => s

def execDyeStart (t : Fin 8192) (who : Requester) (s : State) : Host.Outcome State Fault Refusal :=
  .next (s.guarded t (tctlAddr t) who fun s => s.startThread t)

def execDyeReset (t : Fin 8192) (who : Requester) (s : State) : Host.Outcome State Fault Refusal :=
  .next (s.guarded t (tctlAddr t) who fun s => s.resetThread t)

/-- Debug control is permitted, and the requester is JTAG, Roaster or host software (04 R158). -/
def State.debugOk (s : State) (t : Nat) (who : Requester) : Bool :=
  s.hasCluster (t / 128) && s.flag (DYE_DBG.DBG_EN (t / 8)) && (who == .host || who == .roaster || who == .jtag)

/-- JTAG engine debug where it is not permitted: access denied (04 R158). -/
def State.denied (s : State) (t : Nat) (who : Requester) : State :=
  if who = .jtag ∧ s.hasCluster (t / 128) ∧ !s.flag (DYE_DBG.DBG_EN (t / 8)) then s.emit (.debug none) else s

/-- Debug control of a thread: `f` where it is permitted (04 R158). -/
def State.debugging (s : State) (t : Nat) (who : Requester) (f : State → State) : State := if s.debugOk t who then f s else s.denied t who

/-- HALT (04 R159): in RUN before the next issue, in MEMWAIT when the access completes, in WAIT at once. -/
def State.haltThread (s : State) (t : Nat) : State :=
  let x := s.th t
  match x.st with
  | .run => s.setTh t { x with st := .halt, haltedInWait := false, stepping := false }
  | .memwait => s.setTh t { x with haltReq := true }
  | .wait => (s.leaveWait t).setTh t { x with st := .halt, haltedInWait := true, stepping := false, haltReq := false }
  | _ => s

def execDyeHalt (t : Fin 8192) (who : Requester) (s : State) : Host.Outcome State Fault Refusal :=
  .next (s.debugging t who fun s => s.haltThread t)

/-- RESUME and STEP (04 R161, R162): the thread goes on at its PC, past its breakpoint (DESIGN CHOICE, notes/assumptions/23), or waits
again. -/
def State.resumeThread (s : State) (t : Nat) (step : Bool) : State :=
  let x := s.th t
  if x.st ≠ .halt then s
  else s.setTh t { x with st := if x.haltedInWait then .wait else .run, haltedInWait := false, passBrk := true, stepping := step }

def execDyeResume (t : Fin 8192) (who : Requester) (s : State) : Host.Outcome State Fault Refusal :=
  .next (s.debugging t who fun s => s.resumeThread t false)

def execDyeStep (t : Fin 8192) (who : Requester) (s : State) : Host.Outcome State Fault Refusal :=
  .next (s.debugging t who fun s => s.resumeThread t true)

/-- CLU_ESCALATE_RAISE (04 R154, R156): only the supervisor may write it; a write by another thread is a privileged write (DEDUCED,
notes/assumptions/24). -/
def execCluEscalateRaise (k : Fin 64) (who : Requester) (s : State) : Host.Outcome State Fault Refusal :=
  match who with
  | .thread _ => .next (s.guarded ((k : Nat) * 128) (0x110000000 + 8) who fun s => s.escalate k)
  | _ => .next s

end Sys2Proof.Machine
end

