-- ==== Sys2Proof/Machine/Access.lean ====
section
/-!
DEFINITION. Register accesses that have no row of their own, and inbound memory requests (00 R14 to R18; 04 R128, R154, R158, R160; 08 R298 to R302, R319, R331, R332).
-/

namespace Sys2Proof.Machine

/-! ### Writes of the device register space -/

/-- The cluster block that an offset lies in, and the offset within. -/
def cluBlock (off : Nat) : Option (Nat × Nat) :=
  if 0x1000000 ≤ off ∧ off < 0x1800000 then some ((off - 0x1000000) / 0x20000, off % 0x20000) else none

/-- A write of a 32-bit word of a cluster block by Roaster, JTAG or host software: the thread controls and CLU_ESCALATE keep to R128, R154 and R158, and clearing CLU_STALL.VALID
acknowledges the cluster's EVENT_STALL record (14 Table 14-4). -/
def State.storeClu (s : State) (who : Requester) (off k o v : Nat) : State :=
  let e := k * 16 + (o - 0x10000) / 0x1000
  let ro := o % 0x1000
  if 0x10000 ≤ o ∧ 0x100 ≤ ro ∧ ro < 0x300 ∧ (ro - 0x100) % 0x40 < 4 then
    let t := e * 8 + (ro - 0x100) / 0x40
    let s := if who = .roaster ∨ who = .jtag then s.writeTctl t v else s
    if bits v 2 3 = 0 then s
    else s.debugging t who fun s =>
      let s := if bitAt v 2 then s.haltThread t else s
      let s := if bitAt v 3 then s.resumeThread t false else s
      if bitAt v 4 then s.resumeThread t true else s
  else if 0x10000 ≤ o ∧ 0x20 ≤ ro ∧ ro < 0x40 then s.debugging (e * 8) who fun s => s.write32 who off v
  else if o = 8 then s
  else
    let s := s.write32 who off v
    if o = 0x300 ∧ bitAt v 4 ∧ s.flag ERR_CFG.AUTO_ACK ∧ s.rd (ERR_FIRST.CODE (48 + k)) = 0x3001 then s.clearFirst (48 + k) else s

/-- A write of DRP_CTRL (07 R270, R271, R274): Roaster's takes effect, every other requester's is ignored. -/
def State.storeDrp (s : State) (who : Requester) (c v : Nat) : State :=
  if who = .roaster then
    let s := s.wr (DRP_CTRL.SUSPEND c) (v % 2)
    let s := if bitAt v 1 then s.abortAll c else s
    if bitAt v 2 then s.swapBank c else s
  else s

/-- A write of the low half of ERR_STAT: a 1 in FIRST_VALID acknowledges the first record (14 R523). -/
def State.storeErr (s : State) (who : Requester) (off v : Nat) : State :=
  let s := if bitAt v 0 then s.ackLog ((off - 0xD1000) / 0x80) else s
  s.write32 who off v

/-- A write of one aligned 32-bit word of the register space (00 R14 to R18): the fields act by type code, and a 1 in a W1P field does what that field is for. The sideband
writes no register. -/
def State.storeReg (s : State) (who : Requester) (off v : Nat) : State :=
  if s.fused off then s
  else match who with
    | .sideband | .thread _ => s
    | _ =>
      match cluBlock off with
      | some (k, o) => s.storeClu who off k o v
      | none =>
        if off = 0 then (if bitAt v 0 then s.snapTake else s)
        else if off = 0x80108 then (let s := s.write32 who off v; if bitAt v 0 then s.winCommit else s)
        else if 0x100000 ≤ off ∧ off < 0x180000 ∧ (off - 0x100000) % 0x4000 = 0x2000 then s.storeDrp who ((off - 0x100000) / 0x4000) v
        else if 0xD1000 ≤ off ∧ off < 0xD5000 ∧ (off - 0xD1000) % 0x80 = 0 then s.storeErr who off v
        else s.write32 who off v

/-- A thread's write of the register space is the issue of its store: it reaches its own cluster block, and any other part of the space is an ACCESS fault (04 Table
04-5, R128). -/
def State.threadStore (s : State) (t off n v : Nat) : State :=
  s.issue t fun s x =>
    match cluBlock off with
    | some (k, o) =>
      if k ≠ t / 128 then .error { cause := 0x03, addr := some (0x20000000000 + off) }
      else match (s.setTh t x.nextPc).storeBlock t o n v with
        | some s => .ok s
        | none => .error { cause := 0x03, addr := some (0x110000000 + o) }
    | none => .error { cause := 0x03, addr := some (0x20000000000 + off) }

/-- A write of 4 or 8 bytes. -/
def State.storeRegs (s : State) (who : Requester) (off n v : Nat) : State :=
  match who with
  | .thread t => s.threadStore t off n v
  | _ =>
    let s := s.storeReg who off (v % 2 ^ 32)
    if n = 8 then s.storeReg who (off + 4) (v / 2 ^ 32 % 2 ^ 32) else s

/-! ### The debug path -/

/-- The debug path writes a register (g0 discards it), the PC or the staging buffer of a halted thread (04 R160). -/
def State.debugWrite (s : State) (who : Requester) (t : Nat) (w : DbgWrite) : State :=
  s.debugging t who fun s =>
    let x := s.th t
    if x.st ≠ .halt then s
    else match w with
      | .reg n v => s.setTh t (x.w n v)
      | .flagB b => s.setTh t { x with b := b }
      | .pc v => s.setTh t { x with pc := v }
      | .stage ws => s.setTh t { x with stage := ws.take 8 }

/-- The debug path reads a register, the flags, the PC or the staging buffer of a halted thread (04 R160). -/
def State.debugRead (s : State) (who : Requester) (t : Nat) (r : DbgRead) : State :=
  s.debugging t who fun s =>
    let x := s.th t
    if x.st ≠ .halt then s
    else match r with
      | .reg n => s.emit (.debug (some [x.r n]))
      | .flags => s.emit (.debug (some [BitVec.ofNat 64 x.flags]))
      | .pc => s.emit (.debug (some [BitVec.ofNat 64 x.pc]))
      | .stage => s.emit (.debug (some x.stage))

/-- REGISTER_WRITE (00 R15). An access of 4 or 8 bytes is naturally aligned (R14). -/
def execRegisterWrite (w : RegWrite) (s : State) : Host.Outcome State Fault Refusal :=
  match w with
  | .space who off eight v =>
    let n := if eight then 8 else 4
    if off % n ≠ 0 ∨ (who = .host ∧ !s.pf0On) then .next s else .next (s.storeRegs who off n v.toNat)
  | .config pf1 w => .next (s.cfgWrite pf1 w)
  | .debug who t w => .next (s.debugWrite who t w)

/-! ### Inbound memory requests -/

def MbState.code : MbState → Nat
  | .idle => 0 | .busy => 1 | .done => 2

/-- SLC_MB_STATUS. -/
def Mailbox.status (m : Mailbox) : Nat := m.st.code + 4 * b2n m.overrun + 8 * b2n m.aborted + m.lastOp * 2 ^ 16 + m.requests * 2 ^ 32

/-- A byte of a mailbox page as it reads (08 Table 08-8). -/
def Mailbox.byteAt (m : Mailbox) (off : Nat) : Byte :=
  if off < 0x400 then 0
  else if off < 0x800 then Memory.read m.rsp (off - 0x400)
  else if off = 0xF00 then BitVec.ofNat 8 (4 * b2n m.irqEn)
  else if 0xF08 ≤ off ∧ off < 0xF10 then (leBytes 8 m.status).getD (off - 0xF08) 0
  else 0

/-- A write into mailbox page `sl` (08 R319, R320). -/
def State.mbWrite (s : State) (sl off : Nat) (d : List Byte) : State :=
  let at_ := fun (a : Nat) => if off ≤ a ∧ a < off + d.length then (d.getD (a - off) 0).toNat else 0
  let m := s.mb sl
  let m := { m with req := Memory.writeBytes m.req off (d.take (0x400 - off)) }
  let m := if off ≤ 0xF00 ∧ 0xF00 < off + d.length then { m with irqEn := bitAt (at_ 0xF00) 2 } else m
  let m := { m with overrun := m.overrun && !bitAt (at_ 0xF08) 2, aborted := m.aborted && !bitAt (at_ 0xF08) 3 }
  let s := s.setMb sl m
  let s := if bitAt (at_ 0xF00) 0 then s.goWrite sl else s
  if bitAt (at_ 0xF00) 1 then s.ackNow sl else s

/-- Bytes of a BAR. -/
def barSize : Bar → Nat
  | .pf0Bar0 => 2 ^ 26
  | .pf0Bar2 => 2 ^ 20
  | .pf1Bar0 => 2 ^ 27
  | _ => 2 ^ 16

def barPf1 : Bar → Bool
  | .pf1Bar0 | .pf1Bar4 => true
  | _ => false

/-- The request receives Unsupported Request (08 Table 08-16). -/
def State.unsupported (s : State) (fn : Nat) (isRead : Bool) : State :=
  let s := s.pcieError 0x14 fn
  if isRead then s.emit (.completion none) else s

/-- A read of a BAR takes effect. -/
def State.barRead (s : State) (bar : Bar) (off n : Nat) : State :=
  match bar with
  | .pf0Bar0 => let (v, s) := s.readReg off n; s.emit (.completion (some (leBytes n v)))
  | .pf0Bar2 => s.emit (.completion (some ((List.range n).map (fun i => (s.mb ((off + i) / 0x1000)).byteAt ((off + i) % 0x1000)))))
  | .pf0Bar4 => s.emit (.completion (some ((List.range n).map (fun i => s.msixByte 0 (off + i)))))
  | .pf1Bar0 => s.emit (.completion (some (zeros n)))
  | .pf1Bar4 => s.emit (.completion (some ((List.range n).map (fun i => s.msixByte 1 (off + i)))))

/-- A write of a BAR takes effect. -/
def State.barWrite (s : State) (bar : Bar) (off : Nat) (d : List Byte) : State :=
  match bar with
  | .pf0Bar0 => s.storeRegs .host off d.length (leNat d)
  | .pf0Bar2 => s.mbWrite (off / 0x1000) (off % 0x1000) d
  | .pf0Bar4 => s.msixWrite 0 off d
  | .pf1Bar0 => s.doorbell (off / 0x1000) (off % 0x1000) d
  | .pf1Bar4 => s.msixWrite 1 off d

/-- INBOUND_BAR_ACCESS (08 R300, R302, R319, R331, R332): a request to PF0 BAR0 is 4 or 8 bytes long and aligned to its length, or receives Unsupported Request. While a
function is in an FLR or D3hot, and for PF1 in recovery mode, writes are discarded and reads receive Unsupported Request. -/
def execInboundBarAccess (bar : Bar) (off len : Nat) (data : Option (List Byte)) (s : State) : Host.Outcome State Fault Refusal :=
  let n := match data with | some d => d.length | none => len
  let fn := b2n (barPf1 bar)
  let held := if barPf1 bar then s.pci.fn1.flr || s.pci.fn1.d3 || s.recovery else s.pci.fn0.flr || s.pci.fn0.d3
  if !s.flag PCI_LINK.UP || s.pci.perst || s.isFatal .pcie then .next s
  else if held then .next (if data.isNone then s.unsupported fn true else s)
  else if barSize bar < off + n ∨ (bar = .pf0Bar0 ∧ ((n ≠ 4 ∧ n ≠ 8) ∨ off % n ≠ 0)) then .next (s.unsupported fn data.isNone)
  else match data with
    | none => .next (s.barRead bar off n)
    | some d => .next (s.barWrite bar off d)

/-- ROC_READ (00 R15): a read of a register returns its value and clears its ROC fields; a host read is a request to PF0 BAR0. The sideband reads no register by offset.
The same of the debug path (04 R160) and of configuration space. -/
def execRocRead (r : RegRead) (s : State) : Host.Outcome State Fault Refusal :=
  match r with
  | .space .host off eight => execInboundBarAccess .pf0Bar0 off (if eight then 8 else 4) none s
  | .space .sideband _ _ => .next s
  | .space _ off eight => let n := if eight then 8 else 4; if off % n ≠ 0 then .next s else .next (s.readReg off n).2
  | .config pf1 dw => .next (s.cfgRead pf1 dw)
  | .debug who t r => .next (s.debugRead who t r)

end Sys2Proof.Machine
end

