-- ==== Sys2Proof/Machine/Replay.lean ====
section
/-!
DEFINITION. Replay after a reset (06 R230 to R232, R243, R579), the plan of the run (07 R294) and the records that open it (13 R517). REPLAY is given twice:
it reads the journal and takes L_r; then, once the durability mode's condition holds for L_r, it issues the REPLAY record.
-/

namespace Sys2Proof.Machine

/-! ### The anchor, and the slots that replay reads (R230 step 1; 07 R259) -/

/-- The valid anchor of the journal with the highest ANCHOR_SERIAL; `bad` are the anchor pages, by serial and channel, that do not read. -/
def State.newestAnchor (s : State) (bad : List (Nat × Nat)) : Option Anchor :=
  (s.crf.anchors.filter (fun a => a.st == .pass && s.chanReads a.ch && !s.lunLost a.ch a.lun && field a.bytes 16 8 == s.rd CRF_JOURNAL_ID.ID
    && !bad.contains (a.serial, a.ch))).foldl (fun o a => match o with
    | some b => if b.serial < a.serial then some a else o
    | none => some a) none

/-- The first stripe that replay reads: the one before the STRIPE_NO of the anchor's CHECKPOINT. -/
def replayFrom (a : Option Anchor) : Nat := a.elim 0 (fun a => field a.bytes 40 8 - 1)

/-- Slots of hot LUNs that have been allocated: those of pages and parity pages, and those of positions that no page took. -/
def State.hotSlots (s : State) : List Copy :=
  s.crf.pages.flatMap (fun e => e.2.copies) ++ s.crf.earlier.flatMap (fun j => j.2.flatMap (fun e => e.2.copies)) ++ s.crf.stripes.map (fun t => t.parity)
def State.openSlots (s : State) : List Copy := s.crf.stripes.flatMap (fun t => t.home.drop t.pages.length ++ t.twin.drop t.pages.length)

def Copy.sameSlot (a b : Copy) : Bool := a.ch == b.ch && a.lun == b.lun && a.blk == b.blk && a.page == b.page

/-- Allocated slots that read as ERASED: no program of theirs was ever dispatched. -/
def State.holes (s : State) : List Copy :=
  let all := s.hotSlots
  let done := all.filter (fun c => c.st != .never)
  (all.filter (fun c => c.st == .never) ++ s.openSlots).filter (fun c => !done.any (Copy.sameSlot c))

/-- Block `b` lies from `lo` on before `hi` in the cyclic order of the allocation cursor. -/
def fromCursor (lo hi b : Nat) : Bool := if lo ≤ hi then decide (lo ≤ b) && decide (b < hi) else decide (lo ≤ b) || decide (b < hi)

/-- The page from which replay reads a block: LUN_PTR's in the stripe block and the side block that it names, 0 in a block allocated after them; none: it does not. -/
def State.readStart (s : State) (a : Option Anchor) (c : Copy) : Option Nat :=
  match a with
  | none => some 0
  | some a =>
    let p := 64 + 16 * (16 * c.ch + c.lun)
    if c.blk = field a.bytes p 2 then some (field a.bytes (p + 2) 2)
    else if c.blk = field a.bytes (p + 4) 2 then some (field a.bytes (p + 6) 2)
    else if fromCursor (field a.bytes (p + 8) 2) (s.lun c.ch c.lun).alloc c.blk then some 0
    else none

/-- Replay reads the slot: its LUN answers and has a block map, and no ERASED page of the block comes before it. -/
def State.readsSlot (s : State) (a : Option Anchor) (holes : List Copy) (c : Copy) : Bool :=
  s.chanReads c.ch && !s.lunLost c.ch c.lun && (s.lun c.ch c.lun).valid && c.st != .never
    && (match s.readStart a c with
      | some p => decide (p ≤ c.page) && !holes.any (fun h => h.ch == c.ch && h.lun == c.lun && h.blk == c.blk && decide (p ≤ h.page) && decide (h.page < c.page))
      | none => false)

/-- The next page of an open block after replay: its first ERASED page that no programmed page follows. -/
def State.tailOf (s : State) (holes : List Copy) (c l : Nat) (blk : Option Nat) (pg : Nat) : Nat :=
  let at_ := fun (k : Copy) => k.ch == c && k.lun == l && some k.blk == blk
  match (holes.filter at_).map (fun h => h.page) with
  | [] => pg
  | h :: hs => max (hs.foldl min h) (((s.hotSlots.filter (fun k => at_ k && k.st != .never)).map (fun k => k.page + 1)).foldl max 0)

/-- Every hot LUN goes on at the first ERASED page of its open blocks, where replay stopped reading. -/
def State.rewind (s : State) (holes : List Copy) : State :=
  let go := fun (e : Nat × Lun) =>
    let c := e.1 / 16
    let l := e.1 % 16
    if s.rd (NDC_LUN_CFG.REGION c l) ≠ 1 then e
    else (e.1, { e.2 with stripePg := s.tailOf holes c l e.2.stripeBlk e.2.stripePg, sidePg := s.tailOf holes c l e.2.sideBlk e.2.sidePg })
  { s with nand := { s.nand with lun := s.nand.lun.map go } }

/-! ### Reading the pages (R230 steps 2 and 3) -/

/-- What replay knows of the medium: the first stripe of its range, the slots that it reads, and those of them that do not read well: (PAGE_SERIAL, copy), and 255 for the
parity page of the page's stripe. -/
structure Medium where
  from_ : Nat
  reads : Copy → Bool
  bad : List (Nat × Nat)

/-- The slot is read, and reads well. -/
def Medium.good (m : Medium) (n i : Nat) (c : Copy) : Bool := m.reads c && !m.bad.contains (n, i)
def Medium.parityGood (m : Medium) (t : Stripe) : Bool := m.reads t.parity && !m.bad.any (fun b => b.2 == 255 && t.pages.contains b.1)

/-- A program whose status the reset lost passed if its slot reads well (R218; 14 R577). -/
def Copy.judge (readable : Bool) (c : Copy) : Copy := if c.st == .waiting then { c with st := if readable then .pass else .fail } else c

/-- Every slot is judged by what it reads as. The stripes that were open never complete. -/
def State.judgeSlots (s : State) (m : Medium) : State :=
  let page := fun (k : Nat) (e : Nat × JPage) =>
    (e.1, { e.2 with copies := e.2.copies.mapIdx (fun i c => c.judge (m.good (e.1 + k * 2 ^ 64) i c)), recs := e.2.recs.map (fun r => { r with tag := none, frame := [] }) })
  let n := s.crf.earlier.length
  let stripes := s.crf.stripes.map (fun t =>
    let ended := t.ended || decide (t.pages.length + 1 < t.plan.width)
    { t with parity := t.parity.judge (m.parityGood t), staged := false, ended := ended, home := if ended then [] else t.home, twin := if ended then [] else t.twin })
  { s with crf := { s.crf with pages := s.crf.pages.map (page 0), earlier := s.crf.earlier.mapIdx (fun i (j : Nat × FMap JPage) => (j.1, j.2.map (page (n - i)))),
                               stripes := stripes } }

/-- Slots that replay found unreadable stay so. -/
def State.markUnread (s : State) (m : Medium) : State :=
  let copy := fun (n : Nat) (i : Nat) (c : Copy) => if c.st == .pass && m.reads c && !m.good n i c then { c with st := .unread } else c
  let pages := s.crf.pages.map (fun (e : Nat × JPage) => (e.1, { e.2 with copies := e.2.copies.mapIdx (copy e.1) }))
  let stripes := s.crf.stripes.map (fun t => if t.parity.st == .pass && m.reads t.parity && !m.parityGood t then { t with parity := { t.parity with st := .unread } } else t)
  { s with crf := { s.crf with pages := pages, stripes := stripes } }

/-- The page lies in the archive. -/
def State.archived (s : State) (n : Nat) : Bool := s.crf.arch.any (fun e => e.2.pages.contains n)

/-- Replay reads a slot of the page. -/
def Medium.readsPage (m : Medium) (p : JPage) : Bool := p.copies.any m.reads

/-- A copy of the page reads well; its home does. -/
def Medium.copyGood (m : Medium) (n : Nat) (p : JPage) : Bool := p.copies.zipIdx.any (fun c => c.1.st == .pass && m.good n c.2 c.1)
def Medium.homeGood (m : Medium) (n : Nat) (p : JPage) : Bool := p.copies.zipIdx.any (fun c => c.1.kind == .home && c.1.st == .pass && m.good n c.2 c.1)

/-- The pages of a stripe without a readable copy. -/
def State.missing (s : State) (m : Medium) (t : Stripe) : List Nat :=
  t.pages.filter (fun n => match s.page n with
    | some p => !s.archived n && !m.copyGood n p
    | none => true)

/-- The stripe belongs to the journal in use, and replay reads it. -/
def Medium.covers (m : Medium) (t : Stripe) : Bool := decide (m.from_ ≤ t.no) && decide (t.no < 2 ^ 64)

/-- The page is kept: it lies before the range or in the archive, a copy reads well, or it is the only one missing of a stripe whose parity page reads well (R230; 07
R280). -/
def State.keeps (s : State) (m : Medium) (n : Nat) (p : JPage) : Bool :=
  s.archived n || decide (p.stripe < m.from_) || m.copyGood n p
    || (match s.stripe p.stripe with
        | some t => !t.ended && t.parity.st == .pass && m.parityGood t && s.missing m t == [n]
        | none => false)

/-- JOURNAL_LOSS for every stripe of which a rebuild needs a second unreadable page (07 R280). -/
def State.journalLoss (s : State) (m : Medium) : State :=
  s.crf.stripes.foldr (fun t s =>
    let ns := s.missing m t
    if m.covers t && !t.ended && t.parity.st == .pass && !ns.isEmpty && decide (2 ≤ ns.length + b2n (!m.parityGood t)) then s.logLoss ns else s) s

/-- What a page holds for replay as a record of the member's own (12 R464). -/
def JPage.localRecord (p : JPage) : List Rec :=
  if p.kind = 2 ∧ field p.marker 0 2 = 2 then ((parseRec (p.marker.drop 64)).map (fun x => x.1)).toList else []

/-! ### L_r (R230 steps 4 to 6) -/

/-- The page counts as LOCAL_OK in replay: a page that replay does not read was when the CHECKPOINT was taken or the page was archived. -/
def State.replayOk (s : State) (m : Medium) (e : Nat × JPage) : Bool := s.archived e.1 || decide (e.2.stripe < m.from_) || s.localOk e.2

/-- The page holds records of the durable history, or closes an epoch. -/
def JPage.isRec (p : JPage) : Bool := p.kind == 1 || field p.marker 0 2 == 1

/-- The run of LOCAL_OK pages from the start of the durable history, void pages skipped, up to the first page lost. -/
def State.replayRun (s : State) (m : Medium) (cut : Option Nat) : List (Nat × JPage) :=
  ((s.crf.pages.filter (fun e => !s.crf.voids.contains e.1)).takeWhile (fun e => cut.elim true (fun c => decide (e.1 < c)))).takeWhile (s.replayOk m)

/-- An archive group that was not programmed on every channel is programmed there again. -/
def State.resumeArch (s : State) : State :=
  s.crf.arch.foldl (fun s e =>
    let b := s.bpc e.2.plan
    if e.1 % b ≠ 0 then s
    else ((s.archChans e.2.plan).filter (fun c => !e.2.passed.contains c)).foldl (fun s c => (s.programArch e.1 b c).getD s) s) s

/-- The Pour gate's table after the island lost power: the anchor's closed epochs and what the kept pages of the history close, the newest 64 (R230 step 7). -/
def closedTable (a : List Byte) (run : List (Nat × JPage)) : List Closed :=
  let old : List Closed := (List.range 64).filterMap (fun k =>
    if bitAt (field a 13128 8) k then some { epoch := field a (12608 + 8 * k + 6) 2, index := field a (12608 + 8 * k) 6, roll := bitAt (field a 13120 8) k } else none)
  let new : List Closed := run.flatMap (fun e =>
    if e.2.kind = 1 then (e.2.live.filter (fun r => r.typ == 4)).map (fun r => { epoch := seqEpoch r.seq, index := seqIndex r.seq, roll := true })
    else if field e.2.marker 0 2 = 1 then [{ epoch := seqEpoch e.2.last, index := seqIndex e.2.last, roll := false }] else [])
  let all := (new ++ old).foldl (fun (t : List Closed) c => if t.any (fun o => o.epoch == c.epoch) then t else t ++ [c]) []
  (sortBy (fun (x y : Closed) => decide (y.epoch ≤ x.epoch)) all).take 64

/-- What the island lost with its power comes back (R230 step 7; 07 R284): the Pour gate's table, and the anchor's life counts. -/
def State.restoreIsland (s : State) (a : List Byte) (run : List (Nat × JPage)) : State :=
  if !s.nand.lifeLost then s
  else
    let s := (List.range 512).foldl (fun s g =>
      (s.raiseTo (NDC_LIFE.SLC_ERASES (g / 16) (g % 16)) (field a (8256 + 8 * g) 4)).raiseTo (NDC_LIFE.NATIVE_ERASES (g / 16) (g % 16)) (field a (8260 + 8 * g) 4)) s
    { s with closed := closedTable a run, nand := { s.nand with lifeLost := false } }

/-! ### The plan of the run (07 R294) -/

/-- The channels that have reached READY. -/
def State.readyMask (s : State) : Nat := ((s.channels.filter (fun c => s.flag (NDC_CFG.EN c) && s.flag (NDC_STAT.READY c))).map (fun c => 2 ^ c)).sum

def maskWidth (m : Nat) : Nat := ((List.range 32).filter (bitAt m)).length

/-- The plan that a STRIPE_PLAN or JOURNAL_START record names. -/
def Rec.plan (r : Rec) : Option Plan :=
  if r.typ = 0x0B then some { id := field r.payload 0 4, mask := field r.payload 4 4, width := field r.payload 8 1 }
  else if r.typ = 0x0A then some { id := field r.payload 16 4, mask := field r.payload 20 4, width := field r.payload 24 1 }
  else none

/-- The plan of the last STRIPE_PLAN or JOURNAL_START record of the durable history; of a member of a group, of those that it issued itself, since the others name
their issuers' plans (DEDUCED, notes/assumptions/51). -/
def State.durablePlan (s : State) : Plan :=
  let own := fun (p : JPage) => (if s.groupN = 1 then p.recs else p.recs.filter (fun r => r.mine)) ++ p.localRecord
  let ps := s.crf.pages.filter (fun e => !s.crf.voids.contains e.1)
  (ps.reverse.findSome? (fun e => (own e.2).reverse.findSome? Rec.plan)).getD s.crf.plan

/-- One STRIPE_PLAN record when the READY channels differ from the plan; a dropped channel is re-homed, and the LUNs of an added one are to be formatted. -/
def State.runPlan (s : State) : Option (List Byte) × State :=
  let old := s.crf.plan.mask
  let new := s.readyMask
  let adds := (List.range 32).filter (fun c => bitAt new c && !bitAt old c)
  let drops := (List.range 32).filter (fun c => bitAt old c && !bitAt new c)
  if adds.isEmpty ∧ drops.isEmpty then (none, s)
  else
    let p : Plan := { id := (s.crf.plan.id + 1) % 2 ^ 32, mask := new, width := maskWidth new }
    let s : State := { s with crf := { s.crf with plan := p } }
    let s := adds.foldl (fun s c => (List.range 16).foldl (fun s l =>
      if s.flag (NDC_LUN_CFG.PRESENT c l) then s.setLun c l { s.lun c l with valid := false } else s) s) s
    let s := drops.foldl (fun s c => if s.crf.rehomes.any (fun r => r.ch == c && r.kind == 1 && decide (r.done < 2)) then s else s.startRehome c 1 0xFF) s
    let reason := if drops.isEmpty then 3 else if adds.isEmpty then 2 else 1
    let channel := match adds ++ drops with | [c] => c | _ => 0xFF
    (some (stripePlan p reason channel (s.rd CRF_STRIPE.NEXT)), s.errVector 4)

/-- LUNs that initialisation lost are journaled and re-homed (07 R286, R289), unless an earlier boot began that. -/
def State.bootLosses (s : State) : State :=
  (List.range 512).foldl (fun s g =>
    let c := g / 16
    let l := g % 16
    if s.flag (NDC_LUN_CFG.PRESENT c l) ∧ s.lunLost c l ∧ bitAt s.crf.plan.mask c ∧ !s.crf.rehomes.any (fun x => x.ch == c && (x.kind == 1 || x.lun == l)) then
      (s.newPlan s.crf.plan.mask 4 c).startRehome c 2 l
    else s) s

/-- The status of the re-home events that the anchor lists (07 R292). -/
def State.rehomeStatus (s : State) : State :=
  s.crf.rehomes.foldl (fun s r =>
    let s := s.wrB (NDC_STAT.REHOME_DONE r.ch) (r.done == 2)
    if r.kind = 2 ∧ r.done < 2 then s.wr (NDC_LUN_STAT.REHOMING r.ch r.lun) 1 else s) s

/-! ### A new journal (R243) -/

/-- The journal section names another JOURNAL_ID than the pages: they become an earlier journal, whose archive stays, and whose hot stripes are still migrated (07 R256).
Its stripes and pages take numbers above 2⁶⁴. -/
def State.leaveJournal (s : State) : State :=
  match s.crf.pages with
  | [] => s
  | (_, p) :: _ =>
    if p.journal = s.rd CRF_JOURNAL_ID.ID then s
    else
      let k := (s.crf.earlier.length + 1) * 2 ^ 64
      let up := fun n => if n < 2 ^ 64 then n + k else n
      let arch := s.crf.arch.map (fun e => (e.1, { e.2 with pages := e.2.pages.map up, stripe := up e.2.stripe }))
      let pages := s.crf.pages.map (fun (e : Nat × JPage) => (e.1, { e.2 with stripe := e.2.stripe + k }))
      let stripes := s.crf.stripes.map (fun t => { t with no := up t.no, pages := t.pages.map up })
      let s : State := { s with closed := [], crf := { s.crf with pages := [], stripes := stripes, voids := [], arch := arch, nextMig := 0, ckpts := [],
                                                                  earlier := (p.journal, pages) :: s.crf.earlier } }
      s.noW.wr SEQ_STATUS.EPOCH_EXHAUSTED 0

/-! ### The two steps -/

/-- The resume point of the device reset joins those of the events before it (01 R40; R231, R579). -/
def State.resumeFrom (s : State) (l : Seq) (hasL : Bool) : State :=
  s.dlvRings.foldl (fun s q => s.setDlv q { s.dlv q with stops := (s.dlv q).stops ++ [some l], anew := !hasL }) s

/-- Blocks of HOT and ARCHIVE LUNs that hold nothing that is still needed are erased: the erases that waited went with the reset (R240, R241; 07 R256). -/
def State.reclaim (s : State) : State :=
  let blks := fun (r lo : Nat) => s.nand.lun.flatMap (fun e =>
    if s.rd (NDC_LUN_CFG.REGION (e.1 / 16) (e.1 % 16)) = r then (e.2.used.filter (fun b => b.2 && decide (lo ≤ b.1))).map (fun b => (e.1 / 16, e.1 % 16, b.1)) else [])
  (s.eraseHotBlks (blks 1 2)).eraseArch (blks 2 0)

/-- R230 as far as L_r: the journal is read, and the numbers go on after it. -/
def State.readJournal (s : State) (bad anchors : List (Nat × Nat)) : State :=
  let s := s.leaveJournal
  let a := s.newestAnchor anchors
  let holes := s.holes
  let m : Medium := { from_ := replayFrom a, reads := s.readsSlot a holes, bad := bad }
  let s := (s.rewind holes).judgeSlots m
  let s := s.journalLoss m
  let kept := s.crf.pages.filter (fun e => s.keeps m e.1 e.2)
  let inRange := s.crf.pages.filter (fun e => m.readsPage e.2)
  let read := kept.filter (fun e => m.readsPage e.2 || decide (m.from_ ≤ e.2.stripe))
  let lost := (s.crf.pages.filter (fun e => !s.crf.voids.contains e.1 && !s.keeps m e.1 e.2)).map (fun e => e.1)
  let rebuilt := (read.filter (fun e => !m.homeGood e.1 e.2 && !e.2.copies.isEmpty)).length
  let top := read.flatMap (fun e => (e.2.recs ++ e.2.localRecord).map (fun r => r.stamp))
  let run := s.replayRun m lost.head?
  let link := run.getLast?.map (fun e => e.1)
  let hasL := run.any (fun e => e.2.isRec)
  let l := if hasL then run.getLast?.elim 0 (fun e => e.2.lastSeq) else 0
  let voids := (kept.filter (fun e => s.crf.voids.contains e.1 || !hasL || link.elim true (fun k => decide (k < e.1)))).map (fun e => e.1)
  let found := (read.filter (fun e => !hasL || decide (l < e.2.first))).length
  let serials := kept.map (fun e => e.1)
  let prune := fun (t : Stripe) =>
    if 2 ^ 64 ≤ t.no then t
    else
      let ps := t.pages.filter (fun n => serials.contains n)
      { t with pages := ps, ended := t.ended || ps.length != t.pages.length }
  let ckpts := s.crf.ckpts.filter (fun k => serials.contains k.serial && !voids.contains k.serial)
  let level := run.foldl (fun a e => max a e.2.level) 1
  let mark := run.reverse.find? (fun e => e.2.kind == 2 && field e.2.marker 0 2 == 1)
  let isClose := run.reverse.find? (fun e => e.2.isRec)
  let next := if !hasL then 0
    else match isClose with
      | some (_, p) => if p.kind = 2 then (seqEpoch p.last + 1) * 2 ^ 48 else match p.live.getLast? with | some r => r.after | none => l + 1
      | none => l + 1
  let s := (s.markUnread m).restoreIsland (a.elim [] (fun a => a.bytes)) run
  let kept := s.crf.pages.filter (fun e => serials.contains e.1)
  let stripes := (s.crf.stripes.map prune).filter (fun t => !t.pages.isEmpty)
  let s : State := { s with tamp := { s.tamp with highStamp := some (top.foldl max 0) },
                            crf := { s.crf with pages := kept, voids := voids, stripes := stripes, ckpts := ckpts, link := if hasL then link else none, hasL := hasL, read := true } }
  let s : State := { s with crf := { s.crf with plan := s.durablePlan } }
  let s := ((s.wr CRF_REPLAY_STAT.PAGES_READ inRange.length).wr CRF_REPLAY_STAT.REBUILT rebuilt).wr CRF_REPLAY_STAT.VOID_PAGES found
  let s := ((s.wr CRF_REPLAY.RESUME l).wr CRF_LOCAL.SEQ l).wr CRF_SERIAL.NEXT (kept.getLast?.elim 0 (fun e => e.1 + 1))
  let s := s.wr CRF_STRIPE.NEXT (kept.foldl (fun a e => max a (e.2.stripe + 1)) 0)
  let s := ((s.setNext next).wr CRF_APPEND.NEXT next).wr EZN_STATUS.EPOCH (seqEpoch next)
  let s := (s.wr EZN_STATUS.LEVEL_FLOOR level).wr EZN_STATUS.LEVEL level
  let s := (if hasL then s else s.noW).rehomeStatus.resumeFrom l hasL
  if s.groupN = 1 then s
  else
    -- 12 R479: the primary of the highest epoch known goes on as primary
    let p := mark.elim (s.rd EZN_CFG.PRIMARY0) (fun e => field e.2.marker 5 1)
    let s := (s.wr EZN_STATUS.PRIMARY p).wr EZN_STATUS.ROLE (if p = s.me ∧ s.highestEpoch = s.rd EZN_STATUS.EPOCH then 1 else 3)
    { s with ezn := { s.ezn with formAt := s.ticks } }.sendState

/-- The records that open a run: REPLAY, or JOURNAL_START where the history begins; STRIPE_PLAN of 07 R294; and on a sequencing member CONFIG_APPLIED for each
section in force (13 R517). -/
def State.openRun (s : State) : State :=
  let start := !s.crf.hasL
  let fresh := s.crf.pages.isEmpty
  let (plan, s) :=
    if fresh then
      let m := s.readyMask
      let id := if s.crf.plan.mask = 0 then 0 else if s.crf.plan.mask = m then s.crf.plan.id else (s.crf.plan.id + 1) % 2 ^ 32
      (none, { s with crf := { s.crf with plan := { id := id, mask := m, width := maskWidth m } } })
    else if start then
      let (_, t) := s.runPlan
      (none, t)
    else s.runPlan
  let first : Nat × List Byte :=
    if start then (0x0A, s.journalStart)
    else (5, leBytes 8 (s.rd CRF_REPLAY.RESUME) ++ leBytes 8 (s.crf.link.getD 0) ++ leBytes 4 (s.rd CRF_REPLAY_STAT.VOID_PAGES) ++ leBytes 4 (s.rd CRF_REPLAY_STAT.REBUILT)
      ++ leBytes 4 (s.rd CPH_STATUS.BOOT_COUNT) ++ leBytes 1 (s.rd ERR_RESET.LAST_TYPE) ++ zeros 35)
  let recs : List (Nat × List Byte) := first :: (plan.toList.map (fun p => (0x0B, p)))
  let s : State := ({ s with merge := { s.merge with open_ := true } }.wr CRF_STATUS.REPLAYING 0).setNext (s.rd SEQ_NEXT.NEXT)
  let s :=
    if s.sequencing then
      let cfg := (sectionIds.filter (fun id => (s.sec id).gen != 0)).map (fun id => (7, s.configApplied id 1))
      (recs ++ cfg).foldl (fun s r => s.issueNow r.1 r.2) s
    else { s with crf := { s.crf with locals := recs.map (fun r => { port := 0xFE, typ := r.1, payload := r.2 }) ++ s.crf.locals }, tamp := { s.tamp with waiting := [] } }
  s.bootLosses.resumeArch.reclaim

/-- The durability mode's condition holds for L_r (R231). -/
def State.resumable (s : State) : Bool :=
  !s.sequencing || !s.crf.hasL || (match s.wm (s.rd CRF_CFG.MODE) with | some w => decide (s.rd CRF_REPLAY.RESUME ≤ w) | none => false)

/-- REPLAY (R230, R231): `bad` are slots, and `anchors` anchor pages, that do not read. -/
def execReplay (bad anchors : List (Nat × Nat)) (s : State) : Host.Outcome State Fault Refusal :=
  if !s.run ∨ !s.flag CRF_STATUS.REPLAYING ∨ s.flag CRF_STATUS.POWER_FAIL then .next s
  else if !s.crf.read then .next (s.readJournal bad anchors)
  else if !s.resumable then .next s
  else
    let l := s.rd CRF_REPLAY.RESUME
    let s := if s.sequencing ∧ s.crf.hasL then (s.setW l).sendWm l else s
    .next s.openRun.settle

end Sys2Proof.Machine
end

