-- ==== Sys2Proof/Machine/Stall.lean ====
section
/-!
DEFINITION. Event-stall detection (04 R137 to R142; 14 R531).
-/

namespace Sys2Proof.Machine

/-- The members of wait group `w` of cluster `k`: its threads that are not IDLE (04 R138). -/
def State.groupMembers (s : State) (k w : Nat) : List Nat :=
  ((List.range 128).map (fun i => k * 128 + i)).filter (fun t => s.wgrp t == w && (s.th t).st != .idle)

/-- A thread of the cluster lies outside group `w`. -/
def State.outside (s : State) (k w i : Nat) : Bool := s.wgrp (k * 128 + i) != w

/-- The external condition of event bit `bit` holds for thread `t` of group `w` (04 Table 04-6, R140). -/
def State.armed (s : State) (t w bit : Nat) : Bool :=
  let k := t / 128
  let x := s.th t
  match bit with
  | 0 => x.timer != 0
  | 1 => s.subRings.any (fun r => (s.sdesc r).cls == 2 && (s.sdesc r).thread == t)
  | 2 => !x.dmas.isEmpty
  | 3 => (List.range 256).any (fun c => s.flag (CLU_CHAN_CFG.EN k c) && s.rd (CLU_CHAN_CFG.READER k c) == t % 128
      && (s.flag (CLU_CHAN_CFG.EXT_WRITER k c) || (setBits (s.rd (CLU_CHAN_CFG.WGRP_MASK k c)) w 1 0) != 0))
  | 4 => match x.park with
    | some (.chan c) => (s.chan k c).holder.elim (decide ((s.chan k c).credits ≠ 0)) (s.outside k w)
    | _ => false
  | 5 => match x.park with
    | some (.lock n) => (s.lockOf k n).owner.elim false (s.outside k w)
    | _ => false
  | 6 => (List.range 8).any (fun i => s.flag (DYE_FRM.EN (t / 8) i) && s.rd (DYE_FRM.SLOT (t / 8) i) == t % 8 && s.flag (SEQ_PST.ACTIVE (s.rd (DYE_FRM.PORT (t / 8) i))))
  | n => decide (24 ≤ n)

/-- A thread in WAIT is about to wake: an event of its mask is pending, or a fault is due to it (04 R134, R135, R152). -/
def Thread.waking (x : Thread) : Bool := x.pend &&& x.wmask != 0 || x.leaseLost.isSome || !x.dmaErr.isEmpty

/-- The group is stalled (04 R138, R139): every member waits, and none is about to wake or has an armed external source. -/
def State.groupStalled (s : State) (k w : Nat) : Bool :=
  let ms := s.groupMembers k w
  !ms.isEmpty && ms.all (fun t => (s.th t).st == .wait && !(s.th t).waking && (List.range 32).all (fun b => !(bitAt (s.th t).wmask b && s.armed t w b)))

/-- The word of CLU_STALL, as an error's INFO. -/
def State.stallWord (s : State) (k : Nat) : Nat :=
  s.rd (CLU_STALL.GROUP k) + 16 * s.rd (CLU_STALL.VALID k) + 32 * s.rd (CLU_STALL.TO_ROASTER k) + 256 * s.rd (CLU_STALL.CLUSTER k) + 2 ^ 32 * s.rd (CLU_STALL.CYCLE_LO k)

/-- What the event unit records (04 R141). -/
def State.recordStall (s : State) (k w : Nat) (own : Bool) : State :=
  let ms := s.groupMembers k w
  let s := (((s.wr (CLU_STALL.GROUP k) w).wr (CLU_STALL.VALID k) 1).wrB (CLU_STALL.TO_ROASTER k) own).wr (CLU_STALL.CLUSTER k) k
  let s := s.wr (CLU_STALL.CYCLE_LO k) (s.cycle (16 * k))
  let s := (List.range 2).foldl (fun s j => s.wr (CLU_STALL_MEMB.MEMB k j) ((ms.filter (fun t => t % 128 / 64 == j)).map (fun t => 2 ^ (t % 64))).sum) s
  (List.range 128).foldl (fun s i =>
    let x := s.th (k * 128 + i)
    let m := ms.contains (k * 128 + i)
    (s.wr (CLU_STALL_SNAP.WMASK k i) (if m then x.wmask else 0)).wr (CLU_STALL_SNAP.PEND k i) (if m then x.pend else 0)) s

/-- EVENT_STALL (04 R141, R142): one fault for each stall episode. A second stall while VALID stands is a nested error and leaves the record. -/
def execEventStall (k : Fin 64) (w : Fin 15) (s : State) : Host.Outcome State Fault Refusal :=
  let e := (k : Nat) * 16 + w
  if !s.run ∨ !s.hasCluster k ∨ s.isFatal (.cluster k) ∨ FMap.get false s.dy.stalled e ∨ !s.groupStalled k w then .next s
  else
    let ms := s.groupMembers k w
    let own := ms.contains (s.supv k)
    let t : State := { s with dy := { s.dy with stalled := FMap.set false s.dy.stalled e true } }
    let nested := t.flag (CLU_STALL.VALID k)
    let t := if nested then t else t.recordStall k w own
    let first := fun (n : Nat) => nested && !s.flag (ERR_STAT.FIRST_VALID n)
    if !own then .next ((((t.logError (48 + k) 0x3001 3 w (t.stallWord k)).nestFirst (48 + k) (.cluster k) (first (48 + k))).raise (t.supv k) evCtrl).isolate s)
    else
      let t := (t.logError 0 0x0004 3 k (t.stallWord k)).nestFirst 0 (.cluster k) (first 0)
      let t := ms.foldl (fun t m => (t.resetThread m).startThread m) t
      let t : State := { t with dy := { t.dy with stalled := FMap.set false t.dy.stalled e false } }
      let t := if t.flag ERR_CFG.AUTO_ACK && t.rd (ERR_FIRST.CODE 0) == 4 && t.rd (ERR_FIRST.SUB 0) == k then t.clearFirst 0 else t
      .next (t.isolate s)

end Sys2Proof.Machine
end

