-- ==== Sys2Proof/Machine/Dispatch.lean ====
section
/-!
DEFINITION. One arm for each command: a direct call of its meaning, or a refusal by name.
-/

namespace Sys2Proof.Machine

def exec (i : Instr) (s : State) : Host.Outcome State Fault Refusal :=
  match i with
  | .frameStart p sub => Sys2Proof.Machine.execFrameStart p sub s
  | .frameEnd p data good => Sys2Proof.Machine.execFrameEnd p data good s
  | .fipTimeout p => Sys2Proof.Machine.execFipTimeout p s
  | .portLinkLoss p => Sys2Proof.Machine.execPortLinkLoss p s
  | .portLeave p => Sys2Proof.Machine.execPortLeave p s
  | .portJoin p => Sys2Proof.Machine.execPortJoin p s
  | .mergeRelease => Sys2Proof.Machine.execMergeRelease s
  | .parseLate p => Sys2Proof.Machine.execParseLate p s
  | .sequenceIssue => Sys2Proof.Machine.execSequenceIssue s
  | .dispatch => Sys2Proof.Machine.execDispatch s
  | .verdictDeadline => Sys2Proof.Machine.execVerdictDeadline s
  | .append dup => Sys2Proof.Machine.execAppend dup s
  | .stripeOpen => Sys2Proof.Machine.execStripeOpen s
  | .flushPoint dup => Sys2Proof.Machine.execFlushPoint dup s
  | .pageProgramDone => Sys2Proof.Machine.execPageProgramDone s
  | .watermarkPublish => Sys2Proof.Machine.execWatermarkPublish s
  | .archiveMigrate => Sys2Proof.Machine.execArchiveMigrate s
  | .segmentErase => Sys2Proof.Machine.execSegmentErase s
  | .replay bad anchors => Sys2Proof.Machine.execReplay bad anchors s
  | .pourDecide => Sys2Proof.Machine.execPourDecide s
  | .holdTimeout => Sys2Proof.Machine.execHoldTimeout s
  | .egressTransmit p => Sys2Proof.Machine.execEgressTransmit p s
  | .egressDone p => Sys2Proof.Machine.execEgressDone p s
  | .snapTake => Sys2Proof.Machine.execSnapTake s
  | .etimeEval => Sys2Proof.Machine.execEtimeEval s
  | .ptpMessageRx k => Sys2Proof.Machine.execPtpMessageRx k s
  | .ptpEventTx k sub msg => Sys2Proof.Machine.execPtpEventTx k sub msg s
  | .ppsInEdge sub => Sys2Proof.Machine.execPpsInEdge sub s
  | .sourceLost src => Sys2Proof.Machine.execSourceLost src s
  | .ppsOutEdge => Sys2Proof.Machine.execPpsOutEdge s
  | .timeStepConsent sl => Sys2Proof.Machine.execTimeStepConsent sl s
  | .timeStepApply => Sys2Proof.Machine.execTimeStepApply s
  | .correctionEnd => Sys2Proof.Machine.execCorrectionEnd s
  | .timeStepDecline sl => Sys2Proof.Machine.execTimeStepDecline sl s
  | .timeSetTod sl => Sys2Proof.Machine.execTimeSetTod sl s
  | .timeStartUnlocked sl => Sys2Proof.Machine.execTimeStartUnlocked sl s
  | .stampingEnable => Sys2Proof.Machine.execStampingEnable s
  | .linkLock n => Sys2Proof.Machine.execLinkLock n s
  | .dieMeasureDone n rx tx => Sys2Proof.Machine.execDieMeasureDone n rx tx s
  | .recalStart n => Sys2Proof.Machine.execRecalStart n s
  | .recalApply n rx tx => Sys2Proof.Machine.execRecalApply n rx tx s
  | .traceSubmit => Sys2Proof.Machine.execTraceSubmit s
  | .add t rd rs1 rs2 => Sys2Proof.Machine.execAdd t rd rs1 rs2 s
  | .sub t rd rs1 rs2 => Sys2Proof.Machine.execSub t rd rs1 rs2 s
  | .and t rd rs1 rs2 => Sys2Proof.Machine.execAnd t rd rs1 rs2 s
  | .or t rd rs1 rs2 => Sys2Proof.Machine.execOr t rd rs1 rs2 s
  | .xor t rd rs1 rs2 => Sys2Proof.Machine.execXor t rd rs1 rs2 s
  | .shl t rd rs1 rs2 => Sys2Proof.Machine.execShl t rd rs1 rs2 s
  | .shr t rd rs1 rs2 => Sys2Proof.Machine.execShr t rd rs1 rs2 s
  | .sar t rd rs1 rs2 => Sys2Proof.Machine.execSar t rd rs1 rs2 s
  | .mul t rd rs1 rs2 => Sys2Proof.Machine.execMul t rd rs1 rs2 s
  | .mulhu t rd rs1 rs2 => Sys2Proof.Machine.execMulhu t rd rs1 rs2 s
  | .addsu t rd rs1 rs2 => Sys2Proof.Machine.execAddsu t rd rs1 rs2 s
  | .subsu t rd rs1 rs2 => Sys2Proof.Machine.execSubsu t rd rs1 rs2 s
  | .min t rd rs1 rs2 => Sys2Proof.Machine.execMin t rd rs1 rs2 s
  | .max t rd rs1 rs2 => Sys2Proof.Machine.execMax t rd rs1 rs2 s
  | .bswap t rd rs1 rs2 => Sys2Proof.Machine.execBswap t rd rs1 rs2 s
  | .popc t rd rs1 rs2 => Sys2Proof.Machine.execPopc t rd rs1 rs2 s
  | .addi t rd rs1 imm => Sys2Proof.Machine.execAddi t rd rs1 imm s
  | .andi t rd rs1 imm => Sys2Proof.Machine.execAndi t rd rs1 imm s
  | .ori t rd rs1 imm => Sys2Proof.Machine.execOri t rd rs1 imm s
  | .xori t rd rs1 imm => Sys2Proof.Machine.execXori t rd rs1 imm s
  | .shli t rd rs1 imm => Sys2Proof.Machine.execShli t rd rs1 imm s
  | .shri t rd rs1 imm => Sys2Proof.Machine.execShri t rd rs1 imm s
  | .sari t rd rs1 imm => Sys2Proof.Machine.execSari t rd rs1 imm s
  | .movz t rd hw z imm => Sys2Proof.Machine.execMovz t rd hw z imm s
  | .movk t rd hw z imm => Sys2Proof.Machine.execMovk t rd hw z imm s
  | .br t rs1 rs2 cond off => Sys2Proof.Machine.execBr t rs1 rs2 cond off s
  | .jal t rd z off => Sys2Proof.Machine.execJal t rd z off s
  | .jr t rd rs1 rs2 funct => Sys2Proof.Machine.execJr t rd rs1 rs2 funct s
  | .fxt t rd rs1 pos len1 => Sys2Proof.Machine.execFxt t rd rs1 pos len1 s
  | .fxts t rd rs1 pos len1 => Sys2Proof.Machine.execFxts t rd rs1 pos len1 s
  | .fins t rd rs1 pos len1 => Sys2Proof.Machine.execFins t rd rs1 pos len1 s
  | .fxtb t rd rs1 rs2 funct => Sys2Proof.Machine.execFxtb t rd rs1 rs2 funct s
  | .ld t rt base size sx be off => Sys2Proof.Machine.execLd t rt base size sx be off s
  | .st t rt base size sx be off => Sys2Proof.Machine.execSt t rt base size sx be off s
  | .aadd t rd rs1 rs2 funct => Sys2Proof.Machine.execAadd t rd rs1 rs2 funct s
  | .tlk t rt rs tbl w z => Sys2Proof.Machine.execTlk t rt rs tbl w z s
  | .tst t rt rs tbl w z => Sys2Proof.Machine.execTst t rt rs tbl w z s
  | .rchk t rd rs1 rs2 funct => Sys2Proof.Machine.execRchk t rd rs1 rs2 funct s
  | .lck t rt rs1 z imm => Sys2Proof.Machine.execLck t rt rs1 z imm s
  | .ltry t rt rs1 z imm => Sys2Proof.Machine.execLtry t rt rs1 z imm s
  | .lrel t rt rs1 z imm => Sys2Proof.Machine.execLrel t rt rs1 z imm s
  | .rsv t rt rs1 z imm => Sys2Proof.Machine.execRsv t rt rs1 z imm s
  | .rsvt t rt rs1 z imm => Sys2Proof.Machine.execRsvt t rt rs1 z imm s
  | .stg t rt rs1 z imm => Sys2Proof.Machine.execStg t rt rs1 z imm s
  | .snd t rt rs1 z imm => Sys2Proof.Machine.execSnd t rt rs1 z imm s
  | .rcv t rt rs1 z imm => Sys2Proof.Machine.execRcv t rt rs1 z imm s
  | .rsvr t rt rs1 z imm => Sys2Proof.Machine.execRsvr t rt rs1 z imm s
  | .sndr t rt rs1 z imm => Sys2Proof.Machine.execSndr t rt rs1 z imm s
  | .wait t rd rs1 imm => Sys2Proof.Machine.execWait t rd rs1 imm s
  | .eclr t rd rs1 imm => Sys2Proof.Machine.execEclr t rd rs1 imm s
  | .sig t rd rs1 imm => Sys2Proof.Machine.execSig t rd rs1 imm s
  | .tset t rd rs1 imm => Sys2Proof.Machine.execTset t rd rs1 imm s
  | .stamp t rd rs1 imm => Sys2Proof.Machine.execStamp t rd rs1 imm s
  | .mfs t rd rs1 imm => Sys2Proof.Machine.execMfs t rd rs1 imm s
  | .fget t rd rs1 imm => Sys2Proof.Machine.execFget t rd rs1 imm s
  | .mfill t rd rs1 rs2 funct => Sys2Proof.Machine.execMfill t rd rs1 rs2 funct s
  | .mdrop t rd rs1 rs2 funct => Sys2Proof.Machine.execMdrop t rd rs1 rs2 funct s
  | .slotFillArrive t => Sys2Proof.Machine.execSlotFillArrive t s
  | .hand t rd rs1 rs2 funct => Sys2Proof.Machine.execHand t rd rs1 rs2 funct s
  | .handArrive t => Sys2Proof.Machine.execHandArrive t s
  | .rget t rd rs1 rs2 funct => Sys2Proof.Machine.execRget t rd rs1 rs2 funct s
  | .dma t rd rs1 rs2 funct => Sys2Proof.Machine.execDma t rd rs1 rs2 funct s
  | .dmaComplete t err => Sys2Proof.Machine.execDmaComplete t err s
  | .stop t z => Sys2Proof.Machine.execStop t z s
  | .bkpt t z => Sys2Proof.Machine.execBkpt t z s
  | .accessComplete t err => Sys2Proof.Machine.execAccessComplete t err s
  | .threadWake t => Sys2Proof.Machine.execThreadWake t s
  | .threadTimerExpire t => Sys2Proof.Machine.execThreadTimerExpire t s
  | .eventStall k w => Sys2Proof.Machine.execEventStall k w s
  | .chanLeaseExpire k c => Sys2Proof.Machine.execChanLeaseExpire k c s
  | .chanRemoteArrive k c => Sys2Proof.Machine.execChanRemoteArrive k c s
  | .frameToBinding p => Sys2Proof.Machine.execFrameToBinding p s
  | .dyeStart t who => Sys2Proof.Machine.execDyeStart t who s
  | .dyeReset t who => Sys2Proof.Machine.execDyeReset t who s
  | .dyeHalt t who => Sys2Proof.Machine.execDyeHalt t who s
  | .dyeResume t who => Sys2Proof.Machine.execDyeResume t who s
  | .dyeStep t who => Sys2Proof.Machine.execDyeStep t who s
  | .cluEscalateRaise k who => Sys2Proof.Machine.execCluEscalateRaise k who s
  | .dripDispatch c l => Sys2Proof.Machine.execDripDispatch c l s
  | .dripNop c l a b w => Sys2Proof.Machine.execDripNop c l a b w s
  | .dripCmd c l a b w => Sys2Proof.Machine.execDripCmd c l a b w s
  | .dripAddr c l a b w => Sys2Proof.Machine.execDripAddr c l a b w s
  | .dripLit c l a b w => Sys2Proof.Machine.execDripLit c l a b w s
  | .dripTbl c l a b w => Sys2Proof.Machine.execDripTbl c l a b w s
  | .dripBset c l a b w => Sys2Proof.Machine.execDripBset c l a b w s
  | .dripDout c l a b w => Sys2Proof.Machine.execDripDout c l a b w s
  | .dripDin c l a b w => Sys2Proof.Machine.execDripDin c l a b w s
  | .dripWaitc c l a b w => Sys2Proof.Machine.execDripWaitc c l a b w s
  | .dripDelay c l a b w => Sys2Proof.Machine.execDripDelay c l a b w s
  | .dripBr c l a b w => Sys2Proof.Machine.execDripBr c l a b w s
  | .dripCall c l a b w => Sys2Proof.Machine.execDripCall c l a b w s
  | .dripRet c l a b w => Sys2Proof.Machine.execDripRet c l a b w s
  | .dripLdc c l a b w => Sys2Proof.Machine.execDripLdc c l a b w s
  | .dripBusrel c l a b w => Sys2Proof.Machine.execDripBusrel c l a b w s
  | .dripSrd c l a b w sr => Sys2Proof.Machine.execDripSrd c l a b w sr s
  | .dripEnd c l a b w => Sys2Proof.Machine.execDripEnd c l a b w s
  | .dripWaitcDone c l => Sys2Proof.Machine.execDripWaitcDone c l s
  | .dripWaitcTimeout c l => Sys2Proof.Machine.execDripWaitcTimeout c l s
  | .dripDelayExpire c l => Sys2Proof.Machine.execDripDelayExpire c l s
  | .dripTransferDone c l data => Sys2Proof.Machine.execDripTransferDone c l data s
  | .dripDecodeReady c l errors data => Sys2Proof.Machine.execDripDecodeReady c l errors data s
  | .dripBusGrant c => Sys2Proof.Machine.execDripBusGrant c s
  | .dripSuspend c on => Sys2Proof.Machine.execDripSuspend c on s
  | .dripAbort c => Sys2Proof.Machine.execDripAbort c s
  | .dripSwap c => Sys2Proof.Machine.execDripSwap c s
  | .lunFormat c l marks fails => Sys2Proof.Machine.execLunFormat c l marks fails s
  | .blockSubstitute c l b eraseFails progFails uncorr => Sys2Proof.Machine.execBlockSubstitute c l b eraseFails progFails uncorr s
  | .retentionSweep c l => Sys2Proof.Machine.execRetentionSweep c l s
  | .nandRetireChannel sl => Sys2Proof.Machine.execNandRetireChannel sl s
  | .rehome => Sys2Proof.Machine.execRehome s
  | .readCompletion tag c => Sys2Proof.Machine.execReadCompletion tag c s
  | .completionTimeout tag => Sys2Proof.Machine.execCompletionTimeout tag s
  | .tagQuarantineEnd tag => Sys2Proof.Machine.execTagQuarantineEnd tag s
  | .inboundBarAccess bar off len data => Sys2Proof.Machine.execInboundBarAccess bar off len data s
  | .registerWrite w => Sys2Proof.Machine.execRegisterWrite w s
  | .rocRead r => Sys2Proof.Machine.execRocRead r s
  | .go sl => Sys2Proof.Machine.execGo sl s
  | .ack sl => Sys2Proof.Machine.execAck sl s
  | .mailboxDone sl => Sys2Proof.Machine.execMailboxDone sl s
  | .echo sl => Sys2Proof.Machine.execEcho sl s
  | .sliceInfo sl => Sys2Proof.Machine.execSliceInfo sl s
  | .sliceReset sl => Sys2Proof.Machine.execSliceReset sl s
  | .sliceDrainDone n => Sys2Proof.Machine.execSliceDrainDone n s
  | .squash n => Sys2Proof.Machine.execSquash n s
  | .drainLimitExpire n => Sys2Proof.Machine.execDrainLimitExpire n s
  | .pf1Flr => Sys2Proof.Machine.execPf1Flr s
  | .pf0Flr => Sys2Proof.Machine.execPf0Flr s
  | .pf1D3hot => Sys2Proof.Machine.execPf1D3hot s
  | .busMasterClear => Sys2Proof.Machine.execBusMasterClear s
  | .pcieLinkLoss => Sys2Proof.Machine.execPcieLinkLoss s
  | .endpointReset perst => Sys2Proof.Machine.execEndpointReset perst s
  | .pciWinCommit => Sys2Proof.Machine.execPciWinCommit s
  | .peerTlp rid off len data => Sys2Proof.Machine.execPeerTlp rid off len data s
  | .subTail r v => Sys2Proof.Machine.execSubTail r v s
  | .pushData r off data => Sys2Proof.Machine.execPushData r off data s
  | .pushGo r v => Sys2Proof.Machine.execPushGo r v s
  | .dlvRelease q v => Sys2Proof.Machine.execDlvRelease q v s
  | .fetchGrant => Sys2Proof.Machine.execFetchGrant s
  | .aheadPoll r => Sys2Proof.Machine.execAheadPoll r s
  | .entryArrive r => Sys2Proof.Machine.execEntryArrive r s
  | .refetch r => Sys2Proof.Machine.execRefetch r s
  | .deliverGroup => Sys2Proof.Machine.execDeliverGroup s
  | .coalTimer q => Sys2Proof.Machine.execCoalTimer q s
  | .ringRestart sl => Sys2Proof.Machine.execRingRestart sl s
  | .ringState sl => Sys2Proof.Machine.execRingState sl s
  | .ringResume sl => Sys2Proof.Machine.execRingResume sl s
  | .read dup => Sys2Proof.Machine.execRead dup s
  | .write dup => Sys2Proof.Machine.execWrite dup s
  | .flush => Sys2Proof.Machine.execFlush s
  | .deallocate => Sys2Proof.Machine.execDeallocate s
  | .identify => Sys2Proof.Machine.execIdentify s
  | .getLogPage => Sys2Proof.Machine.execGetLogPage s
  | .setFeatures => Sys2Proof.Machine.execSetFeatures s
  | .getFeatures => Sys2Proof.Machine.execGetFeatures s
  | .fwDownload => Sys2Proof.Machine.execFwDownload s
  | .fwCommit flashOk => Sys2Proof.Machine.execFwCommit flashOk s
  | .gatherExpire g => Sys2Proof.Machine.execGatherExpire g s
  | .wordlineProgramDone => Sys2Proof.Machine.execWordlineProgramDone s
  | .storageDone => Sys2Proof.Machine.execStorageDone s
  | .blockRelocate g => Sys2Proof.Machine.execBlockRelocate g s
  | .mapCheckpoint => Sys2Proof.Machine.execMapCheckpoint s
  | .ctxLoad sl => Sys2Proof.Machine.execCtxLoad sl s
  | .ctxSave sl => Sys2Proof.Machine.execCtxSave sl s
  | .ctxDestroy sl => Sys2Proof.Machine.execCtxDestroy sl s
  | .importKey sl => Sys2Proof.Machine.execImportKey sl s
  | .jobPoll q => Sys2Proof.Machine.execJobPoll q s
  | .jobDispatch => Sys2Proof.Machine.execJobDispatch s
  | .jobComplete q how => Sys2Proof.Machine.execJobComplete q how s
  | .eznLinkTrain k => Sys2Proof.Machine.execEznLinkTrain k s
  | .idle k h crcOk => Sys2Proof.Machine.execIdle k h crcOk s
  | .records k h payload crcOk => Sys2Proof.Machine.execRecords k h payload crcOk s
  | .confirm k h payload crcOk => Sys2Proof.Machine.execConfirm k h payload crcOk s
  | .wmark k h payload crcOk => Sys2Proof.Machine.execWmark k h payload crcOk s
  | .state k h payload crcOk => Sys2Proof.Machine.execState k h payload crcOk s
  | .claim k h payload crcOk => Sys2Proof.Machine.execClaim k h payload crcOk s
  | .vote k h payload crcOk => Sys2Proof.Machine.execVote k h payload crcOk s
  | .close k h payload crcOk => Sys2Proof.Machine.execClose k h payload crcOk s
  | .resyncCtl k h payload crcOk => Sys2Proof.Machine.execResyncCtl k h payload crcOk s
  | .eznResendTimer k => Sys2Proof.Machine.execEznResendTimer k s
  | .eznLinkDown k lock => Sys2Proof.Machine.execEznLinkDown k lock s
  | .eznIdleTimer k => Sys2Proof.Machine.execEznIdleTimer k s
  | .hbTimer => Sys2Proof.Machine.execHbTimer s
  | .primaryTimeout => Sys2Proof.Machine.execPrimaryTimeout s
  | .electWaitExpire => Sys2Proof.Machine.execElectWaitExpire s
  | .claimRetry => Sys2Proof.Machine.execClaimRetry s
  | .followerTimeout m => Sys2Proof.Machine.execFollowerTimeout m s
  | .newEpochOpen => Sys2Proof.Machine.execNewEpochOpen s
  | .formTimeout => Sys2Proof.Machine.execFormTimeout s
  | .groupStatus sl => Sys2Proof.Machine.execGroupStatus sl s
  | .groupHandover sl => Sys2Proof.Machine.execGroupHandover sl s
  | .groupPromote sl => Sys2Proof.Machine.execGroupPromote sl s
  | .groupResync sl => Sys2Proof.Machine.execGroupResync sl s
  | .groupRaiseLevel sl => Sys2Proof.Machine.execGroupRaiseLevel sl s
  | .applySection sl => Sys2Proof.Machine.execApplySection sl s
  | .safePoint => Sys2Proof.Machine.execSafePoint s
  | .applyLimitExpire => Sys2Proof.Machine.execApplyLimitExpire s
  | .sectionWrite sl flashOk => Sys2Proof.Machine.execSectionWrite sl flashOk s
  | .sectionCommit sl flashOk => Sys2Proof.Machine.execSectionCommit sl flashOk s
  | .sectionInfo sl => Sys2Proof.Machine.execSectionInfo sl s
  | .imageWrite sl flashOk => Sys2Proof.Machine.execImageWrite sl flashOk s
  | .imageCommit sl flashOk => Sys2Proof.Machine.execImageCommit sl flashOk s
  | .bootStatus sl => Sys2Proof.Machine.execBootStatus sl s
  | .attest sl => Sys2Proof.Machine.execAttest sl s
  | .jtagDebug => Sys2Proof.Machine.execJtagDebug s
  | .errorDetect log code cls sub info => Sys2Proof.Machine.execErrorDetect log code cls sub info s
  | .errAck n => Sys2Proof.Machine.execErrAck n s
  | .escWaitExpire => Sys2Proof.Machine.execEscWaitExpire s
  | .clusterRemap k readFail => Sys2Proof.Machine.execClusterRemap k readFail s
  | .deviceFatalReset env => Sys2Proof.Machine.execDeviceFatalReset env s
  | .watchdog rpc => Sys2Proof.Machine.execWatchdog rpc s
  | .deviceReset sl => Sys2Proof.Machine.execDeviceReset sl s
  | .domainReset sl => Sys2Proof.Machine.execDomainReset sl s
  | .laneRecal sl idle => Sys2Proof.Machine.execLaneRecal sl idle s
  | .errInject sl => Sys2Proof.Machine.execErrInject sl s
  | .powerOnReset env => Sys2Proof.Machine.execPowerOnReset env s
  | .coldReset pin env => Sys2Proof.Machine.execColdReset pin env s
  | .warmReset env => Sys2Proof.Machine.execWarmReset env s
  | .powerFail => Sys2Proof.Machine.execPowerFail s
  | .pwrSafe => Sys2Proof.Machine.execPwrSafe s
  | .refclkLoss root => Sys2Proof.Machine.execRefclkLoss root s
  | .rootPllRelock env => Sys2Proof.Machine.execRootPllRelock env s
  | .pllUnlock domain us => Sys2Proof.Machine.execPllUnlock domain us s
  | .railSample rails => Sys2Proof.Machine.execRailSample rails s
  | .tempSample temps => Sys2Proof.Machine.execTempSample temps s
  | .thermtrip => Sys2Proof.Machine.execThermtrip s
  | .getStatus pec => Sys2Proof.Machine.execGetStatus pec s
  | .getTemp pec => Sys2Proof.Machine.execGetTemp pec s
  | .getPower pec => Sys2Proof.Machine.execGetPower pec s
  | .getLife c pec => Sys2Proof.Machine.execGetLife c pec s
  | .getErrors pec => Sys2Proof.Machine.execGetErrors pec s
  | .getLog n pec => Sys2Proof.Machine.execGetLog n pec s
  | .ackLog n pec => Sys2Proof.Machine.execAckLog n pec s
  | .sidebandReset kind confirm pec => Sys2Proof.Machine.execSidebandReset kind confirm pec s
  | .getIdentity pec => Sys2Proof.Machine.execGetIdentity pec s
  | .getClocks pec => Sys2Proof.Machine.execGetClocks pec s
  | .getDomains pec => Sys2Proof.Machine.execGetDomains pec s
  | .alertResponse => Sys2Proof.Machine.execAlertResponse s
  | .timebaseTick => Sys2Proof.Machine.execTimebaseTick s
  | .framePassesMaxlen p => Sys2Proof.Machine.execFramePassesMaxlen p s
  | .confirmSend k => Sys2Proof.Machine.execConfirmSend k s
  | .wmarkSend k => Sys2Proof.Machine.execWmarkSend k s
  | .catchUpSend m => Sys2Proof.Machine.execCatchUpSend m s
  | .statusPoll c l sr => Sys2Proof.Machine.execStatusPoll c l sr s
  | .pllRelock domain => Sys2Proof.Machine.execPllRelock domain s
  | .channelPllTimeout group => Sys2Proof.Machine.execChannelPllTimeout group s
  | .pcieLinkUp speed width flit => Sys2Proof.Machine.execPcieLinkUp speed width flit s
  | .perstDeassert => Sys2Proof.Machine.execPerstDeassert s
  | .powerFailClear env => Sys2Proof.Machine.execPowerFailClear env s
  | .flrComplete pf1 => Sys2Proof.Machine.execFlrComplete pf1 s
  | .deviceResetAckTimeout => Sys2Proof.Machine.execDeviceResetAckTimeout s

end Sys2Proof.Machine
end

