-- ==== Sys2Proof/Safety.lean ====
section
/-!
DEFINITION. What counts as a safe step, in the terms the statements use: canonical memories, a thread that issues, and what an instruction that works on
registers alone leaves behind.
-/

namespace Sys2Proof.Machine

/-- Every memory the state holds is in its canonical form. -/
def State.memWf (s : State) : Bool :=
  Memory.wf s.gddr && s.dy.imem.all (fun e => Memory.wf e.2) && s.dy.dmem.all (fun e => Memory.wf e.2)
    && s.dy.sram.all (fun e => Memory.wf e.2)

/-- Thread `t` issues its next instruction: it may issue, no fault is due at this issue boundary, no breakpoint stops it, and the word at its PC is readable and encodes
an instruction (04 R163; 05 R168, R206). -/
abbrev State.ready (s : State) (t : Nat) : Prop :=
  s.canIssue t = true ∧ (s.th t).leaseLost = none ∧ (s.th t).dmaErr = [] ∧ s.brkHit t = false ∧ s.fetchFault t = none

/-- `y` is `x` but for its registers, B, PC, state, and what stepping it leaves. -/
def Thread.sameBut (x y : Thread) : Prop :=
  y.wmask = x.wmask ∧ y.pend = x.pend ∧ y.timer = x.timer ∧ y.stage = x.stage ∧ y.rsv = x.rsv ∧ y.locks = x.locks ∧ y.acc = x.acc ∧ y.park = x.park
    ∧ y.dmas = x.dmas ∧ y.leaseLost = x.leaseLost ∧ y.dmaErr = x.dmaErr ∧ y.rcvLen = x.rcvLen ∧ y.descs = x.descs

/-- The state after the instruction: RUN, or HALT for a thread that steps (04 R162). -/
def Thread.after (x : Thread) : ThState := if x.stepping then .halt else .run

/-- The next PC of an instruction that does not branch (05 R166). -/
def Thread.pcNext (x : Thread) : Nat := (x.pc + 1) % 8192

/-- `u` is `s` after an instruction of thread `t` that works on registers alone: nothing but the thread changes; of its registers `rd` takes `v` (none,
for g0); B and the PC are as given. -/
def RegStep (s u : State) (t rd : Nat) (v : Word) (b : Bool) (pc : Nat) : Prop :=
  u = s.setTh t (u.th t) ∧ (∀ n, (u.th t).r n = if n = rd ∧ rd ≠ 0 then v else (s.th t).r n) ∧ (u.th t).b = b ∧ (u.th t).pc = pc
    ∧ (u.th t).st = (s.th t).after ∧ (s.th t).sameBut (u.th t)

/-- Slice `sl` is an admin slice in use whose mailbox holds a request of `len` payload bytes with opcode `op`, which its owner is ready to begin outside
recovery mode (08 R319 to R324). -/
abbrev State.request (s : State) (sl op len : Nat) : Prop :=
  s.mbReady sl op = true ∧ s.sliceOn sl = true ∧ s.sliceAdmin sl = true ∧ s.recovery = false ∧ (s.mb sl).len = len

/-- The owner has fixed the response of slice `sl`: MAILBOX_DONE writes it (08 R320). -/
def State.answered (u : State) (sl st : Nat) (rsp : List Byte) : Prop :=
  (u.mb sl).ans = some (st, rsp) ∧ (u.mb sl).taken = true

/-- The n-byte field at offset `o` of the request's payload. -/
def State.arg (s : State) (sl o n : Nat) : Nat := field (s.mb sl).payload o n

/-- Counter `f` has gone up by `k`, and stays at its end (00 R17). -/
def State.counted (s u : State) (f : Fld) (k : Nat) : Prop := u.rd f = min (s.rd f + k) (2 ^ f.width - 1)

/-- Context `l` of channel `c` issues the microword with these fields: it is ready to, the Drip runs, its PC lies in the bank, that word is there, it is its turn, and the
bus is its own, or free with no context waiting for it, where the word needs it (07 R262, R263, R265). -/
abbrev State.dripReady (s : State) (c l uop a b w : Nat) : Prop :=
  s.ctxReady c l = true ∧ s.dripOn c = true ∧ (s.ctx c l).pc < (s.bank c (s.ctx c l).bank).used ∧ s.wordAt c l = uop * 2 ^ 58 + a * 2 ^ 48 + b * 2 ^ 32 + w
    ∧ s.turn c l = true ∧ (usesBus uop = true → s.busOf c = some l ∨ (s.busOf c = none ∧ s.busSaucer c = []))

/-- `u` is `s` after context `l` of channel `c` became `y`: no other context changes, nor anything but the bus, the rotation, the free values drawn, and what is put on
the bus. -/
def CtxStep (s u : State) (c l : Nat) (y : Ctx) : Prop :=
  u.ctx c l = y ∧ (∀ j, j ≠ 16 * c + l → FMap.get {} u.nand.ctx j = FMap.get {} s.nand.ctx j)
    ∧ u = { s with nand := { s.nand with ctx := u.nand.ctx, bus := u.nand.bus, rotor := u.nand.rotor }, out := u.out, free := u.free }
    ∧ ∀ d, d ≠ c → u.busOf d = s.busOf d

/-- The operation has an owner that takes its result (07 R260). -/
def OpTag.owned (t : OpTag) : Bool := t.owner != 2 && (match t with | .erase _ => false | _ => true)

/-- The row of storage opcode `opc` acts on command `c`, whose host data is in the device: it is the first of its opcode in arrival order (10 R402, R404). -/
abbrev State.turnOf (s : State) (opc : Nat) (c : BlkCmd) : Prop :=
  s.run = true ∧ (sortBy BlkCmd.before (s.blk.cmds.filter (fun d => d.opc == opc))).head? = some c ∧ c.phase = 2 ∧ (c.dkind ≠ 2 ∨ c.segs ≠ [])

/-- Command `c` has ended with a status and RESULT; STORAGE_DONE will say so (10 R405). No other command changes. -/
def State.endedAs (s u : State) (c : BlkCmd) (sct sc result : Nat) : Prop :=
  u.blk.cmds = mapFirst (fun d => d.id == c.id) (fun d => { d with phase := 4, sct := sct, sc := sc, result := result }) s.blk.cmds

/-- The units and entries of command `c` are placed (10 R402). -/
def State.placedAs (s u : State) (c : BlkCmd) : Prop :=
  u.blk.cmds = mapFirst (fun d => d.id == c.id) (fun d => { d with phase := 3 }) s.blk.cmds

/-- The data of a command's host buffers, `n` bytes of `b`, goes out as `u` shows (10 R410). -/
def State.answersWith (s u : State) (c : BlkCmd) (off : Nat) (b : List Byte) : Prop :=
  u.out = (s.toBuffers c 0 (padTo ((c.segs.map (fun g => g.2)).sum) ((b.drop off).take ((c.segs.map (fun g => g.2)).sum)))).out ∧ s.endedAs u c 0 0 0

/-- Link end `k` takes a frame of type `ftype` with header `h` in order: it is trained, the header names this group, its peer and this member, it carries no
NAK, its number is the next one, and its version is the member's level (12 R452, R454, R485). -/
abbrev State.takesFrame (s : State) (k : Nat) (h : EzHead) (ftype : Nat) : Prop :=
  s.ezOn k = true ∧ s.linkPresent k = true ∧ s.peer k < 4 ∧ (s.linkState k = 3 ∨ (s.linkState k = 2 ∧ (ftype = 0 ∨ ftype = 4))) ∧ h.group.toNat = s.rd EZN_GROUP_ID.ID
    ∧ (h.src : Nat) = s.peer k ∧ (h.dst : Nat) = s.me ∧ bitAt h.flags 0 = false
    ∧ (ftype = 0 ∨ (h.lseq.toNat = ((s.ezl k).rcvd + 1) % 2 ^ 32 ∧ (ftype = 4 ∨ (h.fver : Nat) = s.rd EZN_STATUS.LEVEL)))

/-- Link end `k` carries frames at once: it is UP, nothing waits on it, and it has 1 to 64 credits (12 R454, R455). -/
abbrev State.freeLink (s : State) (k : Nat) : Prop :=
  s.ezOn k = true ∧ s.linkState k = 3 ∧ (s.ezl k).waiting = [] ∧ 0 < s.rd (EZN_LINK_STAT.CREDITS k) ∧ s.rd (EZN_LINK_STAT.CREDITS k) ≤ 64

/-- The only frame that link end `k` has sent meanwhile is `f`, with the next number (12 R454). -/
def State.sentOn (s u : State) (k ftype : Nat) (payload : List Byte) : Prop :=
  (u.ezl k).unacked = (s.ezl k).unacked ++ [{ ftype := ftype, payload := payload, lseq := (s.ezl k).sent + 1 }] ∧ (u.ezl k).sent = (s.ezl k).sent + 1
    ∧ u.rd (EZN_LINK_STAT.CREDITS k) + 1 = s.rd (EZN_LINK_STAT.CREDITS k)

/-- The state in which the owner serves slice `sl`'s request: the request has been taken (08 R320). -/
def State.served (s : State) (sl : Nat) : State := s.setMb sl { s.mb sl with taken := true }

/-- Nothing more follows from the units that are fatal: every channel among them is lost (14 Table 14-9). -/
def State.fatalSettled (s : State) : Prop := ∀ c, FatalUnit.channel c ∈ s.err.fatal → c ∈ s.nand.lost

/-- The first record of log `n` is the one given (14 R522). -/
abbrev State.firstIs (u : State) (n code cls sub info : Nat) : Prop :=
  u.rd (ERR_STAT.FIRST_VALID n) = 1 ∧ u.rd (ERR_FIRST.CODE n) = code ∧ u.rd (ERR_FIRST.CLASS n) = cls ∧ u.rd (ERR_FIRST.SUB n) = sub
    ∧ u.rd (ERR_FIRST_INFO.INFO n) = info

/-- The last warning of log `n` is the one given, and it has been counted (14 R526). -/
def State.warned (s u : State) (n code sub info : Nat) : Prop :=
  u.flag (ERR_WARN.VALID n) = true ∧ u.rd (ERR_WARN.CODE n) = code ∧ u.rd (ERR_WARN.SUB n) = sub ∧ u.rd (ERR_WARN.INFO n) = info % 2 ^ 32
    ∧ s.counted u (ERR_CNT.WARNINGS n) 1

/-- A sideband command changes nothing, and answers with a status and data (15 R569). -/
def State.sideAnswers (s : State) (c : Instr) (st : Nat) (d : List Byte) : Prop := exec c s = .next (s.emit (.sideband st d))

/-- The commands that the invariants of the threads are stated over: the instructions that access no memory, channel or frame, and the wake. -/
def plainInstr : Instr → Bool
  | .add .. | .sub .. | .and .. | .or .. | .xor .. | .shl .. | .shr .. | .sar .. | .mul .. | .mulhu .. | .addsu .. | .subsu .. | .min .. | .max ..
  | .bswap .. | .popc .. | .addi .. | .andi .. | .ori .. | .xori .. | .shli .. | .shri .. | .sari .. | .movz .. | .movk .. | .br .. | .jal .. | .jr ..
  | .fxt .. | .fxts .. | .fins .. | .fxtb .. | .rchk .. | .lck .. | .ltry .. | .lrel .. | .wait .. | .eclr .. | .sig .. | .tset .. | .stamp .. | .mfs ..
  | .stop .. | .bkpt .. | .threadWake .. => true
  | _ => false

/-- A thread's registers and PC as the manual allows them: g0 is never listed (R167), and the PC is a word index (R166). -/
def Thread.legal (x : Thread) : Bool :=
  FMap.wf 0 x.g && x.g.all (fun e => decide (1 ≤ e.1) && decide (e.1 ≤ 31)) && decide (x.pc < 8192)

/-- Every thread is legal, and only commands of the groups named wait. -/
def State.threadsLegal (s : State) : Prop := s.pending.all (fun c => plainInstr c) = true ∧ ∀ t, (s.th t).legal = true

/-- Lock n of cluster k is held by exactly the thread it names, the locks of a thread rise in rank and are at most 8 (R144), and a Saucer lists threads that wait for its
lock and could take it (R146). -/
def State.locksSound (s : State) : Prop :=
  s.pending.all (fun c => plainInstr c) = true
  ∧ (∀ k n i, k < 64 → n < 512 → i < 128 → ((s.lockOf k n).owner = some i ↔ n ∈ (s.th (k * 128 + i)).locks))
  ∧ (∀ k n i, k < 64 → n < 512 → (s.lockOf k n).owner = some i → i < 128)
  ∧ (∀ t, t < 8192 → (s.th t).locks.Pairwise (· < ·) ∧ (s.th t).locks.length ≤ 8 ∧ ∀ n ∈ (s.th t).locks, n < 512)
  ∧ (∀ k n, k < 64 → n < 512 → (s.lockOf k n).saucer.Nodup ∧ ∀ i ∈ (s.lockOf k n).saucer, i < 128 ∧ (s.th (k * 128 + i)).st = .wait
      ∧ (s.th (k * 128 + i)).park = some (.lock n) ∧ (s.th (k * 128 + i)).locks.length < 8 ∧ ∀ m ∈ (s.th (k * 128 + i)).locks, m < n)

end Sys2Proof.Machine
end

