-- ==== Sys2Proof/Certificates/Slice0/Obligations.lean ====
section
/-!
DEFINITION. The statements for the provers. A statement about a command says that exec answers a next state under conditions on the state and
the operands alone, and what that next state holds.
-/

open Sys2Proof Sys2Proof.Machine

/-- O1. In every state SNAP_TAKE completes: TMP_SNAP_LO and TMP_SNAP_HI together hold the stamp of the present timebase (seconds, nanoseconds and the fraction, rounded to the nearest 0.125 ns with halves upward) with TMP_STATUS.CLASS_NOW, whatever they held before; VALID is set; and no register field but these, and nothing else of the machine, changes. COMPLETION: under the conditions given, on the state and the operands alone, each of these commands answers a next state with the effect of its own given here: SNAP_TAKE. (02_tamp_time.md R53) -/
def Obligations.SnapCopiesTheTimebase : Prop :=
  ∀ s : State,
    let eighths := (2 * s.tamp.tb + 5 * 2 ^ 77) / (2 * (5 * 2 ^ 77))
    let stamp := eighths / 8000000000 * 2 ^ 48 + eighths / 8 % 1000000000 * 2 ^ 16 + eighths % 8 * 0x200 * 16 + s.rd TMP_STATUS.CLASS_NOW % 16
    ∃ u, exec .snapTake s = .next u ∧ u.rd TMP_SNAP_LO.STAMP_LO = stamp % 2 ^ 64 ∧ u.rd TMP_SNAP_HI.STAMP_HI = stamp / 2 ^ 64 % 2 ^ TMP_SNAP_HI.STAMP_HI.width
      ∧ u.rd TMP_SNAP_CTRL.VALID = 1 ∧ u = { s with regs := u.regs }
      ∧ ∀ f : Fld, f.key ∉ [TMP_SNAP_LO.STAMP_LO.key, TMP_SNAP_HI.STAMP_HI.key, TMP_SNAP_CTRL.VALID.key] → u.rd f = s.rd f

/-- O2. TIMEBASE_TICK advances the timebase by 0.8 ns × (1 + ADJ × 2^-48), half of it in CORRECTING, lowers no port watermark, and puts an E_time evaluated before it into effect; in LOCKED CLASS_NOW is then the class of E_cap + E_time. ETIME_EVAL in LOCKED with 16 samples evaluates E_meas for the next tick; in FREERUN CLASS_NOW is 15. PTP_MESSAGE_RX takes the slot's oldest message: a Sync is counted and, from the master followed, shows that the source is not lost; a one-step Sync in CORRECTING with a measured path delay stores its offset. PTP_EVENT_TX sends a message of a port that is not one-step with the stamp of its delimiter, corrected by the lane's transmit total; the stamp of a Delay_Req is kept. PPS_IN_EDGE stamps the edge, stores its error from the nearest second, and takes an edge more than 250 ms off as loss and a nearer one as present. SOURCE_LOST marks the source lost. PPS_OUT_EDGE raises PPS_OUT in a new second when permitted, to fall after WIDTH_US. COMPLETION: under the conditions given, on the state and the operands alone, each of these commands answers a next state with the effect of its own given here: TIMEBASE_TICK, ETIME_EVAL, PTP_MESSAGE_RX, PTP_EVENT_TX, PPS_IN_EDGE, SOURCE_LOST, PPS_OUT_EDGE. (02_tamp_time.md R50, 02_tamp_time.md R51, 02_tamp_time.md R54, 02_tamp_time.md R56, 02_tamp_time.md R57, 02_tamp_time.md R59, 02_tamp_time.md R60, 02_tamp_time.md R62, 02_tamp_time.md R69, 02_tamp_time.md R71, 02_tamp_time.md R75, 03_fair_merge.md R96) -/
def Obligations.TimeSourcesAndTicks : Prop :=
  ∀ s : State,
    (∃ u, exec .timebaseTick s = .next u ∧ u.ticks = s.ticks + 1
      ∧ u.tamp.tb = s.tamp.tb + (if s.rd TMP_STATUS.STATE = 5 then 2 else 4) * 2 ^ 32 * ((2 : Int) ^ 48 + s.rdInt TMP_RATE.ADJ).toNat
      ∧ (∀ p, p < 64 → FMap.get 0 s.merge.wm p ≤ FMap.get 0 u.merge.wm p)
      ∧ ∀ e h, s.tamp.eNext = some (e, h) → u.tamp.eTime = e ∧ (s.rd TMP_STATUS.STATE = 2 → h = false → ∀ x, e = some x → u.rd TMP_STATUS.CLASS_NOW = classOf (eCap + x)))
    ∧ (∀ e, s.rd TMP_STATUS.STATE = 2 → s.rd TMP_STATUS.SOURCE ≠ 0 → s.eMeas = some e →
      ∃ u, exec .etimeEval s = .next u ∧ u.tamp.eNext = some (some e, false) ∧ u.tamp.eTime = s.tamp.eTime)
    ∧ (s.rd TMP_STATUS.STATE = 0 → ∃ u, exec .etimeEval s = .next u ∧ u.rd TMP_STATUS.CLASS_NOW = 15)
    ∧ (∀ (k : Fin 4) (st : Stamp) (m : List Byte) (rest : List (Stamp × List Byte)),
        (s.ptpSlot k).inbox = (st, m) :: rest → s.run = true → s.tportUp k = true → s.ptpOurs k m = true → ptpType m = 0 →
      ∃ u, exec (.ptpMessageRx k) s = .next u ∧ (u.ptpSlot k).inbox = rest
        ∧ u.rd (TMP_PTP_STAT.SYNC_RX k) = min (s.rd (TMP_PTP_STAT.SYNC_RX k) + 1) (2 ^ (TMP_PTP_STAT.SYNC_RX k).width - 1)
        ∧ (s.follows k m = true → (u.ptpSlot k).lost = false)
        ∧ ∀ d : Int, s.follows k m = true → bitAt (field m 6 1) 1 = false → (s.ptpSlot k).delay = some d →
            s.rd TMP_STATUS.STATE = 5 → s.rd TMP_STATUS.SOURCE = k.val + 1 → s.tamp.firstSample = true →
            u.rd TMP_OFFSET.THETA = satInt 48 (((stampTb st : Int) - ((ptpTime m : Int) + ptpCorr m) - s.rdInt (TMP_PTP_CFG.ASYM_PS k) * (tbNs : Int) / 1000 - d / 2) / (5 * 2 ^ 68 : Nat))
            ∧ u.rd TMP_STATUS.STATE = 5)
    ∧ (∀ (k : Fin 4) (sub : Fin 3277) (msg : List Byte) (p : Nat), s.tport k = some p → s.run = true → s.flag (SEQ_PST.LINK p) = true →
        s.flag (TMP_PTP_CFG.ONE_STEP k) = false →
      let st := stampOf (tbShift (s.tbAt sub) (s.txTotal (s.rd (SEQ_PORT.LANE0 p)))) (s.portClass p false)
      ∃ u, exec (.ptpEventTx k sub msg) s = .next u ∧ .ptp k msg st ∈ u.out ∧ (ptpType msg = 1 → (u.ptpSlot k).dreq = some (ptpSeq msg, stampTb st)))
    ∧ (∀ sub : Fin 3277, s.ppsClock = true →
      let second : Int := 5 * 2 ^ 80 * 1000000000
      let st := stampOf (s.tbAt sub) (s.rd TMP_STATUS.CLASS_NOW)
      let edge : Int := (stampTb st : Int) - s.rdInt TMP_PPS_COMP.IN_COMP_PS * (5 * 2 ^ 80) / 1000
      let err := edge - (edge + second / 2) / second * second
      ∃ u, exec (.ppsInEdge sub) s = .next u ∧ u.tamp.ppsStamp = st ∧ u.rd TMP_PPS_IN_ERR.ERR_PS = satInt 32 (err * 1000 / (5 * 2 ^ 80))
        ∧ (250000000 * (5 * 2 ^ 80) < err.natAbs → u.rd TMP_STATUS.PPS_IN_LOSS = 1) ∧ (err.natAbs ≤ 250000000 * (5 * 2 ^ 80) → u.tamp.ppsOk = true))
    ∧ (∃ u, exec (.sourceLost 5) s = .next u ∧ u.tamp.ppsOk = false ∧ u.rd TMP_STATUS.PPS_IN_LOSS = 1)
    ∧ (∀ src : Fin 6, 1 ≤ src.val → src.val ≤ 4 → ∃ u, exec (.sourceLost src) s = .next u ∧ (u.ptpSlot (src.val - 1)).lost = true)
    ∧ (s.tamp.ppsSecond < tbSec s.ppsTime → s.ppsClock = true → s.flag TMP_PPS_CFG.OUT_EN = true →
        (s.rd TMP_STATUS.STATE ≠ 3 ∨ s.flag TMP_PPS_CFG.OUT_IN_HOLD = true) → (s.rd TMP_STATUS.CLASS_NOW ≠ 15 ∨ s.flag TMP_PPS_CFG.OUT_IN_UNTRACE = true) →
      ∃ u, exec .ppsOutEdge s = .next u ∧ u = { s with tamp := { s.tamp with ppsSecond := tbSec s.ppsTime, ppsFalls := some (s.ticks + s.rd TMP_PPS_CFG.WIDTH_US * 1250) },
                                                       out := .ppsOut (tbSec s.ppsTime) :: s.out })

/-- O3. In STEP_PENDING a TIME_STEP_CONSENT with the current id and a sufficient bound is answered OK with δ and arms a forward step or enters CORRECTING; TIME_STEP_APPLY moves the timebase forward by δ at once; CORRECTION_END leaves CORRECTING; TIME_STEP_DECLINE excludes the source. TIME_SET_TOD before stamping sets a time that is not below the timebase and answers BACKWARD otherwise. TIME_START_UNLOCKED and, after a lock, STAMPING_ENABLE enable stamping above the journal. TRACE_SUBMIT makes the second's record, with the stamp of the next second. COMPLETION: under the conditions given, on the state and the operands alone, each of these commands answers a next state with the effect of its own given here: TIME_STEP_CONSENT, TIME_STEP_APPLY, CORRECTION_END, TIME_STEP_DECLINE, TIME_SET_TOD, TIME_START_UNLOCKED, STAMPING_ENABLE, TRACE_SUBMIT. (02_tamp_time.md R73, 02_tamp_time.md R76, 02_tamp_time.md R77, 02_tamp_time.md R78, 02_tamp_time.md R90, 02_tamp_time.md R91) -/
def Obligations.TimeRequestsAndTrace : Prop :=
  ∀ (s : State) (sl : Fin 256),
    let d := s.rdInt TMP_STEP.DELTA_NS
    (s.request sl 0x0100 16 → s.rd TMP_STATUS.STATE = 4 → s.tamp.step = none → s.arg sl 0 4 = s.rd TMP_STEP_ID.ID → d.natAbs ≤ s.arg sl 4 8 →
      ∃ u, exec (.timeStepConsent sl) s = .next u ∧ u.answered sl 0 (leBytes 8 (ofInt 64 d))
        ∧ (0 < d → u.tamp.step = some { deltaNs := d, stepId := s.arg sl 0 4, slice := sl, tag := s.arg sl 12 4 } ∧ u.rd TMP_STATUS.STATE = 4)
        ∧ (d ≤ 0 → u.rd TMP_STATUS.STATE = 5 ∧ ∃ c src, u.tamp.corr = some (c, src, d.natAbs * tbNs)))
    ∧ (∀ c, s.tamp.step = some c → ∃ u, exec .timeStepApply s = .next u ∧ u.tamp.tb = s.tamp.tb + c.deltaNs.toNat * tbNs ∧ u.tamp.step = none
        ∧ u.rd TMP_STATUS.STATE = 1 ∧ u.tamp.samples = s.tamp.samples.map (· + c.deltaNs * 4096))
    ∧ (∀ c src, s.tamp.corr = some (c, src, 0) → ∃ u, exec .correctionEnd s = .next u ∧ u.tamp.corr = none ∧ u.rd TMP_STATUS.STATE ∈ [0, 1, 3] ∧ u.tamp.tb = s.tamp.tb)
    ∧ (s.request sl 0x0101 4 → s.rd TMP_STATUS.STATE = 4 → s.tamp.step = none → s.arg sl 0 4 = s.rd TMP_STEP_ID.ID → s.rd TMP_STATUS.SOURCE ≠ 0 →
      ∃ u, exec (.timeStepDecline sl) s = .next u ∧ u.answered sl 0 [] ∧ s.rd TMP_STATUS.SOURCE ∈ u.tamp.declined)
    ∧ (s.request sl 0x0102 12 → s.tamp.stampedEver = false →
      let t := (s.arg sl 0 8 * 1000000000 + s.arg sl 8 4) * tbNs
      ∃ u, exec (.timeSetTod sl) s = .next u ∧ (s.tamp.tb ≤ t → u.answered sl 0 [] ∧ u.tamp.tb = t) ∧ (t < s.tamp.tb → u.answered sl 0x0101 [] ∧ u.tamp.tb = s.tamp.tb))
    ∧ (s.request sl 0x0103 0 → s.flag TMP_STATUS.STAMPING = false → s.aboveJournal = true →
      ∃ u, exec (.timeStartUnlocked sl) s = .next u ∧ u.answered sl 0 [] ∧ u.flag TMP_STATUS.STAMPING = true ∧ u.tamp.stampedEver = true)
    ∧ (s.flag TMP_STATUS.STAMPING = false → s.tamp.everLocked = true → s.aboveJournal = true →
      ∃ u, exec .stampingEnable s = .next u ∧ u.flag TMP_STATUS.STAMPING = true ∧ u.tamp.stampedEver = true ∧ u.flag TMP_STATUS.BEHIND_JOURNAL = false)
    ∧ (s.tamp.traceOpen = true → s.tamp.trace.second < tbSec s.tamp.tb → s.sequencing = true → s.merge.open_ = false →
      ∃ u r, exec .traceSubmit s = .next u ∧ u.tamp.waiting = s.tamp.waiting ++ [r] ∧ r.typ = 1 ∧ r.port = 0x40
        ∧ r.stamp = (s.tamp.trace.second + 1) * 2 ^ 48 + s.rd TMP_STATUS.CLASS_NOW ∧ u.tamp.trace.second = tbSec s.tamp.tb)

/-- O4. LINK_LOCK of a present lane in use marks it up and being measured. DIE_MEASURE_DONE stores both die parts, clears both excesses, sets VALID and increments GEN; when the port's lanes are all up and measured, the port's link is up. RECAL_START of an idle valid lane of a linked port begins its live measurement once PERIOD_S has passed since the lane's last one. RECAL_APPLY of a result within LIMIT_PS in both directions stores both parts and increments GEN, and of one outside in both keeps both parts, sets REJECT and counts it. COMPLETION: under the conditions given, on the state and the operands alone, each of these commands answers a next state with the effect of its own given here: LINK_LOCK, DIE_MEASURE_DONE, RECAL_START, RECAL_APPLY. (02_tamp_time.md R80, 02_tamp_time.md R83, 02_tamp_time.md R84, 02_tamp_time.md R86, 02_tamp_time.md R87, 02_tamp_time.md R89) -/
def Obligations.LaneCalibration : Prop :=
  ∀ (s : State) (n : Fin 64) (rx tx : BitVec 24),
    (s.run = true → s.hasLane n = true → s.laneDead n = false → ∃ u, exec (.linkLock n) s = .next u
      ∧ FMap.get false u.tamp.laneUp n = true ∧ FMap.get false u.tamp.measuring n = true)
    ∧ (FMap.get false s.tamp.measuring n = true → ∃ u, exec (.dieMeasureDone n rx tx) s = .next u
      ∧ u.rdInt (TMP_LDIE.RX_DIE n) = rx.toInt ∧ u.rdInt (TMP_LDIE.TX_DIE n) = tx.toInt ∧ u.rd (TMP_LEXCESS.RX_EXCESS_PS n) = 0 ∧ u.rd (TMP_LEXCESS.TX_EXCESS_PS n) = 0
      ∧ u.flag (TMP_LDIE.VALID n) = true ∧ u.rd (TMP_LDIE.GEN n) = (s.rd (TMP_LDIE.GEN n) + 1) % 2 ^ (TMP_LDIE.GEN n).width
      ∧ FMap.get false u.tamp.measuring n = false
      ∧ ∀ p, s.portOfLane n = some p → (s.lanesOf p).all (fun l => FMap.get false s.tamp.laneUp l && (l == n.val || !FMap.get false s.tamp.measuring l)) = true →
          u.flag (SEQ_PST.LINK p) = true)
    ∧ (∀ p, s.rd TMP_RECAL_CFG.PERIOD_S ≠ 0 → FMap.get 0 s.tamp.measured n + s.rd TMP_RECAL_CFG.PERIOD_S * 1250000000 ≤ s.ticks → s.portOfLane n = some p → s.flag (SEQ_PST.LINK p) = true → s.flag (TMP_LDIE.VALID n) = true →
        s.laneBusy n = false → s.tamp.recal = none →
      ∃ u, exec (.recalStart n) s = .next u ∧ u = { s with tamp := { s.tamp with recal := some n } })
    ∧ (s.tamp.recal = some n → s.laneBusy n = false →
      let dr := (rx.toInt - s.rdInt (TMP_LDIE.RX_DIE n)).natAbs * 1000
      let dt := (tx.toInt - s.rdInt (TMP_LDIE.TX_DIE n)).natAbs * 1000
      let lim := s.rd TMP_RECAL_CFG.LIMIT_PS * 4096
      (dr ≤ lim → dt ≤ lim → ∃ u, exec (.recalApply n rx tx) s = .next u ∧ u.rdInt (TMP_LDIE.RX_DIE n) = rx.toInt ∧ u.rdInt (TMP_LDIE.TX_DIE n) = tx.toInt
        ∧ u.tamp.recal = none ∧ u.rd (TMP_LDIE.GEN n) = (s.rd (TMP_LDIE.GEN n) + 1) % 2 ^ (TMP_LDIE.GEN n).width)
      ∧ (lim < dr → lim < dt → ∃ u, exec (.recalApply n rx tx) s = .next u ∧ u.rd (TMP_LDIE.RX_DIE n) = s.rd (TMP_LDIE.RX_DIE n)
        ∧ u.rd (TMP_LDIE.TX_DIE n) = s.rd (TMP_LDIE.TX_DIE n) ∧ u.flag (TMP_LDIE.REJECT n) = true ∧ u.tamp.recal = none
        ∧ u.rd TMP_CNT.RECAL_REJECTED = min (s.rd TMP_CNT.RECAL_REJECTED + 1) (2 ^ TMP_CNT.RECAL_REJECTED.width - 1)))

/-- O5. Whatever a tick, a PTP message, a PPS edge, the loss of a source, a consent, a step, a correction's end, a decline, a setting of the time, the enabling of stamping, a calibration command or a TRACE record does, the timebase after it is at least the timebase before; and if the magnitude of ADJ × 2^-48 is at most 200 ppm before, it is after. With such an ADJ a tick adds at least 0.4 ns × (1 − 200 × 10^-6). (02_tamp_time.md R51, 02_tamp_time.md R52) -/
def Obligations.TimeNeverRunsBackwards : Prop :=
  (∀ (s u : State) (c : Instr) (k : Fin 4) (sub : Fin 3277) (msg : List Byte) (src : Fin 6) (sl : Fin 256) (n : Fin 64) (rx tx : BitVec 24),
    c ∈ [.timebaseTick, .etimeEval, .ptpMessageRx k, .ptpEventTx k sub msg, .ppsInEdge sub, .sourceLost src, .ppsOutEdge, .snapTake,
      .timeStepConsent sl, .timeStepApply, .correctionEnd, .timeStepDecline sl, .timeSetTod sl, .timeStartUnlocked sl, .stampingEnable,
      .linkLock n, .dieMeasureDone n rx tx, .recalStart n, .recalApply n rx tx, .traceSubmit] → exec c s = .next u →
    s.tamp.tb ≤ u.tamp.tb ∧ ((s.rdInt TMP_RATE.ADJ).natAbs ≤ 56294995342 → (u.rdInt TMP_RATE.ADJ).natAbs ≤ 56294995342))
  ∧ (∀ s u : State, (s.rdInt TMP_RATE.ADJ).natAbs ≤ 56294995342 → exec .timebaseTick s = .next u →
      s.tamp.tb + 2 * 2 ^ 32 * (2 ^ 48 - 56294995342) ≤ u.tamp.tb)

/-- O6. FRAME_START on a port that is up puts the stamped frame in progress. FRAME_END of a good frame of legal length on an active port posts a PENDING slot from its reserve or the shared pool, a bad one is counted, and a PTP message of a timing port goes to its timing slot instead; FRAME_PASSES_MAXLEN and FIP_TIMEOUT discard and count a frame. PORT_LINK_LOSS cuts and counts the frames in progress and makes the port LEAVING, and RECCLK_OUT that follows that port's slot goes static low; PORT_LEAVE takes it out of the active set; PORT_JOIN puts a port in, and the frames captured earlier are not its own. PARSE_LATE drops and counts a late slot. COMPLETION: under the conditions given, on the state and the operands alone, each of these commands answers a next state with the effect of its own given here: FRAME_START, FRAME_END, FRAME_PASSES_MAXLEN, FIP_TIMEOUT, PORT_LINK_LOSS, PORT_LEAVE, PORT_JOIN, PARSE_LATE. (02_tamp_time.md R56, 03_fair_merge.md R93, 03_fair_merge.md R94, 03_fair_merge.md R98, 03_fair_merge.md R99, 03_fair_merge.md R100, 03_fair_merge.md R101, 03_fair_merge.md R104, 06_carafe_journal.md R237, 15_power_clocks_package.md R557) -/
def Obligations.PortsAndSlots : Prop :=
  ∀ (s : State) (p : Fin 64),
    let counted := fun (u : State) (f : Fld) (k : Nat) => u.rd f = min (s.rd f + k) (2 ^ f.width - 1)
    (∀ sub : Fin 3277, s.portUp p = true → ∃ u, exec (.frameStart p sub) s = .next u ∧ u.framesOf p = s.framesOf p
        ++ [{ stamp := stampOf (tbShift (s.tbAt sub) (-(s.rxTotal (s.rd (SEQ_PORT.LANE0 p))))) (s.portClass p true), early := !s.constrains p }])
    ∧ (∀ (data : List Byte) (good : Bool) (f : Frame) (fs : List Frame), s.framesOf p = f :: fs → f.early = false → s.constrains p = true →
      (∀ sh, good = true → 64 ≤ data.length + 4 → data.length + 4 ≤ s.rd (SEQ_PORT.MAXLEN p) → (s.isTiming p && (ptpOf data).isSome) = false → s.slotPool p = some sh →
        ∃ u, exec (.frameEnd p data good) s = .next u ∧ u.framesOf p = fs
          ∧ u.slotsOf p = s.slotsOf p ++ [{ stamp := f.stamp, st := .pending, shared := sh, cand := { stamp := f.stamp, port := p }, data := data, copied := false }])
      ∧ (good = false ∨ data.length + 4 < 64 ∨ s.rd (SEQ_PORT.MAXLEN p) < data.length + 4 →
        ∃ u, exec (.frameEnd p data good) s = .next u ∧ u.framesOf p = fs ∧ u.slotsOf p = s.slotsOf p ∧ counted u (SEQ_PCNT0.BAD_FRAME p) 1))
    ∧ (∀ (data : List Byte) (f : Frame) (fs : List Frame) (k tr : Nat) (m : List Byte), s.framesOf p = f :: fs → 64 ≤ data.length + 4 →
        data.length + 4 ≤ s.rd (SEQ_PORT.MAXLEN p) → [0, 1, 2, 3].find? (fun j => s.tport j == some p.val) = some k → ptpOf data = some (tr, m) →
        tr = s.rd (TMP_PTP_CFG.TRANSPORT k) →
      ∃ u, exec (.frameEnd p data true) s = .next u ∧ u.framesOf p = fs ∧ (u.ptpSlot k).inbox = (s.ptpSlot k).inbox ++ [(f.stamp, m)] ∧ u.slotsOf p = s.slotsOf p)
    ∧ (∀ f, (s.framesOf p).getLast? = some f → f.early = false → ∃ u, exec (.framePassesMaxlen p) s = .next u ∧ u.framesOf p = (s.framesOf p).dropLast
        ∧ counted u (SEQ_PCNT0.BAD_FRAME p) 1)
    ∧ (let late : Frame → Bool := fun f => decide (stampTb f.stamp + s.fipLimit p * (5 * 2 ^ 80) < s.tamp.tb)
      (s.framesOf p).any late = true → ∃ u, exec (.fipTimeout p) s = .next u ∧ u.framesOf p = dropFirst late (s.framesOf p) ∧ counted u (SEQ_PCNT1.FIP_TIMEOUT p) 1)
    ∧ (s.flag (SEQ_PST.LINK p) = true → ∃ u, exec (.portLinkLoss p) s = .next u ∧ u.flag (SEQ_PST.LINK p) = false ∧ u.framesOf p = []
        ∧ u.flag (SEQ_PST.LEAVING p) = true ∧ counted u (SEQ_PCNT1.LINK_CUT p) (s.framesOf p).length
        ∧ (s.flag CLK_RECCLK.FOLLOW = false → s.tport (s.rd CLK_RECCLK.SLOT) = some p.val → u.recclkOut = none))
    ∧ (s.flag (SEQ_PST.LEAVING p) = true → s.slotsOf p = [] → FMap.get 0 s.merge.lossAt p + 2 * s.rd SEQ_CFG.WINDOW_NS * (5 * 2 ^ 80) ≤ s.tamp.tb →
        ∃ u, exec (.portLeave p) s = .next u ∧ u.flag (SEQ_PST.LEAVING p) = false ∧ u.flag (SEQ_PST.ACTIVE p) = false)
    ∧ (s.mayJoin p = true → ∃ u, exec (.portJoin p) s = .next u ∧ u.flag (SEQ_PST.ACTIVE p) = true ∧ ∀ f ∈ u.framesOf p, f.early = true)
    ∧ (let late : Slot → Bool := fun t => t.st == .pending && decide (stampTb t.stamp + (s.rd SEQ_CFG.WINDOW_NS + s.rd SEQ_CFG.PARSE_LIMIT_NS) * (5 * 2 ^ 80) ≤ s.tamp.tb)
      (s.slotsOf p).any late = true → ∃ u, exec (.parseLate p) s = .next u ∧ counted u SEQ_CNT.PARSE_LATE 1
        ∧ u.slotsOf p = mapFirst late (fun t => { t with st := .dropped }) (s.slotsOf p))

/-- O7. With no dropped slot at a head and nothing waiting in Tamp, MERGE_RELEASE offers the head of least key when it is READY, its window has elapsed, nothing holds it and the merge lane is empty. DISPATCH puts the first message whose channel has a free entry on its way to it. VERDICT_DEADLINE gives LATE_VALUE to every issued record whose deadline has come without a verdict. COMPLETION: under the conditions given, on the state and the operands alone, each of these commands answers a next state with the effect of its own given here: MERGE_RELEASE, DISPATCH, VERDICT_DEADLINE. (03_fair_merge.md R103, 03_fair_merge.md R109, 05_dyaris_isa.md R185, 06_carafe_journal.md R209) -/
def Obligations.ReleaseAndVerdicts : Prop :=
  ∀ s : State,
    (∀ p t, (∀ q, q < 65 → ∀ h, (s.slotsOf q).head? = some h → h.st ≠ .dropped) → s.tamp.waiting = [] → s.leastHead = some (p, t) → t.st = .ready →
        s.releasable t.stamp = true → s.merge.lane = [] →
      ∃ u, exec .mergeRelease s = .next u ∧ u.merge.lane = [t.cand] ∧ u.merge.lastRel = some t.stamp ∧ u.slotsOf p = (s.slotsOf p).tail
        ∧ u.rd SEQ_LAST_REL.STAMP_LO = t.stamp % 2 ^ 64)
    ∧ (∀ r k c i, s.dispatchable = some (r, k, c, i) → ∃ u, exec .dispatch s = .next u
        ∧ u.chan k c = { s.chan k c with inflight := (s.chan k c).inflight ++ [dispatchMsg r i] }
        ∧ u.merge.dispatch = dropFirst (fun x => x.seq == r.seq) s.merge.dispatch
        ∧ u = { s with merge := { s.merge with dispatch := u.merge.dispatch }, dy := { s.dy with chans := u.dy.chans } })
    ∧ ((s.crf.issued.map (fun i => i.r.seq)).Nodup → ∃ u, exec .verdictDeadline s = .next u
        ∧ (∀ i ∈ u.crf.issued, i.fixed = true ∨ s.deadline i = false)
        ∧ (∀ j ∈ s.crf.issued, j.fixed = false → s.deadline j = true →
            ∃ i ∈ u.crf.issued, i.r.seq = j.r.seq ∧ i.verdict = some (s.rd CRF_VERDICT_CFG.LATE_VALUE))
        ∧ (∀ j ∈ s.crf.issued, j.fixed = true ∨ s.deadline j = false → j ∈ u.crf.issued))

/-- O8. While the sequencer issues and no epoch roll is due, SEQUENCE_ISSUE with a merge record and a host record offered issues the merge record in an even cycle and the host record in an odd one, and with one lane offering issues that one; the issued record takes the number SEQ_NEXT, is appended to the records issued, leaves its lane, and SEQ_NEXT becomes the number after it. The host lane offers a device record ahead of a host record. MERGE_RELEASE never leaves the merge lane with more than one record on offer. COMPLETION: under the conditions given, on the state and the operands alone, each of these commands answers a next state with the effect of its own given here: SEQUENCE_ISSUE. (03_fair_merge.md R109) -/
def Obligations.LanesTakeTurns : Prop :=
  (∀ (s : State) (m h : List Rec), s.issuing = true → seqIndex (s.rd SEQ_NEXT.NEXT) + 1 ≠ 2 ^ s.rd SEQ_CFG.ROLL_LOG2 →
      m = s.merge.lane → h = s.merge.device ++ s.merge.host → m ++ h ≠ [] →
    let mergeTurn : Bool := !m.isEmpty && (h.isEmpty || s.merge.cycle % 2 == 0)
    ∃ u i, exec .sequenceIssue s = .next u ∧ u.merge.cycle = s.merge.cycle + 1 ∧ u.crf.issued = s.crf.issued ++ [i] ∧ i.r.seq = s.rd SEQ_NEXT.NEXT
      ∧ u.rd SEQ_NEXT.NEXT = i.r.after % 2 ^ 64
      ∧ (mergeTurn = true → u.merge.lane = m.tail ∧ u.merge.device ++ u.merge.host = h ∧ ∀ r, m.head? = some r → i.r.typ = r.typ ∧ i.r.payload = r.payload ∧ i.r.stamp = r.stamp)
      ∧ (mergeTurn = false → u.merge.lane = m ∧ u.merge.device ++ u.merge.host = h.tail ∧ ∀ r, h.head? = some r → i.r.typ = r.typ ∧ i.r.port = r.port))
  ∧ (∀ s u : State, s.merge.lane.length ≤ 1 → exec .mergeRelease s = .next u → u.merge.lane.length ≤ 1)

/-- O9. Whenever MERGE_RELEASE offers a record, the slot it comes from is READY, its window has elapsed on the timebase, every active port that is not LEAVING has a watermark above its stamp, and no other port's first slot that is not DROPPED has a lower key. (03_fair_merge.md R103, 03_fair_merge.md R105, 03_fair_merge.md R106) -/
def Obligations.ReleaseFollowsTheKey : Prop :=
  ∀ s u : State, exec .mergeRelease s = .next u → u.merge.lane ≠ s.merge.lane →
    ∃ p t, t.st = .ready ∧ u.merge.lane = s.merge.lane ++ [t.cand] ∧ u.merge.lastRel = some t.stamp
      ∧ stampTb t.stamp + s.rd SEQ_CFG.WINDOW_NS * (5 * 2 ^ 80) ≤ s.tamp.tb
      ∧ (∀ q, q < 64 → s.flag (SEQ_PST.ACTIVE q) = true → s.flag (SEQ_PST.LEAVING q) = false → stampKey t.stamp < stampKey (FMap.get 0 s.merge.wm q))
      ∧ (∀ q, q < 64 → ∀ h, ((s.slotsOf q).dropWhile (fun t => t.st == .dropped)).head? = some h → s.slotKey p t ≤ s.slotKey q h)

/-- O10. On a thread that issues, ADD, SUB, AND, OR, XOR, SHL, SHR, SAR, MUL, MULHU, MIN and MAX complete: rd (unless it is g0) takes the table's value modulo 2^64, every other register and B keep their values, the PC goes to (PC + 1) mod 8,192, and nothing of the machine but the thread changes. COMPLETION: under the conditions given, on the state and the operands alone, each of these commands answers a next state with the effect of its own given here: ADD, SUB, AND, OR, XOR, SHL, SHR, SAR, MUL, MULHU, MIN, MAX. (05_dyaris_isa.md R166, 05_dyaris_isa.md R167, 05_dyaris_isa.md R173) -/
def Obligations.RegisterArithmetic : Prop :=
  ∀ (s : State) (t : Fin 8192) (rd rs1 rs2 : Fin 32), s.ready t →
    let x := s.th t
    let a := x.r rs1
    let b := x.r rs2
    let does := fun (c : Instr) (v : Word) => ∃ u, exec c s = .next u ∧ RegStep s u t rd v x.b ((x.pc + 1) % 8192)
    does (.add t rd rs1 rs2) (a + b) ∧ does (.sub t rd rs1 rs2) (a - b) ∧ does (.and t rd rs1 rs2) (a &&& b)
    ∧ does (.or t rd rs1 rs2) (a ||| b) ∧ does (.xor t rd rs1 rs2) (a ^^^ b)
    ∧ does (.shl t rd rs1 rs2) (a <<< (b.toNat % 64)) ∧ does (.shr t rd rs1 rs2) (a >>> (b.toNat % 64))
    ∧ does (.sar t rd rs1 rs2) (a.sshiftRight (b.toNat % 64)) ∧ does (.mul t rd rs1 rs2) (BitVec.ofNat 64 (a.toNat * b.toNat))
    ∧ does (.mulhu t rd rs1 rs2) (BitVec.ofNat 64 (a.toNat * b.toNat / 2 ^ 64))
    ∧ does (.min t rd rs1 rs2) (BitVec.ofInt 64 (min a.toInt b.toInt)) ∧ does (.max t rd rs1 rs2) (BitVec.ofInt 64 (max a.toInt b.toInt))

/-- O11. On a thread that issues, ADDSU and SUBSU write the unsigned sum or difference saturated at 2^64 − 1 or at 0 and set B exactly when it saturated; BSWAP reverses the bytes and POPC counts the 1 bits when rs2 is g0, and both leave B; nothing of the machine but the thread changes. COMPLETION: under the conditions given, on the state and the operands alone, each of these commands answers a next state with the effect of its own given here: ADDSU, SUBSU, BSWAP, POPC. (05_dyaris_isa.md R167, 05_dyaris_isa.md R173) -/
def Obligations.SaturationAndBitCounts : Prop :=
  ∀ (s : State) (t : Fin 8192) (rd rs1 rs2 : Fin 32), s.ready t →
    let x := s.th t
    let a := x.r rs1
    let b := x.r rs2
    (∃ u, exec (.addsu t rd rs1 rs2) s = .next u ∧
      RegStep s u t rd (BitVec.ofNat 64 (min (a.toNat + b.toNat) (2 ^ 64 - 1))) (decide (2 ^ 64 ≤ a.toNat + b.toNat)) ((x.pc + 1) % 8192))
    ∧ (∃ u, exec (.subsu t rd rs1 rs2) s = .next u ∧
      RegStep s u t rd (BitVec.ofNat 64 (a.toNat - b.toNat)) (decide (a.toNat < b.toNat)) ((x.pc + 1) % 8192))
    ∧ (∃ u, exec (.bswap t rd rs1 0) s = .next u ∧
      RegStep s u t rd (BitVec.ofNat 64 (beNat (leBytes 8 a.toNat))) x.b ((x.pc + 1) % 8192))
    ∧ (∃ u, exec (.popc t rd rs1 0) s = .next u ∧
      RegStep s u t rd (BitVec.ofNat 64 ((List.range 64).countP (fun i => a.getLsbD i))) x.b ((x.pc + 1) % 8192))

/-- O12. On a thread that issues, ADDI adds the sign-extended immediate; ANDI, ORI and XORI use the zero-extended one; SHLI, SHRI and SARI shift by an amount from 0 to 63; MOVZ and MOVK place imm16 at bit 16 × hw, MOVK keeping rd's other bits. Nothing of the machine but the thread changes. COMPLETION: under the conditions given, on the state and the operands alone, each of these commands answers a next state with the effect of its own given here: ADDI, ANDI, ORI, XORI, SHLI, SHRI, SARI, MOVZ, MOVK. (05_dyaris_isa.md R167, 05_dyaris_isa.md R173) -/
def Obligations.ImmediatesAndMoves : Prop :=
  ∀ (s : State) (t : Fin 8192) (rd rs1 : Fin 32) (imm : Fin 65536) (sh : Fin 64) (hw : Fin 4), s.ready t →
    let x := s.th t
    let a := x.r rs1
    let i16 := BitVec.ofNat 16 imm
    let amt : Fin 65536 := ⟨sh, Nat.lt_trans sh.isLt (by decide)⟩
    let does := fun (c : Instr) (v : Word) => ∃ u, exec c s = .next u ∧ RegStep s u t rd v x.b ((x.pc + 1) % 8192)
    does (.addi t rd rs1 imm) (a + i16.signExtend 64) ∧ does (.andi t rd rs1 imm) (a &&& i16.setWidth 64)
    ∧ does (.ori t rd rs1 imm) (a ||| i16.setWidth 64) ∧ does (.xori t rd rs1 imm) (a ^^^ i16.setWidth 64)
    ∧ does (.shli t rd rs1 amt) (a <<< sh.val) ∧ does (.shri t rd rs1 amt) (a >>> sh.val) ∧ does (.sari t rd rs1 amt) (a.sshiftRight sh.val)
    ∧ does (.movz t rd hw 0 imm) (i16.setWidth 64 <<< (16 * hw.val))
    ∧ does (.movk t rd hw 0 imm) ((x.r rd &&& ~~~(0xFFFF#64 <<< (16 * hw.val))) ||| (i16.setWidth 64 <<< (16 * hw.val)))

/-- O13. On a thread that issues, BR with a defined condition goes to (PC + sign-extended off12) mod 8,192 when its condition holds and to (PC + 1) mod 8,192 otherwise, and writes nothing; JAL goes to (PC + sign-extended off13) mod 8,192 and JR to rs1 mod 8,192, both writing PC + 1 to rd. That the link value is not reduced modulo 8,192 is the model's reading (log entry 20). COMPLETION: under the conditions given, on the state and the operands alone, each of these commands answers a next state with the effect of its own given here: BR, JAL, JR. (05_dyaris_isa.md R166, 05_dyaris_isa.md R174) -/
def Obligations.Branches : Prop :=
  ∀ (s : State) (t : Fin 8192) (rd rs1 rs2 : Fin 32) (cond : Fin 6) (neg : Bool) (off : Fin 4096) (off13 : Fin 8192), s.ready t →
    let x := s.th t
    let holds : Bool := match cond.val with
      | 0 => x.r rs1 == x.r rs2 | 1 => x.r rs1 != x.r rs2
      | 2 => decide ((x.r rs1).toInt < (x.r rs2).toInt) | 3 => decide ((x.r rs2).toInt ≤ (x.r rs1).toInt)
      | 4 => decide ((x.r rs1).toNat < (x.r rs2).toNat) | _ => decide ((x.r rs2).toNat ≤ (x.r rs1).toNat)
    let there (h : Bool) := if h then (((x.pc : Int) + (BitVec.ofNat 12 off).toInt) % 8192).toNat else (x.pc + 1) % 8192
    (∃ u, exec (.br t rs1 rs2 ⟨cond, Nat.lt_trans cond.isLt (by decide)⟩ off) s = .next u ∧ RegStep s u t 0 0 x.b (there holds))
    ∧ (∃ u, exec (.br t 0 0 (if neg then 7 else 6) off) s = .next u ∧ RegStep s u t 0 0 x.b (there (x.b != neg)))
    ∧ (∃ u, exec (.jal t rd 0 off13) s = .next u ∧
        RegStep s u t rd (BitVec.ofNat 64 (x.pc + 1)) x.b ((((x.pc : Int) + (BitVec.ofNat 13 off13).toInt) % 8192).toNat))
    ∧ (∃ u, exec (.jr t rd rs1 0 0) s = .next u ∧ RegStep s u t rd (BitVec.ofNat 64 (x.pc + 1)) x.b ((x.r rs1).toNat % 8192))

/-- O14. On a thread that issues, with pos + len at most 64, FXT writes the field of rs1 zero-extended, FXTS sign-extended, and FINS inserts the low len bits of rs1 in rd at pos; RCHK sets its bit of rd when its mode's condition holds and leaves rd otherwise; FXTB with a 32-byte aligned template in engine data memory whose reserved bits are 0, and no uncorrectable word in the bytes it reads, writes g24 to g31: 0 for a descriptor that is not VALID, an entry not in use or a field past the frame, else the field's bytes; B says that the descriptor is not VALID or a field ran past the frame. A field whose bytes lie past engine data memory has no stated value. COMPLETION: under the conditions given, on the state and the operands alone, each of these commands answers a next state with the effect of its own given here: FXT, FXTS, FINS, RCHK, FXTB. (05_dyaris_isa.md R175, 05_dyaris_isa.md R176, 05_dyaris_isa.md R189) -/
def Obligations.FieldInstructions : Prop :=
  ∀ (s : State) (t : Fin 8192) (rd rs1 rs2 : Fin 32), s.ready t →
    let x := s.th t
    let a := x.r rs1
    (∀ (pos len1 : Fin 64), pos.val + (len1.val + 1) ≤ 64 →
      let n := len1.val + 1
      let f := a.toNat / 2 ^ pos.val % 2 ^ n
      (∃ u, exec (.fxt t rd rs1 pos len1) s = .next u ∧ RegStep s u t rd (BitVec.ofNat 64 f) x.b ((x.pc + 1) % 8192))
      ∧ (∃ u, exec (.fxts t rd rs1 pos len1) s = .next u ∧ RegStep s u t rd ((BitVec.ofNat n f).signExtend 64) x.b ((x.pc + 1) % 8192))
      ∧ (∃ u v, exec (.fins t rd rs1 pos len1) s = .next u ∧ RegStep s u t rd v x.b ((x.pc + 1) % 8192)
          ∧ ∀ i, i < 64 → v.getLsbD i = if pos.val ≤ i ∧ i < pos.val + n then a.getLsbD (i - pos.val) else (x.r rd).getLsbD i))
    ∧ (∀ (mode : Fin 4) (k : Fin 16),
      let b := x.r rs2
      let holds : Bool := match mode.val with
        | 0 => decide (b.toNat < a.toNat) | 1 => decide (b.toInt < a.toInt) | 2 => decide (a.toInt < b.toInt) | _ => a != b
      ∃ u, exec (.rchk t rd rs1 rs2 ⟨mode.val * 16 + k.val, by omega⟩) s = .next u
        ∧ RegStep s u t rd (if holds then x.r rd ||| (1#64 <<< k.val) else x.r rd) x.b ((x.pc + 1) % 8192))
    ∧ (∀ o, (x.r rs2).toNat % 32 = 0 → memRegion t (x.r rs2).toNat 32 = .dmem o →
      let m := State.memOf s.dy.dmem (t.val / 8)
      let e := fun j => BitVec.ofNat 32 (leNat (m.readBytes (o + 4 * j) 4))
      let n := fun j => ((e j).extractLsb' 14 3).toNat + 1
      let off := fun j => ((e j).extractLsb' 0 14).toNat
      let past := fun j => (e j).getLsbD 19 && decide ((a.extractLsb' 16 14).toNat < off j + n j)
      let reads := fun j => a.getLsbD 63 && (e j).getLsbD 19 && !past j
      let addr := fun j => (a.extractLsb' 0 16).toNat + off j
      (∀ j, j < 8 → (e j).extractLsb' 20 12 = 0) → s.badWord t (.dmem o) 32 = none →
      (∀ j, j < 8 → reads j = true → addr j + n j ≤ 0x10000 → s.badWord t (.dmem (addr j)) (n j) = none) →
      ∃ u, exec (.fxtb t 0 rs1 rs2 0) s = .next u ∧ u = { s with free := u.free }.setTh t (u.th t) ∧ (u.th t).pc = (x.pc + 1) % 8192
        ∧ (u.th t).b = (!a.getLsbD 63 || (List.range 8).any past)
        ∧ (∀ k, (k < 24 ∨ 31 < k) → (u.th t).r k = x.r k)
        ∧ (∀ j, j < 8 → reads j = false → (u.th t).r (24 + j) = 0)
        ∧ (∀ j, j < 8 → reads j = true → addr j + n j ≤ 0x10000 →
            (u.th t).r (24 + j) = BitVec.ofNat 64 (accValue (m.readBytes (addr j) (n j)) ((e j).getLsbD 18) ((e j).getLsbD 17))))

/-- O15. On a thread that issues, an aligned LD from engine data memory, instruction memory or the own cluster's SRAM that meets no uncorrectable word writes rt with the bytes read (reversed for be, sign-extended for sx) and changes nothing but the thread; one from the own cluster block gives the register's value, with what that read clears cleared; one that the region makes variable-class leaves the thread in MEMWAIT with its registers unchanged, and ACCESS_COMPLETE with data from GDDR7 then writes rt and resumes the thread. COMPLETION: under the conditions given, on the state and the operands alone, each of these commands answers a next state with the effect of its own given here: LD, ACCESS_COMPLETE. (05_dyaris_isa.md R177, 04_dyaris_threads.md R122, 04_dyaris_threads.md R131) -/
def Obligations.LoadsCompleteByRegion : Prop :=
  ∀ (s : State) (t : Fin 8192) (rt base : Fin 32) (size : Fin 4) (sx be : Bool) (off : Fin 4096),
    let x := s.th t
    let a := (x.r base + (BitVec.ofNat 12 off).signExtend 64).toNat
    let n := 2 ^ size.val
    (s.ready t → a % n = 0 →
      (∀ (o : Nat) (m : Memory), (memRegion t a n = .dmem o ∧ m = State.memOf s.dy.dmem (t.val / 8))
          ∨ (memRegion t a n = .imem o ∧ m = State.memOf s.dy.imem (t.val / 8)) ∨ (memRegion t a n = .sram o ∧ m = State.memOf s.dy.sram (t.val / 128)) →
        s.badWord t (memRegion t a n) n = none →
        ∃ u, exec (.ld t rt base size sx be off) s = .next u
          ∧ RegStep s u t rt (BitVec.ofNat 64 (accValue (m.readBytes o n) sx be)) x.b ((x.pc + 1) % 8192))
      ∧ (∀ o, memRegion t a n = .block o → 4 ≤ n →
        let q := s.readReg (0x1000000 + 0x20000 * (t.val / 128) + o) n
        ∃ u, exec (.ld t rt base size sx be off) s = .next u ∧ u = q.2.setTh t (u.th t) ∧ (u.th t).pc = (x.pc + 1) % 8192
          ∧ ∀ k, (u.th t).r k = if k = rt.val ∧ rt ≠ 0 then BitVec.ofNat 64 (accValue (leBytes n q.1) sx be) else (q.2.th t).r k)
      ∧ ((memRegion t a n).variable = true → s.mayRead t (memRegion t a n) n = true →
        ∃ u, exec (.ld t rt base size sx be off) s = .next u ∧ u = s.setTh t (u.th t) ∧ (u.th t).st = .memwait
          ∧ (u.th t).acc = some (.load rt a n sx be) ∧ (u.th t).pc = (x.pc + 1) % 8192 ∧ (u.th t).b = x.b ∧ ∀ k, (u.th t).r k = x.r k))
    ∧ (∀ o addr, s.run = true → x.st = .memwait → x.acc = some (.load rt addr n sx be) → memRegion t addr n = .gddr o →
      ∃ u, exec (.accessComplete t false) s = .next u ∧ u = s.setTh t (u.th t) ∧ (u.th t).acc = none
        ∧ (u.th t).st = (if x.haltReq then .halt else .run) ∧ (u.th t).b = x.b ∧ (u.th t).pc = x.pc
        ∧ ∀ k, (u.th t).r k = if k = rt.val ∧ rt ≠ 0 then BitVec.ofNat 64 (accValue (s.gddr.readBytes o n) sx be) else x.r k)

/-- O16. On a thread that issues, an aligned ST that may write engine data memory or the own cluster's SRAM stores the low bytes of rt (reversed for be) at its address and leaves every other byte, every register and B; to the own cluster block it writes the register; a variable-class one leaves the thread in MEMWAIT, and ACCESS_COMPLETE then writes GDDR7. AADD on the own cluster's SRAM, where it meets no uncorrectable word, adds rs2 to the 8-byte word at rs1 modulo 2^64 and returns the old value in rd. COMPLETION: under the conditions given, on the state and the operands alone, each of these commands answers a next state with the effect of its own given here: ST, AADD. (05_dyaris_isa.md R177, 05_dyaris_isa.md R178, 04_dyaris_threads.md R122, 04_dyaris_threads.md R128, 04_dyaris_threads.md R131) -/
def Obligations.StoresWriteTheirBytes : Prop :=
  ∀ (s : State) (t : Fin 8192) (rt rd rs1 rs2 base : Fin 32) (size : Fin 4) (be : Bool) (off : Fin 4096),
    let x := s.th t
    let a := stAddr x base off
    let n := 2 ^ size.val
    let bs := accBytes n ((x.r rt).toNat % 2 ^ (8 * n)) be
    (s.ready t → a % n = 0 → s.mayWrite t (memRegion t a n) n = true →
      (∀ o, memRegion t a n = .dmem o →
        ∃ u, exec (.st t rt base size false be off) s = .next u ∧ RegStep { s with dy := { s.dy with dmem := u.dy.dmem } } u t 0 0 x.b ((x.pc + 1) % 8192)
          ∧ (State.memOf u.dy.dmem (t.val / 8)).readBytes o n = bs
          ∧ ∀ g c, ¬(g = t.val / 8 ∧ o ≤ c ∧ c < o + n) → (State.memOf u.dy.dmem g).read c = (State.memOf s.dy.dmem g).read c)
      ∧ (∀ o, memRegion t a n = .sram o →
        ∃ u, exec (.st t rt base size false be off) s = .next u ∧ RegStep { s with dy := { s.dy with sram := u.dy.sram } } u t 0 0 x.b ((x.pc + 1) % 8192)
          ∧ (State.memOf u.dy.sram (t.val / 128)).readBytes o n = bs
          ∧ ∀ k c, ¬(k = t.val / 128 ∧ o ≤ c ∧ c < o + n) → (State.memOf u.dy.sram k).read c = (State.memOf s.dy.sram k).read c)
      ∧ (∀ o s', memRegion t a n = .block o → (s.setTh t x.nextPc).storeBlock t o n (leNat bs) = some s' →
        ∃ u, exec (.st t rt base size false be off) s = .next u ∧ u = s'.setTh t (s'.th t).afterStep)
      ∧ ((memRegion t a n).variable = true →
        ∃ u, exec (.st t rt base size false be off) s = .next u ∧ u = s.setTh t (u.th t) ∧ (u.th t).st = .memwait ∧ (u.th t).pc = (x.pc + 1) % 8192
          ∧ (u.th t).acc = some (.store a n ((x.r rt).toNat % 2 ^ (8 * n)) be) ∧ (u.th t).b = x.b ∧ ∀ k, (u.th t).r k = x.r k))
    ∧ (∀ o addr v, s.run = true → x.st = .memwait → x.acc = some (.store addr n v be) → memRegion t addr n = .gddr o →
      ∃ u, exec (.accessComplete t false) s = .next u ∧ u = { s with gddr := u.gddr }.setTh t (u.th t) ∧ u.gddr.readBytes o n = accBytes n v be
        ∧ (∀ c, (c < o ∨ o + n ≤ c) → u.gddr.read c = s.gddr.read c) ∧ (u.th t).st = (if x.haltReq then .halt else .run)
        ∧ (u.th t).acc = none ∧ ∀ k, (u.th t).r k = x.r k)
    ∧ (∀ o, s.ready t → (x.r rs1).toNat % 8 = 0 → memRegion t (x.r rs1).toNat 8 = .sram o → s.badWord t (.sram o) 8 = none →
      let old := BitVec.ofNat 64 (leNat ((State.memOf s.dy.sram (t.val / 128)).readBytes o 8))
      ∃ u, exec (.aadd t rd rs1 rs2 0) s = .next u ∧ RegStep { s with dy := { s.dy with sram := u.dy.sram } } u t rd old x.b ((x.pc + 1) % 8192)
        ∧ (State.memOf u.dy.sram (t.val / 128)).readBytes o 8 = leBytes 8 (old + x.r rs2).toNat
        ∧ ∀ k c, ¬(k = t.val / 128 ∧ o ≤ c ∧ c < o + 8) → (State.memOf u.dy.sram k).read c = (State.memOf s.dy.sram k).read c)

/-- O17. On a thread that issues, TLK of a resident entry without an uncorrectable word writes the entry's words to rt and the registers after it, and TST writes rt to word w of a resident entry; of a spilled one both leave the thread in MEMWAIT. DMA with fewer than four copies outstanding takes its descriptor and clears B, with four it sets B and takes nothing. DMA_COMPLETE of the oldest copy, from GDDR7 to engine data memory, copies the bytes, leaves every other byte, and makes the DMA event pending. COMPLETION: under the conditions given, on the state and the operands alone, each of these commands answers a next state with the effect of its own given here: TLK, TST, DMA, DMA_COMPLETE. (05_dyaris_isa.md R187, 05_dyaris_isa.md R188, 05_dyaris_isa.md R200, 05_dyaris_isa.md R201) -/
def Obligations.TablesAndCopies : Prop :=
  ∀ (s : State) (t : Fin 8192) (rt rs rs1 : Fin 32) (tbl : Fin 16) (w : Fin 8),
    let x := s.th t
    let k := t.val / 128
    let n := 2 ^ s.rd (CLU_TBL.ENTRY k tbl)
    let i := (x.r rs).toNat
    let res := s.rd (CLU_TBLS.RES k tbl)
    let m := State.memOf s.dy.sram k
    let at_ := s.rd (CLU_TBL.BASE_64 k tbl) * 64 + i * (8 * n)
    let far := s.rd (CLU_TBLS.SPILL_4K k tbl) * 4096 + (i - res) * (8 * n)
    let waits := fun (c : Instr) (acc : Access) => ∃ u, exec c s = .next u ∧ u = s.setTh t (u.th t) ∧ (u.th t).st = .memwait ∧ (u.th t).acc = some acc
      ∧ (u.th t).pc = (x.pc + 1) % 8192 ∧ (u.th t).b = x.b ∧ ∀ r, (u.th t).r r = x.r r
    (s.ready t → s.flag (CLU_TBL.EN k tbl) = true → i < s.rd (CLU_TBL.COUNT k tbl) → rt.val + n ≤ 32 →
      (i < res → s.badWord t (.sram at_) (8 * n) = none → ∃ u, exec (.tlk t rt rs tbl w 0) s = .next u ∧ u = s.setTh t (u.th t) ∧ (u.th t).pc = (x.pc + 1) % 8192 ∧ (u.th t).b = x.b
        ∧ ∀ r, (u.th t).r r = if r ≠ 0 ∧ rt.val ≤ r ∧ r < rt.val + n then BitVec.ofNat 64 (leNat (m.readBytes (at_ + 8 * (r - rt.val)) 8)) else x.r r)
      ∧ (res ≤ i → waits (.tlk t rt rs tbl w 0) (.lookup rt far n)))
    ∧ (s.ready t → s.flag (CLU_TBL.EN k tbl) = true → i < s.rd (CLU_TBL.COUNT k tbl) → w.val < n →
      (i < res → ∃ u, exec (.tst t rt rs tbl w 0) s = .next u ∧ RegStep { s with dy := { s.dy with sram := u.dy.sram } } u t 0 0 x.b ((x.pc + 1) % 8192)
        ∧ (State.memOf u.dy.sram k).readBytes (at_ + 8 * w.val) 8 = leBytes 8 (x.r rt).toNat
        ∧ ∀ j c, ¬(j = k ∧ at_ + 8 * w.val ≤ c ∧ c < at_ + 8 * w.val + 8) → (State.memOf u.dy.sram j).read c = (State.memOf s.dy.sram j).read c)
      ∧ (res ≤ i → waits (.tst t rt rs tbl w 0) (.spill (far + 8 * w.val) (x.r rt).toNat)))
    ∧ (s.ready t → 4 ≤ x.dmas.length → ∃ u, exec (.dma t 0 rs1 0 0) s = .next u ∧ RegStep s u t 0 0 true ((x.pc + 1) % 8192))
    ∧ (∀ o, s.ready t → x.dmas.length < 4 → (x.r rs1).toNat % 8 = 0 → memRegion t (x.r rs1).toNat 32 = .dmem o →
      s.badWord t (.dmem o) 32 = none →
      let d := (State.memOf s.dy.dmem (t.val / 8)).readBytes o 32
      s.dmaCheck t (x.r rs1).toNat (field d 0 8) (field d 8 8) (field d 16 4) = none →
      ∃ u, exec (.dma t 0 rs1 0 0) s = .next u ∧ u = s.setTh t (u.th t) ∧ (u.th t).b = false ∧ (u.th t).pc = (x.pc + 1) % 8192
        ∧ (u.th t).dmas = x.dmas ++ [{ src := field d 0 8, dst := field d 8 8, len := field d 16 4, tag := field d 24 8 }] ∧ ∀ r, (u.th t).r r = x.r r)
    ∧ (∀ (d : Dma) rest o p, s.run = true → x.dmas = d :: rest → d.len % 8 = 0 → o + d.len ≤ 60 * 2 ^ 30 → d.src = 0x10000000000 + o
        → (∀ j, j < d.len / 8 → memRegion t (d.dst + 8 * j) 8 = .dmem (p + 8 * j)) →
      ∃ u, exec (.dmaComplete t false) s = .next u ∧ u = { s with dy := { s.dy with dmem := u.dy.dmem, threads := u.dy.threads } } ∧ (∀ i, i ≠ t.val → u.th i = s.th i)
        ∧ (u.th t).dmas = rest ∧ bitAt (u.th t).pend 2 = true ∧ (State.memOf u.dy.dmem (t.val / 8)).readBytes p d.len = s.gddr.readBytes o d.len
        ∧ ∀ g c, ¬(g = t.val / 8 ∧ p ≤ c ∧ c < p + d.len) → (State.memOf u.dy.dmem g).read c = (State.memOf s.dy.dmem g).read c)

/-- O18. On a thread that issues and would break no lock rule, LCK and LTRY take a free lock and clear B; LCK of a held lock joins its Saucer and waits for LOCK and CTRL, unless one of the two is pending already, when it completes at once with B set and LOCK no longer pending; LTRY sets B; LREL of a lock it holds frees it, or passes it to the Saucer's oldest request and makes LOCK pending for that thread. No other lock changes, nothing outside Dyaris does, and registers keep their values. COMPLETION: under the conditions given, on the state and the operands alone, each of these commands answers a next state with the effect of its own given here: LCK, LTRY, LREL. (05_dyaris_isa.md R190, 05_dyaris_isa.md R191, 04_dyaris_threads.md R144, 04_dyaris_threads.md R145, 04_dyaris_threads.md R146) -/
def Obligations.LocksPassInOrder : Prop :=
  ∀ (s : State) (t : Fin 8192) (rs1 : Fin 32) (imm : Fin 512), s.ready t →
    let x := s.th t
    let k := t.val / 128
    let i := t.val % 128
    let n := ((x.r rs1).toNat + imm.val) % 512
    let l := s.lockOf k n
    let frame := fun (u : State) => u = { s with dy := { s.dy with threads := u.dy.threads, locks := u.dy.locks } }
      ∧ (∀ j, j ≠ k * 512 + n → FMap.get {} u.dy.locks j = FMap.get {} s.dy.locks j) ∧ (u.th t).pc = (x.pc + 1) % 8192 ∧ ∀ r, (u.th t).r r = x.r r
    let mine := fun (u : State) => ∀ j, j ≠ t.val → u.th j = s.th j
    ((∀ m ∈ x.locks, m < n) → x.locks.length < 8 →
      (l.owner = none →
        (∃ u, exec (.lck t 0 rs1 0 imm) s = .next u ∧ frame u ∧ mine u ∧ u.lockOf k n = { l with owner := some i } ∧ (u.th t).locks = x.locks ++ [n]
          ∧ (u.th t).b = false)
        ∧ (∃ u, exec (.ltry t 0 rs1 0 imm) s = .next u ∧ frame u ∧ mine u ∧ u.lockOf k n = { l with owner := some i } ∧ (u.th t).locks = x.locks ++ [n]
          ∧ (u.th t).b = false))
      ∧ (l.owner ≠ none →
        (x.pend &&& (2 ^ 5 + 2 ^ 7) = 0 → ∃ u, exec (.lck t 0 rs1 0 imm) s = .next u ∧ frame u ∧ mine u ∧ u.lockOf k n = { l with saucer := l.saucer ++ [i] }
          ∧ (u.th t).st = .wait ∧ (u.th t).park = some (.lock n) ∧ (u.th t).wmask = 2 ^ 5 + 2 ^ 7 ∧ (u.th t).b = x.b ∧ (u.th t).locks = x.locks)
        ∧ (x.pend &&& (2 ^ 5 + 2 ^ 7) ≠ 0 → ∃ u, exec (.lck t 0 rs1 0 imm) s = .next u ∧ u = s.setTh t (u.th t) ∧ (u.th t).b = true
          ∧ (u.th t).st = x.after ∧ (u.th t).pend = setBits x.pend 5 1 0 ∧ (u.th t).locks = x.locks ∧ (u.th t).pc = (x.pc + 1) % 8192 ∧ ∀ r, (u.th t).r r = x.r r)
        ∧ (∃ u, exec (.ltry t 0 rs1 0 imm) s = .next u ∧ RegStep s u t 0 0 true ((x.pc + 1) % 8192))))
    ∧ (x.locks.contains n = true →
      (l.saucer = [] → ∃ u, exec (.lrel t 0 rs1 0 imm) s = .next u ∧ frame u ∧ mine u ∧ (u.lockOf k n).owner = none
        ∧ (u.th t).locks = x.locks.filter (· != n) ∧ (u.th t).b = x.b)
      ∧ (∀ j rest, l.saucer = j :: rest → k * 128 + j ≠ t.val → ∃ u, exec (.lrel t 0 rs1 0 imm) s = .next u ∧ frame u
        ∧ u.lockOf k n = { owner := some j, saucer := rest } ∧ (u.th t).locks = x.locks.filter (· != n) ∧ (u.th t).b = x.b
        ∧ (u.th (k * 128 + j)).locks = (s.th (k * 128 + j)).locks ++ [n] ∧ bitAt (u.th (k * 128 + j)).pend 5 = true))

/-- O19. On a thread that issues, RSV and RSVT on a channel in use that it may write take the reservation when it is free and clear B; otherwise RSV parks on the channel, unless CHAN_TX or CTRL is pending already, when it completes at once with B set and CHAN_TX no longer pending; RSVT sets B. STG stages rt under the reservation, up to 8 words. SND before the end of the lease makes the staged message visible as the channel's newest, ends the reservation, empties the staging buffer and makes CHAN_RX pending for the reader. RCV by the reader takes the oldest message to rt and the seven registers after it, zero-filled, clears B and records its length, or sets B when there is none. COMPLETION: under the conditions given, on the state and the operands alone, each of these commands answers a next state with the effect of its own given here: RSV, RSVT, STG, SND, RCV. (05_dyaris_isa.md R192, 05_dyaris_isa.md R193, 04_dyaris_threads.md R149, 04_dyaris_threads.md R150, 04_dyaris_threads.md R151) -/
def Obligations.ChannelsCarryMessages : Prop :=
  ∀ (s : State) (t : Fin 8192) (rt rs1 : Fin 32) (imm : Fin 512), s.ready t →
    let x := s.th t
    let k := t.val / 128
    let i := t.val % 128
    let c := ((x.r rs1).toNat + imm.val) % 256
    let ch := s.chan k c
    let free : Bool := ch.holder.isNone && decide (ch.msgs.length + ch.inflight.length + ch.credits < s.rd (CLU_CHAN_CFG.DEPTH k c))
    let frame := fun (u : State) => u = { s with dy := { s.dy with threads := u.dy.threads, chans := u.dy.chans } }
      ∧ (∀ j, j ≠ k * 256 + c → FMap.get {} u.dy.chans j = FMap.get {} s.dy.chans j) ∧ (u.th t).pc = (x.pc + 1) % 8192
    (s.flag (CLU_CHAN_CFG.EN k c) = true → x.rsv = none → bitAt (s.rd (CLU_CHAN_CFG.WGRP_MASK k c)) (s.wgrp t) = true →
      (free = true → ∀ ins, ins = Instr.rsv t 0 rs1 0 imm ∨ ins = Instr.rsvt t 0 rs1 0 imm →
        ∃ u, exec ins s = .next u ∧ frame u ∧ u.chan k c = { ch with holder := some i, granted := s.ticks } ∧ (u.th t).rsv = some (.loc c) ∧ (u.th t).b = false
          ∧ ∀ r, (u.th t).r r = x.r r)
      ∧ (free = false → (x.pend &&& (2 ^ 4 + 2 ^ 7) = 0 → ∃ u, exec (.rsv t 0 rs1 0 imm) s = .next u ∧ frame u ∧ u.chan k c = { ch with saucer := ch.saucer ++ [i] } ∧ (u.th t).st = .wait
          ∧ (u.th t).park = some (.chan c) ∧ (u.th t).wmask = 2 ^ 4 + 2 ^ 7 ∧ (u.th t).b = x.b ∧ ∀ r, (u.th t).r r = x.r r)
        ∧ (x.pend &&& (2 ^ 4 + 2 ^ 7) ≠ 0 → ∃ u, exec (.rsv t 0 rs1 0 imm) s = .next u ∧ u = s.setTh t (u.th t) ∧ (u.th t).b = true
          ∧ (u.th t).st = x.after ∧ (u.th t).pend = setBits x.pend 4 1 0 ∧ (u.th t).rsv = none ∧ ∀ r, (u.th t).r r = x.r r)
        ∧ (∃ u, exec (.rsvt t 0 rs1 0 imm) s = .next u ∧ RegStep s u t 0 0 true ((x.pc + 1) % 8192))))
    ∧ (x.rsv = some (.loc c) → s.flag (CLU_CHAN_CFG.EN k c) = true → x.stage.length < 8 →
      ∃ u, exec (.stg t rt rs1 0 imm) s = .next u ∧ u = s.setTh t (u.th t) ∧ (u.th t).stage = x.stage ++ [x.r rt] ∧ (u.th t).b = x.b
        ∧ (u.th t).pc = (x.pc + 1) % 8192 ∧ ∀ r, (u.th t).r r = x.r r)
    ∧ (x.rsv = some (.loc c) → x.stage ≠ [] → s.leaseOver k c = false →
      ∃ u, exec (.snd t 0 rs1 0 imm) s = .next u ∧ frame u ∧ (u.chan k c).msgs = ch.msgs ++ [x.stage] ∧ (u.th t).b = x.b ∧ (∀ r, (u.th t).r r = x.r r)
        ∧ bitAt (u.th (k * 128 + s.rd (CLU_CHAN_CFG.READER k c))).pend 3 = true
        ∧ (ch.saucer = [] → (u.chan k c).holder = none ∧ (u.th t).rsv = none ∧ (u.th t).stage = []))
    ∧ (s.rd (CLU_CHAN_CFG.READER k c) = i → rt.val ≤ 24 →
      (ch.msgs = [] → ∃ u, exec (.rcv t rt rs1 0 imm) s = .next u ∧ RegStep s u t 0 0 true ((x.pc + 1) % 8192))
      ∧ (∀ m ms, ch.msgs = m :: ms → ∃ u, exec (.rcv t rt rs1 0 imm) s = .next u ∧ frame u ∧ (u.chan k c).msgs = ms ∧ (u.th t).b = false
        ∧ (u.th t).rcvLen = m.length
        ∧ ∀ r, (u.th t).r r = if r ≠ 0 ∧ rt.val ≤ r ∧ r < rt.val + 8 then m.getD (r - rt.val) 0 else x.r r))

/-- O20. On a thread that issues, RSVR to a reachable channel open to outside writers takes a credit when an entry is free, and its answer clears B, else sets it; SNDR with that credit puts the staged message on its way and uses the credit. CHAN_REMOTE_ARRIVE makes the oldest such message visible and CHAN_RX pending for the reader. ACCESS_COMPLETE gives a waiting answer's B and registers and resumes the thread. CHAN_LEASE_EXPIRE, once LEASE_US has passed since the grant, ends the holder's reservation, empties its staging buffer, counts it, and makes the lease fault due. That the credit is decided at issue is the model's choice (log entry 22). COMPLETION: under the conditions given, on the state and the operands alone, each of these commands answers a next state with the effect of its own given here: RSVR, SNDR, CHAN_REMOTE_ARRIVE, CHAN_LEASE_EXPIRE, ACCESS_COMPLETE. (05_dyaris_isa.md R193, 05_dyaris_isa.md R194, 04_dyaris_threads.md R151, 04_dyaris_threads.md R152, 04_dyaris_threads.md R153, 04_dyaris_threads.md R122) -/
def Obligations.RemoteChannelsAndLeases : Prop :=
  ∀ (s : State) (t : Fin 8192) (rs1 : Fin 32) (imm : Fin 512),
    let x := s.th t
    let k := (x.r rs1).toNat / 2 ^ 8 % 64
    let c := ((x.r rs1).toNat % 2 ^ 8 + imm.val) % 256
    let ch := s.chan k c
    let waits := fun (u : State) (b : Option Bool) => (u.th t).st = .memwait ∧ (u.th t).acc = some (.done [] b) ∧ (u.th t).pc = (x.pc + 1) % 8192
      ∧ (∀ r, (u.th t).r r = x.r r) ∧ u = { s with dy := { s.dy with threads := u.dy.threads, chans := u.dy.chans } } ∧ ∀ j, j ≠ t.val → u.th j = s.th j
    (s.ready t → s.remoteOk k c = true → x.rsv = none →
      (0 < s.chanFree k c → ∃ u, exec (.rsvr t 0 rs1 0 imm) s = .next u ∧ waits u (some false) ∧ u.chan k c = { ch with credits := ch.credits + 1 }
        ∧ (u.th t).rsv = some (.remote k c))
      ∧ (s.chanFree k c = 0 → ∃ u, exec (.rsvr t 0 rs1 0 imm) s = .next u ∧ waits u (some true) ∧ u.dy.chans = s.dy.chans ∧ (u.th t).rsv = none))
    ∧ (s.ready t → s.remoteOk k c = true → x.rsv = some (.remote k c) → x.stage ≠ [] →
      ∃ u, exec (.sndr t 0 rs1 0 imm) s = .next u ∧ waits u none ∧ u.chan k c = { ch with inflight := ch.inflight ++ [x.stage], credits := ch.credits - 1 }
        ∧ (u.th t).rsv = none ∧ (u.th t).stage = [])
    ∧ (∀ ws b, s.run = true → x.st = .memwait → x.acc = some (.done ws (some b)) →
      ∃ u, exec (.accessComplete t false) s = .next u ∧ u = s.setTh t (u.th t) ∧ (u.th t).b = b ∧ (u.th t).acc = none
        ∧ (u.th t).st = (if x.haltReq then .halt else .run) ∧ (u.th t).g = (x.wAll ws).g)
    ∧ (∀ (k : Fin 64) (c : Fin 256) m ms, (s.chan k c).inflight = m :: ms →
      ∃ u, exec (.chanRemoteArrive k c) s = .next u ∧ u.chan k c = { s.chan k c with inflight := ms, msgs := (s.chan k c).msgs ++ [m] }
        ∧ bitAt (u.th (k * 128 + s.rd (CLU_CHAN_CFG.READER k c))).pend 3 = true
        ∧ u = { s with dy := { s.dy with threads := u.dy.threads, chans := u.dy.chans } })
    ∧ (∀ (k : Fin 64) (c : Fin 256) i, (s.chan k c).holder = some i → (s.chan k c).saucer = [] → (s.th (k * 128 + i)).st ≠ .fault →
      (s.chan k c).granted + s.rd (CLU_CFG.LEASE_US k) * 1250 ≤ s.ticks →
      ∃ u, exec (.chanLeaseExpire k c) s = .next u ∧ u.chan k c = { s.chan k c with holder := none } ∧ (u.th (k * 128 + i)).rsv = none
        ∧ (u.th (k * 128 + i)).stage = [] ∧ (u.th (k * 128 + i)).leaseLost = some c.val
        ∧ u.rd (CLU_CHAN_STAT.LEASES_REVOKED k c) = min (s.rd (CLU_CHAN_STAT.LEASES_REVOKED k c) + 1) (2 ^ (CLU_CHAN_STAT.LEASES_REVOKED k c).width - 1)
        ∧ u = { s with dy := { s.dy with threads := u.dy.threads, chans := u.dy.chans }, regs := u.regs })

/-- O21. On a thread that issues, WAIT sets the mask with CTRL in it and goes on when a pending event meets it, else enters WAIT; ECLR clears the pending bits it names; SIG makes SIG_IN pending for a thread of the same wait group, SIG_EXT for any thread of its cluster, and waits for the answer from another cluster; TSET starts or stops the timer, whose expiry makes TIMER pending and stops it. THREAD_WAKE takes a waiting thread whose mask a pending event meets back to RUN with its pending bits kept, and ends a parked request with its grant, B cleared and the bit consumed. COMPLETION: under the conditions given, on the state and the operands alone, each of these commands answers a next state with the effect of its own given here: WAIT, ECLR, SIG, TSET, THREAD_TIMER_EXPIRE, THREAD_WAKE. (04_dyaris_threads.md R134, 05_dyaris_isa.md R195, 05_dyaris_isa.md R196, 05_dyaris_isa.md R197, 04_dyaris_threads.md R135, 05_dyaris_isa.md R191) -/
def Obligations.EventsAndWaiting : Prop :=
  ∀ (s : State) (t : Fin 8192) (rs1 : Fin 32) (imm : Fin 65536),
    let x := s.th t
    let k := t.val / 128
    let ev := ((x.r rs1).toNat % 2 ^ 32) ||| imm.val
    let only := fun (u : State) => u = s.setTh t (u.th t) ∧ (u.th t).b = x.b ∧ (u.th t).pc = (x.pc + 1) % 8192 ∧ ∀ r, (u.th t).r r = x.r r
    (s.ready t → ∃ u, exec (.wait t 0 rs1 imm) s = .next u ∧ only u ∧ (u.th t).wmask = ev ||| 2 ^ 7 ∧ (u.th t).pend = x.pend
      ∧ (x.stepping = false → (u.th t).st = if x.pend &&& (ev ||| 2 ^ 7) = 0 then .wait else .run))
    ∧ (s.ready t → ∃ u, exec (.eclr t 0 rs1 imm) s = .next u ∧ only u ∧ (u.th t).wmask = x.wmask ∧ (u.th t).pend = x.pend - (x.pend &&& ev))
    ∧ (∀ n : Fin 16, let tgt := (x.r rs1).toNat % 8192
      s.ready t → (8 ≤ n.val ∨ (tgt / 128 = k ∧ s.wgrp tgt = s.wgrp t ∧ s.wgrp t ≠ 15)) → s.hasCluster (tgt / 128) = true → s.isFatal (.cluster (tgt / 128)) = false →
      ∃ u, exec (.sig t 0 rs1 ⟨n, Nat.lt_trans n.isLt (by decide)⟩) s = .next u ∧ bitAt (u.th tgt).pend (16 + n.val) = true ∧ (u.th t).pc = (x.pc + 1) % 8192
        ∧ (u.th t).b = x.b ∧ (∀ r, (u.th t).r r = x.r r) ∧ (∀ j, j ≠ t.val → j ≠ tgt → u.th j = s.th j)
        ∧ ((u.th t).st = .memwait ↔ tgt / 128 ≠ k) ∧ u = { s with dy := { s.dy with threads := u.dy.threads } })
    ∧ (let v := min ((x.r rs1).toNat % 2 ^ 32 + imm.val) (2 ^ 32 - 1)
      s.ready t → ∃ u, exec (.tset t 0 rs1 imm) s = .next u ∧ only u ∧ s.timerLeft t (u.th t) = v ∧ ((u.th t).timer = 0 ↔ v = 0))
    ∧ (x.timer ≠ 0 → s.timerLeft t x = 0 → ∃ u, exec (.threadTimerExpire t) s = .next u ∧ (u.th t).timer = 0 ∧ bitAt (u.th t).pend 0 = true
      ∧ (u.th t).st = x.st ∧ (∀ r, (u.th t).r r = x.r r) ∧ u = { s with dy := { s.dy with threads := u.dy.threads } } ∧ ∀ j, j ≠ t.val → u.th j = s.th j)
    ∧ (s.run = true → x.st = .wait → x.leaseLost = none → x.dmaErr = [] →
      (x.park = none → x.pend &&& x.wmask ≠ 0 → ∃ u, exec (.threadWake t) s = .next u ∧ (u.th t).st = (if x.haltReq then .halt else .run)
        ∧ (u.th t).pend = x.pend ∧ (u.th t).pc = x.pc ∧ (∀ r, (u.th t).r r = x.r r) ∧ (u.th t).b = x.b)
      ∧ (∀ n, x.park = some (.lock n) → (s.lockOf k n).saucer.contains (t.val % 128) = false → ∃ u, exec (.threadWake t) s = .next u
        ∧ (u.th t).st = (if x.haltReq then .halt else .run) ∧ (u.th t).park = none ∧ (u.th t).b = false ∧ bitAt (u.th t).pend 5 = false ∧ (u.th t).pc = x.pc))

/-- O22. On a thread that issues, STAMP writes the present stamp's low 64 bits to an even rd other than g0 and the rest to the register after it; MFS writes the value its selector names: the thread's number in the cluster and in the device, the cluster, the cycle, the pending bits, the mask, the flags, the length of the last message, the copies outstanding, the timer and the locks held; STOP of a thread that holds nothing makes it IDLE; BKPT halts the thread when debug control is permitted and only advances the PC otherwise. COMPLETION: under the conditions given, on the state and the operands alone, each of these commands answers a next state with the effect of its own given here: STAMP, MFS, STOP, BKPT. (05_dyaris_isa.md R198, 05_dyaris_isa.md R199, 05_dyaris_isa.md R203, 05_dyaris_isa.md R204) -/
def Obligations.SpecialReadsAndThreadEnd : Prop :=
  ∀ (s : State) (t : Fin 8192) (rd : Fin 32), s.ready t →
    let x := s.th t
    (rd.val % 2 = 0 → rd ≠ 0 → ∃ u, exec (.stamp t rd 0 0) s = .next u ∧ u = s.setTh t (u.th t) ∧ (u.th t).b = x.b ∧ (u.th t).pc = (x.pc + 1) % 8192
      ∧ ∀ r, (u.th t).r r = if r = rd.val then BitVec.ofNat 64 s.nowStamp else if r = rd.val + 1 then BitVec.ofNat 64 (s.nowStamp / 2 ^ 64) else x.r r)
    ∧ (∀ (sel : Fin 11), let v := [t.val % 128, t.val, t.val / 128, s.cycle (t.val / 8), x.pend, x.wmask, b2n x.b, x.rcvLen, x.dmas.length, s.timerLeft t x, x.locks.length].getD sel 0
      ∃ u, exec (.mfs t rd 0 ⟨sel, Nat.lt_trans sel.isLt (by decide)⟩) s = .next u ∧ RegStep s u t rd (BitVec.ofNat 64 v) x.b ((x.pc + 1) % 8192))
    ∧ (x.locks = [] → x.rsv = none → x.dmas = [] → x.descs = [] → ∃ u, exec (.stop t 0) s = .next u ∧ (u.th t).st = .idle ∧ (u.th t).pc = (x.pc + 1) % 8192
      ∧ (u.th t).b = x.b ∧ (∀ r, (u.th t).r r = x.r r) ∧ u = { s with dy := { s.dy with threads := u.dy.threads } } ∧ ∀ j, j ≠ t.val → u.th j = s.th j)
    ∧ (s.flag (DYE_DBG.DBG_EN (t.val / 8)) = false → ∃ u, exec (.bkpt t 0) s = .next u ∧ RegStep s u t 0 0 x.b ((x.pc + 1) % 8192))
    ∧ (s.flag (DYE_DBG.DBG_EN (t.val / 8)) = true → ∃ u, exec (.bkpt t 0) s = .next u ∧ u = s.setTh t (u.th t) ∧ (u.th t).st = .halt
      ∧ (u.th t).haltedInWait = false ∧ (u.th t).pc = (x.pc + 1) % 8192 ∧ (u.th t).b = x.b ∧ ∀ r, (u.th t).r r = x.r r)

/-- O23. FRAME_TO_BINDING moves a port's oldest waiting frame to its next free binding, with its bytes at the binding's base and FRAME pending for the bound thread. FGET takes the frame and clears B, or writes 0 and sets B. MFILL and MDROP of a descriptor the thread holds release the binding and put one request on its way; SLOT_FILL_ARRIVE makes the slot READY with the candidate, or DROPPED, and returns OK. HAND puts the verdict on its way and HAND_ARRIVE fixes it and returns OK. RGET from a ring bound to the thread, to an aligned place in its own engine data memory, sets B when the ring is empty, and otherwise writes the head entry's bytes there, returns its first word, and leaves at the head the next entry that is the thread's. COMPLETION: under the conditions given, on the state and the operands alone, each of these commands answers a next state with the effect of its own given here: FRAME_TO_BINDING, FGET, MFILL, MDROP, SLOT_FILL_ARRIVE, HAND, HAND_ARRIVE, RGET. (05_dyaris_isa.md R179, 05_dyaris_isa.md R180, 05_dyaris_isa.md R181, 05_dyaris_isa.md R183, 05_dyaris_isa.md R184, 05_dyaris_isa.md R186, 05_dyaris_isa.md R202) -/
def Obligations.FramesAndVerdicts : Prop :=
  ∀ (s : State) (t : Fin 8192) (rd rs1 rs2 : Fin 32),
    let x := s.th t
    let g := t.val / 8
    let waits := fun (u : State) (a : Access) => (u.th t).st = .memwait ∧ (u.th t).acc = some a ∧ (u.th t).pc = (x.pc + 1) % 8192 ∧ ∀ r, (u.th t).r r = x.r r
    (∀ (p : Fin 64) (f : Slot) (j : Nat), s.run = true → (s.slotsOf p).find? (fun f => !f.copied) = some f → s.nextBind p = some j →
      ∃ u, exec (.frameToBinding p) s = .next u
        ∧ u.bind j = { full := true, taken := false, port := p, stamp := f.stamp, len := f.data.length }
        ∧ (State.memOf u.dy.dmem (j / 8)).readBytes (s.rd (DYE_FRM.BASE (j / 8) (j % 8))) f.data.length = f.data
        ∧ bitAt (u.th (j / 8 * 8 + s.rd (DYE_FRM.SLOT (j / 8) (j % 8)))).pend 6 = true
        ∧ u = { s with dy := { s.dy with threads := u.dy.threads, dmem := u.dy.dmem, binds := u.dy.binds }, merge := { s.merge with slots := u.merge.slots, rotation := u.merge.rotation } })
    ∧ (∀ k : Fin 8, s.ready t → s.flag (DYE_FRM.EN g k) = true → s.rd (DYE_FRM.SLOT g k) = t.val % 8 →
      let b := s.bind (g * 8 + k.val)
      let fget := Instr.fget t rd 0 ⟨k, Nat.lt_trans k.isLt (by decide)⟩
      (b.full = false ∨ b.taken = true → ∃ u, exec fget s = .next u ∧ RegStep s u t rd 0 true ((x.pc + 1) % 8192))
      ∧ (b.full = true → b.taken = false → ∃ u h, exec fget s = .next u ∧ u.bind (g * 8 + k.val) = { b with taken := true } ∧ (u.th t).b = false
        ∧ (u.th t).descs = x.descs ++ [{ word := descWord (s.rd (DYE_FRM.BASE g k)) b.len h b.port, port := b.port, stamp := b.stamp }]
        ∧ (∀ r, (u.th t).r r = if r = rd.val ∧ rd ≠ 0 then BitVec.ofNat 64 (descWord (s.rd (DYE_FRM.BASE g k)) b.len h b.port) else x.r r)
        ∧ u = { s with free := s.free + 1, dy := { s.dy with threads := u.dy.threads, binds := u.dy.binds } }))
    ∧ (∀ d : Desc, s.ready t → x.descs.find? (fun d => d.word == (x.r rs1).toNat) = some d →
      (∃ u, exec (.mfill t rd rs1 rs2 0) s = .next u ∧ waits u (.status rd)
        ∧ u.merge = { s.merge with fills := s.merge.fills ++ [{ thread := t, port := d.port, stamp := d.stamp, drop := false, control := (x.r rs2).toNat }] }
        ∧ ∀ k, k < 8 → ¬((u.bind (g * 8 + k)).full = true ∧ (u.bind (g * 8 + k)).taken = true ∧ (u.bind (g * 8 + k)).port = d.port ∧ (u.bind (g * 8 + k)).stamp = d.stamp))
      ∧ (∃ u, exec (.mdrop t rd rs1 rs2 0) s = .next u ∧ waits u (.status rd)
        ∧ u.merge = { s.merge with fills := s.merge.fills ++ [{ thread := t, port := d.port, stamp := d.stamp, drop := true, control := 0 }] }))
    ∧ (∀ (r : FillReq) (f : Slot), s.merge.fills.find? (fun r => r.thread == t.val) = some r → r.dead = false →
        (s.slotsOf r.port).find? (fun f => f.stamp == r.stamp && f.st == .pending) = some f → s.parseOver f.stamp = false → x.acc = some (.status rd) →
        (r.drop = true ∨ (0x70 ≤ bits r.control 0 8 ∧ bits r.control 59 5 = 0)) →
      ∃ u, exec (.slotFillArrive t) s = .next u ∧ (u.th t).acc = some (.done [(rd.val, 0)] (some false))
        ∧ u.merge.fills = dropFirst (fun r => r.thread == t.val) s.merge.fills
        ∧ ∃ f' ∈ u.slotsOf r.port, f'.stamp = f.stamp ∧ f'.st = (if r.drop then .dropped else .ready)
          ∧ (r.drop = false → f'.cand = { stamp := f.stamp, port := r.port, typ := bits r.control 0 8, session := bits r.control 8 32, payload := fillPayload f.data r.control }))
    ∧ (s.ready t → ∃ u, exec (.hand t rd rs1 rs2 0) s = .next u ∧ waits u (.status rd)
        ∧ u = { s with dy := { s.dy with threads := u.dy.threads, hands := s.dy.hands ++ [{ thread := t, seq := (x.r rs1).toNat, verdict := (x.r rs2).toNat % 2 ^ 16 }] } })
    ∧ (∀ (h : HandReq) (i : Issued), s.dy.hands.find? (fun h => h.thread == t.val) = some h → h.dead = false →
        s.crf.issued.find? (fun i => i.r.seq == h.seq) = some i → i.r.mapped = some (h.thread / 128) → i.verdict = none → s.deadline i = false → x.acc = some (.status rd) →
      ∃ u, exec (.handArrive t) s = .next u ∧ (u.th t).acc = some (.done [(rd.val, 0)] (some false))
        ∧ ∃ i' ∈ u.crf.issued, i'.r = i.r ∧ i'.verdict = some h.verdict)
    ∧ (let r := (x.r rs1).toNat
      s.ready t → r < 32768 → (s.sdesc r).en = true → (s.sdesc r).cls = 2 → (s.sdesc r).thread = t.val →
      ((s.sub r).ready = [] → (x.r rs2).toNat % 32 = 0 → (∃ o, memRegion t (x.r rs2).toNat 32 = .dmem o ∧ s.mayWrite t (.dmem o) 32 = true) →
        ∃ u, exec (.rget t rd rs1 rs2 0) s = .next u ∧ waits u (.done [(rd.val, 0)] (some true)))
      ∧ (∀ e i rest o, (s.sub r).ready = (e, i) :: rest → (x.r rs2).toNat % 32 = 0 → memRegion t (x.r rs2).toNat e.length = .dmem o
          → s.mayWrite t (.dmem o) e.length = true →
        ∃ u, exec (.rget t rd rs1 rs2 0) s = .next u ∧ waits u (.done [(rd.val, field e 0 8)] (some false))
          ∧ (State.memOf u.dy.dmem g).readBytes o e.length = e ∧ (u.sub r).ready = rest.dropWhile (fun e => !threadEntry e.1)))

/-- O24. From Roaster, JTAG or the cluster's issuing supervisor, whose store it is, START runs an IDLE or FAULT thread at ENTRY_PC, and RESET makes a thread IDLE with no locks, reservation, staged words, pending events, timer or recorded fault while its registers keep their values. With debug control permitted, HALT from host software, Roaster or JTAG halts a thread in RUN, marks one in MEMWAIT, and halts one in WAIT as halted in WAIT; RESUME and STEP return a halted thread to RUN, or to WAIT. That a resumed thread passes its breakpoint once is the model's choice (log entry 23). COMPLETION: under the conditions given, on the state and the operands alone, each of these commands answers a next state with the effect of its own given here: DYE_START, DYE_RESET, DYE_HALT, DYE_RESUME, DYE_STEP. (04_dyaris_threads.md R128, 04_dyaris_threads.md R130, 04_dyaris_threads.md R158, 04_dyaris_threads.md R159, 04_dyaris_threads.md R161, 04_dyaris_threads.md R162) -/
def Obligations.ThreadControl : Prop :=
  ∀ (s : State) (t : Fin 8192) (who : Requester), s.hasCluster (t.val / 128) = true →
    let x := s.th t
    let started := { x with st := ThState.run, pc := s.rd (DYE_TCTL.ENTRY_PC (t.val / 8) (t.val % 8)) % 8192, passBrk := false }
    let supv := fun (w : Fin 8192) => w.val / 128 = t.val / 128 ∧ s.ready w ∧ w.val = s.supv (t.val / 128)
    (x.st = .idle ∨ x.st = .fault →
      ((who = .roaster ∨ who = .jtag) → ∃ u, exec (.dyeStart t who) s = .next u ∧ u = s.setTh t started)
      ∧ (∀ w, supv w → ∃ u, exec (.dyeStart t (.thread w)) s = .next u ∧ u.th t = started ∧ (u.th w).pc = ((s.th w).pc + 1) % 8192
        ∧ (u.th w).st = (s.th w).after ∧ (u.th w).g = (s.th w).g ∧ u = { s with dy := { s.dy with threads := u.dy.threads } }
        ∧ ∀ j, j ≠ t.val → j ≠ w.val → u.th j = s.th j))
    ∧ ((who = .roaster ∨ who = .jtag ∨ ∃ w, who = .thread w ∧ supv w) →
      (∃ u, exec (.dyeReset t who) s = .next u ∧ (u.th t).st = .idle ∧ (u.th t).locks = [] ∧ (u.th t).rsv = none ∧ (u.th t).stage = []
        ∧ (u.th t).pend = 0 ∧ (u.th t).timer = 0 ∧ u.rd (DYE_TFLT.VALID (t.val / 8) (t.val % 8)) = 0 ∧ ∀ r, (u.th t).r r = x.r r))
    ∧ (s.flag (DYE_DBG.DBG_EN (t.val / 8)) = true → (who = .host ∨ who = .roaster ∨ who = .jtag) →
      (x.st = .run → ∃ u, exec (.dyeHalt t who) s = .next u ∧ u = s.setTh t { x with st := .halt, haltedInWait := false, stepping := false })
      ∧ (x.st = .memwait → ∃ u, exec (.dyeHalt t who) s = .next u ∧ u = s.setTh t { x with haltReq := true })
      ∧ (x.st = .wait → ∃ u, exec (.dyeHalt t who) s = .next u ∧ (u.th t).st = .halt ∧ (u.th t).haltedInWait = true ∧ (u.th t).pend = x.pend)
      ∧ (x.st = .halt → ∀ st, st = (if x.haltedInWait then ThState.wait else ThState.run) →
          (∃ u, exec (.dyeResume t who) s = .next u ∧ u = s.setTh t { x with st := st, haltedInWait := false, passBrk := true, stepping := false })
          ∧ (∃ u, exec (.dyeStep t who) s = .next u ∧ u = s.setTh t { x with st := st, haltedInWait := false, passBrk := true, stepping := true })))

/-- O25. CLU_ESCALATE.RAISE, a store of the cluster's issuing supervisor, whose PC advances, records code 3 with the cluster and CODE in log 0 when that log holds no first record, and makes the cluster fatal when bit 15 of CODE is set. EVENT_STALL of a stalled wait group that the supervisor is not in, with no stall recorded and no record in the cluster's log, records the group, the cluster, the members and their masks and pending bits, and makes CTRL pending for the supervisor. COMPLETION: under the conditions given, on the state and the operands alone, each of these commands answers a next state with the effect of its own given here: CLU_ESCALATE_RAISE, EVENT_STALL. (04_dyaris_threads.md R138, 04_dyaris_threads.md R141, 04_dyaris_threads.md R154, 04_dyaris_threads.md R156, 14_errors_resets_service.md R531) -/
def Obligations.EscalationAndStalls : Prop :=
  ∀ (s : State) (k : Fin 64), s.hasCluster k = true →
    (∀ w : Fin 8192, w.val / 128 = k.val → s.ready w → w.val = s.supv k → s.flag (ERR_STAT.FIRST_VALID 0) = false →
      ∃ u, exec (.cluEscalateRaise k (.thread w)) s = .next u ∧ u.rd (ERR_FIRST.CODE 0) = 3 ∧ u.rd (ERR_FIRST.SUB 0) = k.val ∧ (u.th w).pc = ((s.th w).pc + 1) % 8192
        ∧ u.rd (ERR_FIRST_INFO.INFO 0) = s.rd (CLU_ESCALATE.CODE k) % 2 ^ (ERR_FIRST_INFO.INFO 0).width
        ∧ (bitAt (s.rd (CLU_ESCALATE.CODE k)) 15 = true → u.isFatal (.cluster k) = true))
    ∧ (∀ w : Fin 15, s.run = true → s.fatalSettled → s.isFatal (.cluster k) = false → FMap.get false s.dy.stalled (k.val * 16 + w.val) = false → s.groupStalled k w = true →
        s.supv k ∉ s.groupMembers k w → s.flag (CLU_STALL.VALID k) = false → s.flag (ERR_STAT.FIRST_VALID (48 + k)) = false →
      ∃ u, exec (.eventStall k w) s = .next u ∧ u.rd (CLU_STALL.VALID k) = 1 ∧ u.rd (CLU_STALL.GROUP k) = w.val ∧ u.rd (CLU_STALL.CLUSTER k) = k.val
        ∧ u.rd (CLU_STALL.TO_ROASTER k) = 0 ∧ bitAt (u.th (s.supv k)).pend 7 = true ∧ FMap.get false u.dy.stalled (k.val * 16 + w.val) = true
        ∧ u.rd (ERR_FIRST.CODE (48 + k)) = 0x3001
        ∧ ∀ m ∈ s.groupMembers k w, u.rd (CLU_STALL_SNAP.WMASK k (m % 128)) = (s.th m).wmask % 2 ^ 32 ∧ u.rd (CLU_STALL_SNAP.PEND k (m % 128)) = (s.th m).pend % 2 ^ 32)

/-- O26. For a thread that issues, is not its cluster's supervisor, and is not halted by HALT_ON_FAULT, an undefined encoding, a misaligned or unmapped access, a lock out of order, a SND without its reservation, a SIG out of its group, a table index out of range, a binding not its own and a STOP while it holds something each put it in FAULT with its registers, B, PC, locks, reservation and staged words kept; DYE_TFLT and DYE_TFADDR take the cause, the PC and the table's values, CTRL is pending for the supervisor, and memories, locks and channels keep their contents. A load that meets an uncorrectable word of the engine's or cluster's own memory faults likewise with MEM_ECC. (04_dyaris_threads.md R157, 04_dyaris_threads.md R155, 05_dyaris_isa.md R168, 05_dyaris_isa.md R205, 04_dyaris_threads.md R144, 04_dyaris_threads.md R150) -/
def Obligations.FaultStopsTheThread : Prop :=
  ∀ (s : State) (t : Fin 8192) (rd rs1 rs2 : Fin 32) (imm : Fin 512) (off : Fin 4096), s.ready t → t.val ≠ s.supv (t.val / 128) →
      (s.flag (DYE_DBG.DBG_EN (t.val / 8)) && s.flag (DYE_DBG.HALT_ON_FAULT (t.val / 8))) = false →
    let x := s.th t
    let g := t.val / 8
    let i := t.val % 8
    let k := t.val / 128
    let n := ((x.r rs1).toNat + imm.val) % 512
    let c := ((x.r rs1).toNat + imm.val) % 256
    let a := (x.r rs1 + (BitVec.ofNat 12 off).signExtend 64).toNat
    let faults := fun (ins : Instr) (cause : Nat) (addr info : Option Nat) => ∃ u, exec ins s = .next u
      ∧ (u.th t).st = .fault ∧ (u.th t).g = x.g ∧ (u.th t).b = x.b ∧ (u.th t).pc = x.pc ∧ (u.th t).locks = x.locks ∧ (u.th t).rsv = x.rsv
      ∧ (u.th t).stage = x.stage ∧ u.rd (DYE_TFLT.CAUSE g i) = cause ∧ u.rd (DYE_TFLT.VALID g i) = 1 ∧ u.rd (DYE_TFLT.PC g i) = x.pc % 8192
      ∧ (∀ v, addr = some v → u.rd (DYE_TFADDR.ADDR g i) = v % 2 ^ 48) ∧ (∀ v, info = some v → u.rd (DYE_TFADDR.INFO g i) = v % 2 ^ 16)
      ∧ bitAt (u.th (s.supv k)).pend 7 = true ∧ u = { s with regs := u.regs, free := u.free, dy := { s.dy with threads := u.dy.threads } }
      ∧ ∀ j, j ≠ t.val → j ≠ s.supv k → u.th j = s.th j
    (rs2 ≠ 0 → faults (.bswap t rd rs1 rs2) 1 none none) ∧ (∀ cond : Fin 16, 8 ≤ cond.val → faults (.br t rs1 rs2 cond off) 1 none none)
    ∧ (∀ (size : Fin 4) (sx be : Bool), a % 2 ^ size.val ≠ 0 → faults (.ld t rd rs1 size sx be off) 2 (some a) none)
    ∧ (∀ (size : Fin 4) (sx be : Bool), a % 2 ^ size.val = 0 → memRegion t a (2 ^ size.val) = .none → faults (.ld t rd rs1 size sx be off) 3 (some a) none
        ∧ faults (.st t rd rs1 size false be off) 3 (some a) none)
    ∧ ((∃ m ∈ x.locks, n ≤ m) → faults (.lck t 0 rs1 0 imm) 6 none (some n) ∧ faults (.ltry t 0 rs1 0 imm) 6 none (some n))
    ∧ ((∀ m ∈ x.locks, m < n) → 8 ≤ x.locks.length → faults (.lck t 0 rs1 0 imm) 7 none (some n))
    ∧ (x.locks.contains n = false → faults (.lrel t 0 rs1 0 imm) 8 none (some n))
    ∧ (x.rsv ≠ some (.loc c) → (∀ c', x.rsv = some (.loc c') → s.leaseOver k c' = false) → faults (.snd t 0 rs1 0 imm) 9 none (some c))
    ∧ (let tgt := (x.r rs1).toNat % 8192; s.wgrp tgt ≠ s.wgrp t → ∀ j : Fin 8, faults (.sig t 0 rs1 ⟨j, Nat.lt_trans j.isLt (by decide)⟩) 0x20 (some tgt) none)
    ∧ (∀ (tbl : Fin 16) (w : Fin 8), rd.val + 2 ^ s.rd (CLU_TBL.ENTRY k tbl) ≤ 32 → s.rd (CLU_TBL.COUNT k tbl) ≤ (x.r rs1).toNat →
        faults (.tlk t rd rs1 tbl w 0) 0x21 (some ((x.r rs1).toNat % 2 ^ 48)) (some tbl))
    ∧ (∀ b : Fin 8, s.flag (DYE_FRM.EN g b) = false → faults (.fget t rd 0 ⟨b, Nat.lt_trans b.isLt (by decide)⟩) 0x22 none (some b))
    ∧ (x.locks ≠ [] → faults (.stop t 0) 0x23 none none)
    ∧ (∀ (size : Fin 4) (sx be : Bool) p, a % 2 ^ size.val = 0 → s.mayRead t (memRegion t a (2 ^ size.val)) (2 ^ size.val) = true →
        (memRegion t a (2 ^ size.val)).variable = false → s.badWord t (memRegion t a (2 ^ size.val)) (2 ^ size.val) = some p →
        ∃ u, exec (.ld t rd rs1 size sx be off) s = .next u ∧ (u.th t).st = .fault ∧ (u.th t).g = x.g ∧ (u.th t).b = x.b ∧ (u.th t).pc = x.pc
          ∧ u.rd (DYE_TFLT.CAUSE g i) = 4 ∧ u.rd (DYE_TFLT.VALID g i) = 1 ∧ u.rd (DYE_TFLT.PC g i) = x.pc % 8192 ∧ u.rd (DYE_TFADDR.ADDR g i) = a % 2 ^ 48
          ∧ bitAt (u.th (s.supv k)).pend 7 = true ∧ u.dy.imem = s.dy.imem ∧ u.dy.dmem = s.dy.dmem ∧ u.dy.sram = s.dy.sram)

/-- O27. Whenever an arithmetic, move, branch or field instruction of a thread that is not its cluster's supervisor, with no uncorrectable word at its PC, gives a next state, whether it issued, faulted or did not issue, all that has changed is that thread, the supervisor's pending events, the register fields of the fault record and the count of free values drawn: every memory, lock, channel, binding, queue, journal, NAND, ring, link and error structure is as before, and so is every other thread. (05_dyaris_isa.md R166, 05_dyaris_isa.md R167, 04_dyaris_threads.md R157) -/
def Obligations.InstructionFrame : Prop :=
  ∀ (s u : State) (t : Fin 8192) (rd rs1 rs2 : Fin 32) (imm : Fin 65536) (hw : Fin 4) (z8 : Fin 256) (z : Fin 8) (cond : Fin 16) (off : Fin 4096)
      (off13 : Fin 8192) (funct : Fin 2048) (pos len1 : Fin 64) (i : Instr),
    i ∈ [.add t rd rs1 rs2, .sub t rd rs1 rs2, .and t rd rs1 rs2, .or t rd rs1 rs2, .xor t rd rs1 rs2, .shl t rd rs1 rs2, .shr t rd rs1 rs2,
        .sar t rd rs1 rs2, .mul t rd rs1 rs2, .mulhu t rd rs1 rs2, .addsu t rd rs1 rs2, .subsu t rd rs1 rs2, .min t rd rs1 rs2, .max t rd rs1 rs2,
        .bswap t rd rs1 rs2, .popc t rd rs1 rs2, .addi t rd rs1 imm, .andi t rd rs1 imm, .ori t rd rs1 imm, .xori t rd rs1 imm, .shli t rd rs1 imm,
        .shri t rd rs1 imm, .sari t rd rs1 imm, .movz t rd hw z imm, .movk t rd hw z imm, .br t rs1 rs2 cond off, .jal t rd z8 off13,
        .jr t rd rs1 rs2 funct, .fxt t rd rs1 pos len1, .fxts t rd rs1 pos len1, .fins t rd rs1 pos len1, .fxtb t rd rs1 rs2 funct, .rchk t rd rs1 rs2 funct] →
    t.val ≠ s.supv (t.val / 128) → s.badWord t (.imem (4 * (s.th t).pc)) 4 = none → exec i s = .next u →
      u = { s with regs := u.regs, free := u.free, dy := { s.dy with threads := u.dy.threads } }
      ∧ (∀ j, j ≠ t.val → j ≠ s.supv (t.val / 128) → u.th j = s.th j)
      ∧ u.th (s.supv (t.val / 128)) = { s.th (s.supv (t.val / 128)) with pend := (u.th (s.supv (t.val / 128))).pend }
      ∧ (u.th t).locks = (s.th t).locks ∧ (u.th t).rsv = (s.th t).rsv ∧ (u.th t).stage = (s.th t).stage ∧ (u.th t).pend = (s.th t).pend
      ∧ (u.th t).descs = (s.th t).descs ∧ (u.th t).dmas = (s.th t).dmas ∧ (∀ r, r ≠ rd.val → (r < 24 ∨ i ≠ .fxtb t rd rs1 rs2 funct) → (u.th t).r r = (s.th t).r r)
      ∧ (∀ f : Fld, f.key ∉ [(DYE_TFLT.CAUSE (t.val / 8) (t.val % 8)).key, (DYE_TFLT.VALID (t.val / 8) (t.val % 8)).key, (DYE_TFLT.PC (t.val / 8) (t.val % 8)).key,
          (DYE_TFADDR.ADDR (t.val / 8) (t.val % 8)).key, (DYE_TFADDR.INFO (t.val / 8) (t.val % 8)).key] → u.rd f = s.rd f)

/-- O28. If every thread's table of registers lists no g0, no register above g31 and no zero, in rising order, and its PC is below 8,192, and every command that waits is an instruction of the arithmetic, immediate, branch, field, lock, event or special-read groups or a wake, then a step gives a state of which the same holds. (05_dyaris_isa.md R166, 05_dyaris_isa.md R167) -/
def Obligations.ThreadsStayLegal : Prop :=
  ∀ s u : State, s.threadsLegal → step s = .next u → u.threadsLegal

/-- O29. If a lock's owner is exactly the one thread of its cluster that holds it, every thread's locks rise in rank and are at most 8, and a lock's Saucer lists, once each, threads that wait for that lock and hold only locks of lower rank, and fewer than 8, and every command that waits is one of the groups of the plain instructions or a wake, then the same holds after a step. (04_dyaris_threads.md R143, 04_dyaris_threads.md R144, 04_dyaris_threads.md R145, 04_dyaris_threads.md R146, 05_dyaris_isa.md R190, 05_dyaris_isa.md R191) -/
def Obligations.LocksStayExclusive : Prop :=
  ∀ s u : State, s.locksSound → step s = .next u → u.locksSound

/-- O30. The machine right after reset has legal threads and sound locks. That a thread's registers are zero there is the model's choice, recorded in the log entry on reset values. (04_dyaris_threads.md R126, 04_dyaris_threads.md R143) -/
def Obligations.ThreadInvariantsAtReset : Prop := State.reset.threadsLegal ∧ State.reset.locksSound

/-- O31. While the member sequences and Carafe appends: APPEND puts the oldest issued record, once its verdict is fixed, at the end of the open page, when it fits (or when the page is empty and pages are not sealed), and the next expected sequence number is the one after it; a LEAP_TABLE is accepted exactly when Tamp's checks hold, and then becomes Tamp's table. STRIPE_OPEN, when all parts of a stripe can be allocated, adds it to the open stripes and takes the next stripe number. FLUSH_POINT closes a page that holds records, FLUSHED set, under the next serial. COMPLETION: under the conditions given, on the state and the operands alone, each of these commands answers a next state with the effect of its own given here: APPEND, STRIPE_OPEN, FLUSH_POINT. (06_carafe_journal.md R213, 06_carafe_journal.md R215, 06_carafe_journal.md R217, 06_carafe_journal.md R219, 06_carafe_journal.md R211, 06_carafe_journal.md R210) -/
def Obligations.RecordsAppendInOrder : Prop :=
  ∀ (s : State), s.sequencing = true → s.appending = true →
    (∀ i rest, s.crf.issued = i :: rest → i.fixed = true → s.openStripe.isSome = true →
      let r : Rec := { i.r with verdict := i.verdict.getD i.r.verdict }
      ((s.crf.cur.recs ≠ [] ∧ s.pageFits r = true) ∨ (s.crf.cur.recs = [] ∧ s.sealing = false)) →
        (r.typ ≠ 9 → r.typ ≠ 0x50 → r.typ ≠ 0x51 →
          ∃ u, exec (.append false) s = .next u ∧ u.crf.issued = rest ∧ u.crf.cur.recs = s.crf.cur.recs ++ [{ r with mine := true }] ∧ u.crf.pages = s.crf.pages
            ∧ u.rd CRF_APPEND.NEXT = r.after % 2 ^ 64 ∧ u.tamp = s.tamp ∧ u.nand = s.nand)
        ∧ (r.typ = 0x50 →
          ∃ u, exec (.append false) s = .next u ∧ u.crf.issued = rest ∧ u.rd CRF_APPEND.NEXT = r.after % 2 ^ 64
            ∧ u.tamp = (if s.leapOk r.payload then { s.tamp with leap := leapEntries r.payload } else s.tamp)
            ∧ ∃ q, u.crf.cur.recs = s.crf.cur.recs ++ [q] ∧ q.verdict = (if s.leapOk r.payload then 0 else 1) ∧ q.payload = r.payload ∧ q.seq = r.seq))
    ∧ (∀ t v, s.openStripe = none → s.space.flag CRF_STATUS.JOURNAL_FULL = false → (s.sealing = true → s.sealUnits ≠ []) →
      s.space.applyPending.allocStripe (s.rd CRF_STRIPE.NEXT) = some (t, v) → s.ezn.mark = none → s.crf.locals = [] →
        ∃ u, exec .stripeOpen s = .next u ∧ u.crf.stripes = t :: s.crf.stripes ∧ t.no = s.rd CRF_STRIPE.NEXT ∧ t.pages = [] ∧ u.crf.pages = s.crf.pages
          ∧ u.rd CRF_STRIPE.NEXT = (s.rd CRF_STRIPE.NEXT + 1) % 2 ^ 64)
    ∧ (∀ t r rs, s.flushDue = true → s.openStripe = some t → s.crf.cur.recs = r :: rs → s.slotUp (t.home.getD t.pages.length t.parity) = true →
      t.replaced = false → t.pages.length + 2 < t.plan.width → s.crf.cur.unsealed = false →
        ∃ u, exec (.flushPoint false) s = .next u ∧ u.crf.cur.recs = [] ∧ u.rd CRF_SERIAL.NEXT = (s.rd CRF_SERIAL.NEXT + 1) % 2 ^ 64
          ∧ s.counted u CRF_CNT1.FLUSH_PADS 1 ∧ u.crf.flushAt = s.ticks
          ∧ ∃ p, FMap.look u.crf.pages (s.rd CRF_SERIAL.NEXT) = some p ∧ p.recs = r :: rs ∧ p.first = r.seq ∧ p.stripe = t.no
            ∧ p.pos = t.pages.length ∧ bitAt p.pflags 2 = true)

/-- O32. PAGE_PROGRAM_DONE takes the oldest of Carafe's ended programs and, when it passed, marks that copy of the page as passed. WATERMARK_PUBLISH writes W to every word that is behind and whose spacing has passed. ARCHIVE_MIGRATE first has the pages read that staging no longer holds; with all of them at hand it gives the next group of hot stripes the next archive stripe numbers and marks them migrated. SEGMENT_ERASE erases the first segment that may go. REHOME completes an event whose stripes have passed, unless only erased segments concern it. REPLAY reads the journal first, and once the mode's condition holds ends REPLAYING and opens the merge. COMPLETION: under the conditions given, on the state and the operands alone, each of these commands answers a next state with the effect of its own given here: PAGE_PROGRAM_DONE, WATERMARK_PUBLISH, ARCHIVE_MIGRATE, SEGMENT_ERASE, REHOME, REPLAY. (06_carafe_journal.md R221, 06_carafe_journal.md R228, 06_carafe_journal.md R230, 06_carafe_journal.md R240, 06_carafe_journal.md R241, 07_nand_drip.md R257, 07_nand_drip.md R290, 07_nand_drip.md R292) -/
def Obligations.ProgramsAndWatermark : Prop :=
  ∀ (s : State),
    (∀ d n i p c, s.nand.done.find? s.isPage = some d → c.st = .waiting → d.status = 0 → d.op.tag = .page n i → n < 2 ^ 64 → FMap.look s.crf.pages n = some p →
      p.copies[i]? = some c → s.ezn.mark = none → s.crf.locals = [] →
        ∃ u, exec .pageProgramDone s = .next u ∧ u.nand.done = dropFirst s.isPage s.nand.done
          ∧ FMap.look u.crf.pages n = some { p with copies := p.copies.set i { c with st := .pass } }
          ∧ s.counted u (if c.isTwin then CRF_CNT0.TWINS else CRF_CNT0.PAGES) 1)
    ∧ (∀ k, k < 256 → s.run = true → s.flag CRF_STATUS.WM_VALID = true → s.wordBehind k = true → s.wordGap k = true →
        ∃ u, exec .watermarkPublish s = .next u ∧ u = { s with crf := u.crf, out := u.out } ∧ FMap.get 0 u.crf.wordVal k = s.rd CRF_WMARK.SEQ + 1
          ∧ FMap.get false u.crf.wordDue k = false ∧ FMap.get 0 u.crf.wordAt k = s.ticks + 1
          ∧ (s.pf1On = true → ∃ hint, Out.hostWrite k (s.rd (SLC_WM.ADDR k) * 8) (leBytes 8 (s.rd CRF_WMARK.SEQ)) false false (s.pasid k) hint ∈ u.out))
    ∧ (∀ t0 t ts v,
      let b := s.bpc t0.plan
      let a := s.crf.nextArch
      let put := fun (m : FMap ArchStripe) (i : Nat) =>
        let ps := ((t :: ts)[i]?).elim [] (fun (u : Stripe) => u.pages)
        FMap.ins m (a + i) { plan := t.plan, stripe := ((t :: ts)[i]?).elim 0 (fun (u : Stripe) => u.no), pages := ps, newest := s.newestOf ps,
                             unread := ps.zipIdx.filterMap (fun n => if s.hotGets n.1 then none else some (t.plan.dataChan (a + i) n.2)) }
      let mark := s.crf.stripes.map (fun u => if ((t :: ts).map (fun u => u.no)).contains u.no then { u with migrated := true } else u)
      let w : State := { s with crf := { s.crf with arch := (List.range b).foldl put s.crf.arch, nextArch := a + b,
                                                    nextMig := (((t :: ts).getLast?.getD t).no + 1) % 2 ^ 64, stripes := mark } }
      s.appending = true → (s.crf.stripes.filter (fun t => !t.migrated)).getLast? = some t0 → s.nextGroup b = t :: ts → s.crf.reading = none →
      (((t :: ts).flatMap (fun u => u.pages)).flatMap s.hotSources = [] → w.programGroup a b (w.archChans t.plan) = some v →
        ∃ u, exec .archiveMigrate s = .next u ∧ u.crf.nextArch = a + b ∧ u.crf.stripes = mark
          ∧ ∀ i, i < b → ∃ x, FMap.look u.crf.arch (a + i) = some x ∧ x.plan = t.plan ∧ x.pages = ((t :: ts)[i]?).elim [] (fun (u : Stripe) => u.pages))
      ∧ (((t :: ts).flatMap (fun u => u.pages)).flatMap s.hotSources ≠ [] →
        ∃ u, exec .archiveMigrate s = .next u ∧ u.crf = { s.crf with reading := some true } ∧ u.regs = s.regs))
    ∧ (∀ k, s.appending = true → s.erasable = some k →
      s.exporting (((s.crf.arch.filter (fun e => decide (e.1 / 4096 = k))).filter (fun e => e.2.ranks.isEmpty)).flatMap (fun e => e.2.pages)) = false →
        ∃ u, exec .segmentErase s = .next u ∧ u.crf.erased = s.crf.erased ++ [k] ∧ u.crf.arch = s.crf.arch.filter (fun e => !decide (e.1 / 4096 = k))
          ∧ u.crf.nextArch = s.crf.nextArch ∧ u.crf.stripes = s.crf.stripes)
    ∧ (∀ r, s.appending = true → s.crf.rehomes.find? (fun r => decide (r.done < 2)) = some r → r.done = 1 → s.rehomePassed r = true →
        ∃ u, exec .rehome s = .next u ∧ u.crf.rehomes = (s.crf.rehomes.map (fun x => if x = r then { x with done := 2 } else x)).filter
            (fun x => !(decide (1 ≤ x.done) && x.ranks.all (fun a => s.crf.erased.contains (a / 4096))))
          ∧ (r.ch < 32 → u.flag (NDC_STAT.REHOME_DONE r.ch) = true) ∧ u.crf.arch = s.crf.arch)
    ∧ (∀ bad anchors, s.run = true → s.flag CRF_STATUS.REPLAYING = true → s.flag CRF_STATUS.POWER_FAIL = false → s.crf.read = false →
        ∃ u, exec (.replay bad anchors) s = .next u ∧ u.crf.read = true ∧ u.flag CRF_STATUS.REPLAYING = true)
    ∧ (∀ bad anchors, s.run = true → s.flag CRF_STATUS.REPLAYING = true → s.flag CRF_STATUS.POWER_FAIL = false → s.crf.read = true → s.resumable = true →
        ∃ u, exec (.replay bad anchors) s = .next u ∧ u.flag CRF_STATUS.REPLAYING = false ∧ u.merge.open_ = true)

/-- O33. POUR_DECIDE, for each port: a frame that may be released leaves the gate for the port's MAC queue while its link is up; one whose dependency is invalid, unknown or void leaves it without being queued; one that must wait stays the head. HOLD_TIMEOUT removes a head held for the limit. EGRESS_TRANSMIT starts the port's next frame and puts its bytes on the lane, and EGRESS_DONE ends it. COMPLETION: under the conditions given, on the state and the operands alone, each of these commands answers a next state with the effect of its own given here: POUR_DECIDE, HOLD_TIMEOUT, EGRESS_TRANSMIT, EGRESS_DONE. (06_carafe_journal.md R236, 06_carafe_journal.md R237, 06_carafe_journal.md R238, 09_rings.md R366, 09_rings.md R367) -/
def Obligations.PortsTransmit : Prop :=
  ∀ (s : State) (p : Fin 64),
    let x := s.eport p
    (s.gateOn = true → ∀ f rest, x.held = f :: rest →
      ∃ u, exec .pourDecide s = .next u ∧
        (s.gate f = .release → s.flag (SEQ_PST.LINK p) = true → u.eport p = { x with held := rest, since := s.ticks, gatedQ := x.gatedQ ++ [f] })
        ∧ (s.gate f = .release → s.flag (SEQ_PST.LINK p) = false → u.eport p = { x with held := rest, since := s.ticks })
        ∧ (s.gate f = .invalid ∨ s.gate f = .unknown ∨ s.gate f = .void → u.eport p = { x with held := rest, since := s.ticks })
        ∧ (s.gate f = .hold → u.eport p = x))
    ∧ (s.gateOn = true → ∀ f, s.holdOver p = some f →
      ∃ u, exec .holdTimeout s = .next u ∧ u.eport p = { x with held := x.held.tail, since := s.ticks } 
        ∧ (s.rd PRG_CNT.HOLD_TIMEOUT < 2 ^ PRG_CNT.HOLD_TIMEOUT.width - 1 → s.rd PRG_CNT.HOLD_TIMEOUT < u.rd PRG_CNT.HOLD_TIMEOUT))
    ∧ (∀ f y, s.run = true → x.tx = none → x.next = some (f, y) → s.flag (SEQ_PST.LINK p) = true →
      ∃ u, exec (.egressTransmit p) s = .next u ∧ u = { s with eports := u.eports, out := .frame p f.data :: s.out } ∧ u.eport p = { y with tx := some f }
        ∧ ∀ q, q ≠ p.val → u.eport q = s.eport q)
    ∧ (∀ f, s.run = true → x.tx = some f →
      ∃ u, exec (.egressDone p) s = .next u ∧ u.eport p = { x with tx := none } ∧ (∀ q, q ≠ p.val → u.eport q = s.eport q) ∧ u.out = s.out)

/-- O34. Whatever the state, POUR_DECIDE adds a frame to a port's MAC queue only if the watermark is valid and covers the sequence number that the frame depends on, and the frame's own sequence number is above it. Every frame that was queued before stays queued, in its order, and no ungated frame and no frame in transmission changes. (06_carafe_journal.md R236, 06_carafe_journal.md R237) -/
def Obligations.GateHoldsUntilDurable : Prop :=
  ∀ (s u : State), exec .pourDecide s = .next u → ∀ p, p < 64 →
    (∃ new, (u.eport p).gatedQ = (s.eport p).gatedQ ++ new ∧ new.length ≤ 1
      ∧ ∀ f ∈ new, s.flag CRF_STATUS.WM_VALID = true ∧ f.dep ≤ s.rd PRG_WM.SEQ ∧ f.dep < f.seq ∧ (s.eport p).held.head? = some f)
    ∧ (u.eport p).ungatedQ = (s.eport p).ungatedQ ∧ (u.eport p).tx = (s.eport p).tx

/-- O35. On a context whose turn it is to issue the word at its PC, with legal operands, each word that uses the bus takes it and goes on to the next PC. CMD drives its byte; ADDR drives the column, the row, both, or the literal, padded or cut to A bytes; LIT drives A bytes of W; TBL drives A bytes of the row that LC0 names; DOUT drives the buffer from the cursor (with ENC, codewords) and the transfer starts; DIN starts a transfer; SRD reads the status, plain or enhanced. That the bytes of a TBL past the row's end are free is the model's choice (log entry 78). COMPLETION: under the conditions given, on the state and the operands alone, each of these commands answers a next state with the effect of its own given here: DRIP_CMD, DRIP_ADDR, DRIP_LIT, DRIP_TBL, DRIP_DOUT, DRIP_DIN, DRIP_SRD. (07_nand_drip.md R262, 07_nand_drip.md R263, 07_nand_drip.md R249) -/
def Obligations.DripBusWords : Prop :=
  ∀ (s : State) (c : Fin 32) (l : Fin 16) (a : Fin 1024) (b : Fin 65536) (w : BitVec 32),
    let x := s.ctx c l
    let y : Ctx := { x with pc := x.pc + 1 }
    let ce := l.val / 2
    let rdy := fun (uop a b w : Nat) => s.dripReady c l uop a b w
    let did := fun (i : Instr) (z : Ctx) (o : List Out) => ∃ u, exec i s = .next u ∧ CtxStep s u c l z ∧ u.busOf c = some l.val ∧ u.out = o ++ s.out
    (rdy 1 0 0 w.toNat → w.toNat < 256 → did (.dripCmd c l 0 0 w) { y with cmdAt := s.ticks } [.nandCmd c ce (BitVec.ofNat 8 w.toNat)])
    ∧ (∀ o, x.op = some o → 1 ≤ a.val → a.val ≤ 8 →
        (rdy 2 a 0 0 → did (.dripAddr c l a 0 0) y [.nandAddr c ce (padTo a (leBytes 2 o.col))])
        ∧ (rdy 2 a 1 0 → did (.dripAddr c l a 1 0) y [.nandAddr c ce (padTo a (leBytes 3 (s.rowAddr c l o)))])
        ∧ (rdy 2 a 2 0 → did (.dripAddr c l a 2 0) y [.nandAddr c ce (padTo a (leBytes 2 o.col ++ leBytes 3 (s.rowAddr c l o)))])
        ∧ (rdy 2 a 3 w.toNat → did (.dripAddr c l a 3 w) y [.nandAddr c ce (padTo a (leBytes 4 w.toNat))]))
    ∧ (rdy 3 a 0 w.toNat → 1 ≤ a.val → a.val ≤ 4 → did (.dripLit c l a 0 w) y [.nandData c ce ((leBytes 4 w.toNat).take a)])
    ∧ (rdy 4 a b w.toNat → 1 ≤ a.val → a.val ≤ 8 → b.val < 32 → w.toNat < 8 → x.lc.headD 0 < FMap.get 0 (s.bank c x.bank).rows b →
        (w.toNat + a.val ≤ 8 → did (.dripTbl c l a b w) y [.nandData c ce ((List.range a).map (fun i =>
          BitVec.ofNat 8 (FMap.get 0 (s.bank c x.bank).table (512 * b + 8 * x.lc.headD 0 + w.toNat + i))))])
        ∧ ∃ bs, bs.length = a.val ∧ did (.dripTbl c l a b w) y [.nandData c ce bs])
    ∧ (rdy 6 0 0 w.toNat → w.toNat < 2 ^ 18 →
        did (.dripDout c l 0 0 w) { y with cursor := x.cursor + w.toNat, st := .transfer, din := none } [.nandData c ce (slice x.buf x.cursor w.toNat)])
    ∧ (rdy 6 1 0 w.toNat → w.toNat < 2 ^ 18 → w.toNat % 2304 = 0 →
        ∃ bs, bs.length = w.toNat ∧ (∀ k, k < w.toNat / 2304 → slice bs (2304 * k) 2048 = slice x.buf (x.cursor + 2048 * k) 2048)
          ∧ did (.dripDout c l 1 0 w) { y with cursor := x.cursor + w.toNat / 2304 * 2048, st := .transfer, din := none } [.nandData c ce bs])
    ∧ (rdy 7 a 0 w.toNat → a.val < 4 → w.toNat < 2 ^ 18 → did (.dripDin c l a 0 w) { y with st := .transfer, din := some (a.val, w.toNat, x.cursor) } [])
    ∧ (∀ (sr : Byte) o, x.op = some o →
        (rdy 15 0 0 0 → did (.dripSrd c l 0 0 0 sr) { y with sr := sr.toNat } [.nandCmd c ce 0x70])
        ∧ (rdy 15 1 0 0 → did (.dripSrd c l 1 0 0 sr) { y with sr := sr.toNat } [.nandAddr c ce (leBytes 3 (s.rowAddr c l o)), .nandCmd c ce 0x78]))

/-- O36. On a context whose turn it is to issue the word at its PC, with legal operands, the words that do not use the bus go on to the next PC, or to W for a branch taken and a call, with the effect of their rows on the cursor, loop counters, stack and wait; BUSREL and WAITC let the bus go. END ends the operation with its status, which goes to the owner, and lets the bus go; the end of a sweep's read marks its block for refresh where the read was poor. An illegal operand or a PC beyond the bank ends the operation as ILLEGAL, with DRP_FAULT valid and a RESET_LUN due. COMPLETION: under the conditions given, on the state and the operands alone, each of these commands answers a next state with the effect of its own given here: DRIP_NOP, DRIP_BSET, DRIP_WAITC, DRIP_DELAY, DRIP_BR, DRIP_CALL, DRIP_RET, DRIP_LDC, DRIP_BUSREL, DRIP_END. (07_nand_drip.md R262, 07_nand_drip.md R263, 07_nand_drip.md R264, 07_nand_drip.md R265, 07_nand_drip.md R266, 07_nand_drip.md R282) -/
def Obligations.DripControlWords : Prop :=
  ∀ (s : State) (c : Fin 32) (l : Fin 16) (a : Fin 1024) (b : Fin 65536) (w : BitVec 32),
    let x := s.ctx c l
    let y : Ctx := { x with pc := x.pc + 1 }
    let rdy := fun (uop a b w : Nat) => s.dripReady c l uop a b w
    let did := fun (i : Instr) (z : Ctx) => ∃ u, exec i s = .next u ∧ CtxStep s u c l z ∧ u.busOf c = s.busOf c ∧ u.out = s.out
    let freed := fun (i : Instr) (z : Ctx) => ∃ u, exec i s = .next u ∧ CtxStep s u c l z
      ∧ u.busOf c = (if s.busOf c = some l.val then none else s.busOf c) ∧ u.out = s.out
    let br := fun (k : Fin 1024) (z : Ctx) => rdy 10 k b w.toNat → did (.dripBr c l k b w) z
    let ends := fun (i : Instr) => ∃ u, exec i s = .next u ∧ (u.ctx c l).op = none ∧ (u.ctx c l).needReset = true ∧ u.flag (DRP_FAULT.VALID c) = true
    (rdy 0 0 0 0 → did (.dripNop c l 0 0 0) y)
    ∧ (rdy 5 0 0 w.toNat → w.toNat < 2 ^ 18 → did (.dripBset c l 0 0 w) { y with cursor := w.toNat })
    ∧ (rdy 8 a b w.toNat → a.val < 4 → (a.val = 1 ∨ b.val = 0) → freed (.dripWaitc c l a b w)
        { y with st := .waiting, wait := some (a.val, b.val, if w = 0 then s.rd (NDC_TIMING.DEF_TMO c) else w.toNat), waitAt := s.ticks, pollAt := s.ticks, polled := false })
    ∧ (rdy 9 0 0 w.toNat → did (.dripDelay c l 0 0 w) { y with st := .waiting, wait := some (16, 0, w.toNat), waitAt := s.ticks })
    ∧ (w.toNat < (s.bank c x.bank).used → w.toNat < 4096 →
        (b = 0 → br 0 { y with pc := w.toNat })
        ∧ br 1 (if x.sr &&& b.val % 256 = b.val / 256 then { y with pc := w.toNat } else y)
        ∧ br 2 (if x.sr &&& b.val % 256 = b.val / 256 then y else { y with pc := w.toNat })
        ∧ (b.val < 4 →
          let v := (x.lc.getD b 0 + 65535) % 65536
          br 3 (if v = 0 then { y with lc := x.lc.set b v } else { y with lc := x.lc.set b v, pc := w.toNat }))
        ∧ (b = 0 → br 4 (if x.decOk then y else { y with pc := w.toNat }) ∧ br 5 (if x.decOk then { y with pc := w.toNat } else y)
          ∧ br 6 (if x.erased then { y with pc := w.toNat } else y))
        ∧ (rdy 11 0 0 w.toNat → x.stack.length < 4 → did (.dripCall c l 0 0 w) { y with stack := (x.pc + 1) :: x.stack, pc := w.toNat }))
    ∧ (∀ p ps, x.stack = p :: ps → rdy 12 0 0 0 → did (.dripRet c l 0 0 0) { y with stack := ps, pc := p })
    ∧ (rdy 13 a 0 w.toNat → a.val < 4 → w.toNat < 65536 → did (.dripLdc c l a 0 w) { y with lc := x.lc.set a w.toNat })
    ∧ (∀ o, x.op = some o → rdy 13 a 0 0 → 4 ≤ a.val → a.val < 8 → did (.dripLdc c l a 0 0) { y with lc := x.lc.set (a.val - 4) o.level })
    ∧ (rdy 14 0 0 0 → freed (.dripBusrel c l 0 0 0) y)
    ∧ (∀ o, x.op = some o → rdy 16 0 0 w.toNat → w.toNat < 7 →
        ∃ u, exec (.dripEnd c l 0 0 w) s = .next u ∧ (u.ctx c l).op = none ∧ (u.ctx c l).st = .idle ∧ u.busOf c ≠ some l.val
          ∧ (o.tag.owned = true → ∃ e ∈ u.nand.done, e.op = o ∧ e.status = w.toNat ∧ e.ch = c.val ∧ e.lun = l.val ∧ e.data = x.buf)
          ∧ (o.tag = .sweep → o.reads = true → w = 0 → s.rd (NDC_REF_CFG.REFRESH_LVL c) ≤ x.lc.headD 0 ∨ s.rd (NDC_REF_CFG.CORR_THR c) ≤ x.decBits →
              o.blk ∈ (u.lun c l).refresh))
    ∧ (¬(a = 0 ∧ b = 0 ∧ w = 0) → rdy 0 a b w.toNat → ends (.dripNop c l a b w))
    ∧ (s.ctxReady c l = true → s.dripOn c = true → (s.bank c x.bank).used ≤ x.pc → ends (.dripNop c l a b w) ∧ ends (.dripEnd c l a b w))

/-- O37. DRIP_DISPATCH on an idle context starts the operation that is next, at its entry in the active bank with its own data in the buffer; a recovery RESET_LUN or IDENT comes first. A wait that holds, a delay that has passed and a TIME wait that runs out let the context issue again; any other wait that runs out ends the operation with TIMEOUT. STATUS_POLL reads the status again, the first time or once POLL_NS have passed. A transfer's bytes land in the buffer where the DIN began, and those of a decode mode go to the decoder; a decode gives its result once its time has passed and, when correctable, places its data there. The context parked longest takes the free bus. COMPLETION: under the conditions given, on the state and the operands alone, each of these commands answers a next state with the effect of its own given here: DRIP_DISPATCH, DRIP_WAITC_DONE, DRIP_WAITC_TIMEOUT, DRIP_DELAY_EXPIRE, STATUS_POLL, DRIP_TRANSFER_DONE, DRIP_DECODE_READY, DRIP_BUS_GRANT. (07_nand_drip.md R260, 07_nand_drip.md R261, 07_nand_drip.md R262, 07_nand_drip.md R263, 07_nand_drip.md R264, 07_nand_drip.md R265, 07_nand_drip.md R249) -/
def Obligations.DripWaitsAndDispatch : Prop :=
  ∀ (s : State) (c : Fin 32) (l : Fin 16), s.dripOn c = true →
    let x := s.ctx c l
    let did := fun (i : Instr) (z : Ctx) => ∃ u, exec i s = .next u ∧ CtxStep s u c l z ∧ u.busOf c = s.busOf c
    let start := fun (u : State) (o : NandOp) => (u.ctx c l).op = some o ∧ (u.ctx c l).st = .issuing ∧ (u.ctx c l).bank = s.rd (DRP_STAT.ACTIVE_BANK c)
      ∧ (u.ctx c l).pc = FMap.get 0 (s.bank c (s.rd (DRP_STAT.ACTIVE_BANK c))).entry o.kind % 4096 ∧ (u.ctx c l).buf = o.data ∧ (u.ctx c l).lc = [0, 0, 0, 0]
      ∧ (u.ctx c l).stack = [] ∧ (u.ctx c l).cursor = 0
    let entry := fun (k : Nat) => bitAt (FMap.get 0 (s.bank c (s.rd (DRP_STAT.ACTIVE_BANK c))).entry k) 12 = true
    (x.op = none → x.aborts = 0 → s.failing = false → s.err.pend = none → s.flag (DRP_CTRL.SUSPEND c) = false → s.lunLost c l = false →
      (s.dispatches c { kind := 3, tag := .own 0 } = true →
        (x.needReset = true → entry 0 → ∃ u, exec (.dripDispatch c l) s = .next u ∧ start u { kind := 0, tag := .own 0 })
        ∧ (x.needReset = false → x.needIdent = true → entry 1 → ∃ u, exec (.dripDispatch c l) s = .next u ∧ start u { kind := 1, tag := .own 0 }))
      ∧ (∀ i o, x.needReset = false → x.needIdent = false → s.nextOp c l = some i → x.queue[i]? = some o → entry o.kind →
        ∃ u, exec (.dripDispatch c l) s = .next u ∧ start u o ∧ ∃ more, (u.ctx c l).queue = x.queue.eraseIdx i ++ more))
    ∧ (x.st = .waiting →
      (s.waitHolds c x = true → did (.dripWaitcDone c l) { x with st := .issuing, wait := none })
      ∧ (s.waitOver x = true →
        (∀ b t, x.wait = some (2, b, t) → did (.dripWaitcTimeout c l) { x with st := .issuing, wait := none })
        ∧ (∀ k b t o, x.wait = some (k, b, t) → k < 4 → k ≠ 2 → x.op = some o →
          ∃ u, exec (.dripWaitcTimeout c l) s = .next u ∧ (u.ctx c l).op = none ∧ (u.ctx c l).needReset = true
            ∧ (o.tag.owned = true → ∃ e ∈ u.nand.done, e.op = o ∧ e.status = 3))
        ∧ (∀ b t, x.wait = some (16, b, t) → did (.dripDelayExpire c l) { x with st := .issuing, wait := none }))
      ∧ (∀ b t o (sr : Byte), x.wait = some (1, b, t) → x.op = some o → x.polled = false ∨ x.pollAt + ceilDiv (s.rd (NDC_TIMING.POLL_NS c) * 5) 4 ≤ s.ticks →
        did (.statusPoll c l sr) { x with sr := sr.toNat, polled := true, pollAt := s.ticks }))
    ∧ (x.st = .transfer → ∀ data,
      (x.din = none → did (.dripTransferDone c l data) { x with st := .issuing })
      ∧ (∀ m n at_, x.din = some (m, n, at_) → ∃ z, did (.dripTransferDone c l data) z ∧ z.st = .issuing ∧ z.din = none ∧ z.pc = x.pc
        ∧ z.erased = (decide (2304 ≤ n) && erasedCodewords (n / 2304) (padTo n data))
        ∧ (m % 2 = 1 → z.cursor = at_ + n / 2304 * 2048 ∧ z.decs = x.decs ++ [(m, n, at_, s.ticks)] ∧ z.buf = x.buf)
        ∧ (m % 2 = 0 → z.cursor = at_ + n ∧ z.decs = x.decs ∧ (data.length = n → slice z.buf at_ n = data))))
    ∧ (∀ m n at_ t ds (errors : Fin 18433) data, x.decs = (m, n, at_, t) :: ds → t + (if m = 1 then 2500 else 25000) ≤ s.ticks →
      let good := decide (errors.val ≤ if m = 1 ∨ x.senses < 2 then 120 else 180)
      ∃ z, did (.dripDecodeReady c l errors data) z ∧ z.decs = ds ∧ z.decOk = good ∧ (good = true → z.decBits = errors.val) ∧ (good = false → z.buf = x.buf)
        ∧ (good = true → data.length = n / 2304 * 2048 → slice z.buf at_ (n / 2304 * 2048) = data) ∧ z.pc = x.pc ∧ z.st = x.st ∧ z.cursor = x.cursor)
    ∧ (∀ ls, s.busSaucer c = l.val :: ls → s.busOf c = none →
      ∃ u, exec (.dripBusGrant c) s = .next u ∧ u.busOf c = some l.val ∧ u.busSaucer c = ls ∧ u.ctx c l = { x with st := .issuing })

/-- O38. SUSPEND is set or cleared. ABORT completes the operations that wait in an idle context with ABORTED, and in a busy one at its next boundary; the channel's own are queued again. SWAP makes the standby bank active. LUN_FORMAT writes a record version with the factory-bad blocks marked. BLOCK_SUBSTITUTE gives the block a spare in a new record version, or loses the LUN when none is left. RETENTION_SWEEP reads every page of the next programmed block as BACKGROUND operations. NAND_RETIRE_CHANNEL retires the channel, and the plan goes on without it. COMPLETION: under the conditions given, on the state and the operands alone, each of these commands answers a next state with the effect of its own given here: DRIP_SUSPEND, DRIP_ABORT, DRIP_SWAP, LUN_FORMAT, BLOCK_SUBSTITUTE, RETENTION_SWEEP, NAND_RETIRE_CHANNEL. (07_nand_drip.md R270, 07_nand_drip.md R271, 07_nand_drip.md R274, 07_nand_drip.md R276, 07_nand_drip.md R279, 07_nand_drip.md R281, 07_nand_drip.md R286, 07_nand_drip.md R287) -/
def Obligations.ChannelsAndTheirLuns : Prop :=
  ∀ (s : State) (c : Fin 32) (l : Fin 16),
    let x := s.lun c l
    let works := s.run = true ∧ s.chanUp c = true ∧ s.lunLost c l = false
    (∀ on, s.hasChannel c = true → ∃ u, exec (.dripSuspend c on) s = .next u ∧ u.flag (DRP_CTRL.SUSPEND c) = on ∧ u = { s with regs := u.regs })
    ∧ (s.hasChannel c = true → s.nand.todo = [] → (s.ctx c l).queue ≠ [] →
      ∃ u, exec (.dripAbort c) s = .next u
        ∧ ((s.ctx c l).op = none → (∀ o ∈ (u.ctx c l).queue, o.tag.owner = 2)
          ∧ ∀ o ∈ (s.ctx c l).queue, o.tag.owner ≠ 2 → ∃ e ∈ u.nand.done, e.op = o ∧ e.status = 4 ∧ e.ch = c.val ∧ e.lun = l.val)
        ∧ ((s.ctx c l).op.isSome = true → u.ctx c l = { s.ctx c l with aborts := (s.ctx c l).queue.length }))
    ∧ (s.hasChannel c = true → s.flag (DRP_STAT.STANDBY_VALID c) = true →
      ∃ u, exec (.dripSwap c) s = .next u ∧ u.rd (DRP_STAT.ACTIVE_BANK c) = 1 - s.rd (DRP_STAT.ACTIVE_BANK c) ∧ u.flag (DRP_STAT.STANDBY_VALID c) = false
        ∧ u = { s with regs := u.regs })
    ∧ (∀ marks fails, works → s.flag (NDC_LUN_CFG.PRESENT c l) = true → s.rd (NDC_LUN_CFG.REGION c l) ≠ 0 → x.valid = false →
      x.recs.any (fun r => r.serial == x.serial && r.left != 0 && !r.failed) = false →
      ∃ u, exec (.lunFormat c l marks fails) s = .next u ∧ (u.lun c l).serial = x.serial + 1
        ∧ FMap.get 0 (u.lun c l).defects 0 = (if s.rd (NDC_GEOM.BLOCKS c) = 0 then 0 else 3)
        ∧ (∀ p, p ≠ 0 → p < s.rd (NDC_GEOM.BLOCKS c) → s.factoryBad c p marks = true → FMap.get 0 (u.lun c l).defects p = 1)
        ∧ (∃ r ∈ (u.lun c l).recs, r.serial = x.serial + 1 ∧ r.left = 10 ∧ r.failed = false ∧ r.defects = (u.lun c l).defects ∧ r.map = (u.lun c l).map)
        ∧ ∀ i, i < 10 → u.waitsFor (fun t => t == .record (x.serial + 1) i) = true)
    ∧ (∀ b : Fin 16384, works → x.valid = true → b.val < x.logical → x.subst = none → FMap.get 0 x.defects (x.phys b) = 2 ∨ x.refresh.contains b.val = true →
      (∀ p rest, x.spares = p :: rest → p ∉ rest →
        ∃ u, exec (.blockSubstitute c l b 0 0 []) s = .next u
          ∧ (u.lun c l).subst = some { blk := b, old := x.phys b, new := p, serial := x.serial + 1, broken := FMap.get 0 x.defects (x.phys b) == 2 }
          ∧ (u.lun c l).spares = rest ∧ (u.lun c l).serial = x.serial + 1
          ∧ ∃ r ∈ (u.lun c l).recs, r.serial = x.serial + 1 ∧ r.left = 10 ∧ FMap.get 0 r.map b = p + 1)
      ∧ (x.spares = [] → ∃ u, exec (.blockSubstitute c l b 0 0 []) s = .next u ∧ u.lunLost c l = true))
    ∧ (∀ b d, works → x.valid = true → x.sweepLeft = 0 → x.sweepDay = some d → x.nextSwept = some b →
      ∃ u, exec (.retentionSweep c l) s = .next u ∧ (u.lun c l).sweepLeft = s.progPages c l b ∧ (u.lun c l).sweepAt = (if s.progPages c l b = 0 then b + 1 else b)
        ∧ (0 < s.progPages c l b → u.waitsFor (fun t => t == .sweep) = true))
    ∧ (∀ sl : Fin 256, s.request sl 0x0300 4 → s.arg sl 0 1 = c.val → s.arg sl 1 3 = 0 → s.hasChannel c = true → s.flag (NDC_STAT.RETIRED c) = false →
      s.nand.lost.contains c.val = false → bitAt s.crf.plan.mask c = true → s.crf.rehomes.length < 8 →
      (s.crf.plan.width < 4 → ∃ u, exec (.nandRetireChannel sl) s = .next u ∧ u.answered sl 0x0101 [])
      ∧ (4 ≤ s.crf.plan.width → ∃ u, exec (.nandRetireChannel sl) s = .next u ∧ u.flag (NDC_STAT.RETIRED c) = true ∧ u.crf.plan.mask = setBits s.crf.plan.mask c 1 0
        ∧ u.crf.plan.id = (s.crf.plan.id + 1) % 2 ^ 32 ∧ (u.mb sl).taken = true ∧ ∃ r ∈ u.crf.rehomes, r.ch = c.val ∧ r.kind = 1))

/-- O39. While PF0 takes requests: GO in IDLE copies the request, enters BUSY and counts it; GO in any other state only sets OVERRUN; ACK in DONE returns to IDLE. MAILBOX_DONE writes the response (opcode, length, tag and status, then the payload), enters DONE and sends the slice's vector when enabled; a request that an FLR of PF0 cut off leaves no response. A response that DEVICE_RESET waits on starts that request's clock; cut off, the request is dropped. ECHO is answered with its own payload, SLICE_INFO with the slice's number, rights, delivery epoch, PASID and state. COMPLETION: under the conditions given, on the state and the operands alone, each of these commands answers a next state with the effect of its own given here: GO, ACK, MAILBOX_DONE, ECHO, SLICE_INFO. (08_pcie_slices.md R319, 08_pcie_slices.md R320, 08_pcie_slices.md R321, 08_pcie_slices.md R322, 08_pcie_slices.md R323, 08_pcie_slices.md R332) -/
def Obligations.MailboxHandshake : Prop :=
  ∀ (s : State) (sl : Fin 256),
    let m := s.mb sl
    let asks := s.err.ask.any (fun a => a.1 == sl.val)
    let only := fun (u : State) => u = { s with mbox := u.mbox, goCount := u.goCount } ∧ ∀ j, j ≠ sl.val → u.mb j = s.mb j
    (s.pf0On = true →
      (m.st = .idle → ∃ u, exec (.go sl) s = .next u ∧ only u ∧ (u.mb sl).st = .busy ∧ (u.mb sl).taken = false ∧ (u.mb sl).ans = none
        ∧ (u.mb sl).op = leNat (Memory.readBytes m.req 0 2) ∧ (u.mb sl).lastOp = leNat (Memory.readBytes m.req 0 2) ∧ (u.mb sl).order = s.goCount ∧ u.goCount = s.goCount + 1
        ∧ (u.mb sl).requests = min (m.requests + 1) (2 ^ 32 - 1))
      ∧ (m.st ≠ .idle → ∃ u, exec (.go sl) s = .next u ∧ only u ∧ u.mb sl = { m with overrun := true } ∧ u.goCount = s.goCount)
      ∧ (m.st = .done → (∀ a t, s.err.ask = some (a, t) → a ≠ sl.val) → ∃ u, exec (.ack sl) s = .next u ∧ only u ∧ u.mb sl = { m with st := .idle } ∧ u.goCount = s.goCount))
    ∧ (∀ st pl, m.st = .busy → m.ans = some (st, pl) →
      (m.cut = false → ∃ u, exec (.mailboxDone sl) s = .next u
        ∧ u = { (if m.irqEn then s.msix 0 sl else s) with mbox := u.mbox, err := if asks then { s.err with askAt := some s.ticks } else s.err }
        ∧ (∀ j, j ≠ sl.val → u.mb j = s.mb j) ∧ (u.mb sl).st = .done
        ∧ Memory.readBytes (u.mb sl).rsp 0 (16 + pl.length) = leBytes 2 m.op ++ leBytes 2 pl.length ++ slice m.cur 4 4 ++ leBytes 2 st ++ zeros 6 ++ pl)
      ∧ (m.cut = true → ∃ u, exec (.mailboxDone sl) s = .next u ∧ u = { s with mbox := u.mbox, err := if asks then { s.err with ask := none } else s.err }
        ∧ (u.mb sl).st = .idle ∧ (u.mb sl).rsp = m.rsp))
    ∧ (s.mbReady sl 0x0001 = true → s.sliceOn sl = true → m.len ≤ 1008 → ∃ u, exec (.echo sl) s = .next u ∧ only u ∧ u.answered sl 0 m.payload)
    ∧ (s.mbReady sl 0x0002 = true → s.sliceOn sl = true → m.len = 0 → ∃ u, exec (.sliceInfo sl) s = .next u ∧ only u
      ∧ u.answered sl 0 (leBytes 1 sl ++ leBytes 1 (b2n (s.sliceAdmin sl)) ++ zeros 2 ++ leBytes 4 (s.rd (SLC_STAT.DELIVERY_EPOCH sl)) ++ leBytes 4 (s.rd (SLC_CFG.PASID sl))
        ++ leBytes 1 (s.slc sl).st))

/-- O40. A completion for no request is counted as unexpected; the last data of an indirect read is handed to its ring; a read that times out fails, its tag is quarantined and counted, and TAG_QUARANTINE_END frees the tag after one more timeout period. A LCK field takes Roaster's write before the configuration is applied, and none after; a ROC field reads and clears; a configuration write sets its field and sends the pending vectors that it unmasks, and the debug path reads and writes a halted thread's register. A BAR access reads and writes its bytes: what is written into an MSI-X table reads back. One past its BAR, or into PF0 BAR0 at a length or alignment that it does not take, receives Unsupported Request. COMPLETION: under the conditions given, on the state and the operands alone, each of these commands answers a next state with the effect of its own given here: READ_COMPLETION, COMPLETION_TIMEOUT, TAG_QUARANTINE_END, INBOUND_BAR_ACCESS, REGISTER_WRITE, ROC_READ. (08_pcie_slices.md R300, 08_pcie_slices.md R302, 08_pcie_slices.md R311, 08_pcie_slices.md R315, 00_scope.md R15, 00_scope.md R16) -/
def Obligations.ReadsAndRegisters : Prop :=
  ∀ (s : State),
    (∀ (tag : Fin 16384) c, s.pci.reads.find? (fun h => h.waits tag) = none →
      ∃ u, exec (.readCompletion tag c) s = .next u ∧ s.counted u PCI_TAG_STAT.UNEXPECTED 1 ∧ u.pci = s.pci ∧ u.hq = s.hq)
    ∧ (∀ (tag : Fin 16384) h q r bs, s.pci.reads.find? (fun h => h.waits tag) = some h → h.purpose = .indirect r → h.reqs = [q] → h.dead = false →
      q.len ≤ q.got.length + bs.length → ∃ u, exec (.readCompletion tag (.data bs)) s = .next u ∧ u.hq = { s.hq with sub := u.hq.sub }
        ∧ u.sub r = { s.sub r with indData := some ((q.got ++ bs).take q.len) } ∧ u.regs = s.regs)
    ∧ (∀ (tag : Fin 16384) h, s.pci.reads.find? (fun h => h.waits tag) = some h → s.timedOut h tag = true → h.squashed = false →
      ∃ u, exec (.completionTimeout tag) s = .next u ∧ u.pci.quarantine = s.pci.quarantine ++ [(tag.val, s.ticks)] ∧ s.counted u PCI_TAG_STAT.TIMEOUTS 1)
    ∧ (∀ tag : Fin 16384, ∃ u, exec (.tagQuarantineEnd tag) s = .next u ∧ u.pci.quarantine = s.pci.quarantine.filter (fun e => e.1 != tag.val || decide (s.ticks < e.2 + usTicks s.pci.fn1.timeoutUs)) ∧ u.regs = s.regs ∧ u.hq = s.hq)
    ∧ (∀ v : BitVec 64,
      (s.rd RST_STATUS.STATE = 0 → ∃ u, exec (.registerWrite (.space .roaster 0x80010 false v)) s = .next u ∧ u.rd PCI_TAG_CFG.RING_RSV = v.toNat % 2 ^ 14
        ∧ u.rd PCI_TAG_CFG.SLICE_MAX = v.toNat / 2 ^ 16 % 2 ^ 14 ∧ u = { s with regs := u.regs })
      ∧ (∀ who, who = Requester.host ∨ (who = .roaster ∧ s.rd RST_STATUS.STATE ≠ 0) →
        ∃ u, exec (.registerWrite (.space who 0x80010 false v)) s = .next u ∧ u = s))
    ∧ (∃ u, exec (.rocRead (.space .roaster 0x38 true)) s = .next u ∧ u.rd TMP_CNT.CLASS15_STAMPS = 0 ∧ u.rd TMP_CNT.RECAL_ABANDONED = 0 ∧ u.rd TMP_CNT.RECAL_REJECTED = 0
      ∧ u = { s with regs := u.regs })
    ∧ (s.flag PCI_LINK.UP = true → s.pci.perst = false → s.isFatal .pcie = false →
      (s.pci.fn1.flr = false → s.recovery = false → ∃ u, exec (.registerWrite (.config true .busMaster)) s = .next u
        ∧ u = State.sendPending { s with pci := { s.pci with fn1 := { s.pci.fn1 with busMaster := true } } } 1)
      ∧ (s.pci.fn0.flr = false → s.pci.fn0.d3 = false →
        (∀ off n, off + n ≤ 2 ^ 16 → ∃ u, exec (.inboundBarAccess .pf0Bar4 off n none) s = .next u
          ∧ u = { s with out := .completion (some ((List.range n).map (fun i => s.msixByte 0 (off + i)))) :: s.out })
        ∧ (∀ off (d : List Byte), off + d.length ≤ 16 * 288 → s.pci.fn0.msixEn = false → ∃ u, exec (.inboundBarAccess .pf0Bar4 off 0 (some d)) s = .next u
          ∧ u = { s with pci := { s.pci with msix0 := u.pci.msix0 } } ∧ (List.range d.length).map (fun i => u.msixByte 0 (off + i)) = d
          ∧ ∀ a, a < off ∨ off + d.length ≤ a → u.msixByte 0 a = s.msixByte 0 a)
        ∧ (∀ bar off n, barPf1 bar = false → barSize bar < off + n ∨ (bar = .pf0Bar0 ∧ ((n ≠ 4 ∧ n ≠ 8) ∨ off % n ≠ 0)) →
          ∃ u, exec (.inboundBarAccess bar off n none) s = .next u ∧ u.out.head? = some (.completion none) ∧ u.pci = s.pci ∧ u.mbox = s.mbox)))
    ∧ (∀ (t : Fin 8192) n v, s.debugOk t .jtag = true → (s.th t).st = .halt →
      ∃ u, exec (.registerWrite (.debug .jtag t (.reg n v))) s = .next u ∧ u = s.setTh t (u.th t) ∧ ∀ r : Nat, (u.th t).r r = if r = n.val ∧ r ≠ 0 then v else (s.th t).r r)
    ∧ (∀ (t : Fin 8192) n, s.debugOk t .jtag = true → (s.th t).st = .halt →
      exec (.rocRead (.debug .jtag t (.reg n))) s = .next { s with out := .debug (some [(s.th t).r n]) :: s.out })

/-- O41. An FLR of PF1, which a second one in progress does not begin again, D3hot, the clearing of Bus Master Enable and the loss of the link each start a squash of every enabled slice. An FLR of PF0 cuts the requests in progress off and returns the other mailboxes to IDLE. FLR_COMPLETE, once 1 ms has passed, gives the function its reset configuration. The link comes up with its speed, width and mode, and a retrain is counted. An endpoint reset does all of this for both functions and clears the active and shadow windows; PERST# holds the link down until it is deasserted. COMPLETION: under the conditions given, on the state and the operands alone, each of these commands answers a next state with the effect of its own given here: PF1_FLR, PF0_FLR, PF1_D3HOT, BUS_MASTER_CLEAR, PCIE_LINK_LOSS, ENDPOINT_RESET, PERST_DEASSERT, FLR_COMPLETE, PCIE_LINK_UP. (08_pcie_slices.md R296, 08_pcie_slices.md R331, 08_pcie_slices.md R332, 08_pcie_slices.md R333, 14_errors_resets_service.md R539) -/
def Obligations.FunctionsAndLink : Prop :=
  ∀ (s : State),
    let squashes := fun (u : State) => ∀ n, n < 256 → s.flag (SLC_CFG.EN n) = true → (u.slc n).st = 2
    let boxes := fun (u : State) => ∀ sl, ((s.mb sl).st = .busy → (u.mb sl).cut = true ∧ (u.mb sl).aborted = true ∧ (u.mb sl).st = .busy) ∧ ((s.mb sl).st ≠ .busy → (u.mb sl).st = .idle)
    (s.pci.fn1.flr = false → ∃ u, exec .pf1Flr s = .next u ∧ u.pci = { s.pci with fn1 := { s.pci.fn1 with flr := true, flrAt := s.ticks } } ∧ squashes u ∧ u.mbox = s.mbox)
    ∧ (s.pci.fn1.flr = true → exec .pf1Flr s = .next s)
    ∧ (s.pci.fn0.flr = false → ∃ u, exec .pf0Flr s = .next u ∧ u = { s with mbox := u.mbox, pci := { s.pci with fn0 := { s.pci.fn0 with flr := true, flrAt := s.ticks } } } ∧ boxes u)
    ∧ (s.pci.fn0.flr = true → exec .pf0Flr s = .next s)
    ∧ (∃ u, exec .pf1D3hot s = .next u ∧ u.pci = { s.pci with fn1 := { s.pci.fn1 with d3 := true } } ∧ squashes u)
    ∧ (s.pci.fn1.busMaster = true → ∃ u, exec .busMasterClear s = .next u ∧ u.pci = { s.pci with fn1 := { s.pci.fn1 with busMaster := false } } ∧ squashes u)
    ∧ (s.flag PCI_LINK.UP = true → ∃ u, exec .pcieLinkLoss s = .next u ∧ u.flag PCI_LINK.UP = false ∧ squashes u ∧ u.pci = s.pci)
    ∧ (∀ perst, s.err.pend = none → ∃ u, exec (.endpointReset perst) s = .next u
        ∧ u.pci = { s.pci with fn0 := {}, fn1 := {}, msix0 := [], msix1 := [], pend0 := [], pend1 := [], perst := s.pci.perst || perst } ∧ squashes u ∧ boxes u ∧ u.flag PCI_LINK.UP = false
        ∧ ∀ k, k < 16 → u.flag (PCI_WINA.EN k) = false ∧ u.flag (PCI_SWINA.EN k) = false)
    ∧ (∃ u, exec .perstDeassert s = .next u ∧ u = { s with pci := { s.pci with perst := false } })
    ∧ (s.flrOver s.pci.fn1 = true → ∃ u, exec (.flrComplete true) s = .next u ∧ u = { s with pci := { s.pci with fn1 := {}, msix1 := [], pend1 := [] } })
    ∧ (s.flrOver s.pci.fn0 = true → ∃ u, exec (.flrComplete false) s = .next u ∧ u = { s with pci := { s.pci with fn0 := {}, msix0 := [], pend0 := [] } })
    ∧ (∀ (speed : Fin 3) (width : Fin 5) flit, s.flag PCI_LINK.UP = false → s.pci.perst = false → s.isFatal .pcie = false → bitAt (s.rd (PWR_DOM.ON 1)) 11 = true →
      (speed = 2 → flit = true) → ∃ u, exec (.pcieLinkUp speed width flit) s = .next u ∧ u.flag PCI_LINK.UP = true ∧ u.rd PCI_LINK.SPEED = 4 + speed.val
        ∧ u.rd PCI_LINK.WIDTH = 2 ^ width.val ∧ u.flag PCI_LINK.FLIT = flit ∧ u = { s with regs := u.regs, pci := { s.pci with trained := true } }
        ∧ (s.pci.trained = true → s.counted u PCI_LINK.RETRAINS 1) ∧ (s.pci.trained = false → u.rd PCI_LINK.RETRAINS = s.rd PCI_LINK.RETRAINS))

/-- O42. A commit that no case refuses makes every shadow window active, clears REFUSED and advances the epoch; a refused one sets REFUSED and its reason and changes no active window. A peer request that starts and ends in an active window that it matches, with the right it needs, reads or writes the GDDR7 bytes that the window maps; one that starts in no window is refused, logged when the log is empty, and counted. COMPLETION: under the conditions given, on the state and the operands alone, each of these commands answers a next state with the effect of its own given here: PCI_WIN_COMMIT, PEER_TLP. (08_pcie_slices.md R334, 08_pcie_slices.md R335, 08_pcie_slices.md R336, 08_pcie_slices.md R337) -/
def Obligations.PeerWindows : Prop :=
  ∀ (s : State),
    (s.pf0On = true →
      (s.commitCase = 0 → ∃ u, exec .pciWinCommit s = .next u ∧ u = { s with regs := u.regs } ∧ u.flag PCI_WIN_COMMIT.REFUSED = false
        ∧ u.rd PCI_WIN_EPOCH.EPOCH = (s.rd PCI_WIN_EPOCH.EPOCH + 1) % 2 ^ 32
        ∧ ∀ k, k < 16 → u.rd (PCI_WINA.EN k) = s.rd (PCI_SWINA.EN k) % 2 ∧ u.rd (PCI_WINA.KIND k) = s.rd (PCI_SWINA.KIND k) % 4
          ∧ u.rd (PCI_WINA.BAR_4K k) = s.rd (PCI_SWINA.BAR_4K k) % 2 ^ 24 ∧ u.rd (PCI_WINA.SIZE_4K k) = s.rd (PCI_SWINA.SIZE_4K k) % 2 ^ 24
          ∧ u.rd (PCI_WINT.TGT_4K k) = s.rd (PCI_SWINT.TGT_4K k) % 2 ^ 24 ∧ u.rd (PCI_WINT.SLICE k) = s.rd (PCI_SWINT.SLICE k) % 2 ^ 8
          ∧ u.rd (PCI_WINR.RID k) = s.rd (PCI_SWINR.RID k) % 2 ^ 16 ∧ u.rd (PCI_WINR.RID_MASK k) = s.rd (PCI_SWINR.RID_MASK k) % 2 ^ 16
          ∧ u.rd (PCI_WINA.RD k) = s.rd (PCI_SWINA.RD k) % 2 ∧ u.rd (PCI_WINA.WR k) = s.rd (PCI_SWINA.WR k) % 2)
      ∧ (s.commitCase ≠ 0 → ∃ u, exec .pciWinCommit s = .next u ∧ u = { s with regs := u.regs } ∧ u.flag PCI_WIN_COMMIT.REFUSED = true
        ∧ u.rd PCI_WIN_COMMIT.REASON = s.commitCase ∧ u.rd PCI_WIN_EPOCH.EPOCH = s.rd PCI_WIN_EPOCH.EPOCH ∧ ∀ k, k < 16 → u.rd (PCI_WINA.EN k) = s.rd (PCI_WINA.EN k)))
    ∧ (∀ (rid : Fin 65536) (off : Fin 68719476736), s.flag PCI_LINK.UP = true → s.pci.perst = false → s.isFatal .pcie = false → s.pci.fn1.flr = false → s.pci.fn1.d3 = false → s.recovery = false →
      (∀ k, (List.range 16).find? (fun k => s.winStarts k rid off) = some k → s.rd (PCI_WINA.KIND k) = 0 →
        let a := s.rd (PCI_WINT.TGT_4K k) * 4096 + (off.val - s.rd (PCI_WINA.BAR_4K k) * 4096)
        (∀ n, s.winWhole k off n = true → s.flag (PCI_WINA.RD k) = true →
          ∃ u, exec (.peerTlp rid off n none) s = .next u ∧ u = { s with out := .completion (some (Memory.readBytes s.gddr a n)) :: s.out })
        ∧ (∀ d : List Byte, s.winWhole k off d.length = true → s.flag (PCI_WINA.WR k) = true →
          ∃ u, exec (.peerTlp rid off 0 (some d)) s = .next u ∧ u = { s with gddr := u.gddr } ∧ Memory.readBytes u.gddr a d.length = d
            ∧ ∀ b, b < a ∨ a + d.length ≤ b → Memory.read u.gddr b = Memory.read s.gddr b))
      ∧ ((List.range 16).find? (fun k => s.winStarts k rid off) = none → ∀ n, ∃ u, exec (.peerTlp rid off n none) s = .next u ∧ u.gddr = s.gddr
        ∧ s.counted u PCI_WIN_LOG.COUNT 1 ∧ u.flag PCI_WIN_LOG.VALID = true
        ∧ (s.flag PCI_WIN_LOG.VALID = false → u.rd PCI_WIN_LOG.CAUSE = 1 ∧ u.rd PCI_WIN_LOG.RID = rid.val ∧ u.rd PCI_WIN_LOG.OFFSET = off.val)))

/-- O43. SLICE_RESET on an enabled slice in RUN or STOPPED begins a drain or a squash, counted. A drained slice, and a squashed one, ends STOPPED with its delivery epoch, a counter that does not wrap, advanced and its rings stopped, and the asker is answered with that epoch; a squash abandons the slice's reads and its storage commands. A drain that passes its limit goes on as a squash. COMPLETION: under the conditions given, on the state and the operands alone, each of these commands answers a next state with the effect of its own given here: SLICE_RESET, SLICE_DRAIN_DONE, SQUASH, DRAIN_LIMIT_EXPIRE. (08_pcie_slices.md R325, 08_pcie_slices.md R326, 08_pcie_slices.md R327, 08_pcie_slices.md R328, 08_pcie_slices.md R329, 01_order_path.md R39) -/
def Obligations.SliceResets : Prop :=
  ∀ (s : State) (n : Fin 256),
    let epoch := min (s.rd (SLC_STAT.DELIVERY_EPOCH n) + 1) (2 ^ 32 - 1)
    let ended := fun (u : State) => (u.slc n).st = 3 ∧ (u.slc n).asker = none
      ∧ u.rd (SLC_STAT.DELIVERY_EPOCH n) = epoch
      ∧ (∀ r ∈ s.subRings, (s.sdesc r).slice = n.val → (u.sub r).st = .stopped) ∧ (∀ q ∈ s.dlvRings, (s.ddesc q).slice = n.val → (u.dlv q).st = .stopped ∧ (u.dlv q).backlog = [])
    (∀ sl : Fin 256, s.request sl 0x0003 8 → s.arg sl 0 1 = n.val → s.arg sl 1 1 = 1 ∨ s.arg sl 1 1 = 2 → s.arg sl 2 2 = 0 → s.arg sl 4 4 ≤ 1000000 →
      s.flag (SLC_CFG.EN n) = true → (s.slc n).st ≠ 1 → (s.slc n).st ≠ 2 →
      ∃ u, exec (.sliceReset sl) s = .next u ∧ (u.slc n).st = (if s.arg sl 1 1 = 2 then 2 else 1) ∧ (u.slc n).asker = some sl.val ∧ (u.slc n).began = s.ticks
        ∧ (u.slc n).limit = (if s.arg sl 4 4 = 0 then 1000 else s.arg sl 4 4) ∧ s.counted u (SLC_CNT.RESETS n) 1 ∧ u.flag (SLC_STAT.ESCALATED n) = false
        ∧ (u.mb sl).taken = true ∧ (u.mb sl).st = .busy)
    ∧ ((s.slc n).st = 1 → s.drained n = true → ∃ u, exec (.sliceDrainDone n) s = .next u ∧ ended u
      ∧ ∀ a, (s.slc n).asker = some a → (s.mb a).st = .busy →
        u.answered a 0 (leBytes 4 epoch ++ leBytes 1 1 ++ zeros 3 ++ leBytes 4 (s.slc n).squashed))
    ∧ ((s.slc n).st = 2 → ∃ u, exec (.squash n) s = .next u ∧ ended u ∧ (∀ h ∈ u.pci.reads, h.slice = n.val → h.dead = true) ∧ (∀ c ∈ u.blk.cmds, c.slice ≠ n.val))
    ∧ ((s.slc n).st = 1 → (s.slc n).began + usTicks (s.slc n).limit ≤ s.ticks → ∃ u, exec (.drainLimitExpire n) s = .next u ∧ u.slc n = { s.slc n with st := 2 } ∧ u.flag (SLC_STAT.ESCALATED n) = true
      ∧ s.warned u 7 0x0701 n (s.slc n).limit)

/-- O44. On a ring in RUN whose slice runs: SUB_TAIL moves A to a tail in reach, and else is ignored and counted; PUSH_DATA stores its bytes and marks the words, and a misformed one is counted; PUSH_GO takes a whole pushed entry, and ENTRY_ARRIVE the entry at the head: H passes it, it is counted, and an inline CTRL entry becomes a host-lane record in its place. An entry whose OWN bit is still 0 is discarded to be read again, which REFETCH does when RETRY_NS has passed; after RETRY_MAX times the ring enters ERROR. FETCH_GRANT reads the next granules of the ring that the arbiter names, and AHEAD_POLL, at its interval, the next word 0. COMPLETION: under the conditions given, on the state and the operands alone, each of these commands answers a next state with the effect of its own given here: SUB_TAIL, PUSH_DATA, PUSH_GO, FETCH_GRANT, AHEAD_POLL, ENTRY_ARRIVE, REFETCH. (09_rings.md R347, 09_rings.md R348, 09_rings.md R353, 09_rings.md R354, 09_rings.md R355, 09_rings.md R356, 09_rings.md R357, 09_rings.md R358, 09_rings.md R359, 09_rings.md R360, 09_rings.md R362) -/
def Obligations.SubmissionRings : Prop :=
  ∀ (s : State) (r : Fin 32768),
    let x := s.sub r
    let d := s.sdesc r
    let arrives := fun (u : State) (e : List Byte) (a : Nat) => (u.sub r).h = idxAdd a (eLen e) ∧ (u.sub r).count = x.count + 1 ∧ s.counted u HQ_CNT0.ARRIVED 1
    let whole := fun (e : List Byte) => bitAt (field e 0 1) 0 = true ∧ eOpc e ≠ 0 ∧ x.h % d.gran + eLen e ≤ d.gran
    (x.st = .run → (s.slc d.slice).st ≠ 1 → (s.slc d.slice).st ≠ 2 →
      (∀ v : BitVec 64, v.toNat % 2 ^ 32 ≠ x.a →
        ((idxSub (v.toNat % 2 ^ 32) x.a ≤ d.gran ∧ idxSub (v.toNat % 2 ^ 32) x.h ≤ d.gran) →
          ∃ u, exec (.subTail r v) s = .next u ∧ u = { s with hq := { s.hq with sub := u.hq.sub } } ∧ u.sub r = { x with a := v.toNat % 2 ^ 32 })
        ∧ (¬(idxSub (v.toNat % 2 ^ 32) x.a ≤ d.gran ∧ idxSub (v.toNat % 2 ^ 32) x.h ≤ d.gran) →
          ∃ u, exec (.subTail r v) s = .next u ∧ u = { s with regs := u.regs } ∧ s.counted u HQ_CNT1.DB_IGNORED 1))
      ∧ (∀ (off : Fin 512) (data : List Byte),
        (off.val % 8 = 0 ∧ data.length % 8 = 0 ∧ data ≠ [] ∧ off.val + data.length ≤ 512 →
          ∃ u, exec (.pushData r off data) s = .next u ∧ u = { s with hq := { s.hq with sub := u.hq.sub } } ∧ Memory.readBytes (u.sub r).push off data.length = data
            ∧ (u.sub r).a = x.a ∧ ∀ i, bitAt (u.sub r).pushed i = (bitAt x.pushed i || (decide (off.val / 8 ≤ i) && decide (i < (off.val + data.length) / 8))))
        ∧ (¬(off.val % 8 = 0 ∧ data.length % 8 = 0 ∧ data ≠ [] ∧ off.val + data.length ≤ 512) → ∃ u, exec (.pushData r off data) s = .next u ∧ u = { s with regs := u.regs } ∧ s.counted u HQ_CNT1.DB_BAD_WRITE 1))
      ∧ (∀ v : BitVec 64,
        let e := Memory.readBytes x.push 0 512
        let e' := e.take (32 * eLen e)
        bitAt x.pushed 0 = true → s.pushTaken r (v.toNat % 2 ^ 32) e = true → whole e → d.cls = 0 → eOpc e = 1 → eIndirect e = false → s.refuse r e' = none →
          ∃ u, exec (.pushGo r v) s = .next u ∧ arrives u e (v.toNat % 2 ^ 32) ∧ (u.sub r).a = idxAdd (v.toNat % 2 ^ 32) (eLen e) ∧ (u.sub r).pushed = 0
            ∧ u.merge.host = insertHost (ctrlRec d.slice r x.count s.nowStamp e' (inlineData e')) s.merge.host))
    ∧ (x.st = .run → x.refetch = false → 32 * eLen x.got ≤ x.got.length → whole x.got →
      let e := x.got.take (32 * eLen x.got)
      (s.refuse r e = none → d.cls = 0 → eOpc e = 1 → eIndirect e = false → ∃ u, exec (.entryArrive r) s = .next u ∧ arrives u x.got x.h
        ∧ u.merge.host = insertHost (ctrlRec d.slice r x.count s.nowStamp e (inlineData e)) s.merge.host)
      ∧ (∀ c, s.refuse r e = some c → ∃ u, exec (.entryArrive r) s = .next u ∧ arrives u x.got x.h ∧ s.counted u HQ_CNT0.REFUSED 1 ∧ u.merge = s.merge ∧ u.blk = s.blk))
    ∧ (∀ left, s.nextGrant = some (r.val, left) → ∃ u, exec .fetchGrant s = .next u ∧ (u.sub r).f = idxAdd x.f (s.grantSize r) ∧ (u.sub r).grants = x.grants + 1
      ∧ u.hq.arbRing = r.val ∧ u.hq.arbLeft = left - 1 ∧ ∃ h ∈ u.pci.reads, h.purpose = .grant r x.f (s.grantSize r) ∧ h.slice = d.slice)
    ∧ (s.ringRuns r = true → d.en = true → d.ahead = true → s.mayReceive r 1 = true → s.unread r = 0 → x.grants = 0 → x.polling = false → x.refetch = false →
      (∀ t, x.polledAt = some t → t + nsTicks (bits d.w2 11 16) ≤ s.ticks) →
      ∃ u, exec (.aheadPoll r) s = .next u ∧ u.sub r = { x with polling := true } ∧ ∃ h ∈ u.pci.reads, h.purpose = .poll r x.h ∧ h.slice = d.slice)
    ∧ (x.st = .run → x.refetch = false → 8 ≤ x.got.length → bitAt (field x.got 0 1) 0 = false →
      (x.retries < s.rd HQ_CFG.RETRY_MAX → ∃ u, exec (.entryArrive r) s = .next u
        ∧ u.sub r = { x with refetch := true, readAt := s.ticks, got := [], f := x.h, grants := 0, reserved := 0 } ∧ u.regs = s.regs ∧ u.merge = s.merge ∧ u.out = s.out)
      ∧ (s.rd HQ_CFG.RETRY_MAX ≤ x.retries → ∃ u, exec (.entryArrive r) s = .next u ∧ (u.sub r).st = .error ∧ (u.sub r).cause = 2 ∧ (u.sub r).h = x.h))
    ∧ (x.st = .run → x.refetch = true → x.readAt + nsTicks (s.rd HQ_CFG.RETRY_NS) ≤ s.ticks →
      ∃ u, exec (.refetch r) s = .next u ∧ u.sub r = { x with refetch := false, retries := x.retries + 1 } ∧ s.counted u HQ_CNT1.REFETCH 1 ∧ u.pci = s.pci)

/-- O45. DELIVER_GROUP hands over the oldest group: a running ring with room, no backlog and nothing to redeliver takes it at Wd; a stopped ring keeps a completion and drops a record; a ring in OVERFLOW counts a completion as lost. DLV_RELEASE at a group boundary moves Rd there, and its ARM bit arms the ring; another value is ignored and counted. COAL_TIMER sends the vector of an armed ring that has had groups to report for COAL_NS. COMPLETION: under the conditions given, on the state and the operands alone, each of these commands answers a next state with the effect of its own given here: DLV_RELEASE, DELIVER_GROUP, COAL_TIMER. (09_rings.md R369, 09_rings.md R371, 09_rings.md R372, 09_rings.md R373, 09_rings.md R374, 09_rings.md R375, 09_rings.md R377) -/
def Obligations.DeliveryRings : Prop :=
  ∀ (s : State) (q : Fin 32768),
    let x := s.dlv q
    let d := s.ddesc q
    (∀ g rest, s.hq.out = (q.val, g) :: rest →
      (x.st = .run → x.skips g = false → x.redo = [] → x.backlog = [] → s.fits q g.gran = true → x.wd % d.gran + g.gran ≤ d.gran →
        ∃ u, exec .deliverGroup s = .next u ∧ u.hq.out = rest ∧ (u.dlv q).wd = idxAdd x.wd g.gran ∧ (u.dlv q).bounds = x.bounds ++ [idxAdd x.wd g.gran]
          ∧ (u.dlv q).rd = x.rd ∧ (u.dlv q).st = .run)
      ∧ (x.st = .run → x.skips g = false → x.redo = [] → (x.backlog ≠ [] ∨ s.fits q g.gran = false) → s.backlogOk d.slice (32 * g.gran) = true →
        ∃ u, exec .deliverGroup s = .next u ∧ u.hq.out = rest ∧ u.dlv q = { x with backlog := x.backlog ++ [g] } ∧ u.out = s.out)
      ∧ (x.st = .stopped → (∀ rec, g ≠ .record rec) → ∃ u, exec .deliverGroup s = .next u ∧ u.hq.out = rest ∧ u.dlv q = { x with held := x.held ++ [g] } ∧ u.out = s.out)
      ∧ (x.st = .overflow → (∀ rec, g ≠ .record rec) → ∃ u, exec .deliverGroup s = .next u ∧ u.hq.out = rest ∧ u.dlv q = { x with lost := x.lost + 1 } ∧ u.out = s.out))
    ∧ (∀ v : BitVec 64, x.st = .run → (s.slc d.slice).st ≠ 1 → (s.slc d.slice).st ≠ 2 → x.backlog = [] → x.redo = [] →
      let rel := v.toNat % 2 ^ 32
      (x.releaseOk rel = true → bitAt v.toNat 32 = false → ∃ u, exec (.dlvRelease q v) s = .next u ∧ u = { s with hq := { s.hq with dlv := u.hq.dlv } }
        ∧ u.dlv q = { x with rd := rel, bounds := x.bounds.filter (fun b => decide (idxSub x.wd b < idxSub x.wd rel)) })
      ∧ (x.releaseOk rel = true → bitAt v.toNat 32 = true → d.irqEn = true → x.since = 0 → ∃ u, exec (.dlvRelease q v) s = .next u ∧ (u.dlv q).rd = rel ∧ (u.dlv q).armed = true)
      ∧ (x.releaseOk rel = false → bitAt v.toNat 32 = false → ∃ u, exec (.dlvRelease q v) s = .next u ∧ u = { s with regs := u.regs } ∧ s.counted u HQ_CNT1.DB_IGNORED 1))
    ∧ (x.armed = true → d.irqEn = true → 0 < x.since → x.sinceAt + nsTicks (bits d.w2 24 16) ≤ s.ticks →
      ∃ u, exec (.coalTimer q) s = .next u ∧ u.dlv q = { x with armed := false, since := 0 } ∧ u = { s.msix 1 d.vector with hq := u.hq } ∧ ∀ j, j ≠ q.val → u.dlv j = s.dlv j)

/-- O46. From an admin slice, on an enabled ring whose slice neither drains nor squashes: RING_RESTART puts a stopped or failed submission ring, or a stopped delivery ring, in RUN at the index it names, and a stopped slice leaves STOPPED; the answer carries the resume point and the delivery epoch. A cursor whose next record has been erased leaves the ring stopped, with CURSOR_GONE and the lowest number held, which RING_RESUME answers too. RING_STATE reports state, indices and the last record. RING_RESUME puts a ring in OVERFLOW back in RUN and reports the point it goes on from. COMPLETION: under the conditions given, on the state and the operands alone, each of these commands answers a next state with the effect of its own given here: RING_RESTART, RING_STATE, RING_RESUME. (09_rings.md R379, 09_rings.md R380, 09_rings.md R381, 09_rings.md R382, 09_rings.md R384, 08_pcie_slices.md R328) -/
def Obligations.RingRestartStateResume : Prop :=
  ∀ (s : State) (sl : Fin 256) (r : Fin 32768),
    let epoch := fun (d : RDesc) => leBytes 4 (s.rd (SLC_STAT.DELIVERY_EPOCH d.slice))
    let mayStart := fun (d : RDesc) => d.en = true ∧ (s.slc d.slice).st ≠ 1 ∧ (s.slc d.slice).st ≠ 2
    (s.request sl 0x0400 16 → s.arg sl 0 2 = r.val → s.arg sl 2 2 = 0 → s.arg sl 8 8 = 0 → mayStart (s.sdesc r) → (s.sub r).st = .stopped ∨ (s.sub r).st = .error →
      ∃ u, exec (.ringRestart sl) s = .next u ∧ (u.sub r).st = .run ∧ (u.sub r).h = s.arg sl 4 4 ∧ (u.sub r).a = s.arg sl 4 4 ∧ (u.sub r).f = s.arg sl 4 4
        ∧ (u.sub r).got = [] ∧ u.answered sl 0 (leBytes 8 0 ++ epoch (s.sdesc r) ++ zeros 4) ∧ ((s.slc (s.sdesc r).slice).st = 3 → (u.slc (s.sdesc r).slice).st = 0))
    ∧ (∀ st p floor, s.request sl 0x0400 16 → s.arg sl 0 2 = 2 ^ 15 + r.val → s.arg sl 2 2 ≤ 1 → mayStart (s.ddesc r) → (s.dlv r).st = .stopped → s.unresumed sl = false →
      s.cursorFor r (decide (s.arg sl 2 2 = 1)) (s.arg sl 8 8) = (st, p, floor) →
      (st ≠ 0x0104 → ∃ u, exec (.ringRestart sl) s = .next u ∧ (u.dlv r).st = .run ∧ (u.dlv r).rd = s.arg sl 4 4 ∧ (u.dlv r).floor = floor
        ∧ u.answered sl st (leBytes 8 p ++ epoch (s.ddesc r) ++ zeros 4))
      ∧ (st = 0x0104 → ∃ u, exec (.ringRestart sl) s = .next u ∧ u = { s with mbox := u.mbox } ∧ u.answered sl st (leBytes 8 p ++ epoch (s.ddesc r) ++ zeros 4)))
    ∧ (s.request sl 0x0401 4 → s.arg sl 2 2 = 0 →
      (s.arg sl 0 2 = r.val → (s.sdesc r).en = true → ∃ u, exec (.ringState sl) s = .next u ∧ u = { s with mbox := u.mbox }
        ∧ u.answered sl 0 (leBytes 1 (s.sub r).st.code ++ leBytes 1 (s.sub r).cause ++ zeros 2 ++ leBytes 4 (s.sub r).h ++ leBytes 4 (s.sub r).a ++ zeros 4
          ++ leBytes 8 (s.sub r).last ++ zeros 8))
      ∧ (s.arg sl 0 2 = 2 ^ 15 + r.val → (s.ddesc r).en = true → ∃ u, exec (.ringState sl) s = .next u ∧ u = { s with mbox := u.mbox }
        ∧ u.answered sl 0 (leBytes 1 (s.dlv r).st.code ++ zeros 3 ++ leBytes 4 (s.dlv r).wd ++ leBytes 4 (s.dlv r).rd ++ zeros 4 ++ leBytes 8 (s.dlv r).last
          ++ leBytes 8 (s.dlv r).backlogBytes)))
    ∧ (s.request sl 0x0402 4 → s.arg sl 0 2 = 2 ^ 15 + r.val → s.arg sl 2 2 = 0 → (s.ddesc r).en = true → (s.dlv r).st = .overflow →
      (s.gone (s.dlv r).lastTaken = false → ∃ u, exec (.ringResume sl) s = .next u ∧ (u.dlv r).st = .run ∧ (u.dlv r).lost = 0 ∧ u.answered sl 0 (leBytes 8 (s.dlv r).lastTaken))
      ∧ (s.gone (s.dlv r).lastTaken = true → ∃ u, exec (.ringResume sl) s = .next u ∧ u = { s with mbox := u.mbox } ∧ u.answered sl 0x0102 (leBytes 8 s.lowest)))

/-- O47. A command that fails the checks at its arrival ends with their status. With its host data in the device and its turn come: a READ submits a read of every page that its LBAs need, and when they have all been read it sends the data of the LBAs that read well to the host buffers and ends, with SUCCESS if all did; a WRITE, and a DEALLOCATE with a range, place each LBA's unit or each range's entry in a wordline and wait for it, a WRITE whose encryption disagrees ends with INTERNAL; a FLUSH with no earlier change of the namespace outstanding ends with SUCCESS, and otherwise waits for them. COMPLETION: under the conditions given, on the state and the operands alone, each of these commands answers a next state with the effect of its own given here: READ, WRITE, FLUSH, DEALLOCATE. (10_block_storage.md R391, 10_block_storage.md R395, 10_block_storage.md R400, 10_block_storage.md R401, 10_block_storage.md R402, 10_block_storage.md R403, 10_block_storage.md R404) -/
def Obligations.StorageCommands : Prop :=
  ∀ (s : State) (c : BlkCmd),
    (∀ st, s.run = true → c.phase = 0 → s.blkCheck c = some st →
      ∀ dup b i opc, (i, opc) ∈ [(Instr.read dup, 0x10), (.write b, 0x11), (.flush, 0x12), (.deallocate, 0x13), (.identify, 0x18), (.getLogPage, 0x19), (.setFeatures, 0x1A),
        (.getFeatures, 0x1B), (.fwDownload, 0x1C), (.fwCommit b, 0x1D)] → (sortBy BlkCmd.before (s.blk.cmds.filter (fun d => d.opc == opc))).head? = some c →
      ∃ u, exec i s = .next u ∧ s.endedAs u c st.1 st.2 (if c.opc = 0x10 ∨ c.opc = 0x11 then c.arg0 else 0) ∧ u.out = s.out ∧ u.gddr = s.gddr)
    ∧ (∀ dup, s.turnOf 0x10 c → c.nsid ≤ 16 → s.readTurn c = true → ∃ u, exec (.read dup) s = .next u ∧ s.placedAs u c ∧ u.gddr = s.gddr ∧ u.out = s.out
      ∧ ∀ p ∈ s.blockPages c, ∃ o : NandOp, o.tag = .read c.id ∧ o.blk = p.2.2.1 ∧ o.page = p.2.2.2
        ∧ (o ∈ (u.ctx p.1 p.2.1).queue ∨ (p.1, p.2.1, o) ∈ u.nand.todo ∨ ∃ d ∈ u.nand.done, d.op = o))
    ∧ (∀ dup, s.run = true → (sortBy BlkCmd.before (s.blk.cmds.filter (fun d => d.opc == 0x10))).head? = some c → c.phase = 3 → c.nsid ≤ 16 → s.atRestReady c.nsid = true →
      s.waitsFor (fun t => t == .read c.id) = false →
      let mine := s.nand.done.filter (fun d => d.op.tag == .read c.id)
      let lba := fun i => s.readLba c.nsid (c.arg0 + i) (badPlaces mine) dup
      (∀ d ∈ mine, d.status ≤ 2) →
      ((∀ i, i < c.nlb → (lba i).1 = 0) → ∃ u, exec (.read dup) s = .next u ∧ s.endedAs u c 0 0 0
        ∧ u.out = ((List.range c.nlb).foldl (fun t i => t.toBuffers c (4096 * i) (lba i).2) s).out)
      ∧ (∀ i, i < c.nlb → (lba i).1 ≠ 0 → (∀ j, j < i → (lba j).1 = 0) → ∃ u, exec (.read dup) s = .next u
        ∧ s.endedAs u c (if (lba i).1 = 1 then 2 else 0) (if (lba i).1 = 1 then 0x81 else 0x06) (c.arg0 + i)))
    ∧ (∀ v, s.turnOf 0x11 c → s.mayPlace c = true → s.atRestReady c.nsid = true →
      s.placeAll ((List.range c.nlb).map (fun i => WlItem.unit c.nsid (c.arg0 + i) c.id (s.writeData c i) none)) = some v →
      ∃ u, exec (.write false) s = .next u ∧ s.placedAs u c ∧ u.gddr = s.gddr
        ∧ ∀ i, i < c.nlb → ∃ w ∈ u.liveWls, WlItem.unit c.nsid (c.arg0 + i) c.id (s.writeData c i) none ∈ w.items)
    ∧ (s.turnOf 0x11 c → s.mayPlace c = true → s.atRestReady c.nsid = true → (s.nsCtx c.nsid).isSome = true →
      ∃ u, exec (.write true) s = .next u ∧ s.endedAs u c 0 0x06 c.arg0 ∧ u.blk.openWl = s.blk.openWl)
    ∧ (s.turnOf 0x13 c → s.mayPlace c = true → (∀ r ∈ c.extent, r.1 + r.2 ≤ s.nsSize c.nsid) →
      (c.extent = [] → ∃ u, exec .deallocate s = .next u ∧ s.endedAs u c 0 0 0)
      ∧ (∀ v, c.extent ≠ [] → s.placeAll (c.extent.map (fun r => WlItem.trim c.nsid r.1 r.2 c.id)) = some v →
        ∃ u, exec .deallocate s = .next u ∧ s.placedAs u c ∧ ∀ r ∈ c.extent, ∃ w ∈ u.liveWls, WlItem.trim c.nsid r.1 r.2 c.id ∈ w.items))
    ∧ (s.turnOf 0x12 c → (∀ d ∈ s.earlierCmds c, d.changes = true → d.nsid = c.nsid → 4 ≤ d.phase) →
      ∃ u, exec .flush s = .next u ∧ s.endedAs u c 0 0 0 ∧ u = { s with blk := u.blk })
    ∧ (s.turnOf 0x12 c → (∃ d ∈ s.earlierCmds c, d.changes = true ∧ d.nsid = c.nsid ∧ d.phase < 4) → ∃ u, exec .flush s = .next u ∧ s.placedAs u c)

/-- O48. With its turn come, IDENTIFY sends the namespace structure or the list to the host buffers (the controller structure has free forms, log entry 4), GET_LOG_PAGE the log from its offset on, clearing what the host has read of the deferred log when asked; GET_FEATURES ends with the value; FW_DOWNLOAD stores the data in the download buffer; FW_COMMIT of a good image ends with its generation. STORAGE_DONE hands over the oldest ended command's completion, and a SET_FEATURES takes effect with it. COMPLETION: under the conditions given, on the state and the operands alone, each of these commands answers a next state with the effect of its own given here: IDENTIFY, GET_LOG_PAGE, SET_FEATURES, GET_FEATURES, FW_DOWNLOAD, FW_COMMIT, STORAGE_DONE. (10_block_storage.md R405, 10_block_storage.md R406, 10_block_storage.md R408, 10_block_storage.md R409, 10_block_storage.md R410, 10_block_storage.md R411, 10_block_storage.md R412) -/
def Obligations.StorageAdminCommands : Prop :=
  ∀ (s : State) (c : BlkCmd),
    (s.turnOf 0x18 c →
      (c.sel = 0 → ∃ u, exec .identify s = .next u ∧ s.answersWith u c 0 (s.identifyNamespace c.nsid))
      ∧ (c.sel = 2 → ∃ u, exec .identify s = .next u ∧ s.answersWith u c 0 (s.identifyList c.slice))
      ∧ (c.sel = 1 → ∃ u, exec .identify s = .next u ∧ s.answersWith u c 0 (s.identifyController s.freeVal) ∧ u.free = s.free + 1))
    ∧ (s.turnOf 0x19 c →
      let g := FMap.get {} s.blk.logs c.slice
      (c.sel = 0xC0 → ∃ u, exec .getLogPage s = .next u ∧ s.answersWith u c c.arg0 g.bytes
        ∧ (bitAt c.arg2 8 = true → FMap.get {} u.blk.logs c.slice = g.clear c.arg0 ((c.segs.map (fun x => x.2)).sum)) ∧ (bitAt c.arg2 8 = false → u.blk.logs = s.blk.logs))
      ∧ (c.sel = 0xC1 → ∃ u, exec .getLogPage s = .next u ∧ s.answersWith u c c.arg0 (s.segLog (if c.arg2 / 256 = 0 then 17 else c.arg2 / 256)))
      ∧ (c.sel = 2 → ∃ u, exec .getLogPage s = .next u ∧ s.answersWith u c c.arg0 (s.smartLog s.freeVal)))
    ∧ (s.turnOf 0x1A c → ∃ u, exec .setFeatures s = .next u ∧ s.endedAs u c 0 0 0 ∧ u.regs = s.regs)
    ∧ (s.turnOf 0x1B c → ∃ u, exec .getFeatures s = .next u ∧ s.endedAs u c 0 0 (s.feature c.sel c.nsid (c.arg2 / 256)) ∧ u.regs = s.regs)
    ∧ (s.turnOf 0x1C c → s.fwTurn c = true → ∃ u, exec .fwDownload s = .next u ∧ s.endedAs u c 0 0 0 ∧ Memory.readBytes u.gddr (s.dlBuf + c.arg0) c.data.length = c.data
      ∧ ∀ a, a < s.dlBuf + c.arg0 ∨ s.dlBuf + c.arg0 + c.data.length ≤ a → Memory.read u.gddr a = Memory.read s.gddr a)
    ∧ (s.turnOf 0x1D c → s.fwTurn c = true → s.ro.apply = none →
      (s.flag CFG_FLASH.WP = true → ∃ u, exec (.fwCommit true) s = .next u ∧ s.endedAs u c 7 0xC1 0 ∧ u.ro = s.ro)
      ∧ (s.flag CFG_FLASH.WP = false → c.arg0 + 4096 ≤ s.slotSize → s.imageOk (Memory.readBytes s.gddr s.dlBuf (min c.arg0 s.slotSize)) = true →
        ∃ u, exec (.fwCommit true) s = .next u ∧ s.endedAs u c 0 0 s.nextGen))
    ∧ (s.run = true → s.blk.cmds.find? (fun d => d.phase == 4) = some c →
      ∃ u, exec .storageDone s = .next u ∧ u.blk.cmds = dropFirst (fun d => d.id == c.id) s.blk.cmds
        ∧ ((s.sub c.ring).open_.any (fun e => e.entry == c.entry) = true → ∃ hi, ((s.sdesc c.ring).pair, .storage [word0 0xA0 1 c.tag hi, c.result, c.ring + c.index * 2 ^ 32, 0]) ∈ u.hq.out
          ∧ hi = c.sc + c.sct * 2 ^ 8 + b2n (!retryable (c.sct, c.sc)) * 2 ^ 11 + b2n (FMap.get {} s.blk.logs c.slice).flag * 2 ^ 12 + c.opc * 2 ^ 16)
        ∧ (c.opc = 0x1A → c.sct = 0 → c.sc = 0 → s.counted u HQ_BLK_STAT.FEAT_SETS 1 ∧ (c.sel = 0xC0 → u.blk.gather = some c.arg0) ∧ (c.sel = 0xC1 → u.blk.share = some c.arg0)
          ∧ (c.sel = 0xC2 → 1 ≤ c.nsid → c.nsid ≤ 16 → u.rd (HQ_BLK_NS.WP (c.nsid - 1)) = c.arg0 % 2)))

/-- O49. GATHER_EXPIRE, once GATHER_US has passed, programs the LUN's open wordline under the next WRITE_SERIAL. WORDLINE_PROGRAM_DONE of a wordline that passed takes it from those in progress and points the map at its unit. BLOCK_RELOCATE reads the mapped units of its victim, copies them into open wordlines, and erases it once none is mapped there. MAP_CHECKPOINT, when its bytes have been placed, begins to write the map up to the wordlines in progress; the pointer page that passes makes it the newest of two checkpoints. COMPLETION: under the conditions given, on the state and the operands alone, each of these commands answers a next state with the effect of its own given here: GATHER_EXPIRE, WORDLINE_PROGRAM_DONE, BLOCK_RELOCATE, MAP_CHECKPOINT. (10_block_storage.md R387, 10_block_storage.md R391, 10_block_storage.md R392, 10_block_storage.md R394, 10_block_storage.md R396) -/
def Obligations.StorageMedium : Prop :=
  ∀ (s : State), s.run = true →
    (∀ g : Fin 512,
      let w : Wl := FMap.get {} s.blk.openWl g
      w.items ≠ [] → w.since + usTicks (s.blk.gather.getD (s.rd HQ_BLK_CFG.GATHER_US)) ≤ s.ticks → ∃ u, exec (.gatherExpire g) s = .next u ∧ FMap.look u.blk.prog s.blk.nextWl = some { w with serial := s.blk.serial + 1 }
        ∧ u.blk.serial = s.blk.serial + 1 ∧ FMap.get {} u.blk.openWl g = ({} : Wl) ∧ u.blk.cmds = s.blk.cmds)
    ∧ (∀ d rest id w nsid lba cmd data, s.nand.done = d :: rest → d.op.tag = .wordline id → d.status = 0 → FMap.look s.blk.prog id = some w → w.map = none → w.items = [.unit nsid lba cmd data none] → nsid ≠ 0 → (∀ e ∈ s.blk.done, e.2.serial ≤ w.serial) →
      ∃ u, exec .wordlineProgramDone s = .next u ∧ FMap.look u.blk.prog id = none ∧ FMap.look u.blk.done w.key = some w ∧ u.mapEntry nsid lba = w.ent 0 % 2 ^ 64
        ∧ ∀ a, a < s.mapAddr nsid lba ∨ s.mapAddr nsid lba + 8 ≤ a → Memory.read u.gddr a = Memory.read s.gddr a)
    ∧ (∀ d rest serial k, s.nand.done = d :: rest → d.op.tag = .mapPtr serial false → d.status = 0 → s.blk.ckpt = some k → k.serial = serial →
      ∃ u, exec .wordlineProgramDone s = .next u ∧ u.blk.ckpts = (k :: s.blk.ckpts).take 2 ∧ u.blk.ckpt = none ∧ u.gddr = s.gddr)
    ∧ (∀ (g : Fin 512) k,
      let c := g.val / 16
      let l := g.val % 16
      let mine := fun (t : OpTag) => t == .relocRead g
      s.flag HQ_BLK_STAT.READY = true → s.rd (NDC_LUN_CFG.REGION c l) = 3 → s.chanUp c = true → s.chanReads c = true → s.lunLost c l = false → (s.lun c l).valid = true →
      s.waitsFor mine = false →
        (∀ ds t v, s.takeDone mine = (ds, t) → t.waitsFor mine = false → (∃ d, ds.head? = some d ∧ d.op.blk = k) → t.moveUnits c l k ds = some v → exec (.blockRelocate g) s = .next v)
        ∧ (s.nand.done.any (fun d => mine d.op.tag) = false → s.victim c l = some k → s.liveIn c l k ≠ [] → (∃ x ∈ s.toMove c l k, entPoison x.2.2 = false) →
          ∃ u, exec (.blockRelocate g) s = .next u ∧ u.blk = s.blk ∧ u.gddr = s.gddr ∧ ∀ x ∈ s.toMove c l k, entPoison x.2.2 = false → ∃ o : NandOp, o.tag = .relocRead g
            ∧ o.blk = k ∧ o.page = entPage x.2.2 ∧ (o ∈ (u.ctx c l).queue ∨ (c, l, o) ∈ u.nand.todo ∨ ∃ d ∈ u.nand.done, d.op = o))
        ∧ (s.nand.done.any (fun d => mine d.op.tag) = false → s.victim c l = some k → s.liveIn c l k = [] → s.readsBlock c l k = false →
          ∃ u o, exec (.blockRelocate g) s = .next u ∧ (o ∈ (u.ctx c l).queue ∨ (c, l, o) ∈ u.nand.todo) ∧ o.kind = 8 ∧ o.tag = .erase k ∧ u.gddr = s.gddr))
    ∧ (∀ u, s.flag HQ_BLK_STAT.READY = true → s.pointerLuns ≠ [] → s.blk.ckpt = none → s.rd HQ_BLK_CFG.MAP_CKPT_GIB * 2 ^ 30 ≤ s.blk.placed → s.beginCkpt = some u →
      exec .mapCheckpoint s = .next u ∧ u.blk.placed = 0 ∧ u.blk.ckpts = s.blk.ckpts ∧ u.gddr = s.gddr ∧ ∃ k, u.blk.ckpt = some k ∧ k.serial = s.mapSerial ∧ k.map = s.wholeMap)

/-- O50. From an admin slice, CTX_LOAD of an acceptable image into a context that is not pinned loads its key and answers the key identifier; CTX_SAVE of an exportable plain context answers image and key; CTX_DESTROY empties it; IMPORT_KEY answers the public key and the serial number. JOB_POLL takes an entry with OWN = 1 and advances, and looks again POLL_NS later where OWN is 0; JOB_DISPATCH gives the next polled entry its unit, or its dispatch status; JOB_COMPLETE writes the outputs of the queue's oldest job, then CTRL with OWN = 0 and the status, and counts it. COMPLETION: under the conditions given, on the state and the operands alone, each of these commands answers a next state with the effect of its own given here: CTX_LOAD, CTX_SAVE, CTX_DESTROY, IMPORT_KEY, JOB_POLL, JOB_DISPATCH, JOB_COMPLETE. (11_cipher.md R420, 11_cipher.md R422, 11_cipher.md R423, 11_cipher.md R427, 11_cipher.md R438, 11_cipher.md R440, 11_cipher.md R442, 11_cipher.md R443, 11_cipher.md R449) -/
def Obligations.CipherContextsAndJobs : Prop :=
  ∀ (s : State) (sl : Fin 256),
    let pl := (s.mb sl).payload
    let c := s.arg sl 0 1
    (∀ n k, s.request sl 0x0700 n → loadLen pl = some n → s.arg sl 2 2 = 0 → s.ctxPinned c = false → s.loadBody (s.arg sl 1 1) (pl.drop 4) = .ok k →
      ∃ u, exec (.ctxLoad sl) s = .next u ∧ u.cctx c = imageCtx (pl.drop 4) k ∧ u.answered sl 0 (leBytes 8 (field pl 10 2)) ∧ ∀ j, j ≠ c → u.cctx j = s.cctx j)
    ∧ (s.request sl 0x0701 4 → s.arg sl 1 1 = 1 → s.arg sl 2 2 = 0 → (s.cctx c).loaded = true → (s.cctx c).source = 1 → bitAt (s.cctx c).attr 0 = true →
      ∃ u, exec (.ctxSave sl) s = .next u ∧ u = { s with mbox := u.mbox } ∧ u.answered sl 0 ((s.cctx c).image ++ padTo 64 (s.cctx c).key))
    ∧ (s.request sl 0x0702 4 → s.arg sl 1 3 = 0 → s.ctxPinned c = false → (s.cctx c).loaded = true →
      ∃ u, exec (.ctxDestroy sl) s = .next u ∧ u.cctx c = ({} : CCtx) ∧ u.answered sl 0 [] ∧ ∀ j, j ≠ c → u.cctx j = s.cctx j)
    ∧ (s.request sl 0x0703 0 → ∃ u, exec (.importKey sl) s = .next u ∧ u = { s with mbox := u.mbox }
      ∧ u.answered sl 0 (ecPublic s.fuses.importKey ++ zeros 3 ++ leBytes 8 s.fuses.serial))
    ∧ (s.cipherOn = true →
      (∀ q : Fin 64,
        let i := s.rd (CPH_JQS.NEXT q)
        let own := bitAt (leNat (Memory.readBytes s.gddr (s.jobAddr q i) 8)) 0
        (s.flag (CPH_JQA.EN q) = true → s.ro.quietQ.contains q.val = false → (∀ t, FMap.look s.cipher.polledAt q = some t → t + nsTicks (s.rd CPH_CFG.POLL_NS) ≤ s.ticks) →
          (own = true → ∃ u, exec (.jobPoll q) s = .next u
            ∧ u.cipher = { s.cipher with polled := s.cipher.polled ++ [(q.val, i)], polledAt := FMap.del s.cipher.polledAt q }
            ∧ u.rd (CPH_JQS.NEXT q) = (i + 1) % 2 ^ s.rd (CPH_JQA.ENTRIES_LOG2 q) % 2 ^ (CPH_JQS.NEXT q).width)
          ∧ (own = false → exec (.jobPoll q) s = .next { s with cipher := { s.cipher with polledAt := FMap.ins s.cipher.polledAt q s.ticks } }))
        ∧ (∀ j st (how : TaskEnd), s.cipher.jobs.find? (fun j => j.queue == q.val) = some j → j.status = some st → st ≠ 5 → st ≠ 8 → st ≠ 9 →
          ∃ u, exec (.jobComplete q how) s = .next u ∧ u.cipher.jobs = dropFirst (fun j => j.queue == q.val) s.cipher.jobs ∧ s.counted u (CPH_JQS.JOBS q) 1
            ∧ Memory.readBytes u.gddr (s.jobAddr q j.index) 8 = leBytes 8 (setBits (setBits (field j.entry 0 8) 0 1 0) 24 8 st)
            ∧ ∀ a, a < s.jobAddr q j.index ∨ s.jobAddr q j.index + 8 ≤ a → Memory.read u.gddr a = Memory.read s.gddr a)
        ∧ (∀ j, s.cipher.jobs.find? (fun j => j.queue == q.val) = some j → j.status = none → jobOpc j.entry = 5 →
          let h := sha384 ((Memory.readBytes s.gddr (jobSrc j.entry) (jobAad j.entry + jobLen j.entry)).drop (jobAad j.entry))
          jobDst j.entry + h.length ≤ s.jobAddr q j.index ∨ s.jobAddr q j.index + 8 ≤ jobDst j.entry →
          ∃ u, exec (.jobComplete q .clean) s = .next u ∧ Memory.readBytes u.gddr (jobDst j.entry) h.length = h ∧ s.counted u CPH_CNT0.TASKS 1
            ∧ Memory.readBytes u.gddr (s.jobAddr q j.index) 8 = leBytes 8 (setBits (setBits (field j.entry 0 8) 0 1 0) 24 8 0)))
      ∧ (∀ q i k, s.nextJob = some (q, i) → s.freeUnit = some k →
        let e := Memory.readBytes s.gddr (s.jobAddr q i) 64
        let job : Job := { queue := q, index := i, unit := k, entry := e, ctx := s.cctx (jobCtx e) }
        (∀ st, s.jobStatus q e = some st → ∃ u, exec .jobDispatch s = .next u ∧ u.cipher.jobs = s.cipher.jobs ++ [{ job with status := some st }]
          ∧ u.cipher.polled = dropFirst (· == (q, i)) s.cipher.polled ∧ u.cipher.rotor = q)
        ∧ (s.jobStatus q e = none → jobFresh e = false → ∃ u, exec .jobDispatch s = .next u ∧ u.cipher.jobs = s.cipher.jobs ++ [{ job with nonce := slice e 32 12 }])
        ∧ (∀ n v, s.jobStatus q e = none → jobFresh e = true → s.takeNonce k = some (n, v) →
          ∃ u, exec .jobDispatch s = .next u ∧ u.cipher.jobs = s.cipher.jobs ++ [{ job with nonce := n }])))

/-- O51. A link end that trains enters HELLO with frame number 1 sent, a STATE frame, and counts it; an IDLE frame taken adds its credits and marks its member heard; a frame with a bad CRC is counted and answered with NAK, as is one for another group. Without progress for 2 microseconds every unacknowledged frame goes out again; a link end that loses lock trains again and one out of resends is DOWN, both with nothing left to send on it; a quiet UP link sends IDLE without a credit. A held CONFIRM or WMARK leaves at the end of its spacing. COMPLETION: under the conditions given, on the state and the operands alone, each of these commands answers a next state with the effect of its own given here: EZN_LINK_TRAIN, IDLE, EZN_RESEND_TIMER, EZN_LINK_DOWN, EZN_IDLE_TIMER, CONFIRM_SEND, WMARK_SEND. (12_ezoon_group.md R452, 12_ezoon_group.md R454, 12_ezoon_group.md R455, 12_ezoon_group.md R456, 12_ezoon_group.md R463) -/
def Obligations.LinkEndsAndCredits : Prop :=
  ∀ (s : State) (k : Fin 4),
    let x := s.ezl k
    (s.ezOn k = true → s.linkPresent k = true → s.linkState k < 2 → ∃ u, exec (.eznLinkTrain k) s = .next u ∧ u.linkState k = 2 ∧ s.counted u (EZN_LINK_STAT.RETRAINS k) 1
      ∧ (u.ezl k).rcvd = 0 ∧ (u.ezl k).sent = 1 ∧ (∃ p, (u.ezl k).unacked = [{ ftype := 4, payload := p, lseq := 1 }]) ∧ u.rd (EZN_LINK_STAT.CREDITS k) = 63)
    ∧ (∀ h : EzHead,
      (s.takesFrame k h 0 → ∃ u, exec (.idle k h true) s = .next u ∧ (u.ezm h.src).heard = some s.ticks ∧ (u.ezl k).rcvd = x.rcvd
        ∧ (x.waiting = [] → u.rd (EZN_LINK_STAT.CREDITS k) = min 64 (s.rd (EZN_LINK_STAT.CREDITS k) + h.credit)
          ∧ (u.ezl k).unacked = x.unacked.filter (fun f => !lackCovers h.lack.toNat f.lseq)))
      ∧ (s.ezOn k = true → s.linkPresent k = true → 2 ≤ s.linkState k →
        (∃ u, exec (.idle k h false) s = .next u ∧ s.counted u (EZN_LINK_STAT.CRC_ERR k) 1 ∧ u.ezl k = { x with nak := true })
        ∧ (h.group.toNat ≠ s.rd EZN_GROUP_ID.ID → ∃ u, exec (.idle k h true) s = .next u ∧ s.counted u EZN_CNT.BAD_FRAMES 1 ∧ u.ezl k = { x with nak := true })))
    ∧ (s.ezOn k = true → 2 ≤ s.linkState k →
      (x.unacked ≠ [] → x.ackAt + 2500 ≤ s.ticks → ∃ u, exec (.eznResendTimer k) s = .next u ∧ s.counted u (EZN_LINK_STAT.RESENDS k) x.unacked.length
        ∧ (u.ezl k).unacked = x.unacked.map (fun f => { f with tries := f.tries + 1 }))
      ∧ (∀ lock, (lock = true ∨ ∃ f ∈ x.unacked, 8 ≤ f.tries) → ∃ u, exec (.eznLinkDown k lock) s = .next u ∧ u.linkState k = (if lock then 1 else 0)
        ∧ u.rd (EZN_LINK_STAT.CREDITS k) = 0 ∧ u.ezl k = {}))
    ∧ (s.ezOn k = true → s.linkState k = 3 → x.txAt + 1250 ≤ s.ticks → ∃ u b, exec (.eznIdleTimer k) s = .next u ∧ u.out = .ezoon k b [] :: s.out
      ∧ b.length = 32 ∧ b.take 1 = leBytes 1 0 ∧ (u.ezl k).txAt = s.ticks ∧ u.regs = s.regs)
    ∧ (s.freeLink k →
      (∀ c, x.conf = some c → x.confAt + 250 ≤ s.ticks + 1 → ∃ u, exec (.confirmSend k) s = .next u ∧ (u.ezl k).conf = none ∧ (u.ezl k).confAt = s.ticks + 1 ∧ s.sentOn u k 2 (leBytes 8 c))
      ∧ (∀ w, x.wm = some w → x.wmAt + 625 ≤ s.ticks + 1 → ∃ u, exec (.wmarkSend k) s = .next u ∧ (u.ezl k).wm = none ∧ (u.ezl k).wmAt = s.ticks + 1 ∧ s.sentOn u k 3 (leBytes 8 w)))

/-- O52. RECORDS in order advance what the member expects, and a frame beyond it waits; CONFIRM gives the primary that member's C, and its slot is valid; WMARK publishes a W above the one that the member has. STATE brings HELLO to UP and is kept; a higher epoch in it makes the member JOINING in that epoch. CLAIM is granted exactly under the conditions of R469, and VOTED_EPOCH kept otherwise; VOTE adds to the claim it answers, once. CLOSE opens the next epoch at index 0 and a follower stays one, of the new primary. RESYNC_CTL START makes a member JOINING from its FROM, and IN_SYNC a FOLLOWER. COMPLETION: under the conditions given, on the state and the operands alone, each of these commands answers a next state with the effect of its own given here: RECORDS, CONFIRM, WMARK, STATE, CLAIM, VOTE, CLOSE, RESYNC_CTL. (12_ezoon_group.md R452, 12_ezoon_group.md R457, 12_ezoon_group.md R460, 12_ezoon_group.md R462, 12_ezoon_group.md R463, 12_ezoon_group.md R469, 12_ezoon_group.md R470, 12_ezoon_group.md R473, 12_ezoon_group.md R476, 12_ezoon_group.md R481, 12_ezoon_group.md R482) -/
def Obligations.FramesOfTheGroup : Prop :=
  ∀ (s : State) (k : Fin 4) (h : EzHead) (p : List Byte),
    let m := s.peer k
    let role := s.rd EZN_STATUS.ROLE
    (s.takesFrame k h 1 → (role = 2 ∨ role = 3) → m = s.rd EZN_STATUS.PRIMARY → ∀ q r, s.ezn.expect = some q → parseRecs (p.length / 64) p = [r] →
      (r.seq = q → s.ezn.gaps = [] → ∃ u, exec (.records k h p true) s = .next u ∧ u.ezn.expect = some r.after ∧ u.rd EZN_RESYNC_POS.NEXT = r.after % 2 ^ 64)
      ∧ (q < r.seq → seqIndex q ≠ 0 → s.ezn.inbox = [] → s.ezn.flush = false → bitAt h.flags 1 = false → ∃ u, exec (.records k h p true) s = .next u
        ∧ u.ezn.gaps = s.ezn.gaps ++ [(k.val, [r])] ∧ u.ezn.expect = some q ∧ s.counted u EZN_CNT.REORDER_WAITS 1))
    ∧ (s.takesFrame k h 2 → s.primary = true → (s.ezm m).started = true → (s.ezm m).joining = false →
      ∃ u, exec (.confirm k h p true) s = .next u ∧ (u.ezm m).conf = some (field p 0 8) ∧ u.flag (EZN_MEMBER.SLOT_VALID m) = true)
    ∧ (s.takesFrame k h 3 → role = 2 → m = s.rd EZN_STATUS.PRIMARY → (∀ o, s.ezn.lastW = some o → o < field p 0 8) →
      ∃ u, exec (.wmark k h p true) s = .next u ∧ u.ezn.lastW = some (field p 0 8)
        ∧ ((s.flag CRF_STATUS.WM_VALID = true → s.rd CRF_WMARK.SEQ < field p 0 8) → u.rd CRF_WMARK.SEQ = field p 0 8 ∧ u.rd PRG_WM.SEQ = field p 0 8
          ∧ u.flag CRF_STATUS.WM_VALID = true)
        ∧ (s.flag CRF_STATUS.WM_VALID = true → field p 0 8 ≤ s.rd CRF_WMARK.SEQ → u.rd CRF_WMARK.SEQ = s.rd CRF_WMARK.SEQ))
    ∧ (s.takesFrame k h 4 → field p 1 1 = m → field p 12 1 ≠ s.me → ∃ u, exec (.state k h p true) s = .next u ∧ u.linkState k = 3 ∧ (u.ezm m).state = p
      ∧ (u.ezm m).stateAt = some s.ticks ∧ u.rd (EZN_MEMBER.ROLE m) = field p 0 1 % 8 ∧ u.rd (EZN_MEMBER.EPOCH m) = field p 8 2 ∧ u.rd (EZN_MEMBER_L.L m) = field p 16 8
      ∧ (role ≠ 0 → s.rd EZN_STATUS.EPOCH < field p 8 2 → u.rd EZN_STATUS.ROLE = 3 ∧ u.rd EZN_STATUS.EPOCH = field p 8 2))
    ∧ (s.takesFrame k h 5 → role = 4 → m ≠ s.rd EZN_STATUS.PRIMARY → s.flag EZN_STATUS.ISLAND_LOST = false → ∃ u, exec (.claim k h p true) s = .next u
      ∧ u.rd EZN_STATUS.ROLE = 4 ∧ u.rd EZN_STATUS.VOTED_EPOCH =
        if s.rd EZN_STATUS.VOTED_EPOCH < field p 0 2 ∧ (s.rd CRF_LOCAL.SEQ < field p 8 8 ∨ (field p 8 8 = s.rd CRF_LOCAL.SEQ ∧ m ≤ s.me)) then field p 0 2
        else s.rd EZN_STATUS.VOTED_EPOCH)
    ∧ (s.takesFrame k h 6 → m ≠ s.rd EZN_STATUS.PRIMARY → ∀ c, s.ezn.claim = some c → field p 0 2 = c.epoch → field p 2 1 = 1 →
      (m ∈ c.votes → ∃ u, exec (.vote k h p true) s = .next u ∧ u.ezn.claim = some c ∧ u.rd EZN_STATUS.ROLE = role)
      ∧ (m ∉ c.votes → c.votes.length + 2 < s.threshold → ∃ u, exec (.vote k h p true) s = .next u ∧ u.ezn.claim = some { c with votes := c.votes ++ [m] })
      ∧ (m ∉ c.votes → s.threshold ≤ c.votes.length + 2 → c.epoch < 2 ^ 16 → ∃ u, exec (.vote k h p true) s = .next u ∧ u.rd EZN_STATUS.ROLE = 1 ∧ u.rd EZN_STATUS.EPOCH = c.epoch
        ∧ u.rd EZN_STATUS.PRIMARY = s.me % 4 ∧ u.rd CRF_APPEND.NEXT = c.epoch * 2 ^ 48 ∧ u.ezn.wait = true))
    ∧ (s.takesFrame k h 7 → (role = 2 ∨ (role = 4 ∧ s.rd EZN_STATUS.VOTED_EPOCH = h.epoch)) → s.rd EZN_STATUS.EPOCH ≤ h.epoch → s.ezn.inbox = [] → s.ezn.flush = false →
      ∃ u, exec (.close k h p true) s = .next u ∧ u.rd EZN_STATUS.EPOCH = h.epoch ∧ u.rd EZN_STATUS.ROLE = 2 ∧ u.rd EZN_STATUS.PRIMARY = field p 5 1 % 4
        ∧ u.ezn.expect = some ((field p 2 2 + 1) * 2 ^ 48) ∧ u.rd CRF_APPEND.NEXT = (field p 2 2 + 1) * 2 ^ 48 % 2 ^ 64)
    ∧ (s.takesFrame k h 8 → role ≠ 0 → s.primary = false → m = s.rd EZN_STATUS.PRIMARY →
      (field p 0 1 = 1 → ∃ u, exec (.resyncCtl k h p true) s = .next u ∧ u.rd EZN_STATUS.ROLE = 3 ∧ u.rd EZN_RESYNC.FROM = field p 8 8 ∧ u.rd EZN_RESYNC_POS.NEXT = field p 8 8)
      ∧ (field p 0 1 = 2 → role = 3 → ∃ u, exec (.resyncCtl k h p true) s = .next u ∧ u.rd EZN_STATUS.ROLE = 2 ∧ u.rd EZN_STATUS.BACKFILL_DONE = b2n (field p 1 1 == 1)))

/-- O53. Every HB_US a member sends STATE on its UP links. A follower that loses its primary is ELECTING (in LOCAL it is detached: the model's reading, notes/assumptions/61), and so is a member that never hears P*. At the end of ELECT_WAIT the member with the highest L claims, and claims again with a higher epoch (beyond the last epoch nothing is claimed: EPOCH_EXHAUSTED); with too few members it waits again. A silent member is detached; an epoch opens once its marker is LOCAL_OK and its followers are there; catch-up sends the next records and pays for their bytes. The five group requests answer and act as Table 12-10 and R477 to R486 say. COMPLETION: under the conditions given, on the state and the operands alone, each of these commands answers a next state with the effect of its own given here: HB_TIMER, PRIMARY_TIMEOUT, ELECT_WAIT_EXPIRE, CLAIM_RETRY, FOLLOWER_TIMEOUT, NEW_EPOCH_OPEN, FORM_TIMEOUT, CATCH_UP_SEND, GROUP_STATUS, GROUP_HANDOVER, GROUP_PROMOTE, GROUP_RESYNC, GROUP_RAISE_LEVEL. (12_ezoon_group.md R465, 12_ezoon_group.md R466, 12_ezoon_group.md R468, 12_ezoon_group.md R470, 12_ezoon_group.md R474, 12_ezoon_group.md R477, 12_ezoon_group.md R478, 12_ezoon_group.md R479, 12_ezoon_group.md R481, 12_ezoon_group.md R482, 12_ezoon_group.md R486, 12_ezoon_group.md R489) -/
def Obligations.TimersAndRequestsOfTheGroup : Prop :=
  ∀ (s : State) (m : Fin 4) (sl : Fin 256),
    let role := s.rd EZN_STATUS.ROLE
    let x := s.ezm m
    let arg := s.arg sl
    (s.run = true →
      (s.isFatal .ezoon = false → 2 ≤ s.groupN → s.ezn.hbAt + usTicks (s.rd EZN_TMO.HB_US) ≤ s.ticks → ∃ u, exec .hbTimer s = .next u ∧ u.ezn.hbAt = s.ticks
        ∧ ∀ k : Fin 4, s.freeLink k → s.sentOn u k 4 s.statePayload)
      ∧ (role = 2 → s.within (s.ezm (s.rd EZN_STATUS.PRIMARY)).heard = false → ∃ u, exec .primaryTimeout s = .next u ∧ u.ezn.hbAt = s.ticks
        ∧ (s.rd CRF_CFG.MODE = 0 → u.rd EZN_STATUS.ROLE = 5) ∧ (s.rd CRF_CFG.MODE ≠ 0 → u.rd EZN_STATUS.ROLE = 4 ∧ u.ezn.electAt = s.ticks ∧ u.ezn.claim = none))
      ∧ (role = 4 → s.ezn.claim = none → s.ezn.electAt + usTicks (s.rd EZN_TMO.ELECT_WAIT_US) ≤ s.ticks →
        (s.electors.length + 1 < s.threshold → exec .electWaitExpire s = .next { s with ezn := { s.ezn with electAt := s.ticks } })
        ∧ (3 ≤ s.groupN → s.threshold ≤ s.electors.length + 1 → s.flag EZN_STATUS.BACKFILL_DONE = true → (∀ j ∈ s.electors, s.rd (EZN_MEMBER_L.L j) < s.rd CRF_LOCAL.SEQ) →
          s.highestEpoch + 1 < 2 ^ 16 → ∃ u, exec .electWaitExpire s = .next u ∧ u.ezn.claim = some { epoch := s.highestEpoch + 1, at_ := s.ticks }
            ∧ u.rd EZN_STATUS.VOTED_EPOCH = s.highestEpoch + 1))
      ∧ (∀ c, s.ezn.claim = some c → role = 4 → 3 ≤ s.groupN → c.at_ + 2 * usTicks (s.rd EZN_TMO.ELECT_WAIT_US) ≤ s.ticks →
        (c.epoch + 1 < 2 ^ 16 → ∃ u, exec .claimRetry s = .next u ∧ u.ezn.claim = some { epoch := c.epoch + 1, at_ := s.ticks } ∧ u.rd EZN_STATUS.VOTED_EPOCH = c.epoch + 1)
        ∧ (2 ^ 16 ≤ c.epoch + 1 → ∃ u, exec .claimRetry s = .next u ∧ u.flag SEQ_STATUS.EPOCH_EXHAUSTED = true ∧ u.ezn.claim = some c))
      ∧ (s.primary = true → x.started = true → s.within x.heard = false → ∃ u, exec (.followerTimeout m) s = .next u ∧ u.rd (EZN_MEMBER.SLOT_VALID m) = 0
        ∧ (u.ezm m).started = false ∧ (u.ezm m).next = none ∧ s.counted u EZN_CNT.DETACHES 1)
      ∧ (role = 1 → s.ezn.wait = true → s.ezn.mark = none → s.ezn.closing = none → modeNeeds (s.rd CRF_CFG.MODE) ≤ s.followers.length →
        ∃ u, exec .newEpochOpen s = .next u ∧ u.ezn = { s.ezn with wait := false, modeRec := none }
          ∧ u.merge.device = (s.ezn.modeRec.toList.map (fun b => ({ port := 0xFE, typ := 6, payload := b } : Rec))) ++ s.merge.device
          ∧ u = { s with ezn := u.ezn, merge := { s.merge with device := u.merge.device } })
      ∧ (role = 3 → s.rd CRF_CFG.MODE ≠ 0 → (∀ t, (s.ezm (s.rd EZN_STATUS.PRIMARY)).heard = some t → t < s.ezn.formAt) →
        s.ezn.formAt + s.rd EZN_TMO.FORM_S * 1250000000 ≤ s.ticks → ∃ u, exec .formTimeout s = .next u ∧ u.rd EZN_STATUS.ROLE = 4 ∧ u.ezn.electAt = s.ticks)
      ∧ (∀ n r rest, s.primary = true → s.isFatal .ezoon = false → x.started = true → x.paidAt ≤ s.ticks → (s.bestLink m).isSome = true → x.next = some n →
        s.itemsFrom n = .record r :: rest → r.bytes.length ≤ 8192 →
        let rs := headRecs 0 (.record r :: rest)
        ∃ u, exec (.catchUpSend m) s = .next u ∧ (u.ezm m).next = rs.getLast?.map Rec.after
          ∧ (u.ezm m).paidAt = s.ticks + ceilDiv ((rs.flatMap Rec.bytes).length * 1250) (s.rd EZN_CFG.RESYNC_MBPS)))
    ∧ (s.request sl 0x0600 0 → ∃ u, exec (.groupStatus sl) s = .next u ∧ u = { s with mbox := u.mbox } ∧ u.answered sl 0 s.statePayload)
    ∧ (s.request sl 0x0601 4 → arg 1 3 = 0 → role = 1 → arg 0 1 ∈ s.followers → s.ezn.wait = false →
      ∃ u b, exec (.groupHandover sl) s = .next u ∧ u.rd EZN_STATUS.ROLE = 6 ∧ u.ezn.handover = some (sl.val, arg 0 1, b) ∧ (u.mb sl).taken = true)
    ∧ (s.request sl 0x0602 4 → arg 1 3 = 0 → s.sequencing = false → s.seesPrimary = false → arg 0 1 = 1 → s.highestEpoch + 1 < 2 ^ 16 →
      ∃ u, exec (.groupPromote sl) s = .next u ∧ u.answered sl 0 (leBytes 8 (s.rd CRF_LOCAL.SEQ) ++ leBytes 8 s.seenW) ∧ u.rd EZN_STATUS.ROLE = 1
        ∧ u.rd EZN_STATUS.EPOCH = s.highestEpoch + 1 ∧ u.rd EZN_STATUS.PRIMARY = s.me % 4)
    ∧ (s.request sl 0x0603 16 → arg 1 7 = 0 → s.primary = true → arg 0 1 ∈ s.others → s.roleOf (arg 0 1) = 3 → s.presentM (arg 0 1) = true → arg 8 8 ≠ 0 →
      s.oldest ≤ arg 8 8 → (∃ r ∈ s.journal, r.seq = arg 8 8) →
      ∃ u, exec (.groupResync sl) s = .next u ∧ u.answered sl 0 (leBytes 8 (arg 8 8)) ∧ u.rd EZN_RESYNC.FROM = arg 8 8 ∧ (u.ezm (arg 0 1)).next = some (arg 8 8)
        ∧ (u.ezm (arg 0 1)).joining = true ∧ (u.ezm (arg 0 1)).started = true)
    ∧ (s.request sl 0x0604 4 → arg 1 3 = 0 → (role = 1 ∨ role = 0) → s.rd EZN_STATUS.LEVEL < arg 0 1 → arg 0 1 ≤ s.groupMax →
      (∀ j ∈ s.others, j ∈ s.followers ∧ s.flag (EZN_MEMBER.BACKFILL_DONE j) = true) → s.flag EZN_LEVEL.RAISE_PENDING = false → s.ezn.raising = none →
      ∃ u, exec (.groupRaiseLevel sl) s = .next u ∧ u.ezn.raising = some sl.val
        ∧ u.merge.device = s.merge.device ++ [{ port := 0xFE, typ := 8, payload := s.levelPayload (arg 0 1) }])

/-- O54. APPLY_SECTION of a candidate that passes every check waits for its safe point; there the section comes into force, and at the limit nothing changes and CFG_APPLY shows status 0x0104. SECTION_WRITE and IMAGE_WRITE put their bytes in the standby copy and the spare slot; the commits write the commit record with its generation; SECTION_INFO and BOOT_STATUS answer and change nothing. ATTEST at offset 0 builds a new record over the nonce and returns its head, and another offset returns bytes of that record. The first debug access locks the keys and empties imported and derived contexts, unless DEBUG_LOCK is burned. COMPLETION: under the conditions given, on the state and the operands alone, each of these commands answers a next state with the effect of its own given here: APPLY_SECTION, SAFE_POINT, APPLY_LIMIT_EXPIRE, SECTION_WRITE, SECTION_COMMIT, SECTION_INFO, IMAGE_WRITE, IMAGE_COMMIT, BOOT_STATUS, ATTEST, JTAG_DEBUG. (13_roaster_boot_config.md R491, 13_roaster_boot_config.md R496, 13_roaster_boot_config.md R507, 13_roaster_boot_config.md R509, 13_roaster_boot_config.md R510, 13_roaster_boot_config.md R511, 13_roaster_boot_config.md R512, 13_roaster_boot_config.md R513) -/
def Obligations.SectionsImagesAndAttestation : Prop :=
  ∀ (s : State) (sl : Fin 256),
    let t := s.served sl
    let pl := (s.mb sl).payload
    let id := s.arg sl 0 2
    let k := t.spareSlot
    let sc := t.standby id
    let at_ := t.copyAt id sc
    (s.ro.apply = none →
      (∀ c, s.request sl 0x0200 12 → s.arg sl 2 2 = 0 → id ∈ sectionIds → (t.cands t.bootedImage id).find? (fun c => c.gen == s.arg sl 4 8) = some c →
        ¬((t.sec id).gen = s.arg sl 4 8 ∧ (t.sec id).source = c.source) → t.fullCheck c id = none → t.liveCheck id (itemsOf (c.bytes.take (secLen c.bytes))) = none →
        ∃ u a, exec (.applySection sl) s = .next u ∧ u.ro.apply = some a ∧ a.id = id ∧ a.gen = s.arg sl 4 8 ∧ a.source = c.source
          ∧ a.bytes = c.bytes.take (secLen c.bytes) ∧ a.asker = sl.val ∧ u.rd CFG_APPLY.BUSY = 1 ∧ u.rd CFG_APPLY.WAITING = 1 ∧ u.rd CFG_APPLY.SECTION_ID = id)
      ∧ (s.request sl 0x0201 520 → s.arg sl 2 2 = 0 → s.arg sl 4 4 % 512 = 0 → id ∈ sectionIds → s.arg sl 4 4 + 512 + 4096 ≤ at_.2 → s.flag CFG_FLASH.WP = false →
        ∃ u, exec (.sectionWrite sl true) s = .next u ∧ u.answered sl 0 [] ∧ u.flashBytes (at_.1 + s.arg sl 4 4) (pl.drop 8).length = pl.drop 8)
      ∧ (s.request sl 0x0202 16 → s.arg sl 2 2 = 0 → id ∈ sectionIds → at_.2 ≠ 0 → s.arg sl 4 4 + 4096 ≤ at_.2 →
        let b := t.flashBytes at_.1 (min (s.arg sl 4 4) at_.2)
        s.arg sl 4 4 = secLen b → t.fullCheck { gen := secGen b, source := 2 + sc, bytes := b, crc := secCrcOk b && crc64 b == s.arg sl 8 8 } id = none →
        (∀ x ∈ t.cands t.bootedImage id, x.gen < secGen b) → s.flag CFG_FLASH.WP = false →
        let r := commitRecord (copyTarget id sc) (secGen b) (s.arg sl 4 4) (crc64 b) 0 0 0
        ∃ u, exec (.sectionCommit sl true) s = .next u ∧ u.answered sl 0 (leBytes 8 (secGen b) ++ zeros 8) ∧ u.flashBytes (at_.1 + at_.2 - 4096) r.length = r)
      ∧ (s.request sl 0x0204 520 → s.arg sl 4 4 = 0 → s.arg sl 0 4 % 512 = 0 → s.arg sl 0 4 + 512 + 4096 ≤ t.slotSize → s.flag CFG_FLASH.WP = false →
        ∃ u, exec (.imageWrite sl true) s = .next u ∧ u.answered sl 0 [] ∧ u.flashBytes (t.slotAt k + s.arg sl 0 4) (pl.drop 8).length = pl.drop 8)
      ∧ (s.request sl 0x0205 8 →
        let img := t.flashBytes (t.slotAt k) (min (s.arg sl 0 8) t.slotSize)
        img.length = s.arg sl 0 8 → t.imageOk img = true → s.flag CFG_FLASH.WP = false →
        let r := commitRecord (slotTarget k) t.nextGen img.length (crc64 (imageCore img)) (field img 16 4) (field img 23 1) (field img 24 1)
        ∃ u, exec (.imageCommit sl true) s = .next u ∧ u.answered sl 0 (leBytes 8 t.nextGen) ∧ u.flashBytes (t.slotAt k + t.slotSize - 4096) r.length = r))
    ∧ (∀ a, s.ro.apply = some a →
      (s.atSafePoint a = true → ∃ u, exec .safePoint s = .next u ∧ u.ro.apply = none ∧ (u.sec a.id).gen = a.gen ∧ (u.sec a.id).source = a.source
        ∧ (u.sec a.id).bytes = a.bytes ∧ u.rd CFG_APPLY.BUSY = 0 ∧ u.rd CFG_APPLY.WAITING = 0 ∧ u.rd CFG_APPLY.LAST_STATUS = 0 ∧ u.rd CFG_APPLY.SECTION_ID = a.id % 256)
      ∧ (a.at_ + msTicks (s.rd CFG_CTRL.APPLY_LIMIT_MS) ≤ s.ticks → ∃ u, exec .applyLimitExpire s = .next u ∧ u.ro = { s.ro with apply := none, quietQ := u.ro.quietQ, quietC := u.ro.quietC } ∧ u.rd CFG_APPLY.BUSY = 0
        ∧ u.rd CFG_APPLY.WAITING = 0 ∧ u.rd CFG_APPLY.LAST_STATUS = 0x0104))
    ∧ (s.request sl 0x0203 4 → s.arg sl 2 2 = 0 → id ∈ sectionIds → ∃ u rest, exec (.sectionInfo sl) s = .next u ∧ u = { s with mbox := u.mbox }
      ∧ u.answered sl 0 (leBytes 8 (s.sec id).gen ++ leBytes 1 (s.sec id).source ++ leBytes 1 sc ++ rest) ∧ rest.length = 30)
    ∧ (s.request sl 0x0206 0 → ∃ u, exec (.bootStatus sl) s = .next u ∧ u = { s with mbox := u.mbox }
      ∧ u.answered sl 0 (leBytes 8 (t.peek 0xC0000) ++ leBytes 8 (t.peek 0xC0008) ++ leBytes 8 (t.peek 0xC0028)))
    ∧ (s.request sl 0x0207 40 → s.arg sl 36 4 = 0 →
      (s.arg sl 32 4 = 0 → ∃ u, exec (.attest sl) s = .next u ∧ u.answered sl 0 (leBytes 4 u.ro.record.length ++ zeros 4 ++ u.ro.record.take 960)
        ∧ slice u.ro.record 48 32 = pl.take 32 ∧ u.ro = { s.ro with record := u.ro.record } ∧ s.counted u CPH_CNT0.TASKS 1)
      ∧ (s.arg sl 32 4 ≠ 0 → s.arg sl 32 4 < s.ro.record.length → ∃ u, exec (.attest sl) s = .next u ∧ u = { s with mbox := u.mbox }
        ∧ u.answered sl 0 (leBytes 4 s.ro.record.length ++ zeros 4 ++ (s.ro.record.drop (s.arg sl 32 4)).take 960)))
    ∧ (s.fuses.debugLock = true → exec .jtagDebug s = .next s)
    ∧ (s.fuses.debugLock = false → ∃ u, exec .jtagDebug s = .next u ∧ u.rd RST_STATUS.KEYS_LOCKED = 1 ∧ u.rd RST_KL.JTAG_DEBUG = 1
      ∧ ∀ c, (s.cctx c).source = 2 ∨ (s.cctx c).source = 3 → (u.cctx c).loaded = false ∧ (u.cctx c).key = [])

/-- O55. A CORRECTED error is counted and a WARNING replaces the log's last one; a first error is recorded with its class, a second one sets ESCALATED and brings a record in log 0, a third is counted. An acknowledgement clears the first record; an error whose unit stops the device, or an escalation of it that stands for ESC_WAIT_MS, makes the unit fatal. A fatal cluster's sessions move to the fallback, behind an issue hold, or are lost. A device that is fatal halts or takes reset type 5, the watchdog triggers type 6, DEVICE_RESET asks for type 4 or 3, which begins 10 ms after its response at the latest; DOMAIN_RESET mends a fatal cluster; an injected error makes no unit fatal. COMPLETION: under the conditions given, on the state and the operands alone, each of these commands answers a next state with the effect of its own given here: ERROR_DETECT, ERR_ACK, ESC_WAIT_EXPIRE, CLUSTER_REMAP, DEVICE_FATAL_RESET, WATCHDOG, DEVICE_RESET, DEVICE_RESET_ACK_TIMEOUT, DOMAIN_RESET, LANE_RECAL, ERR_INJECT. (14_errors_resets_service.md R522, 14_errors_resets_service.md R523, 14_errors_resets_service.md R526, 14_errors_resets_service.md R527, 14_errors_resets_service.md R530, 14_errors_resets_service.md R532, 14_errors_resets_service.md R533, 14_errors_resets_service.md R540, 14_errors_resets_service.md R541, 14_errors_resets_service.md R543, 14_errors_resets_service.md R544, 14_errors_resets_service.md R548) -/
def Obligations.ErrorsAndResets : Prop :=
  ∀ (s : State) (sl : Fin 256),
    (∀ (n : Fin 128) (code : Fin 65536) (sub : Fin 256) (i : BitVec 64), s.noLog n = false → s.fatalSettled →
      let un := unitOfRecord n code sub i.toNat
      (∃ u, exec (.errorDetect n code 0 sub i) s = .next u ∧ s.counted u (ERR_CNT.CORRECTED n) 1 ∧ u.err.fatal = s.err.fatal)
      ∧ (∃ u, exec (.errorDetect n code 1 sub i) s = .next u ∧ s.warned u n code sub i.toNat ∧ u.err.fatal = s.err.fatal)
      ∧ (s.isFatal un = false →
        (s.rd (ERR_STAT.FIRST_VALID n) = 0 → ackAtOnce n code = false → ∃ u, exec (.errorDetect n code 2 sub i) s = .next u ∧ u.firstIs n code 3 sub i.toNat
          ∧ s.counted u (ERR_STAT.TOTAL n) 1 ∧ s.counted u (ERR_CNT.UNCORRECTED n) 1 ∧ u.err.fatal = s.err.fatal)
        ∧ (s.rd (ERR_STAT.FIRST_VALID n) = 1 → s.rd (ERR_STAT.SECOND_VALID n) = 0 → (n : Nat) ≠ 0 → s.rd (ERR_STAT.FIRST_VALID 0) = 0 →
          ∃ u, exec (.errorDetect n code 2 sub i) s = .next u ∧ u.rd (ERR_STAT.SECOND_VALID n) = 1 ∧ u.rd (ERR_SECOND.CODE n) = code ∧ u.flag (ERR_STAT.ESCALATED n) = true
            ∧ u.firstIs 0 1 3 n (code + sub * 65536) ∧ u.err.fatal = s.err.fatal)
        ∧ (s.rd (ERR_STAT.FIRST_VALID n) = 1 → s.rd (ERR_STAT.SECOND_VALID n) = 1 → ∃ u, exec (.errorDetect n code 2 sub i) s = .next u ∧ s.counted u (ERR_STAT.THIRD n) 1)
        ∧ (stopsDevice un = true → ∃ u, exec (.errorDetect n code 4 sub i) s = .next u ∧ un ∈ u.err.fatal ∧ u.err.device = true)))
    ∧ (∀ n : Fin 128, (s.flag (ERR_STAT.FIRST_VALID n) = false → exec (.errAck n) s = .next s)
      ∧ (s.flag (ERR_STAT.FIRST_VALID n) = true → ∃ u, exec (.errAck n) s = .next u ∧ u.rd (ERR_STAT.FIRST_VALID n) = 0 ∧ bitAt (u.rd (ERR_SUM.FIRST (n / 64))) (n % 64) = false
        ∧ u = { s with regs := u.regs }))
    ∧ (∀ n i, s.firstIs 0 1 3 n i → n < 128 → s.flag (ERR_FIRST.INJECTED 0) = false → s.fatalSettled → let un := unitOf n (bits i 0 16) (bits i 16 8)
      (s.rd (ERR_STAT.FIRST_VALID n) = 0 → exec .escWaitExpire s = .next s)
      ∧ (s.rd (ERR_STAT.FIRST_VALID n) = 1 → s.err.escAt + msTicks (s.rd ERR_CFG.ESC_WAIT_MS) ≤ s.ticks → stopsDevice un = true → s.isFatal un = false → ∃ u, exec .escWaitExpire s = .next u ∧ un ∈ u.err.fatal ∧ u.err.device = true))
    ∧ (∀ k : Fin 64, s.run = true → s.isFatal (.cluster k) = true → FMap.look s.dy.remaps k = none →
      let f := s.rd (ERR_CLU_FB.FB_CLUSTER k)
      (s.flag (ERR_CLU_FB.EN k) = false → ∃ u, exec (.clusterRemap k false) s = .next u ∧ FMap.look u.dy.remaps k = some none ∧ bitAt (u.rd (PWR_DOM.ON (k / 64))) (k % 64) = false)
      ∧ (s.flag (ERR_CLU_FB.EN k) = true → s.hasCluster f = true → s.isFatal (.cluster f) = false →
        (s.merge.hold = false → exec (.clusterRemap k false) s = .next { s with merge := { s.merge with hold := true } })
        ∧ (s.merge.hold = true → (∀ r ∈ s.crf.issued, r.fixed = true) → ∃ u, exec (.clusterRemap k false) s = .next u
          ∧ FMap.look u.dy.remaps k = some (some (f, s.rd (ERR_CLU_FB.FB_BASE k))) ∧ bitAt (u.rd (PWR_DOM.ON (k / 64))) (k % 64) = false)))
    ∧ (∀ env : BootEnv, s.err.device = true → s.err.halted = false → s.err.pend = none → s.flag PWR_STATUS.POWER_FAIL = false → s.spent = true →
      (s.flag ERR_CFG.FATAL_HALT = true → exec (.deviceFatalReset env) s = .next { s with err := { s.err with halted := true } })
      ∧ (s.flag ERR_CFG.FATAL_HALT = false → s.rd RST_STATUS.STATE = 1 → ∃ r : State, exec (.deviceFatalReset env) s = .next (r.boot 5 env) ∧ r.rd ERR_RESET.LAST_TYPE = 5
        ∧ s.counted r ERR_RESET.FATAL 1 ∧ s.counted r ERR_RESET.WARM 1 ∧ r.err.fatal = [] ∧ r.err.device = false ∧ r.rd RST_STATUS.STATE = 0))
    ∧ (∀ rpc : BitVec 32, s.recovery = false → s.err.pend = none → s.flag PWR_STATUS.POWER_FAIL = false → ∃ u, exec (.watchdog rpc) s = .next u ∧ u.err.pend = some 6
      ∧ u.err.fatal = [] ∧ u.mbox = [] ∧ u.gddr = [] ∧ (s.rd (ERR_STAT.FIRST_VALID 0) = 0 → u.firstIs 0 6 5 0 rpc.toNat))
    ∧ (s.request sl 0x0500 8 → s.arg sl 1 3 = 0 → ∀ kind, kind = s.arg sl 0 1 → (kind = 1 ∨ kind = 2) →
      (s.arg sl 4 4 = 0x54455352 → ∃ u, exec (.deviceReset sl) s = .next u ∧ u.err = { s.err with ask := some (sl.val, if kind = 1 then 4 else 3), askAt := none } ∧ u.answered sl 0 [])
      ∧ (s.arg sl 4 4 ≠ 0x54455352 → ∃ u, exec (.deviceReset sl) s = .next u ∧ u = { s with mbox := u.mbox } ∧ u.answered sl 0x0100 []))
    ∧ (∀ a ty t, s.err.ask = some (a, ty) → s.err.askAt = some t → t + msTicks 10 ≤ s.ticks → s.err.pend = none → s.flag PWR_STATUS.POWER_FAIL = false →
      ∃ u, exec .deviceResetAckTimeout s = .next u ∧ u.err.pend = some ty ∧ u.mbox = [] ∧ u.dy = {} ∧ u.merge = { ties := u.merge.ties })
    ∧ (s.request sl 0x0501 4 → s.arg sl 2 2 = 0 → s.arg sl 0 1 = 1 → ∀ i, i = s.arg sl 1 1 → i < 64 → s.hasCluster i = true →
      (s.isFatal (.cluster i) = false → ∃ u, exec (.domainReset sl) s = .next u ∧ u = { s with mbox := u.mbox } ∧ u.answered sl 0x0101 [])
      ∧ (s.isFatal (.cluster i) = true → ∃ u, exec (.domainReset sl) s = .next u ∧ FatalUnit.cluster i ∉ u.err.fatal ∧ bitAt (u.rd (PWR_DOM.ON 0)) i = true))
    ∧ (s.request sl 0x0502 4 → (∀ r ∈ s.tamp.recalReq, r.2.1 ≠ sl.val) → s.arg sl 1 3 = 0 → ∀ n p, n = s.arg sl 0 1 → n < 64 → s.portOfLane n = some p → s.flag (SEQ_PST.LINK p) = true →
      s.flag (TMP_LDIE.VALID n) = true → s.laneBusy n = false → s.tamp.recal = none → ∃ u, exec (.laneRecal sl true) s = .next u
      ∧ u.tamp = { s.tamp with recal := some n, recalReq := s.tamp.recalReq ++ [(n, sl.val, s.ticks)] } ∧ u.regs = s.regs)
    ∧ (s.request sl 0x0503 16 → s.arg sl 5 3 = 0 → ∀ n c, n = s.arg sl 0 1 → c = s.arg sl 1 1 → n < 112 → s.noLog n = false → 1 ≤ c → c ≤ 5 →
      ∃ u, exec (.errInject sl) s = .next u ∧ u.answered sl 0 [] ∧ u.err.fatal = s.err.fatal ∧ u.err.device = s.err.device
        ∧ (3 ≤ c → s.rd (ERR_STAT.FIRST_VALID n) = 0 → s.isFatal (unitOfRecord n (s.arg sl 2 2) (s.arg sl 4 1) (s.arg sl 8 8)) = false →
          u.rd (ERR_FIRST.INJECTED n) = 1 ∧ u.rd (ERR_FIRST.CLASS n) = c ∧ u.rd (ERR_FIRST.CODE n) = s.arg sl 2 2))

/-- O56. A power-on reset has type 1 and loses the timebase and the record of closed epochs; without a valid slot it ends in recovery mode at step 4, and with PWR_FAIL_N low it waits. Cold and warm resets begin once no NAND operation is in progress. PWR_FAIL_N sets POWER_FAIL and switches domains off; PWR_SAFE follows the last operation. REFCLK loss is fatal, leaves LOCK without the root's domains and deselects the time source, in CORRECTING at the correction's end; a domain's PLL unlocks with a warning and a count, and a channel whose group stays unlocked for 10 ms is lost. Rail and temperature samples are shown, TEMP_WARN_C warns, and at 115 degrees the device acts as at power failure. COMPLETION: under the conditions given, on the state and the operands alone, each of these commands answers a next state with the effect of its own given here: POWER_ON_RESET, COLD_RESET, WARM_RESET, POWER_FAIL, PWR_SAFE, POWER_FAIL_CLEAR, ROOT_PLL_RELOCK, REFCLK_LOSS, PLL_UNLOCK, PLL_RELOCK, CHANNEL_PLL_TIMEOUT, RAIL_SAMPLE, TEMP_SAMPLE, THERMTRIP. (14_errors_resets_service.md R535, 14_errors_resets_service.md R577, 15_power_clocks_package.md R555, 15_power_clocks_package.md R556, 15_power_clocks_package.md R559, 15_power_clocks_package.md R560, 15_power_clocks_package.md R561, 15_power_clocks_package.md R563, 15_power_clocks_package.md R564, 15_power_clocks_package.md R565, 13_roaster_boot_config.md R500) -/
def Obligations.PowerAndClocks : Prop :=
  ∀ (s : State) (env : BootEnv),
    (∃ r : State, exec (.powerOnReset env) s = .next (r.boot 1 env) ∧ r.rd ERR_RESET.LAST_TYPE = 1 ∧ r.ticks = 0 ∧ r.tamp = {} ∧ r.closed = [] ∧ r.gddr = []
      ∧ r.rd EZN_STATUS.ISLAND_LOST = 1 ∧ r.rd PWR_STATUS.POWER_FAIL = 0 ∧ r.ro.flash = s.ro.flash
      ∧ (env.pwrFail = true → r.boot 1 env = { r with pw := { r.pw with hold := some 1, fail := true } })
      ∧ (env.pwrFail = false → s.slotImage 0 = none → s.slotImage 1 = none → ∃ u, exec (.powerOnReset env) s = .next u ∧ u.recovery = true ∧ u.rd RST_STATUS.STEP = 4))
    ∧ (∀ t, s.err.pend = some t → s.quiet = true →
      (resetRank t = 2 → ∃ r : State, exec (.coldReset false env) s = .next (r.boot t env) ∧ r.rd ERR_RESET.LAST_TYPE = t % 16 ∧ s.counted r ERR_RESET.COLD 1 ∧ r.ticks = s.ticks
        ∧ r.err.pend = none ∧ r.rd PWR_STATUS.POWER_FAIL = 0)
      ∧ (resetRank t = 1 → 4 ≤ t → s.flag PWR_STATUS.POWER_FAIL = false → ∃ r : State, exec (.warmReset env) s = .next (r.boot t env) ∧ r.rd ERR_RESET.LAST_TYPE = t % 16
        ∧ s.counted r ERR_RESET.WARM 1 ∧ r.ticks = s.ticks ∧ r.err.pend = none))
    ∧ (s.err.pend = none → s.quiet = false → ∃ u, exec (.coldReset true env) s = .next u ∧ u.err.pend = some 2 ∧ u.mbox = [] ∧ u.gddr = [])
    ∧ (s.pw.hold = none → s.flag PWR_STATUS.POWER_FAIL = false → ∃ u, exec .powerFail s = .next u ∧ u.pw.fail = true ∧ u.rd PWR_STATUS.POWER_FAIL = 1
      ∧ u.rd CRF_STATUS.POWER_FAIL = 1 ∧ u.rd (PWR_DOM.ON 0) = 0)
    ∧ (s.flag PWR_STATUS.POWER_FAIL = true → s.flag PWR_STATUS.PWR_SAFE = false → s.spent = true → ∃ u, exec .pwrSafe s = .next u ∧ u.rd PWR_STATUS.PWR_SAFE = 1
      ∧ u.err = { s.err with halted := true } ∧ u = { s with regs := u.regs, err := u.err })
    ∧ (∀ t, s.pw.hold = some t →
      (env.pwrFail = true → ∃ u, exec (.powerFailClear env) s = .next u ∧ u.pw = { s.pw with hold := some t, fail := true } ∧ u.regs = s.regs)
      ∧ (env.pwrFail = false → s.flag CLK_STATUS.ON_BACKUP = false →
        exec (.powerFailClear env) s = .next (({ s with pw := { s.pw with hold := none, fail := false } } : State).bootRun env))
      ∧ (s.pw.fail = true → ∃ u, exec (.rootPllRelock env) s = .next u ∧ u.rd CLK_STATUS.ON_BACKUP = 0 ∧ u = { s with regs := u.regs }))
    ∧ (∀ root, s.flag CLK_STATUS.ON_BACKUP = false → s.isFatal .power = false → s.fatalSettled → ∃ u, exec (.refclkLoss root) s = .next u ∧ u.flag CLK_STATUS.ON_BACKUP = true
      ∧ u.rd CLK_STATUS.LOCK % 64 = 0 ∧ (s.rd TMP_STATUS.STATE ≠ 5 → u.rd TMP_STATUS.SOURCE = 0) ∧ (s.rd TMP_STATUS.STATE = 5 → u.tamp.dropped = true) ∧ s.counted u CLK_CNT.REFCLK_LOSSES 1 ∧ u.err.device = true ∧ FatalUnit.power ∈ u.err.fatal)
    ∧ (∀ (d : Fin 25) (us : BitVec 32), (d : Nat) = 14 ∨ (d : Nat) = 15 ∨ (d : Nat) = 16 ∨ (d : Nat) = 22 ∨ (d : Nat) = 24 → bitAt (s.rd CLK_STATUS.LOCK) d = true →
      ∃ u, exec (.pllUnlock d us) s = .next u ∧ bitAt (u.rd CLK_STATUS.LOCK) d = false ∧ s.counted u CLK_CNT.UNLOCKS 1 ∧ s.warned u 11 0x0B04 d us.toNat
        ∧ ((d : Nat) = 14 → s.flag PCI_LINK.UP = true → u.flag PCI_LINK.UP = false))
    ∧ (∀ d : Fin 25, 6 ≤ (d : Nat) → (d : Nat) ≠ 23 → ∃ u, exec (.pllRelock d) s = .next u ∧ bitAt (u.rd CLK_STATUS.LOCK) d = true ∧ u = { s with regs := u.regs })
    ∧ (∀ g : Fin 4, bitAt (s.rd CLK_STATUS.LOCK) (17 + g) = false → s.run = true → FMap.get 0 s.pw.pllAt (17 + g.val) + msTicks 10 ≤ s.ticks → ∃ u, exec (.channelPllTimeout g) s = .next u
      ∧ ∀ c, 8 * g.val ≤ c → c < 8 * g.val + 8 → s.hasChannel c = true → s.flag (NDC_CFG.EN c) = true → c ∈ u.nand.lost)
    ∧ (∀ rails, s.fatalSettled → (∀ r ∈ rails, r.out10 = false) → ∃ u, exec (.railSample rails) s = .next u ∧ ∀ i r, i < 8 → rails[i]? = some r → u.rd (PWR_RAIL.MV i) = r.mv
        ∧ u.rd (PWR_RAIL.CURRENT i) = min r.current 65535 ∧ u.flag (PWR_RAIL.IN_TOL i) = r.inTol)
    ∧ (∀ temps, ((∀ v ∈ temps, v < 115 * 16) → ∃ u, exec (.tempSample temps) s = .next u ∧ ∀ i v, i < 8 → temps[i]? = some v → u.rd (PWR_TEMP.SENSOR i) = ofInt 16 v)
      ∧ (temps.length = 8 → (∃ v ∈ temps, 115 * 16 ≤ v) → ∃ u, exec (.tempSample temps) s = .next u ∧ u.flag PWR_STATUS.POWER_FAIL = true)
      ∧ (temps.length = 8 → (∀ v ∈ temps, v < 115 * 16) → ∃ u, exec (.tempSample temps) s = .next u
        ∧ (u.flag PWR_STATUS.THERM_WARN = true ↔ ∃ v ∈ temps, ((16 * s.rd PWR_LIMIT.TEMP_WARN_C : Nat) : Int) ≤ v)
        ∧ ∀ v ∈ temps, ∃ w, temps[u.rd PWR_STATUS.HOTTEST]? = some w ∧ v ≤ w))
    ∧ exec .thermtrip s = .next { s with pw := { s.pw with trip := true } }

/-- O57. A command whose write block fails its PEC is answered PEC_ERR and does nothing. The GET commands answer with the registers of Table 15-8 and change nothing; GET_LIFE of an absent channel, and GET_LOG and ACK_LOG of a log above 127, are answered with status 2. ACK_LOG clears the log's first record. RESET needs its confirmation word and a KIND of 1 to 3; KIND 1 and 2 trigger reset types 4 and 3 after the answer. An alerting device answers the alert response with its own address. COMPLETION: under the conditions given, on the state and the operands alone, each of these commands answers a next state with the effect of its own given here: GET_STATUS, GET_TEMP, GET_POWER, GET_LIFE, GET_ERRORS, GET_LOG, ACK_LOG, SIDEBAND_RESET, GET_IDENTITY, GET_CLOCKS, GET_DOMAINS, ALERT_RESPONSE. (15_power_clocks_package.md R569, 15_power_clocks_package.md R570, 15_power_clocks_package.md R571, 15_power_clocks_package.md R572, 14_errors_resets_service.md R523) -/
def Obligations.SidebandCommands : Prop :=
  ∀ s : State,
    let r := fun a => leBytes 8 (s.peek a)
    (∀ (k c n : Fin 256) (w : BitVec 32) i, i ∈ [Instr.getStatus false, .getTemp false, .getPower false, .getLife c false, .getErrors false, .getLog n false, .ackLog n false,
      .sidebandReset k w false, .getIdentity false, .getClocks false, .getDomains false] → s.sideAnswers i 5 [])
    ∧ s.sideAnswers (.getStatus true) 0 (r 0xC0000 ++ r 0xC0008 ++ leBytes 4 (s.peek 0xC0028) ++ r 0xE0080)
    ∧ s.sideAnswers (.getTemp true) 0 (r 0xE0020 ++ r 0xE0028)
    ∧ s.sideAnswers (.getPower true) 0 (r 0xE0040 ++ r 0xE0048 ++ r 0xE0050 ++ r 0xE0058 ++ r 0xE0060 ++ r 0xE0068 ++ r 0xE0070 ++ r 0xE0078)
    ∧ s.sideAnswers (.getErrors true) 0 (r 0xD0008 ++ r 0xD0010 ++ r 0xD0018 ++ r 0xD0020)
    ∧ s.sideAnswers (.getIdentity true) 0 (leBytes 8 s.fuses.serial ++ leBytes 2 s.deviceId ++ [0xB1, 0] ++ leBytes 4 (s.peek 0xC0020) ++ leBytes 8 s.ro.imageGen)
    ∧ s.sideAnswers (.getClocks true) 0 (r 0xE8000 ++ r 0xE8008)
    ∧ s.sideAnswers (.getDomains true) 0 (r 0xE0008 ++ r 0xE0010)
    ∧ (∀ c : Fin 256,
      (32 ≤ (c : Nat) ∨ s.hasChannel c = false → s.sideAnswers (.getLife c true) 2 [])
      ∧ ((c : Nat) < 32 → s.hasChannel c = true → ∃ rest, rest.length = 144 ∧ s.sideAnswers (.getLife c true) 0 (leBytes 4 s.hours ++ leBytes 4 (s.rd CPH_STATUS.BOOT_COUNT) ++ rest)))
    ∧ (∀ n : Fin 256,
      (128 ≤ (n : Nat) → s.sideAnswers (.getLog n true) 2 [] ∧ s.sideAnswers (.ackLog n true) 2 [])
      ∧ ((n : Nat) < 128 → let b := 0xD1000 + 0x80 * n.val
        s.sideAnswers (.getLog n true) 0 (r b ++ r (b + 8) ++ r (b + 0x10) ++ r (b + 0x18) ++ r (b + 0x40))
        ∧ (s.flag (ERR_STAT.FIRST_VALID n) = false → s.sideAnswers (.ackLog n true) 0 [])
        ∧ (s.flag (ERR_STAT.FIRST_VALID n) = true → ∃ u, exec (.ackLog n true) s = .next u ∧ u.rd (ERR_STAT.FIRST_VALID n) = 0 ∧ u.out = .sideband 0 [] :: s.out
          ∧ u = { s with regs := u.regs, out := u.out })))
    ∧ (∀ (k : Fin 256) (w : BitVec 32),
      ((k : Nat) = 0 ∨ 3 < (k : Nat) → s.sideAnswers (.sidebandReset k w true) 2 [])
      ∧ (1 ≤ (k : Nat) → (k : Nat) ≤ 3 →
        (w.toNat ≠ 0x54455352 → s.sideAnswers (.sidebandReset k w true) 4 [])
        ∧ (w.toNat = 0x54455352 →
          (s.err.pend.isSome = true → s.sideAnswers (.sidebandReset k w true) 3 [])
          ∧ (s.err.pend = none → s.flag PWR_STATUS.POWER_FAIL = false → (k : Nat) ≤ 2 → ∃ u, exec (.sidebandReset k w true) s = .next u
            ∧ u.err.pend = some (if (k : Nat) = 1 then 4 else 3) ∧ u.mbox = [] ∧ Out.sideband 0 [] ∈ u.out)
          ∧ (s.err.pend = none → s.flag PWR_STATUS.POWER_FAIL = false → (k : Nat) = 3 → ∃ u, exec (.sidebandReset k w true) s = .next u ∧ u.rd PCI_LINK.UP = 0
            ∧ u.pci.fn0 = {} ∧ u.pci.fn1 = {} ∧ Out.sideband 0 [] ∈ u.out))))
    ∧ (s.alert = true → exec .alertResponse s = .next (s.emit (.sideband 0 [BitVec.ofNat 8 (0x48 + s.pw.smbAddr)])))
    ∧ (s.alert = false → exec .alertResponse s = .next s)

/-- O58. A step with a command at the front of its queue is exec of that command on the state with the queue's rest, and a step on an empty queue leaves the state as it is (the model's choice, notes/assumptions/8). A table word that spells a command puts it at the front of the queue, so that the next step runs it; a word that spells none changes nothing. (95_what_each_step_holds.md, 05_dyaris_isa.md R169, 07_nand_drip.md R263) -/
def Obligations.StepTakesTheFrontCommand : Prop :=
  (∀ (s : State) (c : Instr) (cs : List Instr), s.pending = c :: cs → step s = exec c { s with pending := cs })
  ∧ (∀ s : State, s.pending = [] → step s = .next s)
  ∧ (∀ (s : State) (nbits w : Nat),
    (∀ c, decodeTableWord nbits w = some c → step (s.withFetchWord nbits w) = exec c s) ∧ (decodeTableWord nbits w = none → s.withFetchWord nbits w = s))

/-- O59. Every command answers a next state in every state: none is refused and none is a fault, and so does every step. (95_what_each_step_holds.md) -/
def Obligations.EveryCommandCompletes : Prop :=
  (∀ (c : Instr) (s : State), ∃ t, exec c s = .next t) ∧ ∀ s : State, ∃ t, step s = .next t

/-- O60. Two 32-bit words that spell the same thread instruction are the same word, and so are two 64-bit microwords that spell the same micro-operation: every bit of a word stands in an operand or picks the operation. (05_dyaris_isa.md R166, 05_dyaris_isa.md R169, 07_nand_drip.md R263) -/
def Obligations.WordsKeepTheirBits : Prop :=
  (∀ (t : Fin 8192) (w v : Nat) (i : Instr), w < 2 ^ 32 → v < 2 ^ 32 → decodeDyaris t w = some i → decodeDyaris t v = some i → w = v)
  ∧ ∀ (c : Fin 32) (l : Fin 16) (sr : BitVec 8) (w v : Nat) (i : Instr), w < 2 ^ 64 → v < 2 ^ 64 → decodeDrip c l sr w = some i → decodeDrip c l sr v = some i → w = v
end

