-- ==== Sys2Proof/Laws/FMap.lean ====
section
/-!
SUPPORT. Laws of sparse tables and of memories: read after write, other keys, and the canonical form, which every write keeps.
-/

namespace Sys2Proof.Machine

section
variable {β : Type}

theorem FMap.look_del_same (m : FMap β) (k : Nat) : FMap.look (FMap.del m k) k = none := by
  induction m with
  | nil => rfl
  | cons e m ih =>
    simp only [FMap.del]
    split
    · exact ih
    · next h => simp [FMap.look, h, ih]

theorem FMap.look_del_other (m : FMap β) {k j : Nat} (h : j ≠ k) : FMap.look (FMap.del m k) j = FMap.look m j := by
  induction m with
  | nil => rfl
  | cons e m ih =>
    simp only [FMap.del, FMap.look]
    split
    · next hk => rw [ih, if_neg (by omega)]
    · simp only [FMap.look, ih]

theorem FMap.look_ins_same (m : FMap β) (k : Nat) (v : β) : FMap.look (FMap.ins m k v) k = some v := by
  induction m with
  | nil => simp [FMap.ins, FMap.look]
  | cons e m ih =>
    simp only [FMap.ins]
    split
    · simp [FMap.look]
    · split
      · simp [FMap.look]
      · next h => simp [FMap.look, Ne.symm h, ih]

theorem FMap.look_ins_other (m : FMap β) {k j : Nat} (v : β) (h : j ≠ k) : FMap.look (FMap.ins m k v) j = FMap.look m j := by
  induction m with
  | nil => simp [FMap.ins, FMap.look, Ne.symm h]
  | cons e m ih =>
    simp only [FMap.ins]
    split
    · simp [FMap.look, Ne.symm h]
    · split
      · next hk => subst hk; simp [FMap.look, Ne.symm h]
      · simp only [FMap.look, ih]

variable [DecidableEq β]

@[simp] theorem FMap.get_set_same (d : β) (m : FMap β) (k : Nat) (v : β) : FMap.get d (FMap.set d m k v) k = v := by
  unfold FMap.get FMap.set
  split
  · next h => simp [look_del_same, h]
  · simp [look_ins_same]

theorem FMap.get_set_other (d e : β) (m : FMap β) {k j : Nat} (v : β) (h : j ≠ k) : FMap.get e (FMap.set d m k v) j = FMap.get e m j := by
  unfold FMap.get FMap.set
  split
  · rw [look_del_other m h]
  · rw [look_ins_other m v h]

/-! ### The canonical form -/

omit [DecidableEq β] in
theorem FMap.ins_ins (m : FMap β) (k : Nat) (v w : β) : FMap.ins (FMap.ins m k v) k w = FMap.ins m k w := by
  induction m with
  | nil => simp [FMap.ins]
  | cons e m ih =>
    obtain ⟨j, x⟩ := e
    simp only [FMap.ins]
    split
    · simp [FMap.ins]
    · split
      · simp [FMap.ins]
      · rename_i h1 h2; simp [FMap.ins, h1, h2, ih]

omit [DecidableEq β] in
theorem FMap.del_ins (m : FMap β) (k : Nat) (v : β) : FMap.del (FMap.ins m k v) k = FMap.del m k := by
  induction m with
  | nil => simp [FMap.ins, FMap.del]
  | cons e m ih =>
    obtain ⟨j, x⟩ := e
    simp only [FMap.ins]
    split
    · simp [FMap.del]
    · split
      · rename_i h; simp [FMap.del, h]
      · rename_i h1 h2; simp [FMap.del, Ne.symm h2, ih]

/-- A second write of an entry takes the place of the first, when the first was not the default. -/
theorem FMap.set_set (d : β) (m : FMap β) (k : Nat) {v : β} (h : v ≠ d) (w : β) : FMap.set d (FMap.set d m k v) k w = FMap.set d m k w := by
  simp only [FMap.set, h, if_false]
  split
  · exact FMap.del_ins m k v
  · exact FMap.ins_ins m k v w

omit [DecidableEq β] in
theorem FMap.sortedFrom_mono {lo hi : Nat} {m : FMap β} (h : hi ≤ lo) (hs : FMap.sortedFrom lo m = true) : FMap.sortedFrom hi m = true := by
  cases m with
  | nil => rfl
  | cons e m => simp only [FMap.sortedFrom, Bool.and_eq_true, decide_eq_true_eq] at *; exact ⟨by omega, hs.2⟩

omit [DecidableEq β] in
theorem FMap.sortedFrom_del {lo : Nat} {m : FMap β} (k : Nat) (hs : FMap.sortedFrom lo m = true) : FMap.sortedFrom lo (FMap.del m k) = true := by
  induction m generalizing lo with
  | nil => rfl
  | cons e m ih =>
    simp only [FMap.sortedFrom, Bool.and_eq_true, decide_eq_true_eq] at hs
    simp only [FMap.del]
    split
    · exact sortedFrom_mono (by omega) (ih hs.2)
    · simp only [FMap.sortedFrom, Bool.and_eq_true, decide_eq_true_eq]; exact ⟨hs.1, ih hs.2⟩

omit [DecidableEq β] in
theorem FMap.sortedFrom_ins {lo : Nat} {m : FMap β} {k : Nat} (v : β) (hk : lo ≤ k) (hs : FMap.sortedFrom lo m = true) :
    FMap.sortedFrom lo (FMap.ins m k v) = true := by
  induction m generalizing lo with
  | nil => simp [FMap.ins, FMap.sortedFrom, hk]
  | cons e m ih =>
    obtain ⟨j, w⟩ := e
    simp only [FMap.sortedFrom, Bool.and_eq_true, decide_eq_true_eq] at hs
    simp only [FMap.ins]
    split
    · simp only [FMap.sortedFrom, Bool.and_eq_true, decide_eq_true_eq]; exact ⟨hk, by omega, hs.2⟩
    · split
      · next h => subst h; simp only [FMap.sortedFrom, Bool.and_eq_true, decide_eq_true_eq]; exact hs
      · simp only [FMap.sortedFrom, Bool.and_eq_true, decide_eq_true_eq]; exact ⟨hs.1, ih (by omega) hs.2⟩

omit [DecidableEq β] in
theorem FMap.all_del {p : Nat × β → Bool} {m : FMap β} (k : Nat) (h : m.all p = true) : (FMap.del m k).all p = true := by
  induction m with
  | nil => rfl
  | cons e m ih =>
    simp only [List.all_cons, Bool.and_eq_true] at h
    simp only [FMap.del]
    split
    · exact ih h.2
    · simp only [List.all_cons, Bool.and_eq_true]; exact ⟨h.1, ih h.2⟩

omit [DecidableEq β] in
theorem FMap.all_ins {p : Nat × β → Bool} {m : FMap β} {k : Nat} {v : β} (hv : p (k, v) = true) (h : m.all p = true) :
    (FMap.ins m k v).all p = true := by
  induction m with
  | nil => simp [FMap.ins, hv]
  | cons e m ih =>
    simp only [List.all_cons, Bool.and_eq_true] at h
    simp only [FMap.ins]
    split
    · simp only [List.all_cons, Bool.and_eq_true]; exact ⟨hv, h⟩
    · split <;> simp only [List.all_cons, Bool.and_eq_true]
      · exact ⟨hv, h.2⟩
      · exact ⟨h.1, ih h.2⟩

/-- A write keeps any property of all entries that the written one has. -/
theorem FMap.all_set {p : Nat × β → Bool} {m : FMap β} {d v : β} {k : Nat} (hv : v ≠ d → p (k, v) = true) (h : m.all p = true) :
    (FMap.set d m k v).all p = true := by
  unfold FMap.set
  split
  · exact all_del k h
  · next hd => exact all_ins (hv hd) h

theorem FMap.sorted_set {m : FMap β} (d : β) (k : Nat) (v : β) (h : FMap.sorted m = true) : FMap.sorted (FMap.set d m k v) = true := by
  unfold FMap.set FMap.sorted at *
  split
  · exact sortedFrom_del k h
  · exact sortedFrom_ins v (Nat.zero_le _) h

/-- Every write keeps the canonical form. -/
theorem FMap.wf_set {d : β} {m : FMap β} (k : Nat) (v : β) (h : FMap.wf d m = true) : FMap.wf d (FMap.set d m k v) = true := by
  simp only [FMap.wf, Bool.and_eq_true] at *
  exact ⟨sorted_set d k v h.1, all_set (fun hv => by simpa using hv) h.2⟩

end

/-! ### Memories -/

@[simp] theorem Memory.read_write_same (m : Memory) (a : Nat) (b : Byte) : Memory.read (Memory.write m a b) a = b := by
  simp [Memory.read, Memory.write]

theorem Memory.read_write_other (m : Memory) {a c : Nat} (b : Byte) (h : c ≠ a) : Memory.read (Memory.write m a b) c = Memory.read m c := by
  simp only [Memory.read, Memory.write]; exact FMap.get_set_other _ _ m b h

/-- A byte outside the written range reads as before. -/
theorem Memory.read_writeBytes_other (m : Memory) (a : Nat) (bs : List Byte) {c : Nat} (h : c < a ∨ a + bs.length ≤ c) :
    Memory.read (Memory.writeBytes m a bs) c = Memory.read m c := by
  induction bs generalizing m a with
  | nil => rfl
  | cons b bs ih =>
    simp only [List.length_cons] at h
    simp only [Memory.writeBytes]
    rw [ih (Memory.write m a b) (a + 1) (by omega), Memory.read_write_other m b (by omega)]

/-- The bytes that were written read back. -/
theorem Memory.readBytes_writeBytes (m : Memory) (a : Nat) (bs : List Byte) : Memory.readBytes (Memory.writeBytes m a bs) a bs.length = bs := by
  induction bs generalizing m a with
  | nil => rfl
  | cons b bs ih =>
    simp only [Memory.writeBytes, List.length_cons, Memory.readBytes]
    rw [Memory.read_writeBytes_other (Memory.write m a b) (a + 1) bs (by omega), Memory.read_write_same, ih]

theorem Memory.wf_write {m : Memory} (a : Nat) (b : Byte) (h : Memory.wf m = true) : Memory.wf (Memory.write m a b) = true := FMap.wf_set a b h

/-- Every memory operation keeps the canonical form. -/
theorem Memory.wf_writeBytes {m : Memory} (a : Nat) (bs : List Byte) (h : Memory.wf m = true) : Memory.wf (Memory.writeBytes m a bs) = true := by
  induction bs generalizing m a with
  | nil => exact h
  | cons b bs ih => exact ih (a + 1) (Memory.wf_write a b h)

end Sys2Proof.Machine
end

