-- ==== Sys2Proof/Laws/Regs.lean ====
section
/-!
SUPPORT. Laws of register fields: a field reads back what was written, cut to its width, and a write leaves every other field alone.
-/

namespace Sys2Proof.Machine

@[simp] theorem State.rd_wr_same (s : State) (f : Fld) (v : Nat) : (s.wr f v).rd f = v % 2 ^ f.width := by
  simp [State.rd, State.wr]

/-- Another field reads as before. -/
theorem State.rd_wr_other (s : State) {f g : Fld} (v : Nat) (h : g.key ≠ f.key) : (s.wr f v).rd g = s.rd g := by
  simp only [State.rd, State.wr]; exact FMap.get_set_other _ _ s.regs _ h

theorem State.rd_wr (s : State) {f g : Fld} (v : Nat) (h : g.key = f.key → g = f) :
    (s.wr f v).rd g = if g.key = f.key then v % 2 ^ f.width else s.rd g := by
  split
  · next hk => rw [h hk]; exact State.rd_wr_same s f v
  · next hk => exact State.rd_wr_other s v hk

@[simp] theorem State.rd_emit (s : State) (o : Out) (f : Fld) : (s.emit o).rd f = s.rd f := rfl
@[simp] theorem State.rd_drew (s : State) (f : Fld) : s.drew.rd f = s.rd f := rfl

theorem State.flag_wr_same (s : State) (f : Fld) (v : Nat) : (s.wr f v).flag f = (v % 2 ^ f.width == 1) := by simp [State.flag]
theorem State.flag_wr_other (s : State) {f g : Fld} (v : Nat) (h : g.key ≠ f.key) : (s.wr f v).flag g = s.flag g := by
  simp [State.flag, State.rd_wr_other s v h]

@[simp] theorem State.flag_wrB_same (s : State) (f : Fld) (b : Bool) (h : f.width = 1) : (s.wrB f b).flag f = b := by
  cases b <;> simp [State.flag, State.wrB, b2n, h]

/-- A write of a register field changes the register fields alone. -/
theorem State.wr_only (s : State) (f : Fld) (v : Nat) : s.wr f v = { s with regs := (s.wr f v).regs } := rfl

/-- A counter goes up by one and stays at its end (00 R17). -/
theorem State.rd_count (s : State) (f : Fld) : (s.count f).rd f = min (s.rd f + 1) (2 ^ f.width - 1) := by
  have : 0 < 2 ^ f.width := Nat.two_pow_pos _
  simp only [State.count, satInc, State.rd_wr_same]
  exact Nat.mod_eq_of_lt (by omega)

end Sys2Proof.Machine
end

