-- ==== Sys2Proof/Laws/State.lean ====
section
/-!
SUPPORT. What each update of the state leaves: one lemma per update, which says for every field that the update does not name that it is unchanged; and
what an update of one entry of a table gives when that entry, or another, is read.
-/

namespace Sys2Proof.Machine

@[simp] theorem State.wr_fields (s : State) (f : Fld) (v : Nat) :
    (s.wr f v).pending = s.pending ∧ (s.wr f v).part = s.part ∧ (s.wr f v).free = s.free ∧ (s.wr f v).out = s.out ∧ (s.wr f v).gddr = s.gddr ∧ (s.wr f v).ticks = s.ticks ∧ (s.wr f v).tamp = s.tamp ∧ (s.wr f v).merge = s.merge ∧ (s.wr f v).dy = s.dy ∧ (s.wr f v).crf = s.crf ∧ (s.wr f v).eports = s.eports ∧ (s.wr f v).closed = s.closed ∧ (s.wr f v).nand = s.nand ∧ (s.wr f v).ezn = s.ezn ∧ (s.wr f v).hq = s.hq ∧ (s.wr f v).pci = s.pci ∧ (s.wr f v).blk = s.blk ∧ (s.wr f v).cipher = s.cipher ∧ (s.wr f v).fuses = s.fuses ∧ (s.wr f v).mbox = s.mbox ∧ (s.wr f v).goCount = s.goCount ∧ (s.wr f v).err = s.err ∧ (s.wr f v).ro = s.ro ∧ (s.wr f v).pw = s.pw :=
  ⟨rfl, rfl, rfl, rfl, rfl, rfl, rfl, rfl, rfl, rfl, rfl, rfl, rfl, rfl, rfl, rfl, rfl, rfl, rfl, rfl, rfl, rfl, rfl, rfl⟩

@[simp] theorem State.wrB_fields (s : State) (f : Fld) (b : Bool) :
    (s.wrB f b).pending = s.pending ∧ (s.wrB f b).part = s.part ∧ (s.wrB f b).free = s.free ∧ (s.wrB f b).out = s.out ∧ (s.wrB f b).gddr = s.gddr ∧ (s.wrB f b).ticks = s.ticks ∧ (s.wrB f b).tamp = s.tamp ∧ (s.wrB f b).merge = s.merge ∧ (s.wrB f b).dy = s.dy ∧ (s.wrB f b).crf = s.crf ∧ (s.wrB f b).eports = s.eports ∧ (s.wrB f b).closed = s.closed ∧ (s.wrB f b).nand = s.nand ∧ (s.wrB f b).ezn = s.ezn ∧ (s.wrB f b).hq = s.hq ∧ (s.wrB f b).pci = s.pci ∧ (s.wrB f b).blk = s.blk ∧ (s.wrB f b).cipher = s.cipher ∧ (s.wrB f b).fuses = s.fuses ∧ (s.wrB f b).mbox = s.mbox ∧ (s.wrB f b).goCount = s.goCount ∧ (s.wrB f b).err = s.err ∧ (s.wrB f b).ro = s.ro ∧ (s.wrB f b).pw = s.pw :=
  ⟨rfl, rfl, rfl, rfl, rfl, rfl, rfl, rfl, rfl, rfl, rfl, rfl, rfl, rfl, rfl, rfl, rfl, rfl, rfl, rfl, rfl, rfl, rfl, rfl⟩

@[simp] theorem State.wrBit_fields (s : State) (f : Fld) (i : Nat) (b : Bool) :
    (s.wrBit f i b).pending = s.pending ∧ (s.wrBit f i b).part = s.part ∧ (s.wrBit f i b).free = s.free ∧ (s.wrBit f i b).out = s.out ∧ (s.wrBit f i b).gddr = s.gddr ∧ (s.wrBit f i b).ticks = s.ticks ∧ (s.wrBit f i b).tamp = s.tamp ∧ (s.wrBit f i b).merge = s.merge ∧ (s.wrBit f i b).dy = s.dy ∧ (s.wrBit f i b).crf = s.crf ∧ (s.wrBit f i b).eports = s.eports ∧ (s.wrBit f i b).closed = s.closed ∧ (s.wrBit f i b).nand = s.nand ∧ (s.wrBit f i b).ezn = s.ezn ∧ (s.wrBit f i b).hq = s.hq ∧ (s.wrBit f i b).pci = s.pci ∧ (s.wrBit f i b).blk = s.blk ∧ (s.wrBit f i b).cipher = s.cipher ∧ (s.wrBit f i b).fuses = s.fuses ∧ (s.wrBit f i b).mbox = s.mbox ∧ (s.wrBit f i b).goCount = s.goCount ∧ (s.wrBit f i b).err = s.err ∧ (s.wrBit f i b).ro = s.ro ∧ (s.wrBit f i b).pw = s.pw :=
  ⟨rfl, rfl, rfl, rfl, rfl, rfl, rfl, rfl, rfl, rfl, rfl, rfl, rfl, rfl, rfl, rfl, rfl, rfl, rfl, rfl, rfl, rfl, rfl, rfl⟩

@[simp] theorem State.count_fields (s : State) (f : Fld) :
    (s.count f).pending = s.pending ∧ (s.count f).part = s.part ∧ (s.count f).free = s.free ∧ (s.count f).out = s.out ∧ (s.count f).gddr = s.gddr ∧ (s.count f).ticks = s.ticks ∧ (s.count f).tamp = s.tamp ∧ (s.count f).merge = s.merge ∧ (s.count f).dy = s.dy ∧ (s.count f).crf = s.crf ∧ (s.count f).eports = s.eports ∧ (s.count f).closed = s.closed ∧ (s.count f).nand = s.nand ∧ (s.count f).ezn = s.ezn ∧ (s.count f).hq = s.hq ∧ (s.count f).pci = s.pci ∧ (s.count f).blk = s.blk ∧ (s.count f).cipher = s.cipher ∧ (s.count f).fuses = s.fuses ∧ (s.count f).mbox = s.mbox ∧ (s.count f).goCount = s.goCount ∧ (s.count f).err = s.err ∧ (s.count f).ro = s.ro ∧ (s.count f).pw = s.pw :=
  ⟨rfl, rfl, rfl, rfl, rfl, rfl, rfl, rfl, rfl, rfl, rfl, rfl, rfl, rfl, rfl, rfl, rfl, rfl, rfl, rfl, rfl, rfl, rfl, rfl⟩

@[simp] theorem State.countBy_fields (s : State) (f : Fld) (k : Nat) :
    (s.countBy f k).pending = s.pending ∧ (s.countBy f k).part = s.part ∧ (s.countBy f k).free = s.free ∧ (s.countBy f k).out = s.out ∧ (s.countBy f k).gddr = s.gddr ∧ (s.countBy f k).ticks = s.ticks ∧ (s.countBy f k).tamp = s.tamp ∧ (s.countBy f k).merge = s.merge ∧ (s.countBy f k).dy = s.dy ∧ (s.countBy f k).crf = s.crf ∧ (s.countBy f k).eports = s.eports ∧ (s.countBy f k).closed = s.closed ∧ (s.countBy f k).nand = s.nand ∧ (s.countBy f k).ezn = s.ezn ∧ (s.countBy f k).hq = s.hq ∧ (s.countBy f k).pci = s.pci ∧ (s.countBy f k).blk = s.blk ∧ (s.countBy f k).cipher = s.cipher ∧ (s.countBy f k).fuses = s.fuses ∧ (s.countBy f k).mbox = s.mbox ∧ (s.countBy f k).goCount = s.goCount ∧ (s.countBy f k).err = s.err ∧ (s.countBy f k).ro = s.ro ∧ (s.countBy f k).pw = s.pw :=
  ⟨rfl, rfl, rfl, rfl, rfl, rfl, rfl, rfl, rfl, rfl, rfl, rfl, rfl, rfl, rfl, rfl, rfl, rfl, rfl, rfl, rfl, rfl, rfl, rfl⟩

@[simp] theorem State.emit_fields (s : State) (o : Out) :
    (s.emit o).pending = s.pending ∧ (s.emit o).part = s.part ∧ (s.emit o).regs = s.regs ∧ (s.emit o).free = s.free ∧ (s.emit o).gddr = s.gddr ∧ (s.emit o).ticks = s.ticks ∧ (s.emit o).tamp = s.tamp ∧ (s.emit o).merge = s.merge ∧ (s.emit o).dy = s.dy ∧ (s.emit o).crf = s.crf ∧ (s.emit o).eports = s.eports ∧ (s.emit o).closed = s.closed ∧ (s.emit o).nand = s.nand ∧ (s.emit o).ezn = s.ezn ∧ (s.emit o).hq = s.hq ∧ (s.emit o).pci = s.pci ∧ (s.emit o).blk = s.blk ∧ (s.emit o).cipher = s.cipher ∧ (s.emit o).fuses = s.fuses ∧ (s.emit o).mbox = s.mbox ∧ (s.emit o).goCount = s.goCount ∧ (s.emit o).err = s.err ∧ (s.emit o).ro = s.ro ∧ (s.emit o).pw = s.pw :=
  ⟨rfl, rfl, rfl, rfl, rfl, rfl, rfl, rfl, rfl, rfl, rfl, rfl, rfl, rfl, rfl, rfl, rfl, rfl, rfl, rfl, rfl, rfl, rfl, rfl⟩

@[simp] theorem State.drew_fields (s : State) :
    (s.drew).pending = s.pending ∧ (s.drew).part = s.part ∧ (s.drew).regs = s.regs ∧ (s.drew).out = s.out ∧ (s.drew).gddr = s.gddr ∧ (s.drew).ticks = s.ticks ∧ (s.drew).tamp = s.tamp ∧ (s.drew).merge = s.merge ∧ (s.drew).dy = s.dy ∧ (s.drew).crf = s.crf ∧ (s.drew).eports = s.eports ∧ (s.drew).closed = s.closed ∧ (s.drew).nand = s.nand ∧ (s.drew).ezn = s.ezn ∧ (s.drew).hq = s.hq ∧ (s.drew).pci = s.pci ∧ (s.drew).blk = s.blk ∧ (s.drew).cipher = s.cipher ∧ (s.drew).fuses = s.fuses ∧ (s.drew).mbox = s.mbox ∧ (s.drew).goCount = s.goCount ∧ (s.drew).err = s.err ∧ (s.drew).ro = s.ro ∧ (s.drew).pw = s.pw :=
  ⟨rfl, rfl, rfl, rfl, rfl, rfl, rfl, rfl, rfl, rfl, rfl, rfl, rfl, rfl, rfl, rfl, rfl, rfl, rfl, rfl, rfl, rfl, rfl, rfl⟩

@[simp] theorem State.setTh_fields (s : State) (t : Nat) (x : Thread) :
    (s.setTh t x).pending = s.pending ∧ (s.setTh t x).part = s.part ∧ (s.setTh t x).regs = s.regs ∧ (s.setTh t x).free = s.free ∧ (s.setTh t x).out = s.out ∧ (s.setTh t x).gddr = s.gddr ∧ (s.setTh t x).ticks = s.ticks ∧ (s.setTh t x).tamp = s.tamp ∧ (s.setTh t x).merge = s.merge ∧ (s.setTh t x).crf = s.crf ∧ (s.setTh t x).eports = s.eports ∧ (s.setTh t x).closed = s.closed ∧ (s.setTh t x).nand = s.nand ∧ (s.setTh t x).ezn = s.ezn ∧ (s.setTh t x).hq = s.hq ∧ (s.setTh t x).pci = s.pci ∧ (s.setTh t x).blk = s.blk ∧ (s.setTh t x).cipher = s.cipher ∧ (s.setTh t x).fuses = s.fuses ∧ (s.setTh t x).mbox = s.mbox ∧ (s.setTh t x).goCount = s.goCount ∧ (s.setTh t x).err = s.err ∧ (s.setTh t x).ro = s.ro ∧ (s.setTh t x).pw = s.pw :=
  ⟨rfl, rfl, rfl, rfl, rfl, rfl, rfl, rfl, rfl, rfl, rfl, rfl, rfl, rfl, rfl, rfl, rfl, rfl, rfl, rfl, rfl, rfl, rfl, rfl⟩

@[simp] theorem State.setLock_fields (s : State) (k n : Nat) (l : Lock) :
    (s.setLock k n l).pending = s.pending ∧ (s.setLock k n l).part = s.part ∧ (s.setLock k n l).regs = s.regs ∧ (s.setLock k n l).free = s.free ∧ (s.setLock k n l).out = s.out ∧ (s.setLock k n l).gddr = s.gddr ∧ (s.setLock k n l).ticks = s.ticks ∧ (s.setLock k n l).tamp = s.tamp ∧ (s.setLock k n l).merge = s.merge ∧ (s.setLock k n l).crf = s.crf ∧ (s.setLock k n l).eports = s.eports ∧ (s.setLock k n l).closed = s.closed ∧ (s.setLock k n l).nand = s.nand ∧ (s.setLock k n l).ezn = s.ezn ∧ (s.setLock k n l).hq = s.hq ∧ (s.setLock k n l).pci = s.pci ∧ (s.setLock k n l).blk = s.blk ∧ (s.setLock k n l).cipher = s.cipher ∧ (s.setLock k n l).fuses = s.fuses ∧ (s.setLock k n l).mbox = s.mbox ∧ (s.setLock k n l).goCount = s.goCount ∧ (s.setLock k n l).err = s.err ∧ (s.setLock k n l).ro = s.ro ∧ (s.setLock k n l).pw = s.pw :=
  ⟨rfl, rfl, rfl, rfl, rfl, rfl, rfl, rfl, rfl, rfl, rfl, rfl, rfl, rfl, rfl, rfl, rfl, rfl, rfl, rfl, rfl, rfl, rfl, rfl⟩

@[simp] theorem State.setChan_fields (s : State) (k c : Nat) (x : Chan) :
    (s.setChan k c x).pending = s.pending ∧ (s.setChan k c x).part = s.part ∧ (s.setChan k c x).regs = s.regs ∧ (s.setChan k c x).free = s.free ∧ (s.setChan k c x).out = s.out ∧ (s.setChan k c x).gddr = s.gddr ∧ (s.setChan k c x).ticks = s.ticks ∧ (s.setChan k c x).tamp = s.tamp ∧ (s.setChan k c x).merge = s.merge ∧ (s.setChan k c x).crf = s.crf ∧ (s.setChan k c x).eports = s.eports ∧ (s.setChan k c x).closed = s.closed ∧ (s.setChan k c x).nand = s.nand ∧ (s.setChan k c x).ezn = s.ezn ∧ (s.setChan k c x).hq = s.hq ∧ (s.setChan k c x).pci = s.pci ∧ (s.setChan k c x).blk = s.blk ∧ (s.setChan k c x).cipher = s.cipher ∧ (s.setChan k c x).fuses = s.fuses ∧ (s.setChan k c x).mbox = s.mbox ∧ (s.setChan k c x).goCount = s.goCount ∧ (s.setChan k c x).err = s.err ∧ (s.setChan k c x).ro = s.ro ∧ (s.setChan k c x).pw = s.pw :=
  ⟨rfl, rfl, rfl, rfl, rfl, rfl, rfl, rfl, rfl, rfl, rfl, rfl, rfl, rfl, rfl, rfl, rfl, rfl, rfl, rfl, rfl, rfl, rfl, rfl⟩

@[simp] theorem State.setBind_fields (s : State) (j : Nat) (b : Binding) :
    (s.setBind j b).pending = s.pending ∧ (s.setBind j b).part = s.part ∧ (s.setBind j b).regs = s.regs ∧ (s.setBind j b).free = s.free ∧ (s.setBind j b).out = s.out ∧ (s.setBind j b).gddr = s.gddr ∧ (s.setBind j b).ticks = s.ticks ∧ (s.setBind j b).tamp = s.tamp ∧ (s.setBind j b).merge = s.merge ∧ (s.setBind j b).crf = s.crf ∧ (s.setBind j b).eports = s.eports ∧ (s.setBind j b).closed = s.closed ∧ (s.setBind j b).nand = s.nand ∧ (s.setBind j b).ezn = s.ezn ∧ (s.setBind j b).hq = s.hq ∧ (s.setBind j b).pci = s.pci ∧ (s.setBind j b).blk = s.blk ∧ (s.setBind j b).cipher = s.cipher ∧ (s.setBind j b).fuses = s.fuses ∧ (s.setBind j b).mbox = s.mbox ∧ (s.setBind j b).goCount = s.goCount ∧ (s.setBind j b).err = s.err ∧ (s.setBind j b).ro = s.ro ∧ (s.setBind j b).pw = s.pw :=
  ⟨rfl, rfl, rfl, rfl, rfl, rfl, rfl, rfl, rfl, rfl, rfl, rfl, rfl, rfl, rfl, rfl, rfl, rfl, rfl, rfl, rfl, rfl, rfl, rfl⟩

@[simp] theorem State.setSub_fields (s : State) (r : Nat) (x : SubRing) :
    (s.setSub r x).pending = s.pending ∧ (s.setSub r x).part = s.part ∧ (s.setSub r x).regs = s.regs ∧ (s.setSub r x).free = s.free ∧ (s.setSub r x).out = s.out ∧ (s.setSub r x).gddr = s.gddr ∧ (s.setSub r x).ticks = s.ticks ∧ (s.setSub r x).tamp = s.tamp ∧ (s.setSub r x).merge = s.merge ∧ (s.setSub r x).dy = s.dy ∧ (s.setSub r x).crf = s.crf ∧ (s.setSub r x).eports = s.eports ∧ (s.setSub r x).closed = s.closed ∧ (s.setSub r x).nand = s.nand ∧ (s.setSub r x).ezn = s.ezn ∧ (s.setSub r x).pci = s.pci ∧ (s.setSub r x).blk = s.blk ∧ (s.setSub r x).cipher = s.cipher ∧ (s.setSub r x).fuses = s.fuses ∧ (s.setSub r x).mbox = s.mbox ∧ (s.setSub r x).goCount = s.goCount ∧ (s.setSub r x).err = s.err ∧ (s.setSub r x).ro = s.ro ∧ (s.setSub r x).pw = s.pw :=
  ⟨rfl, rfl, rfl, rfl, rfl, rfl, rfl, rfl, rfl, rfl, rfl, rfl, rfl, rfl, rfl, rfl, rfl, rfl, rfl, rfl, rfl, rfl, rfl, rfl⟩

@[simp] theorem State.setDlv_fields (s : State) (r : Nat) (x : DlvRing) :
    (s.setDlv r x).pending = s.pending ∧ (s.setDlv r x).part = s.part ∧ (s.setDlv r x).regs = s.regs ∧ (s.setDlv r x).free = s.free ∧ (s.setDlv r x).out = s.out ∧ (s.setDlv r x).gddr = s.gddr ∧ (s.setDlv r x).ticks = s.ticks ∧ (s.setDlv r x).tamp = s.tamp ∧ (s.setDlv r x).merge = s.merge ∧ (s.setDlv r x).dy = s.dy ∧ (s.setDlv r x).crf = s.crf ∧ (s.setDlv r x).eports = s.eports ∧ (s.setDlv r x).closed = s.closed ∧ (s.setDlv r x).nand = s.nand ∧ (s.setDlv r x).ezn = s.ezn ∧ (s.setDlv r x).pci = s.pci ∧ (s.setDlv r x).blk = s.blk ∧ (s.setDlv r x).cipher = s.cipher ∧ (s.setDlv r x).fuses = s.fuses ∧ (s.setDlv r x).mbox = s.mbox ∧ (s.setDlv r x).goCount = s.goCount ∧ (s.setDlv r x).err = s.err ∧ (s.setDlv r x).ro = s.ro ∧ (s.setDlv r x).pw = s.pw :=
  ⟨rfl, rfl, rfl, rfl, rfl, rfl, rfl, rfl, rfl, rfl, rfl, rfl, rfl, rfl, rfl, rfl, rfl, rfl, rfl, rfl, rfl, rfl, rfl, rfl⟩

@[simp] theorem State.setSlc_fields (s : State) (n : Nat) (x : SliceRun) :
    (s.setSlc n x).pending = s.pending ∧ (s.setSlc n x).part = s.part ∧ (s.setSlc n x).regs = s.regs ∧ (s.setSlc n x).free = s.free ∧ (s.setSlc n x).out = s.out ∧ (s.setSlc n x).gddr = s.gddr ∧ (s.setSlc n x).ticks = s.ticks ∧ (s.setSlc n x).tamp = s.tamp ∧ (s.setSlc n x).merge = s.merge ∧ (s.setSlc n x).dy = s.dy ∧ (s.setSlc n x).crf = s.crf ∧ (s.setSlc n x).eports = s.eports ∧ (s.setSlc n x).closed = s.closed ∧ (s.setSlc n x).nand = s.nand ∧ (s.setSlc n x).ezn = s.ezn ∧ (s.setSlc n x).pci = s.pci ∧ (s.setSlc n x).blk = s.blk ∧ (s.setSlc n x).cipher = s.cipher ∧ (s.setSlc n x).fuses = s.fuses ∧ (s.setSlc n x).mbox = s.mbox ∧ (s.setSlc n x).goCount = s.goCount ∧ (s.setSlc n x).err = s.err ∧ (s.setSlc n x).ro = s.ro ∧ (s.setSlc n x).pw = s.pw :=
  ⟨rfl, rfl, rfl, rfl, rfl, rfl, rfl, rfl, rfl, rfl, rfl, rfl, rfl, rfl, rfl, rfl, rfl, rfl, rfl, rfl, rfl, rfl, rfl, rfl⟩

@[simp] theorem State.produce_fields (s : State) (q : Nat) (g : Group) :
    (s.produce q g).pending = s.pending ∧ (s.produce q g).part = s.part ∧ (s.produce q g).regs = s.regs ∧ (s.produce q g).free = s.free ∧ (s.produce q g).out = s.out ∧ (s.produce q g).gddr = s.gddr ∧ (s.produce q g).ticks = s.ticks ∧ (s.produce q g).tamp = s.tamp ∧ (s.produce q g).merge = s.merge ∧ (s.produce q g).dy = s.dy ∧ (s.produce q g).crf = s.crf ∧ (s.produce q g).eports = s.eports ∧ (s.produce q g).closed = s.closed ∧ (s.produce q g).nand = s.nand ∧ (s.produce q g).ezn = s.ezn ∧ (s.produce q g).pci = s.pci ∧ (s.produce q g).blk = s.blk ∧ (s.produce q g).cipher = s.cipher ∧ (s.produce q g).fuses = s.fuses ∧ (s.produce q g).mbox = s.mbox ∧ (s.produce q g).goCount = s.goCount ∧ (s.produce q g).err = s.err ∧ (s.produce q g).ro = s.ro ∧ (s.produce q g).pw = s.pw :=
  ⟨rfl, rfl, rfl, rfl, rfl, rfl, rfl, rfl, rfl, rfl, rfl, rfl, rfl, rfl, rfl, rfl, rfl, rfl, rfl, rfl, rfl, rfl, rfl, rfl⟩

@[simp] theorem State.setMb_fields (s : State) (sl : Nat) (m : Mailbox) :
    (s.setMb sl m).pending = s.pending ∧ (s.setMb sl m).part = s.part ∧ (s.setMb sl m).regs = s.regs ∧ (s.setMb sl m).free = s.free ∧ (s.setMb sl m).out = s.out ∧ (s.setMb sl m).gddr = s.gddr ∧ (s.setMb sl m).ticks = s.ticks ∧ (s.setMb sl m).tamp = s.tamp ∧ (s.setMb sl m).merge = s.merge ∧ (s.setMb sl m).dy = s.dy ∧ (s.setMb sl m).crf = s.crf ∧ (s.setMb sl m).eports = s.eports ∧ (s.setMb sl m).closed = s.closed ∧ (s.setMb sl m).nand = s.nand ∧ (s.setMb sl m).ezn = s.ezn ∧ (s.setMb sl m).hq = s.hq ∧ (s.setMb sl m).pci = s.pci ∧ (s.setMb sl m).blk = s.blk ∧ (s.setMb sl m).cipher = s.cipher ∧ (s.setMb sl m).fuses = s.fuses ∧ (s.setMb sl m).goCount = s.goCount ∧ (s.setMb sl m).err = s.err ∧ (s.setMb sl m).ro = s.ro ∧ (s.setMb sl m).pw = s.pw :=
  ⟨rfl, rfl, rfl, rfl, rfl, rfl, rfl, rfl, rfl, rfl, rfl, rfl, rfl, rfl, rfl, rfl, rfl, rfl, rfl, rfl, rfl, rfl, rfl, rfl⟩

@[simp] theorem State.setSlots_fields (s : State) (p : Nat) (l : List Slot) :
    (s.setSlots p l).pending = s.pending ∧ (s.setSlots p l).part = s.part ∧ (s.setSlots p l).regs = s.regs ∧ (s.setSlots p l).free = s.free ∧ (s.setSlots p l).out = s.out ∧ (s.setSlots p l).gddr = s.gddr ∧ (s.setSlots p l).ticks = s.ticks ∧ (s.setSlots p l).tamp = s.tamp ∧ (s.setSlots p l).dy = s.dy ∧ (s.setSlots p l).crf = s.crf ∧ (s.setSlots p l).eports = s.eports ∧ (s.setSlots p l).closed = s.closed ∧ (s.setSlots p l).nand = s.nand ∧ (s.setSlots p l).ezn = s.ezn ∧ (s.setSlots p l).hq = s.hq ∧ (s.setSlots p l).pci = s.pci ∧ (s.setSlots p l).blk = s.blk ∧ (s.setSlots p l).cipher = s.cipher ∧ (s.setSlots p l).fuses = s.fuses ∧ (s.setSlots p l).mbox = s.mbox ∧ (s.setSlots p l).goCount = s.goCount ∧ (s.setSlots p l).err = s.err ∧ (s.setSlots p l).ro = s.ro ∧ (s.setSlots p l).pw = s.pw :=
  ⟨rfl, rfl, rfl, rfl, rfl, rfl, rfl, rfl, rfl, rfl, rfl, rfl, rfl, rfl, rfl, rfl, rfl, rfl, rfl, rfl, rfl, rfl, rfl, rfl⟩

@[simp] theorem State.setFrames_fields (s : State) (p : Nat) (l : List Frame) :
    (s.setFrames p l).pending = s.pending ∧ (s.setFrames p l).part = s.part ∧ (s.setFrames p l).regs = s.regs ∧ (s.setFrames p l).free = s.free ∧ (s.setFrames p l).out = s.out ∧ (s.setFrames p l).gddr = s.gddr ∧ (s.setFrames p l).ticks = s.ticks ∧ (s.setFrames p l).tamp = s.tamp ∧ (s.setFrames p l).dy = s.dy ∧ (s.setFrames p l).crf = s.crf ∧ (s.setFrames p l).eports = s.eports ∧ (s.setFrames p l).closed = s.closed ∧ (s.setFrames p l).nand = s.nand ∧ (s.setFrames p l).ezn = s.ezn ∧ (s.setFrames p l).hq = s.hq ∧ (s.setFrames p l).pci = s.pci ∧ (s.setFrames p l).blk = s.blk ∧ (s.setFrames p l).cipher = s.cipher ∧ (s.setFrames p l).fuses = s.fuses ∧ (s.setFrames p l).mbox = s.mbox ∧ (s.setFrames p l).goCount = s.goCount ∧ (s.setFrames p l).err = s.err ∧ (s.setFrames p l).ro = s.ro ∧ (s.setFrames p l).pw = s.pw :=
  ⟨rfl, rfl, rfl, rfl, rfl, rfl, rfl, rfl, rfl, rfl, rfl, rfl, rfl, rfl, rfl, rfl, rfl, rfl, rfl, rfl, rfl, rfl, rfl, rfl⟩

@[simp] theorem State.setCtx_fields (s : State) (c l : Nat) (x : Ctx) :
    (s.setCtx c l x).pending = s.pending ∧ (s.setCtx c l x).part = s.part ∧ (s.setCtx c l x).regs = s.regs ∧ (s.setCtx c l x).free = s.free ∧ (s.setCtx c l x).out = s.out ∧ (s.setCtx c l x).gddr = s.gddr ∧ (s.setCtx c l x).ticks = s.ticks ∧ (s.setCtx c l x).tamp = s.tamp ∧ (s.setCtx c l x).merge = s.merge ∧ (s.setCtx c l x).dy = s.dy ∧ (s.setCtx c l x).crf = s.crf ∧ (s.setCtx c l x).eports = s.eports ∧ (s.setCtx c l x).closed = s.closed ∧ (s.setCtx c l x).ezn = s.ezn ∧ (s.setCtx c l x).hq = s.hq ∧ (s.setCtx c l x).pci = s.pci ∧ (s.setCtx c l x).blk = s.blk ∧ (s.setCtx c l x).cipher = s.cipher ∧ (s.setCtx c l x).fuses = s.fuses ∧ (s.setCtx c l x).mbox = s.mbox ∧ (s.setCtx c l x).goCount = s.goCount ∧ (s.setCtx c l x).err = s.err ∧ (s.setCtx c l x).ro = s.ro ∧ (s.setCtx c l x).pw = s.pw :=
  ⟨rfl, rfl, rfl, rfl, rfl, rfl, rfl, rfl, rfl, rfl, rfl, rfl, rfl, rfl, rfl, rfl, rfl, rfl, rfl, rfl, rfl, rfl, rfl, rfl⟩

@[simp] theorem State.setLun_fields (s : State) (c l : Nat) (x : Lun) :
    (s.setLun c l x).pending = s.pending ∧ (s.setLun c l x).part = s.part ∧ (s.setLun c l x).regs = s.regs ∧ (s.setLun c l x).free = s.free ∧ (s.setLun c l x).out = s.out ∧ (s.setLun c l x).gddr = s.gddr ∧ (s.setLun c l x).ticks = s.ticks ∧ (s.setLun c l x).tamp = s.tamp ∧ (s.setLun c l x).merge = s.merge ∧ (s.setLun c l x).dy = s.dy ∧ (s.setLun c l x).crf = s.crf ∧ (s.setLun c l x).eports = s.eports ∧ (s.setLun c l x).closed = s.closed ∧ (s.setLun c l x).ezn = s.ezn ∧ (s.setLun c l x).hq = s.hq ∧ (s.setLun c l x).pci = s.pci ∧ (s.setLun c l x).blk = s.blk ∧ (s.setLun c l x).cipher = s.cipher ∧ (s.setLun c l x).fuses = s.fuses ∧ (s.setLun c l x).mbox = s.mbox ∧ (s.setLun c l x).goCount = s.goCount ∧ (s.setLun c l x).err = s.err ∧ (s.setLun c l x).ro = s.ro ∧ (s.setLun c l x).pw = s.pw :=
  ⟨rfl, rfl, rfl, rfl, rfl, rfl, rfl, rfl, rfl, rfl, rfl, rfl, rfl, rfl, rfl, rfl, rfl, rfl, rfl, rfl, rfl, rfl, rfl, rfl⟩

@[simp] theorem State.setBank_fields (s : State) (c b : Nat) (x : Bank) :
    (s.setBank c b x).pending = s.pending ∧ (s.setBank c b x).part = s.part ∧ (s.setBank c b x).regs = s.regs ∧ (s.setBank c b x).free = s.free ∧ (s.setBank c b x).out = s.out ∧ (s.setBank c b x).gddr = s.gddr ∧ (s.setBank c b x).ticks = s.ticks ∧ (s.setBank c b x).tamp = s.tamp ∧ (s.setBank c b x).merge = s.merge ∧ (s.setBank c b x).dy = s.dy ∧ (s.setBank c b x).crf = s.crf ∧ (s.setBank c b x).eports = s.eports ∧ (s.setBank c b x).closed = s.closed ∧ (s.setBank c b x).ezn = s.ezn ∧ (s.setBank c b x).hq = s.hq ∧ (s.setBank c b x).pci = s.pci ∧ (s.setBank c b x).blk = s.blk ∧ (s.setBank c b x).cipher = s.cipher ∧ (s.setBank c b x).fuses = s.fuses ∧ (s.setBank c b x).mbox = s.mbox ∧ (s.setBank c b x).goCount = s.goCount ∧ (s.setBank c b x).err = s.err ∧ (s.setBank c b x).ro = s.ro ∧ (s.setBank c b x).pw = s.pw :=
  ⟨rfl, rfl, rfl, rfl, rfl, rfl, rfl, rfl, rfl, rfl, rfl, rfl, rfl, rfl, rfl, rfl, rfl, rfl, rfl, rfl, rfl, rfl, rfl, rfl⟩

@[simp] theorem State.setBus_fields (s : State) (c : Nat) (o : Option Nat) :
    (s.setBus c o).pending = s.pending ∧ (s.setBus c o).part = s.part ∧ (s.setBus c o).regs = s.regs ∧ (s.setBus c o).free = s.free ∧ (s.setBus c o).out = s.out ∧ (s.setBus c o).gddr = s.gddr ∧ (s.setBus c o).ticks = s.ticks ∧ (s.setBus c o).tamp = s.tamp ∧ (s.setBus c o).merge = s.merge ∧ (s.setBus c o).dy = s.dy ∧ (s.setBus c o).crf = s.crf ∧ (s.setBus c o).eports = s.eports ∧ (s.setBus c o).closed = s.closed ∧ (s.setBus c o).ezn = s.ezn ∧ (s.setBus c o).hq = s.hq ∧ (s.setBus c o).pci = s.pci ∧ (s.setBus c o).blk = s.blk ∧ (s.setBus c o).cipher = s.cipher ∧ (s.setBus c o).fuses = s.fuses ∧ (s.setBus c o).mbox = s.mbox ∧ (s.setBus c o).goCount = s.goCount ∧ (s.setBus c o).err = s.err ∧ (s.setBus c o).ro = s.ro ∧ (s.setBus c o).pw = s.pw :=
  ⟨rfl, rfl, rfl, rfl, rfl, rfl, rfl, rfl, rfl, rfl, rfl, rfl, rfl, rfl, rfl, rfl, rfl, rfl, rfl, rfl, rfl, rfl, rfl, rfl⟩

@[simp] theorem State.setSaucer_fields (s : State) (c : Nat) (l : List Nat) :
    (s.setSaucer c l).pending = s.pending ∧ (s.setSaucer c l).part = s.part ∧ (s.setSaucer c l).regs = s.regs ∧ (s.setSaucer c l).free = s.free ∧ (s.setSaucer c l).out = s.out ∧ (s.setSaucer c l).gddr = s.gddr ∧ (s.setSaucer c l).ticks = s.ticks ∧ (s.setSaucer c l).tamp = s.tamp ∧ (s.setSaucer c l).merge = s.merge ∧ (s.setSaucer c l).dy = s.dy ∧ (s.setSaucer c l).crf = s.crf ∧ (s.setSaucer c l).eports = s.eports ∧ (s.setSaucer c l).closed = s.closed ∧ (s.setSaucer c l).ezn = s.ezn ∧ (s.setSaucer c l).hq = s.hq ∧ (s.setSaucer c l).pci = s.pci ∧ (s.setSaucer c l).blk = s.blk ∧ (s.setSaucer c l).cipher = s.cipher ∧ (s.setSaucer c l).fuses = s.fuses ∧ (s.setSaucer c l).mbox = s.mbox ∧ (s.setSaucer c l).goCount = s.goCount ∧ (s.setSaucer c l).err = s.err ∧ (s.setSaucer c l).ro = s.ro ∧ (s.setSaucer c l).pw = s.pw :=
  ⟨rfl, rfl, rfl, rfl, rfl, rfl, rfl, rfl, rfl, rfl, rfl, rfl, rfl, rfl, rfl, rfl, rfl, rfl, rfl, rfl, rfl, rfl, rfl, rfl⟩

@[simp] theorem State.setEzl_fields (s : State) (k : Nat) (x : LinkEnd) :
    (s.setEzl k x).pending = s.pending ∧ (s.setEzl k x).part = s.part ∧ (s.setEzl k x).regs = s.regs ∧ (s.setEzl k x).free = s.free ∧ (s.setEzl k x).out = s.out ∧ (s.setEzl k x).gddr = s.gddr ∧ (s.setEzl k x).ticks = s.ticks ∧ (s.setEzl k x).tamp = s.tamp ∧ (s.setEzl k x).merge = s.merge ∧ (s.setEzl k x).dy = s.dy ∧ (s.setEzl k x).crf = s.crf ∧ (s.setEzl k x).eports = s.eports ∧ (s.setEzl k x).closed = s.closed ∧ (s.setEzl k x).nand = s.nand ∧ (s.setEzl k x).hq = s.hq ∧ (s.setEzl k x).pci = s.pci ∧ (s.setEzl k x).blk = s.blk ∧ (s.setEzl k x).cipher = s.cipher ∧ (s.setEzl k x).fuses = s.fuses ∧ (s.setEzl k x).mbox = s.mbox ∧ (s.setEzl k x).goCount = s.goCount ∧ (s.setEzl k x).err = s.err ∧ (s.setEzl k x).ro = s.ro ∧ (s.setEzl k x).pw = s.pw :=
  ⟨rfl, rfl, rfl, rfl, rfl, rfl, rfl, rfl, rfl, rfl, rfl, rfl, rfl, rfl, rfl, rfl, rfl, rfl, rfl, rfl, rfl, rfl, rfl, rfl⟩

@[simp] theorem State.setEzm_fields (s : State) (m : Nat) (x : Member) :
    (s.setEzm m x).pending = s.pending ∧ (s.setEzm m x).part = s.part ∧ (s.setEzm m x).regs = s.regs ∧ (s.setEzm m x).free = s.free ∧ (s.setEzm m x).out = s.out ∧ (s.setEzm m x).gddr = s.gddr ∧ (s.setEzm m x).ticks = s.ticks ∧ (s.setEzm m x).tamp = s.tamp ∧ (s.setEzm m x).merge = s.merge ∧ (s.setEzm m x).dy = s.dy ∧ (s.setEzm m x).crf = s.crf ∧ (s.setEzm m x).eports = s.eports ∧ (s.setEzm m x).closed = s.closed ∧ (s.setEzm m x).nand = s.nand ∧ (s.setEzm m x).hq = s.hq ∧ (s.setEzm m x).pci = s.pci ∧ (s.setEzm m x).blk = s.blk ∧ (s.setEzm m x).cipher = s.cipher ∧ (s.setEzm m x).fuses = s.fuses ∧ (s.setEzm m x).mbox = s.mbox ∧ (s.setEzm m x).goCount = s.goCount ∧ (s.setEzm m x).err = s.err ∧ (s.setEzm m x).ro = s.ro ∧ (s.setEzm m x).pw = s.pw :=
  ⟨rfl, rfl, rfl, rfl, rfl, rfl, rfl, rfl, rfl, rfl, rfl, rfl, rfl, rfl, rfl, rfl, rfl, rfl, rfl, rfl, rfl, rfl, rfl, rfl⟩

@[simp] theorem State.setEport_fields (s : State) (p : Nat) (x : EPort) :
    (s.setEport p x).pending = s.pending ∧ (s.setEport p x).part = s.part ∧ (s.setEport p x).regs = s.regs ∧ (s.setEport p x).free = s.free ∧ (s.setEport p x).out = s.out ∧ (s.setEport p x).gddr = s.gddr ∧ (s.setEport p x).ticks = s.ticks ∧ (s.setEport p x).tamp = s.tamp ∧ (s.setEport p x).merge = s.merge ∧ (s.setEport p x).dy = s.dy ∧ (s.setEport p x).crf = s.crf ∧ (s.setEport p x).closed = s.closed ∧ (s.setEport p x).nand = s.nand ∧ (s.setEport p x).ezn = s.ezn ∧ (s.setEport p x).hq = s.hq ∧ (s.setEport p x).pci = s.pci ∧ (s.setEport p x).blk = s.blk ∧ (s.setEport p x).cipher = s.cipher ∧ (s.setEport p x).fuses = s.fuses ∧ (s.setEport p x).mbox = s.mbox ∧ (s.setEport p x).goCount = s.goCount ∧ (s.setEport p x).err = s.err ∧ (s.setEport p x).ro = s.ro ∧ (s.setEport p x).pw = s.pw :=
  ⟨rfl, rfl, rfl, rfl, rfl, rfl, rfl, rfl, rfl, rfl, rfl, rfl, rfl, rfl, rfl, rfl, rfl, rfl, rfl, rfl, rfl, rfl, rfl, rfl⟩

@[simp] theorem State.setCunit_fields (s : State) (u : Nat) (x : CUnit) :
    (s.setCunit u x).pending = s.pending ∧ (s.setCunit u x).part = s.part ∧ (s.setCunit u x).regs = s.regs ∧ (s.setCunit u x).free = s.free ∧ (s.setCunit u x).out = s.out ∧ (s.setCunit u x).gddr = s.gddr ∧ (s.setCunit u x).ticks = s.ticks ∧ (s.setCunit u x).tamp = s.tamp ∧ (s.setCunit u x).merge = s.merge ∧ (s.setCunit u x).dy = s.dy ∧ (s.setCunit u x).crf = s.crf ∧ (s.setCunit u x).eports = s.eports ∧ (s.setCunit u x).closed = s.closed ∧ (s.setCunit u x).nand = s.nand ∧ (s.setCunit u x).ezn = s.ezn ∧ (s.setCunit u x).hq = s.hq ∧ (s.setCunit u x).pci = s.pci ∧ (s.setCunit u x).blk = s.blk ∧ (s.setCunit u x).fuses = s.fuses ∧ (s.setCunit u x).mbox = s.mbox ∧ (s.setCunit u x).goCount = s.goCount ∧ (s.setCunit u x).err = s.err ∧ (s.setCunit u x).ro = s.ro ∧ (s.setCunit u x).pw = s.pw :=
  ⟨rfl, rfl, rfl, rfl, rfl, rfl, rfl, rfl, rfl, rfl, rfl, rfl, rfl, rfl, rfl, rfl, rfl, rfl, rfl, rfl, rfl, rfl, rfl, rfl⟩

@[simp] theorem State.setCctx_fields (s : State) (c : Nat) (x : CCtx) :
    (s.setCctx c x).pending = s.pending ∧ (s.setCctx c x).part = s.part ∧ (s.setCctx c x).regs = s.regs ∧ (s.setCctx c x).free = s.free ∧ (s.setCctx c x).out = s.out ∧ (s.setCctx c x).gddr = s.gddr ∧ (s.setCctx c x).ticks = s.ticks ∧ (s.setCctx c x).tamp = s.tamp ∧ (s.setCctx c x).merge = s.merge ∧ (s.setCctx c x).dy = s.dy ∧ (s.setCctx c x).crf = s.crf ∧ (s.setCctx c x).eports = s.eports ∧ (s.setCctx c x).closed = s.closed ∧ (s.setCctx c x).nand = s.nand ∧ (s.setCctx c x).ezn = s.ezn ∧ (s.setCctx c x).hq = s.hq ∧ (s.setCctx c x).pci = s.pci ∧ (s.setCctx c x).blk = s.blk ∧ (s.setCctx c x).fuses = s.fuses ∧ (s.setCctx c x).mbox = s.mbox ∧ (s.setCctx c x).goCount = s.goCount ∧ (s.setCctx c x).err = s.err ∧ (s.setCctx c x).ro = s.ro ∧ (s.setCctx c x).pw = s.pw :=
  ⟨rfl, rfl, rfl, rfl, rfl, rfl, rfl, rfl, rfl, rfl, rfl, rfl, rfl, rfl, rfl, rfl, rfl, rfl, rfl, rfl, rfl, rfl, rfl, rfl⟩

@[simp] theorem State.setPtp_fields (s : State) (k : Nat) (x : PtpSlot) :
    (s.setPtp k x).pending = s.pending ∧ (s.setPtp k x).part = s.part ∧ (s.setPtp k x).regs = s.regs ∧ (s.setPtp k x).free = s.free ∧ (s.setPtp k x).out = s.out ∧ (s.setPtp k x).gddr = s.gddr ∧ (s.setPtp k x).ticks = s.ticks ∧ (s.setPtp k x).merge = s.merge ∧ (s.setPtp k x).dy = s.dy ∧ (s.setPtp k x).crf = s.crf ∧ (s.setPtp k x).eports = s.eports ∧ (s.setPtp k x).closed = s.closed ∧ (s.setPtp k x).nand = s.nand ∧ (s.setPtp k x).ezn = s.ezn ∧ (s.setPtp k x).hq = s.hq ∧ (s.setPtp k x).pci = s.pci ∧ (s.setPtp k x).blk = s.blk ∧ (s.setPtp k x).cipher = s.cipher ∧ (s.setPtp k x).fuses = s.fuses ∧ (s.setPtp k x).mbox = s.mbox ∧ (s.setPtp k x).goCount = s.goCount ∧ (s.setPtp k x).err = s.err ∧ (s.setPtp k x).ro = s.ro ∧ (s.setPtp k x).pw = s.pw :=
  ⟨rfl, rfl, rfl, rfl, rfl, rfl, rfl, rfl, rfl, rfl, rfl, rfl, rfl, rfl, rfl, rfl, rfl, rfl, rfl, rfl, rfl, rfl, rfl, rfl⟩

@[simp] theorem State.setRo_fields (s : State) (r : Roaster) :
    (s.setRo r).pending = s.pending ∧ (s.setRo r).part = s.part ∧ (s.setRo r).regs = s.regs ∧ (s.setRo r).free = s.free ∧ (s.setRo r).out = s.out ∧ (s.setRo r).gddr = s.gddr ∧ (s.setRo r).ticks = s.ticks ∧ (s.setRo r).tamp = s.tamp ∧ (s.setRo r).merge = s.merge ∧ (s.setRo r).dy = s.dy ∧ (s.setRo r).crf = s.crf ∧ (s.setRo r).eports = s.eports ∧ (s.setRo r).closed = s.closed ∧ (s.setRo r).nand = s.nand ∧ (s.setRo r).ezn = s.ezn ∧ (s.setRo r).hq = s.hq ∧ (s.setRo r).pci = s.pci ∧ (s.setRo r).blk = s.blk ∧ (s.setRo r).cipher = s.cipher ∧ (s.setRo r).fuses = s.fuses ∧ (s.setRo r).mbox = s.mbox ∧ (s.setRo r).goCount = s.goCount ∧ (s.setRo r).err = s.err ∧ (s.setRo r).pw = s.pw :=
  ⟨rfl, rfl, rfl, rfl, rfl, rfl, rfl, rfl, rfl, rfl, rfl, rfl, rfl, rfl, rfl, rfl, rfl, rfl, rfl, rfl, rfl, rfl, rfl, rfl⟩

/-! ### Register fields through the other updates -/

@[simp] theorem State.rd_setTh (s : State) (t : Nat) (x : Thread) (f : Fld) : (s.setTh t x).rd f = s.rd f := rfl
@[simp] theorem State.flag_setTh (s : State) (t : Nat) (x : Thread) (f : Fld) : (s.setTh t x).flag f = s.flag f := rfl
@[simp] theorem State.rd_setLock (s : State) (k n : Nat) (l : Lock) (f : Fld) : (s.setLock k n l).rd f = s.rd f := rfl
@[simp] theorem State.flag_setLock (s : State) (k n : Nat) (l : Lock) (f : Fld) : (s.setLock k n l).flag f = s.flag f := rfl
@[simp] theorem State.rd_setChan (s : State) (k c : Nat) (x : Chan) (f : Fld) : (s.setChan k c x).rd f = s.rd f := rfl
@[simp] theorem State.flag_setChan (s : State) (k c : Nat) (x : Chan) (f : Fld) : (s.setChan k c x).flag f = s.flag f := rfl
@[simp] theorem State.rd_setBind (s : State) (j : Nat) (b : Binding) (f : Fld) : (s.setBind j b).rd f = s.rd f := rfl
@[simp] theorem State.flag_setBind (s : State) (j : Nat) (b : Binding) (f : Fld) : (s.setBind j b).flag f = s.flag f := rfl
@[simp] theorem State.rd_setSub (s : State) (r : Nat) (x : SubRing) (f : Fld) : (s.setSub r x).rd f = s.rd f := rfl
@[simp] theorem State.flag_setSub (s : State) (r : Nat) (x : SubRing) (f : Fld) : (s.setSub r x).flag f = s.flag f := rfl
@[simp] theorem State.rd_setDlv (s : State) (r : Nat) (x : DlvRing) (f : Fld) : (s.setDlv r x).rd f = s.rd f := rfl
@[simp] theorem State.flag_setDlv (s : State) (r : Nat) (x : DlvRing) (f : Fld) : (s.setDlv r x).flag f = s.flag f := rfl
@[simp] theorem State.rd_setSlc (s : State) (n : Nat) (x : SliceRun) (f : Fld) : (s.setSlc n x).rd f = s.rd f := rfl
@[simp] theorem State.flag_setSlc (s : State) (n : Nat) (x : SliceRun) (f : Fld) : (s.setSlc n x).flag f = s.flag f := rfl
@[simp] theorem State.rd_produce (s : State) (q : Nat) (g : Group) (f : Fld) : (s.produce q g).rd f = s.rd f := rfl
@[simp] theorem State.flag_produce (s : State) (q : Nat) (g : Group) (f : Fld) : (s.produce q g).flag f = s.flag f := rfl
@[simp] theorem State.rd_setMb (s : State) (sl : Nat) (m : Mailbox) (f : Fld) : (s.setMb sl m).rd f = s.rd f := rfl
@[simp] theorem State.flag_setMb (s : State) (sl : Nat) (m : Mailbox) (f : Fld) : (s.setMb sl m).flag f = s.flag f := rfl
@[simp] theorem State.rd_setSlots (s : State) (p : Nat) (l : List Slot) (f : Fld) : (s.setSlots p l).rd f = s.rd f := rfl
@[simp] theorem State.flag_setSlots (s : State) (p : Nat) (l : List Slot) (f : Fld) : (s.setSlots p l).flag f = s.flag f := rfl
@[simp] theorem State.rd_setFrames (s : State) (p : Nat) (l : List Frame) (f : Fld) : (s.setFrames p l).rd f = s.rd f := rfl
@[simp] theorem State.flag_setFrames (s : State) (p : Nat) (l : List Frame) (f : Fld) : (s.setFrames p l).flag f = s.flag f := rfl
@[simp] theorem State.rd_setCtx (s : State) (c l : Nat) (x : Ctx) (f : Fld) : (s.setCtx c l x).rd f = s.rd f := rfl
@[simp] theorem State.flag_setCtx (s : State) (c l : Nat) (x : Ctx) (f : Fld) : (s.setCtx c l x).flag f = s.flag f := rfl
@[simp] theorem State.rd_setLun (s : State) (c l : Nat) (x : Lun) (f : Fld) : (s.setLun c l x).rd f = s.rd f := rfl
@[simp] theorem State.flag_setLun (s : State) (c l : Nat) (x : Lun) (f : Fld) : (s.setLun c l x).flag f = s.flag f := rfl
@[simp] theorem State.rd_setBank (s : State) (c b : Nat) (x : Bank) (f : Fld) : (s.setBank c b x).rd f = s.rd f := rfl
@[simp] theorem State.flag_setBank (s : State) (c b : Nat) (x : Bank) (f : Fld) : (s.setBank c b x).flag f = s.flag f := rfl
@[simp] theorem State.rd_setBus (s : State) (c : Nat) (o : Option Nat) (f : Fld) : (s.setBus c o).rd f = s.rd f := rfl
@[simp] theorem State.flag_setBus (s : State) (c : Nat) (o : Option Nat) (f : Fld) : (s.setBus c o).flag f = s.flag f := rfl
@[simp] theorem State.rd_setSaucer (s : State) (c : Nat) (l : List Nat) (f : Fld) : (s.setSaucer c l).rd f = s.rd f := rfl
@[simp] theorem State.flag_setSaucer (s : State) (c : Nat) (l : List Nat) (f : Fld) : (s.setSaucer c l).flag f = s.flag f := rfl
@[simp] theorem State.rd_setEzl (s : State) (k : Nat) (x : LinkEnd) (f : Fld) : (s.setEzl k x).rd f = s.rd f := rfl
@[simp] theorem State.flag_setEzl (s : State) (k : Nat) (x : LinkEnd) (f : Fld) : (s.setEzl k x).flag f = s.flag f := rfl
@[simp] theorem State.rd_setEzm (s : State) (m : Nat) (x : Member) (f : Fld) : (s.setEzm m x).rd f = s.rd f := rfl
@[simp] theorem State.flag_setEzm (s : State) (m : Nat) (x : Member) (f : Fld) : (s.setEzm m x).flag f = s.flag f := rfl
@[simp] theorem State.rd_setEport (s : State) (p : Nat) (x : EPort) (f : Fld) : (s.setEport p x).rd f = s.rd f := rfl
@[simp] theorem State.flag_setEport (s : State) (p : Nat) (x : EPort) (f : Fld) : (s.setEport p x).flag f = s.flag f := rfl
@[simp] theorem State.rd_setCunit (s : State) (u : Nat) (x : CUnit) (f : Fld) : (s.setCunit u x).rd f = s.rd f := rfl
@[simp] theorem State.flag_setCunit (s : State) (u : Nat) (x : CUnit) (f : Fld) : (s.setCunit u x).flag f = s.flag f := rfl
@[simp] theorem State.rd_setCctx (s : State) (c : Nat) (x : CCtx) (f : Fld) : (s.setCctx c x).rd f = s.rd f := rfl
@[simp] theorem State.flag_setCctx (s : State) (c : Nat) (x : CCtx) (f : Fld) : (s.setCctx c x).flag f = s.flag f := rfl
@[simp] theorem State.rd_setPtp (s : State) (k : Nat) (x : PtpSlot) (f : Fld) : (s.setPtp k x).rd f = s.rd f := rfl
@[simp] theorem State.flag_setPtp (s : State) (k : Nat) (x : PtpSlot) (f : Fld) : (s.setPtp k x).flag f = s.flag f := rfl
@[simp] theorem State.rd_setRo (s : State) (r : Roaster) (f : Fld) : (s.setRo r).rd f = s.rd f := rfl
@[simp] theorem State.flag_setRo (s : State) (r : Roaster) (f : Fld) : (s.setRo r).flag f = s.flag f := rfl

@[simp] theorem State.flag_emit (s : State) (o : Out) (f : Fld) : (s.emit o).flag f = s.flag f := rfl
@[simp] theorem State.flag_drew (s : State) (f : Fld) : s.drew.flag f = s.flag f := rfl

/-! ### Table entries -/

@[simp] theorem State.th_setTh_same (s : State) (t : Nat) (x : Thread) : (s.setTh t x).th t = x := by simp [State.th, State.setTh]
theorem State.th_setTh_other (s : State) {t j_ : Nat} (x : Thread) (h : j_ ≠ t) : (s.setTh t x).th j_ = s.th j_ := by
  simp [State.th, State.setTh, FMap.get_set_other _ _ _ _ h]
theorem State.setTh_setTh (s : State) (t : Nat) (x y : Thread) (h : x ≠ {}) : (s.setTh t x).setTh t y = s.setTh t y := by
  simp only [State.setTh, FMap.set_set _ _ _ h]
@[simp] theorem State.sub_setSub_same (s : State) (r : Nat) (x : SubRing) : (s.setSub r x).sub r = x := by simp [State.sub, State.setSub]
theorem State.sub_setSub_other (s : State) {r j_ : Nat} (x : SubRing) (h : j_ ≠ r) : (s.setSub r x).sub j_ = s.sub j_ := by
  simp [State.sub, State.setSub, FMap.get_set_other _ _ _ _ h]
theorem State.setSub_setSub (s : State) (r : Nat) (x y : SubRing) (h : x ≠ {}) : (s.setSub r x).setSub r y = s.setSub r y := by
  simp only [State.setSub, FMap.set_set _ _ _ h]
@[simp] theorem State.dlv_setDlv_same (s : State) (r : Nat) (x : DlvRing) : (s.setDlv r x).dlv r = x := by simp [State.dlv, State.setDlv]
theorem State.dlv_setDlv_other (s : State) {r j_ : Nat} (x : DlvRing) (h : j_ ≠ r) : (s.setDlv r x).dlv j_ = s.dlv j_ := by
  simp [State.dlv, State.setDlv, FMap.get_set_other _ _ _ _ h]
theorem State.setDlv_setDlv (s : State) (r : Nat) (x y : DlvRing) (h : x ≠ {}) : (s.setDlv r x).setDlv r y = s.setDlv r y := by
  simp only [State.setDlv, FMap.set_set _ _ _ h]
@[simp] theorem State.slc_setSlc_same (s : State) (n : Nat) (x : SliceRun) : (s.setSlc n x).slc n = x := by simp [State.slc, State.setSlc]
theorem State.slc_setSlc_other (s : State) {n j_ : Nat} (x : SliceRun) (h : j_ ≠ n) : (s.setSlc n x).slc j_ = s.slc j_ := by
  simp [State.slc, State.setSlc, FMap.get_set_other _ _ _ _ h]
theorem State.setSlc_setSlc (s : State) (n : Nat) (x y : SliceRun) (h : x ≠ {}) : (s.setSlc n x).setSlc n y = s.setSlc n y := by
  simp only [State.setSlc, FMap.set_set _ _ _ h]
@[simp] theorem State.mb_setMb_same (s : State) (n : Nat) (x : Mailbox) : (s.setMb n x).mb n = x := by simp [State.mb, State.setMb]
theorem State.mb_setMb_other (s : State) {n j_ : Nat} (x : Mailbox) (h : j_ ≠ n) : (s.setMb n x).mb j_ = s.mb j_ := by
  simp [State.mb, State.setMb, FMap.get_set_other _ _ _ _ h]
theorem State.setMb_setMb (s : State) (n : Nat) (x y : Mailbox) (h : x ≠ {}) : (s.setMb n x).setMb n y = s.setMb n y := by
  simp only [State.setMb, FMap.set_set _ _ _ h]
@[simp] theorem State.bind_setBind_same (s : State) (j : Nat) (x : Binding) : (s.setBind j x).bind j = x := by simp [State.bind, State.setBind]
theorem State.bind_setBind_other (s : State) {j j_ : Nat} (x : Binding) (h : j_ ≠ j) : (s.setBind j x).bind j_ = s.bind j_ := by
  simp [State.bind, State.setBind, FMap.get_set_other _ _ _ _ h]
theorem State.setBind_setBind (s : State) (j : Nat) (x y : Binding) (h : x ≠ {}) : (s.setBind j x).setBind j y = s.setBind j y := by
  simp only [State.setBind, FMap.set_set _ _ _ h]
@[simp] theorem State.eport_setEport_same (s : State) (p : Nat) (x : EPort) : (s.setEport p x).eport p = x := by simp [State.eport, State.setEport]
theorem State.eport_setEport_other (s : State) {p j_ : Nat} (x : EPort) (h : j_ ≠ p) : (s.setEport p x).eport j_ = s.eport j_ := by
  simp [State.eport, State.setEport, FMap.get_set_other _ _ _ _ h]
theorem State.setEport_setEport (s : State) (p : Nat) (x y : EPort) (h : x ≠ {}) : (s.setEport p x).setEport p y = s.setEport p y := by
  simp only [State.setEport, FMap.set_set _ _ _ h]

@[simp] theorem State.slotsOf_setSlots_same (s : State) (p : Nat) (l : List Slot) : (s.setSlots p l).slotsOf p = l := by
  simp [State.slotsOf, State.setSlots]
@[simp] theorem State.th_wr (s : State) (f : Fld) (v t : Nat) : (s.wr f v).th t = s.th t := rfl
@[simp] theorem State.th_emit (s : State) (o : Out) (t : Nat) : (s.emit o).th t = s.th t := rfl
@[simp] theorem State.th_drew (s : State) (t : Nat) : s.drew.th t = s.th t := rfl
@[simp] theorem State.mb_wr (s : State) (f : Fld) (v n : Nat) : (s.wr f v).mb n = s.mb n := rfl
@[simp] theorem State.mb_emit (s : State) (o : Out) (n : Nat) : (s.emit o).mb n = s.mb n := rfl

/-- The step law: the command at the front of the queue is taken. -/
theorem step_cons (s : State) (c : Instr) (cs : List Instr) (h : s.pending = c :: cs) : step s = exec c { s with pending := cs } := by
  simp [step, h]

/-- The memories of the state after reset are canonical. -/
theorem State.reset_mem : Memory.wf State.reset.gddr = true := rfl

end Sys2Proof.Machine
end

