-- ==== Sys2Proof/Laws/Thread.lean ====
section
/-!
SUPPORT. What the operations that the Dyaris instructions share can do: reading and writing registers, issuing an instruction, and the shape of an instruction
that works on registers alone.
-/

namespace Sys2Proof.Machine

@[simp] theorem Thread.r_zero (x : Thread) : x.r 0 = 0 := rfl

/-- A register after a write: g0 keeps reading zero (05 R167). -/
theorem Thread.r_w (x : Thread) (n : Nat) (v : Word) (k : Nat) : (x.w n v).r k = if k = n ∧ n ≠ 0 then v else x.r k := by
  unfold Thread.r Thread.w
  by_cases hn : n = 0
  · simp [hn]
  · by_cases hk : k = n
    · subst hk; simp [hn]
    · by_cases h0 : k = 0
      · simp [h0, Ne.symm hn]
      · simp [hn, hk, h0, FMap.get_set_other _ _ _ _ hk]

/-- A register write changes the registers alone. -/
theorem Thread.w_only (x : Thread) (n : Nat) (v : Word) : x.w n v = { x with g := (x.w n v).g } := by
  unfold Thread.w; split <;> rfl

@[simp] theorem Thread.w_fields (x : Thread) (n : Nat) (v : Word) : (x.w n v).b = x.b ∧ (x.w n v).pc = x.pc ∧ (x.w n v).st = x.st ∧
    (x.w n v).stepping = x.stepping ∧ (x.w n v).pend = x.pend ∧ (x.w n v).wmask = x.wmask := by
  unfold Thread.w; split <;> simp

@[simp] theorem Thread.r_nextPc (x : Thread) (k : Nat) : x.nextPc.r k = x.r k := rfl
@[simp] theorem Thread.r_setB (x : Thread) (b : Bool) (k : Nat) : (x.setB b).r k = x.r k := rfl
@[simp] theorem Thread.r_afterStep (x : Thread) (k : Nat) : x.afterStep.r k = x.r k := by
  unfold Thread.afterStep Thread.r
  split
  · rfl
  · dsimp only; split
    · rfl
    · split <;> first | rfl | (split <;> rfl)

/-- A thread that issues its instruction `f`: its effect, or its fault (04 R157; 05 R206). -/
theorem State.issue_ready {s : State} {t : Nat} (h : s.ready t) (f : State → Thread → Except Flt State) :
    s.issue t f = match f s (s.th t) with
      | .error e => s.faultAt t e
      | .ok s' => s'.setTh t (s'.th t).afterStep := by
  obtain ⟨h1, h2, h3, h4, h5⟩ := h
  simp only [State.issue, h1, h2, h3, h4, h5]
  rfl

/-- A thread that issues is in RUN. -/
theorem State.ready_run {s : State} {t : Nat} (h : s.ready t) : (s.th t).st = .run := by
  have h1 := h.1
  simp only [State.canIssue, Bool.and_eq_true, beq_iff_eq] at h1
  exact h1.2

/-- After an instruction that leaves the thread in RUN (04 R162). -/
theorem Thread.afterStep_run (x : Thread) (h : x.st = .run) : x.afterStep.st = x.after ∧ x.afterStep.g = x.g ∧ x.afterStep.b = x.b ∧
    x.afterStep.pc = x.pc ∧ x.sameBut x.afterStep := by
  unfold Thread.afterStep Thread.after Thread.sameBut
  by_cases hs : x.stepping <;> simp [hs, h]

/-- One instruction that writes its thread `y`, still in RUN, gives that thread after its step. -/
theorem State.instr_run {s : State} {t : Nat} (h : s.ready t) {f : State → Thread → Except Flt State} {y : Thread}
    (hf : f s (s.th t) = .ok (s.setTh t y)) (hy : y.st = .run) : s.instr t f = .next (s.setTh t y.afterStep) := by
  have hne : y ≠ {} := by intro h0; rw [h0] at hy; cases hy
  simp only [State.instr, State.issue_ready h, hf, State.th_setTh_same, State.setTh_setTh _ _ _ _ hne]

/-- The shape of an instruction that works on registers alone. -/
theorem State.regStep {s : State} {t rd : Nat} (h : s.ready t) {f : State → Thread → Except Flt State} {v : Word} {b : Bool} {pc : Nat}
    (hf : f s (s.th t) = .ok (s.setTh t { ((s.th t).w rd v).setB b with pc := pc })) :
    ∃ u, s.instr t f = .next u ∧ RegStep s u t rd v b pc := by
  let y : Thread := { ((s.th t).w rd v).setB b with pc := pc }
  have hrun : y.st = .run := by
    have := State.ready_run h
    simp [y, Thread.setB, this]
  obtain ⟨a1, a2, a3, a4, a5⟩ := Thread.afterStep_run y hrun
  refine ⟨_, State.instr_run h hf hrun, ?_⟩
  refine ⟨by simp, ?_, by simpa [y, Thread.setB] using a3, by simpa [y] using a4, ?_, ?_⟩
  · intro n
    rw [State.th_setTh_same, Thread.r_afterStep, ← Thread.r_w]
    rfl
  · rw [State.th_setTh_same]
    refine a1.trans ?_
    simp [Thread.after, y, Thread.setB]
  · rw [State.th_setTh_same]
    have hw := Thread.w_only (s.th t) rd v
    have hyx : (s.th t).sameBut y := by
      simp only [y, Thread.setB, Thread.sameBut]; rw [hw]; simp
    obtain ⟨h1, h2, h3, h4, h5, h6, h7, h8, h9, h10, h11, h12, h13⟩ := a5
    obtain ⟨k1, k2, k3, k4, k5, k6, k7, k8, k9, k10, k11, k12, k13⟩ := hyx
    exact ⟨h1.trans k1, h2.trans k2, h3.trans k3, h4.trans k4, h5.trans k5, h6.trans k6, h7.trans k7, h8.trans k8, h9.trans k9, h10.trans k10,
      h11.trans k11, h12.trans k12, h13.trans k13⟩

/-- ALU instructions (05 R173). -/
theorem State.alu_step {s : State} {t : Nat} (rd : Nat) (h : s.ready t) (f : Thread → Word) :
    ∃ u, s.alu t rd f = .next u ∧ RegStep s u t rd (f (s.th t)) (s.th t).b (((s.th t).pc + 1) % 8192) := by
  refine State.regStep h ?_
  simp [State.done, Thread.nextPc, Thread.setB]

theorem State.aluIf_step {s : State} {t : Nat} (rd : Nat) (h : s.ready t) (f : Thread → Word) :
    ∃ u, s.aluIf t rd false f = .next u ∧ RegStep s u t rd (f (s.th t)) (s.th t).b (((s.th t).pc + 1) % 8192) :=
  State.alu_step rd h f

theorem State.aluB_step {s : State} {t : Nat} (rd : Nat) (h : s.ready t) (f : Thread → Word × Bool) :
    ∃ u, s.aluB t rd f = .next u ∧ RegStep s u t rd (f (s.th t)).1 (f (s.th t)).2 (((s.th t).pc + 1) % 8192) := by
  refine State.regStep h ?_
  simp [State.done, Thread.nextPc, Thread.setB]

end Sys2Proof.Machine
end

