-- ==== Sys2Proof/Tests/Slice0.lean ====
section
/-!
SUPPORT. The model's own tests: states and operands that meet the hypotheses of each statement, ill-formed commands that the check refuses, and single
steps whose results come from the manual.
-/

namespace Sys2Proof.Tests

set_option Elab.async false

open Sys2Proof Sys2Proof.Machine

/-! ### Small states -/

/-- Reset with register fields set. -/
def on (fs : List (Fld × Nat)) : State := fs.foldl (fun s f => s.wr f.1 f.2) State.reset

/-- The device in RUN with register fields set. -/
def running (fs : List (Fld × Nat)) : State := on ((RST_STATUS.STATE, 1) :: fs)

/-- Admin slice 0 in use, its mailbox holding a request. -/
def asks (s : State) (op : Nat) (pl : List Byte) : State :=
  ((s.wr (SLC_CFG.EN 0) 1).wr (SLC_CFG.ADMIN 0) 1).setMb 0 { st := .busy, cur := leBytes 2 op ++ leBytes 2 pl.length ++ zeros 12 ++ pl }

/-- The command answers a next state of which `p` holds. -/
def gives (c : Instr) (s : State) (p : State → Bool) : Bool := match exec c s with | .next u => p u | _ => false

/-- Thread 9 (engine 1, slot 1), or another one, running on a device in RUN. -/
def thread (fs : List (Fld × Nat)) (x : Thread) (t : Nat := 9) : State := (running fs).setTh t { x with st := .run }

/-! ### States that meet the hypotheses of each statement: time -/

/-- 16 samples of source 5 in LOCKED. -/
def locked : State := { on [(TMP_STATUS.STATE, 2), (TMP_STATUS.SOURCE, 5), (TMP_ACC_CFG.A_PPS_PS, 0)] with tamp := { samples := List.replicate 16 0 } }
/-- A one-step Sync of domain 0 from port identity 0. -/
def sync1 : List Byte := [0, 2] ++ zeros 42
/-- Timing slot 0 is port 3, its link up: it follows port identity 0 with a path delay measured, in CORRECTING, with a Sync waiting. -/
def timing : State := { running [(TMP_SRC_CFG.TPORT0_EN, 1), (TMP_SRC_CFG.TPORT0, 3), (SEQ_PST.LINK 3, 1), (TMP_STATUS.STATE, 5), (TMP_STATUS.SOURCE, 1), (CLK_STATUS.LOCK, 2 ^ 24),
  (TMP_PPS_CFG.OUT_EN, 1), (TMP_PPS_CFG.OUT_IN_UNTRACE, 1), (TMP_PTP_STAT.PORT_STATE 0, 9)] with
  tamp := { firstSample := true, tb := 1000000000 * (5 * 2 ^ 80), ptp := [(0, { inbox := [(0, sync1)], parent := some 0, delay := some 7 })] } }
/-- A tick with an E_time evaluated before it. -/
def evaluated : State := { locked with tamp := { locked.tamp with eNext := some (some 5, false) } }
theorem witness_TimeSourcesAndTicks : (locked.rd TMP_STATUS.STATE = 2 ∧ locked.rd TMP_STATUS.SOURCE ≠ 0 ∧ locked.eMeas = some 0) ∧ State.reset.rd TMP_STATUS.STATE = 0
    ∧ (evaluated.tamp.eNext = some (some 5, false) ∧ evaluated.rd TMP_STATUS.STATE = 2)
    ∧ (timing.tport 0 = some 3 ∧ timing.run = true ∧ timing.flag (SEQ_PST.LINK 3) = true ∧ timing.flag (TMP_PTP_CFG.ONE_STEP 0) = false ∧ timing.rd TMP_STATUS.STATE = 5
      ∧ timing.rd TMP_STATUS.SOURCE = (0 : Fin 4).val + 1 ∧ timing.tamp.firstSample = true)
    ∧ ((timing.ptpSlot 0).inbox = (0, sync1) :: [] ∧ timing.tportUp 0 = true ∧ timing.ptpOurs 0 sync1 = true ∧ ptpType sync1 = 0 ∧ timing.follows 0 sync1 = true
      ∧ bitAt (field sync1 6 1) 1 = false ∧ (timing.ptpSlot 0).delay = some 7)
    ∧ (timing.ppsClock = true ∧ timing.tamp.ppsSecond < tbSec timing.ppsTime ∧ timing.flag TMP_PPS_CFG.OUT_EN = true ∧ timing.rd TMP_STATUS.STATE ≠ 3
      ∧ timing.flag TMP_PPS_CFG.OUT_IN_UNTRACE = true) := by decide +kernel

/-- STEP_PENDING of source 5 with step 7. -/
def pendingStep : State := running [(TMP_STATUS.STATE, 4), (TMP_STATUS.SOURCE, 5), (TMP_STEP_ID.ID, 7), (TMP_STEP.DELTA_NS, 5)]
def consent : State := asks pendingStep 0x0100 (leBytes 4 7 ++ leBytes 8 5 ++ leBytes 4 1)
def consentBack : State := asks (pendingStep.wr TMP_STEP.DELTA_NS (2 ^ 64 - 5)) 0x0100 (leBytes 4 7 ++ leBytes 8 5 ++ leBytes 4 1)
def decline : State := asks pendingStep 0x0101 (leBytes 4 7)
/-- The timebase at 2 s, with the journal below it, a lock seen, and a TRACE second open. -/
def early : Tamp := { tb := 2 * 1000000000 * (5 * 2 ^ 80), highStamp := some 0, everLocked := true, traceOpen := true }
def setTod : State := { asks (running []) 0x0102 (leBytes 8 2 ++ leBytes 4 5) with tamp := early }
def setTodBack : State := { asks (running []) 0x0102 (leBytes 8 1 ++ leBytes 4 5) with tamp := early }
def startUnlocked : State := { asks (running []) 0x0103 [] with tamp := early }
theorem witness_TimeRequestsAndTrace : (consent.request 0 0x0100 16 ∧ consent.rd TMP_STATUS.STATE = 4 ∧ consent.tamp.step = none
      ∧ consent.arg 0 0 4 = consent.rd TMP_STEP_ID.ID ∧ (consent.rdInt TMP_STEP.DELTA_NS).natAbs ≤ consent.arg 0 4 8 ∧ 0 < consent.rdInt TMP_STEP.DELTA_NS)
    ∧ (consentBack.request 0 0x0100 16 ∧ consentBack.rd TMP_STATUS.STATE = 4 ∧ consentBack.tamp.step = none
      ∧ consentBack.arg 0 0 4 = consentBack.rd TMP_STEP_ID.ID ∧ (consentBack.rdInt TMP_STEP.DELTA_NS).natAbs ≤ consentBack.arg 0 4 8 ∧ consentBack.rdInt TMP_STEP.DELTA_NS ≤ 0)
    ∧ (decline.request 0 0x0101 4 ∧ decline.rd TMP_STATUS.STATE = 4 ∧ decline.tamp.step = none ∧ decline.arg 0 0 4 = decline.rd TMP_STEP_ID.ID
      ∧ decline.rd TMP_STATUS.SOURCE ≠ 0)
    ∧ (setTod.request 0 0x0102 12 ∧ setTod.tamp.stampedEver = false ∧ setTod.tamp.tb ≤ (setTod.arg 0 0 8 * 1000000000 + setTod.arg 0 8 4) * (5 * 2 ^ 80))
    ∧ (setTodBack.request 0 0x0102 12 ∧ (setTodBack.arg 0 0 8 * 1000000000 + setTodBack.arg 0 8 4) * (5 * 2 ^ 80) < setTodBack.tamp.tb)
    ∧ (startUnlocked.request 0 0x0103 0 ∧ startUnlocked.flag TMP_STATUS.STAMPING = false ∧ startUnlocked.aboveJournal = true ∧ startUnlocked.tamp.everLocked = true)
    ∧ (startUnlocked.tamp.traceOpen = true ∧ startUnlocked.tamp.trace.second < tbSec startUnlocked.tamp.tb ∧ startUnlocked.sequencing = true
      ∧ startUnlocked.merge.open_ = false) := by decide +kernel
/-- A consented step, and a correction with nothing left to remove. -/
theorem witness_steps : ({ State.reset with tamp := { step := some ⟨5, 7, 0, 1⟩ } } : State).tamp.step = some ⟨5, 7, 0, 1⟩
    ∧ ({ State.reset with tamp := { corr := some (⟨5, 7, 0, 1⟩, 5, 0) } } : State).tamp.corr = some (⟨5, 7, 0, 1⟩, 5, 0) := by decide +kernel

/-- Port 2 on lane 5, up, its lane calibrated; the lane being measured at lock, or live. -/
def lane5 (t : Tamp) (now : Nat := 1250000000) : State :=
  { running [(SEQ_PORT.EN 2, 1), (SEQ_PORT.LANE0 2, 5), (SEQ_PST.LINK 2, 1), (TMP_LDIE.VALID 5, 1), (TMP_RECAL_CFG.LIMIT_PS, 20), (TMP_RECAL_CFG.PERIOD_S, 1)] with tamp := t, ticks := now }
/-- The results just inside and just outside LIMIT_PS of 20 ps from die parts of 0, in units of 2⁻¹² ns. -/
def within : BitVec 24 := 81
def outside : BitVec 24 := -82
theorem witness_LaneCalibration : ((lane5 {}).run = true ∧ (lane5 {}).hasLane 5 = true ∧ (lane5 {}).laneDead 5 = false)
    ∧ (let s := lane5 { measuring := [(5, true)], laneUp := [(5, true)] }
      FMap.get false s.tamp.measuring 5 = true ∧ s.portOfLane 5 = some 2
        ∧ (s.lanesOf 2).all (fun l => FMap.get false s.tamp.laneUp l && (l == 5 || !FMap.get false s.tamp.measuring l)) = true)
    ∧ ((lane5 {}).rd TMP_RECAL_CFG.PERIOD_S ≠ 0 ∧ FMap.get 0 (lane5 {}).tamp.measured 5 + (lane5 {}).rd TMP_RECAL_CFG.PERIOD_S * 1250000000 ≤ (lane5 {}).ticks
      ∧ (lane5 {}).portOfLane 5 = some 2 ∧ (lane5 {}).flag (SEQ_PST.LINK 2) = true ∧ (lane5 {}).flag (TMP_LDIE.VALID 5) = true
      ∧ (lane5 {}).laneBusy 5 = false ∧ (lane5 {}).tamp.recal = none)
    ∧ ((lane5 { recal := some 5 }).tamp.recal = some 5 ∧ (lane5 { recal := some 5 }).laneBusy 5 = false
      ∧ (within.toInt - (lane5 {}).rdInt (TMP_LDIE.RX_DIE 5)).natAbs * 1000 ≤ (lane5 {}).rd TMP_RECAL_CFG.LIMIT_PS * 4096
      ∧ (within.toInt - (lane5 {}).rdInt (TMP_LDIE.TX_DIE 5)).natAbs * 1000 ≤ (lane5 {}).rd TMP_RECAL_CFG.LIMIT_PS * 4096
      ∧ (lane5 {}).rd TMP_RECAL_CFG.LIMIT_PS * 4096 < (outside.toInt - (lane5 {}).rdInt (TMP_LDIE.RX_DIE 5)).natAbs * 1000
      ∧ (lane5 {}).rd TMP_RECAL_CFG.LIMIT_PS * 4096 < (outside.toInt - (lane5 {}).rdInt (TMP_LDIE.TX_DIE 5)).natAbs * 1000) := by decide +kernel
/-- A tick with ADJ at 200 ppm. -/
theorem witness_TimeNeverRunsBackwards : ((on [(TMP_RATE.ADJ, 56294995342)]).rdInt TMP_RATE.ADJ).natAbs ≤ 56294995342 ∧ 0 < (on [(TMP_RATE.ADJ, 56294995342)]).rdInt TMP_RATE.ADJ := by
  decide +kernel

/-! ### Ports, the merge store and issue -/

/-- Port 1 active, its link up, with frames in progress and a slot, at 5 µs. -/
def port1 : State :=
  { running [(SEQ_PORT.EN 1, 1), (SEQ_PST.LINK 1, 1), (SEQ_PST.ACTIVE 1, 1), (SEQ_PORT.MAXLEN 1, 1518), (SEQ_STATUS.SHARED_FREE, 10)] with
    merge := { frames := [(1, [⟨0, false⟩])], slots := [(1, [{ stamp := 0, st := .pending, shared := false, cand := {} }])], wm := [(1, 2 ^ 90)] },
    tamp := { tb := 1000000000 * (5 * 2 ^ 80) } }
/-- Port 1 timing slot 3's port, and the slot that RECCLK_OUT follows; a PTP message straight in Ethernet. -/
def port1t : State := ((port1.wr TMP_SRC_CFG.TPORT3_EN 1).wr TMP_SRC_CFG.TPORT3 1).wr CLK_RECCLK.SLOT 3
def ptpFrame : List Byte := zeros 12 ++ [0x88, 0xF7] ++ zeros 46
/-- Port 1 LEAVING since 0; port 1 ready to join. -/
def leaving1 : State := { on [(SEQ_PST.LEAVING 1, 1)] with tamp := { tb := 1000000 * (5 * 2 ^ 80) } }
def joins1 : State := { running [(SEQ_PORT.EN 1, 1), (SEQ_PST.LINK 1, 1), (TMP_LDIE.VALID 0, 1), (TMP_STATUS.STAMPING, 1)] with merge := { open_ := true } }
theorem witness_PortsAndSlots : port1.portUp 1 = true
    ∧ (port1.framesOf 1 = [⟨0, false⟩] ∧ port1.constrains 1 = true ∧ 64 ≤ 60 + 4 ∧ 60 + 4 ≤ port1.rd (SEQ_PORT.MAXLEN 1)
      ∧ (port1.isTiming 1 && (ptpOf (zeros 60)).isSome) = false ∧ port1.slotPool 1 = some false ∧ (zeros 59).length + 4 < 64)
    ∧ (port1t.framesOf 1 = [⟨0, false⟩] ∧ 64 ≤ ptpFrame.length + 4 ∧ ptpFrame.length + 4 ≤ port1t.rd (SEQ_PORT.MAXLEN 1)
      ∧ [0, 1, 2, 3].find? (fun j => port1t.tport j == some 1) = some 3 ∧ ptpOf ptpFrame = some (0, ptpFrame.drop 14) ∧ port1t.rd (TMP_PTP_CFG.TRANSPORT 3) = 0)
    ∧ (port1.framesOf 1).getLast? = some ⟨0, false⟩
    ∧ (port1.framesOf 1).any (fun f => decide (stampTb f.stamp + port1.fipLimit 1 * (5 * 2 ^ 80) < port1.tamp.tb)) = true
    ∧ (port1t.flag (SEQ_PST.LINK 1) = true ∧ port1t.flag CLK_RECCLK.FOLLOW = false ∧ port1t.tport (port1t.rd CLK_RECCLK.SLOT) = some 1)
    ∧ (leaving1.flag (SEQ_PST.LEAVING 1) = true ∧ leaving1.slotsOf 1 = []
      ∧ FMap.get 0 leaving1.merge.lossAt 1 + 2 * leaving1.rd SEQ_CFG.WINDOW_NS * (5 * 2 ^ 80) ≤ leaving1.tamp.tb)
    ∧ joins1.mayJoin 1 = true
    ∧ (port1.slotsOf 1).any (fun t => t.st == .pending && decide (stampTb t.stamp + (port1.rd SEQ_CFG.WINDOW_NS + port1.rd SEQ_CFG.PARSE_LIMIT_NS) * (5 * 2 ^ 80) ≤ port1.tamp.tb)) = true := by
  decide +kernel

/-- A READY slot at the head of port 1 that nothing holds; a record of a session mapped to channel 3 of cluster 0 waiting for its dispatch; one
issued whose deadline has come, and one issued just now. -/
def readySlot : Slot := { stamp := 16, st := .ready, shared := false, cand := { stamp := 16, port := 1, typ := 0x40 } }
def order1 : Rec := { seq := 5, typ := 0x70, session := 9 }
def order4 : Issued := { r := { order1 with seq := 4 }, tick := 0 }
def order6 : Issued := { r := { order1 with seq := 6 }, tick := 10 ^ 9 }
def release1 : State :=
  { port1 with merge := { port1.merge with slots := [(1, [readySlot])], dispatch := [order1] }, crf := { issued := [order4, order6] },
               dy := { sessions := [⟨0, 3, 0, 100, 0⟩] }, ticks := 10 ^ 9 }
def mapped1 : State := (release1.wr (CLU_CHAN_CFG.EN 0 3) 1).wr (CLU_CHAN_CFG.DEPTH 0 3) 4
theorem witness_ReleaseAndVerdicts : ((List.range 65).all (fun q => (release1.slotsOf q).head?.all (fun h => decide (h.st ≠ .dropped))) = true ∧ release1.tamp.waiting = []
      ∧ release1.leastHead = some (1, readySlot) ∧ release1.releasable readySlot.stamp = true ∧ release1.merge.lane = [])
    ∧ mapped1.dispatchable = some (order1, 0, 3, 9)
    ∧ ((release1.crf.issued.map (fun i => i.r.seq)).Nodup ∧ order4 ∈ release1.crf.issued ∧ order4.fixed = false ∧ release1.deadline order4 = true
      ∧ order6 ∈ release1.crf.issued ∧ release1.deadline order6 = false) := by
  decide +kernel
/-- A merge record and a host record on offer. -/
def issues : State := { running [] with merge := { open_ := true, lane := [{ typ := 0x40 }], host := [{ typ := 0x50, port := 0xFF }] } }
theorem witness_LanesTakeTurns : (issues.issuing = true ∧ seqIndex (issues.rd SEQ_NEXT.NEXT) + 1 ≠ 2 ^ issues.rd SEQ_CFG.ROLL_LOG2
      ∧ issues.merge.lane ++ (issues.merge.device ++ issues.merge.host) ≠ []) ∧ release1.merge.lane.length ≤ 1 := by decide +kernel
/-- MERGE_RELEASE offers a record. -/
theorem witness_ReleaseFollowsTheKey : gives .mergeRelease release1 (fun u => decide (u.merge.lane ≠ release1.merge.lane)) = true := by decide +kernel


/-! ### Threads -/

theorem witness_ready : (thread [] {}).ready 9 := by decide +kernel
/-- The statements whose only hypothesis is that the thread issues. -/
theorem witness_RegisterArithmetic : (thread [] { g := [(1, 5), (2, 7)] }).ready 9 := by decide +kernel
theorem witness_SaturationAndBitCounts : (thread [] { g := [(1, 2 ^ 64 - 1), (2, 2)] }).ready 9 := by decide +kernel
theorem witness_ImmediatesAndMoves : (thread [] { g := [(1, 2 ^ 63)] }).ready 9 := by decide +kernel
theorem witness_Branches : (thread [] { b := true, pc := 8191 }).ready 9 := by decide +kernel

/-- An aligned template whose entry 0 reads one byte at 3 of a frame of 4 bytes at 0x20. -/
def template : State :=
  let s := thread [] { g := [(1, BitVec.ofNat 64 (2 ^ 63 + 4 * 2 ^ 16 + 0x20)), (2, 0x40)] }
  { s with dy := { s.dy with dmem := [(1, Memory.writeBytes [] 0x1040 (leBytes 4 (2 ^ 19 + 3)))] } }
theorem witness_FieldInstructions : template.ready 9 ∧ 0 + (63 + 1) ≤ 64 ∧ ((template.th 9).r 2).toNat % 32 = 0 ∧ memRegion 9 0x40 32 = .dmem 0x1040
    ∧ template.badWord 9 (.dmem 0x1040) 32 = none ∧ ((template.th 9).r 1).getLsbD 63 = true
    ∧ (let e := fun j => BitVec.ofNat 32 (leNat ((State.memOf template.dy.dmem 1).readBytes (0x1040 + 4 * j) 4));
      (∀ j, j < 8 → (e j).extractLsb' 20 12 = 0) ∧ (e 0).getLsbD 19 = true ∧ (e 0).extractLsb' 0 14 = 3 ∧ (((template.th 9).r 1).extractLsb' 16 14).toNat = 3 + 1
        ∧ template.badWord 9 (.dmem (0x20 + 3)) 1 = none) := by decide +kernel

/-- A GDDR7 window that thread 9's cluster may write, from 0, and addresses in each region in g1. -/
def gwin : List (Fld × Nat) := [(CLU_GWIN.EN 0 0, 1), (CLU_GWIN.WE 0 0, 1), (CLU_GWIN.SIZE_4K 0 0, 1)]
def at1 (a : Nat) : State := thread gwin { g := [(1, BitVec.ofNat 64 a)] }
def inFlight (acc : Access) : State := (running gwin).setTh 9 { st := .memwait, acc := some acc }
theorem witness_LoadsCompleteByRegion : ((at1 0x10).ready 9 ∧ 0x10 % 8 = 0 ∧ memRegion 9 0x10 8 = .dmem 0x1010 ∧ memRegion 9 0x20000 8 = .imem 0
      ∧ memRegion 9 0x100000000 8 = .sram 0 ∧ memRegion 9 0x110000000 8 = .block 0 ∧ (at1 0x10).badWord 9 (.dmem 0x1010) 8 = none
      ∧ (at1 0x20000).badWord 9 (.imem 0) 8 = none ∧ (at1 0x100000000).badWord 9 (.sram 0) 8 = none)
    ∧ ((at1 0x10000000000).ready 9 ∧ (memRegion 9 0x10000000000 8).variable = true ∧ (at1 0x10000000000).mayRead 9 (memRegion 9 0x10000000000 8) 8 = true)
    ∧ ((inFlight (.load 3 0x10000000008 8 false false)).run = true ∧ ((inFlight (.load 3 0x10000000008 8 false false)).th 9).st = .memwait
      ∧ ((inFlight (.load 3 0x10000000008 8 false false)).th 9).acc = some (.load 3 0x10000000008 8 false false) ∧ memRegion 9 0x10000000008 8 = .gddr 8) := by decide +kernel
theorem witness_StoresWriteTheirBytes : ((at1 0x10).ready 9 ∧ stAddr ((at1 0x10).th 9) 1 0 = 0x10 ∧ (at1 0x10).mayWrite 9 (memRegion 9 0x10 8) 8 = true
      ∧ (at1 0x100000000).mayWrite 9 (memRegion 9 0x100000000 8) 8 = true)
    ∧ ((at1 0x110000004).mayWrite 9 (memRegion 9 0x110000004 4) 4 = true ∧ memRegion 9 0x110000004 4 = .block 4
      ∧ (((at1 0x110000004).setTh 9 ((at1 0x110000004).th 9).nextPc).storeBlock 9 4 4 0).isSome = true)
    ∧ ((at1 0x10000000000).mayWrite 9 (memRegion 9 0x10000000000 8) 8 = true ∧ (memRegion 9 0x10000000000 8).variable = true)
    ∧ ((inFlight (.store 0x10000000008 8 1 false)).run = true ∧ ((inFlight (.store 0x10000000008 8 1 false)).th 9).acc = some (.store 0x10000000008 8 1 false))
    ∧ ((at1 0x100000000).ready 9 ∧ (((at1 0x100000000).th 9).r 1).toNat % 8 = 0 ∧ memRegion 9 0x100000000 8 = .sram 0
      ∧ (at1 0x100000000).badWord 9 (.sram 0) 8 = none) := by decide +kernel

/-- A table of 4 entries of two words, one of them resident; copies outstanding. -/
def table (i : Word) : State :=
  thread [(CLU_TBL.EN 0 2, 1), (CLU_TBL.ENTRY 0 2, 1), (CLU_TBL.COUNT 0 2, 4), (CLU_TBLS.RES 0 2, 1), (CLU_TBLS.SPILL_4K 0 2, 1)] { g := if i = 0 then [] else [(1, i)] }
def copies (ds : List Dma) : State := thread gwin { g := [(1, 0x20)], dmas := ds }
def copyDesc : State := { copies [] with dy := { (copies []).dy with dmem := [(1, Memory.writeBytes [] 0x1020 (leBytes 8 0x10000000000 ++ leBytes 8 0x40 ++ leBytes 4 16))] } }
theorem witness_TablesAndCopies : ((table 0).ready 9 ∧ (table 0).flag (CLU_TBL.EN 0 2) = true ∧ (((table 0).th 9).r 1).toNat < (table 0).rd (CLU_TBLS.RES 0 2)
      ∧ (table 0).rd (CLU_TBLS.RES 0 2) ≤ (((table 3).th 9).r 1).toNat ∧ (((table 3).th 9).r 1).toNat < (table 3).rd (CLU_TBL.COUNT 0 2)
      ∧ 30 + 2 ^ (table 3).rd (CLU_TBL.ENTRY 0 2) ≤ 32 ∧ 1 < 2 ^ (table 3).rd (CLU_TBL.ENTRY 0 2) ∧ (table 0).badWord 9 (.sram 0) 16 = none)
    ∧ (4 ≤ ((copies (List.replicate 4 ⟨0, 0, 8, 0⟩)).th 9).dmas.length ∧ (copies (List.replicate 4 ⟨0, 0, 8, 0⟩)).ready 9)
    ∧ (copyDesc.ready 9 ∧ (copyDesc.th 9).dmas.length < 4 ∧ memRegion 9 0x20 32 = .dmem 0x1020 ∧ copyDesc.badWord 9 (.dmem 0x1020) 32 = none
      ∧ (let d := (State.memOf copyDesc.dy.dmem 1).readBytes 0x1020 32; copyDesc.dmaCheck 9 0x20 (field d 0 8) (field d 8 8) (field d 16 4) = none))
    ∧ ((copies [⟨0x10000000000, 0x40, 16, 1⟩]).run = true ∧ 16 % 8 = 0 ∧ memRegion 9 0x40 8 = .dmem 0x1040 ∧ memRegion 9 0x48 8 = .dmem 0x1048) := by decide +kernel

/-- Thread 9 holds lock 3, with thread 10 in its Saucer; another thread holds lock 7. -/
def lockState (saucer : List Nat) (r : Word) (pend : Nat := 0) : State :=
  let s := thread [] { g := [(1, r)], locks := [3], pend := pend }
  { s with dy := { s.dy with locks := [(3, { owner := some 9, saucer := saucer }), (7, { owner := some 20 })] } }
theorem witness_LocksPassInOrder : ((lockState [] 4).ready 9 ∧ (∀ m ∈ ((lockState [] 4).th 9).locks, m < 4) ∧ ((lockState [] 4).lockOf 0 4).owner = none)
    ∧ ((lockState [] 7).ready 9 ∧ (∀ m ∈ ((lockState [] 7).th 9).locks, m < 7) ∧ ((lockState [] 7).lockOf 0 7).owner ≠ none
      ∧ ((lockState [] 7).th 9).pend &&& (2 ^ 5 + 2 ^ 7) = 0 ∧ (lockState [] 7 (2 ^ 7)).ready 9 ∧ ((lockState [] 7 (2 ^ 7)).th 9).pend &&& (2 ^ 5 + 2 ^ 7) ≠ 0
      ∧ (lockState [] 7 (2 ^ 7)).lockOf 0 7 = (lockState [] 7).lockOf 0 7)
    ∧ (((lockState [] 3).th 9).locks.contains 3 = true ∧ ((lockState [] 3).lockOf 0 3).saucer = [] ∧ ((lockState [10] 3).lockOf 0 3).saucer = [10] ∧ 0 * 128 + 10 ≠ 9) := by
  decide +kernel

/-- Channel 5 of cluster 0, two entries, read by thread 9; its lease is 1 µs. -/
def chanState (x : Thread) (ch : Chan) : State :=
  let s := thread [(CLU_CHAN_CFG.EN 0 5, 1), (CLU_CHAN_CFG.DEPTH 0 5, 2), (CLU_CHAN_CFG.WGRP_MASK 0 5, 2 ^ 15), (CLU_CHAN_CFG.READER 0 5, 9), (CLU_CHAN_CFG.EXT_WRITER 0 5, 1), (CLU_CFG.LEASE_US 0, 1)]
    { x with g := [(1, 5)] }
  { s with dy := { s.dy with chans := [(5, ch)] } }
def staged : State := chanState { rsv := some (.loc 5), stage := [1] } { holder := some 9, granted := 1 }
theorem witness_ChannelsCarryMessages : ((chanState {} {}).ready 9 ∧ (chanState {} {}).flag (CLU_CHAN_CFG.EN 0 5) = true
      ∧ bitAt ((chanState {} {}).rd (CLU_CHAN_CFG.WGRP_MASK 0 5)) ((chanState {} {}).wgrp 9) = true ∧ ((chanState {} {}).th 9).rsv = none
      ∧ 0 < (chanState {} {}).rd (CLU_CHAN_CFG.DEPTH 0 5) ∧ ((chanState {} { holder := some 2 }).chan 0 5).holder.isNone = false
      ∧ ((chanState {} {}).th 9).pend &&& (2 ^ 4 + 2 ^ 7) = 0 ∧ ((chanState { pend := 2 ^ 4 } { holder := some 2 }).th 9).pend &&& (2 ^ 4 + 2 ^ 7) ≠ 0
      ∧ (chanState { pend := 2 ^ 4 } { holder := some 2 }).ready 9)
    ∧ (staged.ready 9 ∧ (staged.th 9).rsv = some (.loc 5) ∧ (staged.th 9).stage.length < 8 ∧ (staged.th 9).stage ≠ [] ∧ (staged.chan 0 5).saucer = [] ∧ staged.leaseOver 0 5 = false)
    ∧ ((chanState {} {}).rd (CLU_CHAN_CFG.READER 0 5) = 9 ∧ ((chanState {} {}).chan 0 5).msgs = [] ∧ ((chanState {} { msgs := [[1, 2]] }).chan 0 5).msgs = [[1, 2]]) := by decide +kernel
def full : Chan := { msgs := [[], []] }
def credited : State := chanState { rsv := some (.remote 0 5), stage := [1] } { credits := 1 }
theorem witness_RemoteChannelsAndLeases : ((chanState {} {}).remoteOk 0 5 = true ∧ 0 < (chanState {} {}).chanFree 0 5 ∧ (chanState {} full).chanFree 0 5 = 0)
    ∧ (credited.ready 9 ∧ credited.remoteOk 0 5 = true ∧ (credited.th 9).rsv = some (.remote 0 5) ∧ (credited.th 9).stage ≠ [])
    ∧ (((inFlight (.done [(1, 2)] (some true))).th 9).st = .memwait ∧ ((inFlight (.done [(1, 2)] (some true))).th 9).acc = some (.done [(1, 2)] (some true)))
    ∧ ((chanState {} { inflight := [[4]] }).chan 0 5).inflight = [[4]]
    ∧ ((staged.chan 0 5).holder = some 9 ∧ (staged.chan 0 5).saucer = [] ∧ (staged.th (0 * 128 + 9)).st ≠ .fault
      ∧ (let late : State := { staged with ticks := 1251 }; late.chan 0 5 = staged.chan 0 5 ∧ (late.chan 0 5).granted + late.rd (CLU_CFG.LEASE_US 0) * 1250 ≤ late.ticks)) := by decide +kernel

/-- Waiting threads: for an event that is pending, and for lock 3 that it has been granted. -/
def waiting (x : Thread) : State := (running [(CLU_WGRP.GROUP 0 9, 2), (CLU_WGRP.GROUP 0 10, 2)]).setTh 9 { x with st := .wait }
theorem witness_EventsAndWaiting : ((thread [(CLU_WGRP.GROUP 0 9, 2), (CLU_WGRP.GROUP 0 10, 2)] { g := [(1, 10)] }).ready 9
      ∧ (let s := thread [(CLU_WGRP.GROUP 0 9, 2), (CLU_WGRP.GROUP 0 10, 2)] { g := [(1, 10)] }; 10 / 128 = 9 / 128 ∧ s.wgrp 10 = s.wgrp 9 ∧ s.wgrp 9 ≠ 15
        ∧ s.hasCluster (10 / 128) = true ∧ s.isFatal (.cluster (10 / 128)) = false) ∧ 8 ≤ 15)
    ∧ (let s := { thread [] { timer := 1 } with ticks := 100 }; (s.th 9).timer ≠ 0 ∧ s.timerLeft 9 (s.th 9) = 0)
    ∧ ((waiting { pend := 1, wmask := 1 }).run = true ∧ ((waiting { pend := 1, wmask := 1 }).th 9).st = .wait ∧ ((waiting { pend := 1, wmask := 1 }).th 9).park = none ∧ ((waiting { pend := 1, wmask := 1 }).th 9).leaseLost = none ∧ ((waiting { pend := 1, wmask := 1 }).th 9).dmaErr = []
      ∧ ((waiting { pend := 1, wmask := 1 }).th 9).pend &&& 1 ≠ 0)
    ∧ (((waiting { park := some (.lock 3) }).th 9).park = some (.lock 3) ∧ ((waiting { park := some (.lock 3) }).lockOf 0 3).saucer.contains 9 = false) := by decide +kernel
theorem witness_SpecialReadsAndThreadEnd : (thread [] {}).ready 9 ∧ ((thread [] {}).th 9).locks = [] ∧ ((thread [] {}).th 9).rsv = none ∧ ((thread [] {}).th 9).dmas = []
    ∧ ((thread [] {}).th 9).descs = [] ∧ (thread [] {}).flag (DYE_DBG.DBG_EN 1) = false ∧ (thread [(DYE_DBG.DBG_EN 1, 1)] {}).ready 9
    ∧ (thread [(DYE_DBG.DBG_EN 1, 1)] {}).flag (DYE_DBG.DBG_EN 1) = true := by decide +kernel

/-- A frame on port 4 for binding 8 (engine 1, binding 0), bound to thread 9; the binding holding it; a descriptor taken. -/
def frameSlot : Slot := { stamp := 16, st := .pending, shared := false, cand := {}, data := [1, 2, 3], copied := false }
def bound (b : Binding) (x : Thread) : State :=
  let s := thread [(DYE_FRM.EN 1 0, 1), (DYE_FRM.PORT 1 0, 4), (DYE_FRM.SLOT 1 0, 1), (DYE_FRM.SIZE 1 0, 100)] x
  { s with merge := { slots := [(4, [frameSlot])], rotation := [(4, 8)] }, dy := { s.dy with binds := if b = {} then [] else [(8, b)] } }
def desc1 : Desc := { word := 77, port := 4, stamp := 16 }
def filling : State := { (inFlight (.status 3)) with merge := { slots := [(4, [frameSlot])], fills := [⟨9, 4, 16, false, 0x70, false⟩] } }
def handing : State :=
  let s := inFlight (.status 3)
  { s with dy := { s.dy with hands := [⟨9, 5, 1, false⟩] }, crf := { issued := [{ r := { seq := 5, typ := 0x70, mapped := some 0 }, tick := 0 }] } }
/-- Ring 6 of class 2, delivered to thread 9, empty or with an entry. -/
def commandRing (es : List (List Byte × Nat)) : State :=
  { thread [] { g := [(1, 6), (2, 0x40)] } with hq := { desc := [(6, { w1 := 2 ^ 5 + 2 * 2 ^ 7, w2 := 9 * 2 ^ 38 })], sub := [(6, { ready := es })] } }
theorem witness_FramesAndVerdicts : ((bound {} {}).run = true ∧ ((bound {} {}).slotsOf 4).find? (fun f => !f.copied) = some frameSlot ∧ (bound {} {}).nextBind 4 = some 8)
    ∧ ((bound {} {}).ready 9 ∧ (bound {} {}).flag (DYE_FRM.EN 1 0) = true ∧ (bound {} {}).rd (DYE_FRM.SLOT 1 0) = 9 % 8 ∧ ((bound {} {}).bind (1 * 8 + 0)).full = false)
    ∧ (((bound { full := true, port := 4, stamp := 16, len := 3 } {}).bind 8).full = true ∧ ((bound { full := true, port := 4, stamp := 16, len := 3 } {}).bind 8).taken = false)
    ∧ ((bound {} { g := [(1, 77)], descs := [desc1] }).ready 9
      ∧ (((bound {} { g := [(1, 77)], descs := [desc1] }).th 9).descs.find? (fun d => d.word == (((bound {} { g := [(1, 77)], descs := [desc1] }).th 9).r 1).toNat)) = some desc1)
    ∧ (filling.merge.fills.find? (fun r => r.thread == 9) = some ⟨9, 4, 16, false, 0x70, false⟩
      ∧ (filling.slotsOf 4).find? (fun f => f.stamp == 16 && f.st == .pending) = some frameSlot ∧ filling.parseOver 16 = false ∧ (⟨9, 4, 16, false, 0x70, false⟩ : FillReq).dead = false ∧ (filling.th 9).acc = some (.status 3)
      ∧ 0x70 ≤ bits 0x70 0 8 ∧ bits 0x70 59 5 = 0)
    ∧ (handing.dy.hands.find? (fun h => h.thread == 9) = some ⟨9, 5, 1, false⟩ ∧ (handing.crf.issued.find? (fun i => i.r.seq == 5)).isSome = true
      ∧ handing.crf.issued.all (fun i => i.r.mapped == some 0 && i.verdict == none && !handing.deadline i) = true ∧ (handing.th 9).acc = some (.status 3))
    ∧ ((commandRing []).ready 9 ∧ ((commandRing []).sdesc 6).en = true ∧ ((commandRing []).sdesc 6).cls = 2 ∧ ((commandRing []).sdesc 6).thread = 9 ∧ ((commandRing []).sub 6).ready = []
      ∧ ((commandRing [(zeros 32, 1)]).sub 6).ready = [(zeros 32, 1)] ∧ memRegion 9 0x40 32 = .dmem 0x1040 ∧ (commandRing []).mayWrite 9 (.dmem 0x1040) 32 = true
      ∧ (((commandRing []).th 9).r 2).toNat % 32 = 0 ∧ (zeros 32).length = 32) := by
  decide +kernel

/-- Thread 9 in each state, debug control permitted; the supervisor of cluster 0 running. -/
def inState (st : ThState) : State := (thread [(DYE_DBG.DBG_EN 1, 1)] {} 0).setTh 9 { st := st }
theorem witness_ThreadControl : (inState .idle).hasCluster (9 / 128) = true ∧ (inState .idle).ready 0 ∧ 0 / 128 = 9 / 128 ∧ (inState .idle).supv (9 / 128) = 0 ∧ ((inState .idle).th 9).st = .idle
    ∧ (inState .run).flag (DYE_DBG.DBG_EN 1) = true ∧ ((inState .run).th 9).st = .run ∧ ((inState .memwait).th 9).st = .memwait ∧ ((inState .wait).th 9).st = .wait
    ∧ ((inState .halt).th 9).st = .halt := by decide +kernel
/-- Group 2 of cluster 0 stalled: its one member waits for an event of the group. -/
def stalledGroup : State := (running [(CLU_WGRP.GROUP 0 9, 2)]).setTh 9 { st := .wait, wmask := 2 ^ 16 }
theorem witness_EscalationAndStalls : ((inState .idle).flag (ERR_STAT.FIRST_VALID 0) = false ∧ (inState .idle).ready 0 ∧ (0 : Nat) / 128 = 0 ∧ (inState .idle).supv 0 = 0)
    ∧ (stalledGroup.run = true ∧ stalledGroup.err.fatal = [] ∧ stalledGroup.isFatal (.cluster 0) = false ∧ FMap.get false stalledGroup.dy.stalled (0 * 16 + 2) = false ∧ stalledGroup.groupStalled 0 2 = true
      ∧ stalledGroup.supv 0 ∉ stalledGroup.groupMembers 0 2 ∧ stalledGroup.flag (CLU_STALL.VALID 0) = false ∧ stalledGroup.flag (ERR_STAT.FIRST_VALID 48) = false) := by decide +kernel
/-- Thread 9, not the supervisor: at odd and unmapped addresses, with locks out of order and at most 8, out of its group, and with an index past a table. -/
def faulty (r : Word) (locks : List Nat) : State := thread [(CLU_WGRP.GROUP 0 9, 2)] { g := [(1, r)], locks := locks }
/-- The word at 0x18 of thread 9's own part of engine 1's data memory is uncorrectable. -/
def badLoad : State := let s := thread [] { g := [(1, 0x18)] }; { s with dy := { s.dy with bad := [⟨17, 0x1018 / 8, true⟩] } }
theorem witness_FaultStopsTheThread : ((faulty 1 []).ready 9 ∧ 9 ≠ (faulty 1 []).supv 0 ∧ ((faulty 1 []).flag (DYE_DBG.DBG_EN 1) && (faulty 1 []).flag (DYE_DBG.HALT_ON_FAULT 1)) = false)
    ∧ (1 % 2 ^ 3 ≠ 0 ∧ memRegion 9 0x2000 (2 ^ 3) = .none ∧ 0x2000 % 2 ^ 3 = 0)
    ∧ ((∃ m ∈ ((faulty 3 [3]).th 9).locks, 3 ≤ m) ∧ (∀ m ∈ ((faulty 20 [1, 2, 3, 4, 5, 6, 7, 8]).th 9).locks, m < 20)
      ∧ 8 ≤ ((faulty 20 [1, 2, 3, 4, 5, 6, 7, 8]).th 9).locks.length ∧ ((faulty 1 []).th 9).locks.contains 1 = false ∧ ((faulty 1 []).th 9).rsv ≠ some (.loc 1)
      ∧ (faulty 1 []).wgrp 1 ≠ (faulty 1 []).wgrp 9 ∧ (faulty 1 []).rd (CLU_TBL.COUNT 0 0) ≤ 1 ∧ 0 + 2 ^ (faulty 1 []).rd (CLU_TBL.ENTRY 0 0) ≤ 32
      ∧ (faulty 1 []).flag (DYE_FRM.EN 1 0) = false ∧ ((faulty 3 [3]).th 9).locks ≠ [] ∧ ((faulty 1 []).th 9).rsv = none ∧ ((faulty 9000 []).th 9).r 1 = 9000 ∧ (faulty 9000 []).rd (CLU_TBL.COUNT 0 0) ≤ 9000)
    ∧ (badLoad.ready 9 ∧ 9 ≠ badLoad.supv 0 ∧ memRegion 9 0x18 8 = .dmem 0x1018 ∧ badLoad.mayRead 9 (.dmem 0x1018) 8 = true ∧ (Region.dmem 0x1018).variable = false
      ∧ badLoad.badWord 9 (.dmem 0x1018) 8 = some (0, 17, 0x1018)) := by decide +kernel
theorem witness_InstructionFrame : 9 ≠ (faulty 1 []).supv 0 ∧ (faulty 1 []).badWord 9 (.imem (4 * ((faulty 1 []).th 9).pc)) 4 = none ∧ gives (.add 9 1 2 3) (faulty 1 []) (fun _ => true) = true := by decide +kernel
/-- A step with an addition in front. -/
def stepping (c : Instr) : State := { State.reset with pending := [c] }
theorem witness_ThreadsStayLegal : (stepping (.add 9 1 2 3)).pending.all (fun c => plainInstr c) = true ∧ FMap.wf ({} : Thread) (stepping (.add 9 1 2 3)).dy.threads = true
    ∧ gives (.add 9 1 2 3) State.reset (fun _ => true) = true := by decide +kernel
theorem witness_threadsLegal : (stepping (.add 9 1 2 3)).threadsLegal := ⟨by decide +kernel, fun _ => rfl⟩
theorem witness_LocksStayExclusive : (stepping (.lck 9 0 1 0 3)).locksSound := by
  refine ⟨by decide +kernel, fun k n i _ _ _ => ⟨fun h => ?_, fun h => ?_⟩, fun k n i _ _ h => ?_, fun t _ => ⟨List.Pairwise.nil, Nat.zero_le _, fun n h => ?_⟩,
    fun k n _ _ => ⟨List.nodup_nil, fun i h => ?_⟩⟩
  · exact nomatch (show (none : Option Nat) = some i from h)
  · exact nomatch (show n ∈ ([] : List Nat) from h)
  · exact nomatch (show (none : Option Nat) = some i from h)
  · exact nomatch (show n ∈ ([] : List Nat) from h)
  · exact nomatch (show i ∈ ([] : List Nat) from h)


/-! ### The journal, the gate and the egress ports -/

/-- Four channels in use, each with a hot LUN 0, an archive LUN 1 and a BLOCK LUN 2 of eight blocks. -/
def media : List (Fld × Nat) :=
  (List.range 4).flatMap fun c => [(NDC_CFG.EN c, 1), (NDC_STAT.READY c, 1), (NDC_CFG.BPC c, 3), (NDC_GEOM.BLOCKS c, 8), (NDC_GEOM.PAGES_NATIVE c, 12)]
    ++ (List.range 3).flatMap (fun l => [(NDC_LUN_CFG.PRESENT c l, 1), (NDC_LUN_CFG.REGION c l, l + 1)])
def mediaLuns : FMap Lun := (List.range 4).flatMap fun c => (List.range 3).map fun l => (16 * c + l, ({ valid := true, logical := 7, spares := [7] } : Lun))
def cp (c b p : Nat) (k : CopyKind := .home) : Copy := { kind := k, ch := c, lun := 0, blk := b, page := p }
def plan4 : Plan := { mask := 15, width := 4 }
/-- A stripe over the four channels, its pages as given. -/
def stripe7 (pages : List Nat) : Stripe := { no := 7, plan := plan4, home := [cp 0 2 0, cp 1 2 0, cp 2 2 0], parity := cp 3 2 0, pages := pages }
def journal (k : Carafe) (fs : List (Fld × Nat) := []) : State :=
  { running (media ++ [(CRF_STAGE.SIZE_4K, 64), (CRF_STRIPE.NEXT, 8), (CRF_CFG.PROT, 1), (CRF_RET_CFG.HOT_RESERVE, 1)] ++ fs) with nand := { lun := mediaLuns }, crf := { k with plan := plan4 }, ticks := 10 ^ 9 }
def rec5 (typ : Nat := 0x70) (pl : List Byte := []) : Rec := { seq := 5, typ := typ, payload := pl }
def appends (r : Rec) (v : Option Nat) (cur : List Rec) : State := journal { issued := [{ r := r, tick := 0, verdict := v }], stripes := [stripe7 []], cur := { recs := cur } }
/-- A page of 253 units of records: the next record fills it. -/
def nearlyFull : List Rec := List.replicate 252 {}
def flushes : State := journal { stripes := [stripe7 []], cur := { recs := [rec5] } }
theorem witness_RecordsAppendInOrder :
    ((appends (rec5) (some 1) nearlyFull).sequencing = true ∧ (appends rec5 (some 1) nearlyFull).appending = true
      ∧ ({ r := rec5, tick := 0, verdict := some 1 } : Issued).fixed = true ∧ (appends rec5 (some 1) nearlyFull).openStripe.isSome = true
      ∧ (appends rec5 (some 1) nearlyFull).pageFits rec5 = true ∧ rec5.typ ≠ 9 ∧ rec5.typ ≠ 0x50 ∧ rec5.typ ≠ 0x51)
    ∧ ((appends (rec5 0x50 (leBytes 8 0)) none []).appending = true ∧ ({ r := rec5 0x50 (leBytes 8 0), tick := 0 } : Issued).fixed = true
      ∧ (appends (rec5 0x50 (leBytes 8 0)) none []).sequencing = true ∧ ((appends (rec5 0x50 (leBytes 8 0)) none []).wr RST_STATUS.KEYS_LOCKED 1).sealing = false)
    ∧ ((journal {}).openStripe = none ∧ (journal {}).space.flag CRF_STATUS.JOURNAL_FULL = false ∧ (journal {}).sealUnits ≠ []
      ∧ ((journal {}).space.applyPending.allocStripe ((journal {}).rd CRF_STRIPE.NEXT)).isSome = true ∧ (journal {}).ezn.mark = none ∧ (journal {}).crf.locals = [])
    ∧ (flushes.flushDue = true ∧ flushes.crf.cur.unsealed = false ∧ flushes.openStripe = some (stripe7 []) ∧ flushes.slotUp ((stripe7 []).home.getD 0 (stripe7 []).parity) = true
      ∧ (stripe7 []).replaced = false ∧ (stripe7 []).pages.length + 2 < (stripe7 []).plan.width) := by decide +kernel

/-- Page 3 of stripe 7, with one copy on its way. -/
def page3 : JPage := { stripe := 7, width := 4, recs := [rec5], first := 5, last := 5, copies := [cp 0 2 0] }
def donePage : NandDone := { ch := 0, lun := 0, op := { kind := 2, tag := .page 3 0 }, status := 0 }
def passing : State := { journal { pages := [(3, page3)], stripes := [stripe7 [3]] } with nand := { lun := mediaLuns, done := [donePage] } }
def watermarked : State := journal {} [(CRF_STATUS.WM_VALID, 1), (CRF_WMARK.SEQ, 4), (SLC_WM.EN 255, 1), (SLC_CFG.EN 255, 1)]
def slice255 : State := { watermarked.wr PCI_LINK.UP 1 with hq := { slices := [(255, { st := 0 })] }, pci := { fn1 := { busMaster := true } } }
/-- Three full stripes of three pages each, all in the durable run. -/
def migrates : State :=
  journal { stripes := [{ stripe7 [6, 7, 8] with no := 2 }, { stripe7 [3, 4, 5] with no := 1 }, { stripe7 [0, 1, 2] with no := 0 }], link := some 8,
            pages := (List.range 9).map (fun n => (n, { page3 with stripe := n / 3, copies := [] })) }
/-- The same when staging has let the pages go, each with a copy that passed. -/
def unstaged : State :=
  { migrates with crf := { migrates.crf with stripes := migrates.crf.stripes.map (fun t => { t with staged := false }),
                                             pages := (List.range 9).map (fun n => (n, { page3 with stripe := n / 3, copies := [{ cp (n % 3) 2 0 with st := .pass }] })) } }
def segment : State := journal { nextArch := 4096, released := [0] }
def rehomed : Rehome := { ch := 2, kind := 1, lun := 0, width := 4, plan := 1, first := 9, index := 9, count := 0, done := 1 }
def rehomes : State := journal { rehomes := [rehomed] }
theorem witness_ProgramsAndWatermark :
    (passing.nand.done.find? passing.isPage = some donePage ∧ (cp 0 2 0).st = .waiting ∧ passing.crf.locals = [] ∧ FMap.look passing.crf.pages 3 = some page3 ∧ page3.copies[0]? = some (cp 0 2 0) ∧ passing.ezn.mark = none)
    ∧ (slice255.run = true ∧ slice255.flag CRF_STATUS.WM_VALID = true ∧ slice255.wordBehind 255 = true ∧ slice255.wordGap 255 = true ∧ slice255.pf1On = true)
    ∧ (migrates.appending = true ∧ (migrates.crf.stripes.filter (fun t => !t.migrated)).getLast?.map (fun t => t.no) = some 0 ∧ (migrates.nextGroup 3).map (fun t => t.no) = [0, 1, 2]
      ∧ migrates.bpc plan4 = 3 ∧ migrates.crf.reading = none ∧ ((migrates.nextGroup 3).flatMap (fun u => u.pages)).flatMap migrates.hotSources = []
      ∧ ((unstaged.nextGroup 3).flatMap (fun u => u.pages)).flatMap unstaged.hotSources ≠ [] ∧ unstaged.appending = true ∧ unstaged.crf.reading = none
      ∧ (({ migrates with crf := { migrates.crf with arch := [(0, { plan := plan4 }), (1, { plan := plan4 }), (2, { plan := plan4 })], nextArch := 3 } } : State).programGroup 0 3
          (migrates.archChans plan4)).isSome = true)
    ∧ (segment.appending = true ∧ segment.erasable = some 0 ∧ segment.exporting [] = false)
    ∧ (rehomes.appending = true ∧ rehomes.crf.rehomes.find? (fun r => decide (r.done < 2)) = some rehomed ∧ rehomed.done = 1 ∧ rehomes.rehomePassed rehomed = true)
    ∧ ((running [(CRF_STATUS.REPLAYING, 1)]).run = true ∧ (running [(CRF_STATUS.REPLAYING, 1)]).flag CRF_STATUS.REPLAYING = true
      ∧ (running [(CRF_STATUS.REPLAYING, 1)]).flag CRF_STATUS.POWER_FAIL = false ∧ (running [(CRF_STATUS.REPLAYING, 1)]).crf.read = false)
    ∧ ({ running [(CRF_STATUS.REPLAYING, 1)] with crf := { read := true } } : State).resumable = true := by decide +kernel

/-- Port 63 with a held frame that depends on record 4, its own number `n`; W, when valid, at `w`. -/
def egress (n w : Nat) (fs : List (Fld × Nat)) : State :=
  let f : EFrame := { seq := n, dep := 4, data := [1], ring := 0, tag := 0, slice := 0, stamp := 0, entry := 0, gated := true }
  { running ([(CRF_STATUS.WM_VALID, 1), (PRG_WM.SEQ, w)] ++ fs) with eports := [(63, { held := [f], gatedQ := [f] })], ticks := 10 ^ 9 }
def sends (n : Nat) : EFrame := { seq := n, dep := 4, data := [1], ring := 0, tag := 0, slice := 0, stamp := 0, entry := 0, gated := true }
theorem witness_PortsTransmit :
    ((egress 5 4 []).gateOn = true ∧ ((egress 5 4 []).eport 63).held = [sends 5] ∧ (egress 5 4 [(SEQ_PST.LINK 63, 1)]).gate (sends 5) = .release
      ∧ (egress 5 4 [(SEQ_PST.LINK 63, 1)]).flag (SEQ_PST.LINK 63) = true ∧ (egress 5 4 []).flag (SEQ_PST.LINK 63) = false ∧ (egress 4 4 []).gate (sends 4) = .invalid
      ∧ (egress 5 3 []).gate (sends 5) = .hold)
    ∧ (egress 5 3 [(PRG_CFG.HOLD_LIMIT_US, 7)]).holdOver 63 = some (sends 5)
    ∧ ((egress 5 4 []).run = true ∧ ((egress 5 4 []).eport 63).tx = none ∧ ((egress 5 4 []).eport 63).next.isSome = true)
    ∧ ({ running [] with eports := [(0, { tx := some (sends 5) })] } : State).eport 0 = ({ tx := some (sends 5) } : EPort) := by decide +kernel
theorem witness_GateHoldsUntilDurable : gives .pourDecide (egress 5 4 [(SEQ_PST.LINK 63, 1)]) (fun u => decide ((u.eport 63).gatedQ.length = 2)) = true := by decide +kernel


/-! ### NAND channels -/

def nandOp (cls : Nat := 0) : NandOp := { kind := 2, tag := .page 3 0, blk := 4, cls := cls }
/-- Context 15 of channel 31 at PC 7, the last of the eight microwords of its bank, which is the word given; the bus; the tick. -/
def drip (x : Ctx) (word : Nat := 0) (bus : Option Nat := none) (now : Nat := 0) : State :=
  { running [(NDC_STAT.READY 31, 1)] with
    nand := { ctx := [(511, x)], bank := [(62, { used := 8, entry := [(0, 2 ^ 12), (1, 2 ^ 12), (2, 2 ^ 12 + 4095)], rows := [(31, 1)], words := [(7, word)] })],
              bus := if bus.isSome then [(31, bus)] else [] },
    ticks := now }
def issuing : Ctx := { op := some (nandOp), st := .issuing, pc := 7 }
/-- The microword of operands `a`, `b`, `w`, at the PC of a context that is ready for it. -/
def atPc (x : Ctx) (uop a b w : Nat) (bus : Option Nat := none) : Bool := decide ((drip x (uop * 2 ^ 58 + a * 2 ^ 48 + b * 2 ^ 32 + w) bus).dripReady 31 15 uop a b w)
theorem witness_DripBusWords : (atPc issuing 1 0 0 255 ∧ atPc issuing 1 0 0 255 (some 15) ∧ issuing.op = some nandOp)
    ∧ (atPc issuing 2 1 0 0 ∧ atPc issuing 2 8 1 0 ∧ atPc issuing 2 5 2 0 ∧ atPc issuing 2 4 3 (2 ^ 32 - 1))
    ∧ (atPc issuing 3 1 0 0 ∧ atPc issuing 3 4 0 (2 ^ 32 - 1))
    ∧ (atPc issuing 4 8 31 0 ∧ atPc issuing 4 8 31 7 ∧ issuing.lc.headD 0 < FMap.get 0 ((drip issuing).bank 31 issuing.bank).rows 31)
    ∧ (atPc issuing 6 0 0 0 ∧ atPc issuing 6 0 0 (2 ^ 18 - 1) ∧ atPc issuing 6 1 0 (113 * 2304) ∧ 113 * 2304 < 2 ^ 18)
    ∧ (atPc issuing 7 0 0 0 ∧ atPc issuing 7 3 0 (2 ^ 18 - 1)) ∧ (atPc issuing 15 0 0 0 ∧ atPc issuing 15 1 0 0) := by
  decide +kernel
def stacked : Ctx := { issuing with stack := [1, 2, 3] }
/-- The end of a sweep's read that needed level REFRESH_LVL. -/
def sweeps : Ctx := { issuing with op := some { kind := 3, tag := .sweep, blk := 4, cls := 2 }, lc := [1, 0, 0, 0] }
theorem witness_DripControlWords : (atPc issuing 0 0 0 0 ∧ atPc issuing 5 0 0 (2 ^ 18 - 1))
    ∧ (atPc issuing 8 0 0 0 ∧ atPc issuing 8 1 65535 9 (some 15) ∧ atPc issuing 8 2 0 1 ∧ atPc issuing 8 3 0 (2 ^ 32 - 1) ∧ atPc issuing 9 0 0 (2 ^ 32 - 1))
    ∧ (7 < ((drip issuing).bank 31 issuing.bank).used ∧ atPc issuing 10 0 0 7 ∧ atPc issuing 10 1 65535 7 ∧ atPc issuing 10 2 0 7 ∧ atPc issuing 10 3 3 7
      ∧ atPc issuing 10 4 0 7 ∧ atPc issuing 10 5 0 7 ∧ atPc issuing 10 6 0 7 ∧ atPc stacked 11 0 0 7 ∧ stacked.stack.length < 4)
    ∧ (stacked.stack = 1 :: [2, 3] ∧ atPc stacked 12 0 0 0) ∧ (atPc issuing 13 3 0 65535 ∧ atPc issuing 13 4 0 0 ∧ atPc issuing 13 7 0 0 ∧ issuing.op = some nandOp)
    ∧ atPc issuing 14 0 0 0 ∧ (atPc issuing 16 0 0 0 ∧ atPc issuing 16 0 0 6 ∧ nandOp.tag.owned = true)
    ∧ (atPc sweeps 16 0 0 0 ∧ (let s := (drip sweeps (16 * 2 ^ 58)).wr (NDC_REF_CFG.REFRESH_LVL 31) 1;
      s.dripReady 31 15 16 0 0 0 ∧ s.rd (NDC_REF_CFG.REFRESH_LVL 31) ≤ sweeps.lc.headD 0) ∧ sweeps.op.elim false (fun o => o.reads && o.tag == .sweep) = true)
    ∧ atPc issuing 0 1 0 0 ∧ ((drip { issuing with pc := 8 }).ctxReady 31 15 = true ∧ (drip issuing).dripOn 31 = true) := by
  decide +kernel
def waits (k t : Nat) : Ctx := { op := some nandOp, st := .waiting, wait := some (k, 0, t) }
def decoding : Ctx := { issuing with decs := [(1, 2304, 0, 0)] }
theorem witness_DripWaitsAndDispatch : (drip {}).dripOn 31 = true
    ∧ (((drip { needReset := true }).ctx 31 15).needReset = true ∧ ((drip { needReset := true }).ctx 31 15).op = none ∧ (drip {}).failing = false ∧ (drip {}).err.pend = none
      ∧ (drip {}).flag (DRP_CTRL.SUSPEND 31) = false ∧ (drip {}).lunLost 31 15 = false ∧ (drip {}).rd (DRP_STAT.ACTIVE_BANK 31) = 0
      ∧ (drip {}).dispatches 31 { kind := 3, tag := .own 0 } = true
      ∧ bitAt (FMap.get 0 ((drip {}).bank 31 0).entry 0) 12 = true ∧ bitAt (FMap.get 0 ((drip {}).bank 31 0).entry 1) 12 = true)
    ∧ ((drip { queue := [nandOp] }).nextOp 31 15 = some 0 ∧ ([nandOp])[0]? = some nandOp ∧ bitAt (FMap.get 0 ((drip {}).bank 31 0).entry nandOp.kind) 12 = true)
    ∧ ((waits 0 9).st = .waiting ∧ (drip (waits 0 9) 0 none 200).waitHolds 31 (waits 0 9) = true
      ∧ ([0, 1, 2, 3, 16].all (fun k => (drip (waits k 9) 0 none (10 ^ 6)).waitOver (waits k 9))) = true
      ∧ (waits 1 9).polled = false ∧ (let x := { waits 1 9 with polled := true }; x.pollAt + ceilDiv ((drip x 0 none (10 ^ 6)).rd (NDC_TIMING.POLL_NS 31) * 5) 4 ≤ (drip x 0 none (10 ^ 6)).ticks))
    ∧ (({ issuing with st := .transfer, din := some (0, 4, 0) } : Ctx).din = some (0, 4, 0) ∧ ([1, 2, 3, 4] : List Byte).length = 4
      ∧ ({ issuing with st := .transfer, din := some (3, 2304, 0) } : Ctx).st = .transfer)
    ∧ (decoding.decs = (1, 2304, 0, 0) :: [] ∧ 0 + 2500 ≤ (drip decoding 0 none 2500).ticks ∧ (zeros 2048).length = 2304 / 2304 * 2048
      ∧ ({ decoding with decs := [(3, 2304, 0, 0)], senses := 3 } : Ctx).decs = (3, 2304, 0, 0) :: [] ∧ 0 + 25000 ≤ (drip decoding 0 none 25000).ticks)
    ∧ (({ drip { issuing with st := .parked } with nand := { (drip { issuing with st := .parked }).nand with saucer := [(31, [15])] } } : State).busSaucer 31 = [15]
      ∧ (drip issuing).busOf 31 = none) := by decide +kernel

/-- LUN 0 of channel 2 as given, the LUN in use for block storage. -/
def lunState (x : Lun) (fs : List (Fld × Nat) := []) : State := { running (media ++ fs) with nand := { lun := [(32, x)] }, crf := { plan := plan4 } }
def bad4 : Lun := { valid := true, logical := 7, spares := [7], defects := [(4, 2)], used := [(4, true)], sweepDay := some 0 }
def queued : State := { running [] with nand := { ctx := [(32, { queue := [nandOp] })] } }
def retires (w : Nat) : State := asks (running [(NDC_STAT.READY 2, 1), (SLC_CFG.EN 0, 1)]) 0x0300 (leBytes 4 2) |> fun s => { s with crf := { plan := { mask := 15, width := w } } }
theorem witness_ChannelsAndTheirLuns :
    ((lunState {}).hasChannel 2 = true ∧ (lunState {}).run = true ∧ (lunState {}).chanUp 2 = true ∧ (lunState {}).lunLost 2 0 = false)
    ∧ (queued.hasChannel 2 = true ∧ queued.nand.todo = [] ∧ (queued.ctx 2 0).queue ≠ [] ∧ (queued.ctx 2 0).op = none ∧ nandOp.tag.owner ≠ 2)
    ∧ (running [(DRP_STAT.STANDBY_VALID 2, 1)]).flag (DRP_STAT.STANDBY_VALID 2) = true
    ∧ ((lunState {}).flag (NDC_LUN_CFG.PRESENT 2 0) = true ∧ (lunState {}).rd (NDC_LUN_CFG.REGION 2 0) ≠ 0 ∧ ((lunState {}).lun 2 0).valid = false
      ∧ ((lunState {}).lun 2 0).recs = [] ∧ (let s := (lunState {}).wr (NDC_MARK.EN 2 0) 1; s.factoryBad 2 1 [⟨1, 0, 0, 1⟩] = true ∧ 1 < s.rd (NDC_GEOM.BLOCKS 2)
        ∧ ((lunState {}).rd (NDC_GEOM.BLOCKS 2) ≠ 0)))
    ∧ (((lunState bad4).lun 2 0).valid = true ∧ 4 < bad4.logical ∧ FMap.get 0 bad4.defects (bad4.phys 4) = 2 ∧ bad4.spares = 7 :: [] ∧ (7 : Nat) ∉ ([] : List Nat)
      ∧ ({ bad4 with spares := [] } : Lun).spares = [])
    ∧ (bad4.subst = none ∧ ({ bad4 with defects := [], refresh := [4] } : Lun).refresh.contains 4 = true ∧ FMap.get 0 bad4.defects (bad4.phys 4) = 2)
    ∧ (bad4.sweepLeft = 0 ∧ bad4.sweepDay = some 0 ∧ bad4.nextSwept = some 4 ∧ 0 < (lunState bad4).progPages 2 0 4
      ∧ (lunState { bad4 with freed := [4] }).progPages 2 0 4 = 0)
    ∧ ((retires 4).request 0 0x0300 4 ∧ (retires 4).arg 0 0 1 = 2 ∧ (retires 4).arg 0 1 3 = 0 ∧ (retires 4).hasChannel 2 = true ∧ (retires 4).flag (NDC_STAT.RETIRED 2) = false
      ∧ (retires 4).nand.lost.contains 2 = false ∧ bitAt (retires 4).crf.plan.mask 2 = true ∧ (retires 4).crf.rehomes.length < 8 ∧ (retires 3).request 0 0x0300 4
      ∧ (retires 3).crf.plan.width < 4) := by decide +kernel


/-! ### Mailboxes, registers, the endpoint -/

/-- The link up, PF1 a bus master. -/
def linked (fs : List (Fld × Nat) := []) : State := { running ((PCI_LINK.UP, 1) :: fs) with pci := { fn1 := { busMaster := true } } }
def mail (m : Mailbox) : State := { linked [(SLC_CFG.EN 255, 1)] with mbox := if m = {} then [] else [(255, m)] }
def echoes (op : Nat) (pl : List Byte) : State := mail { st := .busy, cur := leBytes 2 op ++ leBytes 2 pl.length ++ zeros 12 ++ pl }
theorem witness_MailboxHandshake : (mail {}).pf0On = true ∧ ((mail {}).mb 255).st = .idle ∧ ((mail { st := .done }).mb 255).st = .done ∧ (mail {}).err.ask = none
    ∧ ({ mail { st := .done } with err := { ask := some (254, 1) } } : State).err.ask = some (254, 1)
    ∧ ({ mail { st := .busy, ans := some (0, []) } with err := { ask := some (255, 1) } } : State).err.ask.any (fun a => a.1 == 255) = true
    ∧ (((mail { st := .busy, ans := some (0, [1]) }).mb 255).ans = some (0, [1]) ∧ ((mail { st := .busy, ans := some (0, [1]) }).mb 255).cut = false
      ∧ ((mail { st := .busy, cut := true, ans := some (0, [1]) }).mb 255).cut = true)
    ∧ ((echoes 1 [7]).mbReady 255 0x0001 = true ∧ (echoes 1 [7]).sliceOn 255 = true ∧ ((echoes 1 [7]).mb 255).len ≤ 1008)
    ∧ ((echoes 2 []).mbReady 255 0x0002 = true ∧ (echoes 2 []).sliceOn 255 = true ∧ ((echoes 2 []).mb 255).len = 0) := by decide +kernel

def readOf (p : Purpose) : HostRead := { purpose := p, slice := 0, reqs := [{ addr := 0x1000, len := 4, tag := some 9 }] }
def reading (p : Purpose) : State := { linked with pci := { (linked []).pci with reads := [readOf p] } }
def halted5 : State := (running [(DYE_DBG.DBG_EN 0, 1)]).setTh 5 { st := .halt }
theorem witness_ReadsAndRegisters : ((linked []).pci.reads.find? (fun h => h.waits 16383)).isNone = true
    ∧ ((reading (.indirect 3)).pci.reads.find? (fun h => h.waits 9) = some (readOf (.indirect 3)) ∧ (readOf (.indirect 3)).reqs = [{ addr := 0x1000, len := 4, tag := some 9 }]
      ∧ (readOf (.indirect 3)).dead = false ∧ 4 ≤ ([] : List Byte).length + [1, 2, 3, (4 : Byte)].length)
    ∧ (let s : State := { reading (.grant 3 0 1) with ticks := 10 ^ 9 };
      s.pci.reads.find? (fun h => h.waits 9) = some (readOf (.grant 3 0 1)) ∧ s.timedOut (readOf (.grant 3 0 1)) 9 = true ∧ (readOf (.grant 3 0 1)).squashed = false)
    ∧ State.reset.rd RST_STATUS.STATE = 0 ∧ (running []).rd RST_STATUS.STATE ≠ 0
    ∧ ((linked []).flag PCI_LINK.UP = true ∧ (linked []).pci.perst = false ∧ (linked []).isFatal .pcie = false ∧ (linked []).pci.fn1.flr = false ∧ (linked []).recovery = false
      ∧ (linked []).pci.fn0.flr = false ∧ (linked []).pci.fn0.d3 = false
      ∧ (linked []).pci.fn0.msixEn = false ∧ 16 * 288 - 4 + (zeros 4).length ≤ 16 * 288 ∧ barPf1 .pf0Bar0 = false ∧ barSize .pf0Bar0 < barSize .pf0Bar0 + 4)
    ∧ (halted5.debugOk 5 .jtag = true ∧ (halted5.th 5).st = .halt) := by decide +kernel

def flrs : State := { linked with pci := { fn0 := { flr := true }, fn1 := { flr := true } }, ticks := 1250000 }
theorem witness_FunctionsAndLink : (linked []).pci.fn1.busMaster = true ∧ (linked []).flag PCI_LINK.UP = true ∧ (linked []).err.pend = none ∧ (linked []).pci.fn1.flr = false ∧ (linked []).pci.fn0.flr = false
    ∧ flrs.pci.fn1.flr = true ∧ flrs.pci.fn0.flr = true ∧ flrs.flrOver flrs.pci.fn1 = true ∧ flrs.flrOver flrs.pci.fn0 = true ∧ (running []).flag PCI_LINK.UP = false ∧ (running []).pci.perst = false ∧ (running []).isFatal .pcie = false
    ∧ bitAt ((running [(PWR_DOM.ON 1, 2 ^ 11)]).rd (PWR_DOM.ON 1)) 11 = true := by decide +kernel

/-- Window 15, one page at page 1 of the BAR, onto GDDR7 page 2. -/
def window : State :=
  linked [(PCI_WINA.EN 15, 1), (PCI_WINA.BAR_4K 15, 1), (PCI_WINA.SIZE_4K 15, 1), (PCI_WINT.TGT_4K 15, 2), (PCI_WINA.RD 15, 1), (PCI_WINA.WR 15, 1)]
def shadow : State := linked [(PCI_SWINA.EN 15, 1), (PCI_SWINA.KIND 15, 2)]
theorem witness_PeerWindows : ((linked []).pf0On = true ∧ (linked []).commitCase = 0 ∧ shadow.commitCase = 4)
    ∧ ((List.range 16).find? (fun k => window.winStarts k 5 0x1FFF) = some 15 ∧ window.rd (PCI_WINA.KIND 15) = 0 ∧ window.winWhole 15 0x1FFF 1 = true
      ∧ window.flag (PCI_WINA.RD 15) = true ∧ window.flag (PCI_WINA.WR 15) = true ∧ window.flag PCI_LINK.UP = true ∧ window.pci.fn1.flr = false ∧ window.pci.fn1.d3 = false ∧ window.recovery = false ∧ window.pci.perst = false ∧ window.isFatal .pcie = false)
    ∧ (List.range 16).find? (fun k => window.winStarts k 5 0x2000) = none ∧ window.flag PCI_WIN_LOG.VALID = false := by decide +kernel

/-- Slice 7 in one of its states, with a slice reset asked for by mailbox 0. -/
def slice7 (st : Nat) : State := { running [(SLC_CFG.EN 7, 1)] with hq := { slices := [(7, { st := st, asker := some 0 })] }, ticks := 10 ^ 9, mbox := [(0, { st := .busy })] }
def resetsSlice : State := { asks (running [(SLC_CFG.EN 7, 1)]) 0x0003 ([7, 2, 0, 0] ++ leBytes 4 1000000) with hq := { slices := [(7, { st := 3 })] } }
theorem witness_SliceResets : (resetsSlice.request 0 0x0003 8 ∧ resetsSlice.arg 0 0 1 = 7 ∧ resetsSlice.arg 0 1 1 = 2 ∧ resetsSlice.arg 0 2 2 = 0 ∧ resetsSlice.arg 0 4 4 ≤ 1000000
      ∧ resetsSlice.flag (SLC_CFG.EN 7) = true ∧ (resetsSlice.slc 7).st ≠ 1 ∧ (resetsSlice.slc 7).st ≠ 2)
    ∧ (((slice7 1).slc 7).st = 1 ∧ (slice7 1).drained 7 = true ∧ ((slice7 1).slc 7).asker = some 0 ∧ ((slice7 1).mb 0).st = .busy ∧ ((slice7 2).slc 7).st = 2
      ∧ ((slice7 1).slc 7).began + usTicks ((slice7 1).slc 7).limit ≤ (slice7 1).ticks) := by decide +kernel


/-! ### Rings -/

/-- Submission ring 7 of 16 granules, and delivery ring 7 with interrupts on; slice 0 runs. -/
def ringDesc (cls : Nat) (ahead : Bool := false) : RDesc := { w1 := 9 + 2 ^ 5 + cls * 2 ^ 7 + (if ahead then 2 ^ 10 else 0), w2 := 1 }
def rings (x : SubRing) (d : DlvRing) (cls : Nat := 0) (ahead : Bool := false) : State :=
  { linked [(SLC_CFG.EN 0, 1), (SEQ_CFG.WINDOW_NS, 1), (HQ_BKLG.SIZE_4K, 1), (HQ_SBKLG.LIMIT_MIB 0, 1), (TMP_STATUS.STAMPING, 1), (HQ_CFG.RETRY_MAX, 2)] with
    hq := { desc := [(7, ringDesc cls ahead), (32775, { w1 := 9 + 2 ^ 5, w2 := 2 ^ 11 })], sub := [(7, x)], dlv := [(7, d)], slices := [(0, { st := 0 })] },
    merge := { open_ := true } }
/-- A CTRL entry of type 0x40 with four bytes of data, and one that asks for the LEN of a storage entry. -/
def ctrlEntry : List Byte := [0x11, 1, 9, 0] ++ leBytes 4 (0x40 + 4 * 2 ^ 9) ++ zeros 8 ++ [1, 2, 3, 4] ++ zeros 12
def badEntry : List Byte := [0x11, 9, 9, 0] ++ zeros 28
def runs : SubRing := { st := .run }
/-- The head's first read has no OWN bit yet. -/
def notYet : SubRing := { runs with got := zeros 32, retries := 1 }
def pushed : SubRing := { st := .run, push := Memory.writeBytes [] 0 ctrlEntry, pushed := 15 }
theorem witness_SubmissionRings :
    (((rings runs {}).sub 7).st = .run ∧ ((rings runs {}).slc ((rings runs {}).sdesc 7).slice).st ≠ 1 ∧ ((rings runs {}).slc ((rings runs {}).sdesc 7).slice).st ≠ 2)
    ∧ ((16 : Nat) % 2 ^ 32 ≠ runs.a ∧ idxSub 16 runs.a ≤ ((rings runs {}).sdesc 7).gran ∧ idxSub 16 runs.h ≤ ((rings runs {}).sdesc 7).gran
      ∧ ¬(idxSub 17 runs.a ≤ ((rings runs {}).sdesc 7).gran))
    ∧ (504 % 8 = 0 ∧ (zeros 8).length % 8 = 0 ∧ zeros 8 ≠ [] ∧ 504 + (zeros 8).length ≤ 512)
    ∧ (let e := Memory.readBytes pushed.push 0 512;
      bitAt pushed.pushed 0 = true ∧ (rings pushed {}).pushTaken 7 0 e = true ∧ bitAt (field e 0 1) 0 = true ∧ eOpc e ≠ 0 ∧ pushed.h % 16 + eLen e ≤ 16
        ∧ ((rings pushed {}).sdesc 7).cls = 0 ∧ eOpc e = 1 ∧ eIndirect e = false ∧ (rings pushed {}).refuse 7 (e.take (32 * eLen e)) = none)
    ∧ (32 * eLen ctrlEntry ≤ ctrlEntry.length ∧ (rings { runs with got := ctrlEntry } {}).refuse 7 (ctrlEntry.take (32 * eLen ctrlEntry)) = none)
    ∧ (bitAt (field badEntry 0 1) 0 = true ∧ eOpc badEntry ≠ 0 ∧ (rings { runs with got := badEntry } {}).refuse 7 (badEntry.take (32 * eLen badEntry)) = some 1)
    ∧ (rings { runs with a := 3 } {}).nextGrant = some (7, 1)
    ∧ ((rings runs {} 0 true).ringRuns 7 = true ∧ ((rings runs {} 0 true).sdesc 7).en = true ∧ ((rings runs {} 0 true).sdesc 7).ahead = true
      ∧ (rings runs {} 0 true).mayReceive 7 1 = true ∧ (rings runs {} 0 true).unread 7 = 0 ∧ runs.grants = 0 ∧ runs.polling = false ∧ runs.refetch = false
      ∧ runs.polledAt = none ∧ (let s : State := { rings { runs with polledAt := some 0 } {} 0 true with ticks := 10 ^ 9 }; 0 + nsTicks (bits (s.sdesc 7).w2 11 16) ≤ s.ticks ∧ s.ringRuns 7 = true))
    ∧ (bitAt (field notYet.got 0 1) 0 = false ∧ 8 ≤ notYet.got.length ∧ notYet.refetch = false ∧ notYet.retries < (rings notYet {}).rd HQ_CFG.RETRY_MAX
      ∧ (rings { notYet with retries := 2 } {}).rd HQ_CFG.RETRY_MAX ≤ 2)
    ∧ (let s : State := { rings { runs with refetch := true } {} with ticks := 10 ^ 9 }; (s.sub 7).refetch = true ∧ (s.sub 7).readAt + nsTicks (s.rd HQ_CFG.RETRY_NS) ≤ s.ticks) := by decide +kernel

def done1 : Group := .done 1 0 9 0 0 7
def delivers (d : DlvRing) : State := let s := rings {} d; { s with hq := { s.hq with out := [(7, done1)] } }
def dlvRuns : DlvRing := { st := .run }
theorem witness_DeliveryRings :
    ((delivers dlvRuns).hq.out = (7, done1) :: [] ∧ ((delivers dlvRuns).dlv 7).st = .run ∧ dlvRuns.skips done1 = false ∧ dlvRuns.redo = [] ∧ dlvRuns.backlog = []
      ∧ (delivers dlvRuns).fits 7 done1.gran = true ∧ dlvRuns.wd % 16 + done1.gran ≤ 16)
    ∧ ((delivers { dlvRuns with wd := 16 }).fits 7 done1.gran = false ∧ (delivers { dlvRuns with wd := 16 }).backlogOk 0 (32 * done1.gran) = true)
    ∧ ((delivers { st := .stopped }).dlv 7).st = .stopped ∧ ((delivers { st := .overflow }).dlv 7).st = .overflow ∧ (∀ r, done1 ≠ .record r)
    ∧ (({ dlvRuns with wd := 2, bounds := [1, 2] } : DlvRing).releaseOk 1 = true ∧ ({ dlvRuns with wd := 2, bounds := [1, 2] } : DlvRing).releaseOk 3 = false
      ∧ ((rings {} dlvRuns).ddesc 7).irqEn = true ∧ ((rings {} dlvRuns).slc ((rings {} dlvRuns).ddesc 7).slice).st ≠ 1)
    ∧ (({ dlvRuns with armed := true, since := 1 } : DlvRing).armed = true ∧ 0 < ({ dlvRuns with armed := true, since := 1 } : DlvRing).since
      ∧ (let s : State := { rings {} { dlvRuns with armed := true, since := 1 } with ticks := 10 ^ 9 }; (s.dlv 7).sinceAt + nsTicks (bits (s.ddesc 7).w2 24 16) ≤ s.ticks))
    ∧ (dlvRuns.backlog = [] ∧ dlvRuns.redo = [] ∧ dlvRuns.since = 0 ∧ ((rings {} dlvRuns).slc ((rings {} dlvRuns).ddesc 7).slice).st ≠ 2) := by
  refine ⟨by decide +kernel, by decide +kernel, by decide +kernel, by decide +kernel, fun _ => nofun, by decide +kernel, by decide +kernel, by decide +kernel⟩

def ringAsk (op : Nat) (pl : List Byte) (x : SubRing) (d : DlvRing) : State := asks (rings x d) op pl
def restarts : State := ringAsk 0x0400 (leBytes 2 7 ++ zeros 2 ++ leBytes 4 5 ++ zeros 8) { st := .error } {}
def restartsDlv : State := ringAsk 0x0400 (leBytes 2 32775 ++ leBytes 2 1 ++ leBytes 4 5 ++ zeros 8) {} { st := .stopped }
/-- The records up to 99 have gone with segment 0; a restart below them, and a ring that lost completions there. -/
def gone99 (s : State) : State := { s.wr SEQ_NEXT.NEXT 100 with crf := { erased := [0] } }
def erasedRing : State := gone99 (ringAsk 0x0400 (leBytes 2 32775 ++ leBytes 2 0 ++ leBytes 4 5 ++ leBytes 8 3) {} { st := .stopped })
theorem witness_RingRestartStateResume :
    (restarts.request 0 0x0400 16 ∧ restarts.arg 0 0 2 = 7 ∧ restarts.arg 0 2 2 = 0 ∧ restarts.arg 0 8 8 = 0 ∧ (restarts.sdesc 7).en = true
      ∧ (restarts.slc (restarts.sdesc 7).slice).st ≠ 1 ∧ (restarts.slc (restarts.sdesc 7).slice).st ≠ 2 ∧ (restarts.sub 7).st = .error)
    ∧ (restartsDlv.request 0 0x0400 16 ∧ restartsDlv.arg 0 0 2 = 2 ^ 15 + 7 ∧ restartsDlv.arg 0 2 2 ≤ 1 ∧ (restartsDlv.ddesc 7).en = true ∧ (restartsDlv.dlv 7).st = .stopped
      ∧ restartsDlv.unresumed 0 = false ∧ (restartsDlv.cursorFor 7 true 0).1 ≠ 0x0104)
    ∧ (erasedRing.request 0 0x0400 16 ∧ erasedRing.arg 0 0 2 = 2 ^ 15 + 7 ∧ erasedRing.arg 0 2 2 = 0 ∧ (erasedRing.ddesc 7).en = true ∧ (erasedRing.dlv 7).st = .stopped
      ∧ erasedRing.unresumed 0 = false ∧ (erasedRing.cursorFor 7 false (erasedRing.arg 0 8 8)).1 = 0x0104)
    ∧ ((ringAsk 0x0401 (leBytes 4 7) runs dlvRuns).request 0 0x0401 4 ∧ (ringAsk 0x0401 (leBytes 4 7) runs dlvRuns).arg 0 2 2 = 0
      ∧ (ringAsk 0x0401 (leBytes 4 7) runs dlvRuns).arg 0 0 2 = 7 ∧ (ringAsk 0x0401 (leBytes 4 32775) runs dlvRuns).arg 0 0 2 = 2 ^ 15 + 7)
    ∧ ((ringAsk 0x0402 (leBytes 4 32775) runs { st := .overflow }).request 0 0x0402 4 ∧ (ringAsk 0x0402 (leBytes 4 32775) runs { st := .overflow }).arg 0 0 2 = 2 ^ 15 + 7
      ∧ ((ringAsk 0x0402 (leBytes 4 32775) runs { st := .overflow }).dlv 7).st = .overflow
      ∧ (ringAsk 0x0402 (leBytes 4 32775) runs { st := .overflow }).gone 0 = false
      ∧ (gone99 (ringAsk 0x0402 (leBytes 4 32775) runs { st := .overflow })).request 0 0x0402 4 ∧ (gone99 (ringAsk 0x0402 (leBytes 4 32775) runs { st := .overflow })).gone 0 = true) := by decide +kernel


/-! ### Block storage -/

/-- Namespace 1 of 64 LBAs, owned by slice 0, its map at GDDR7 page 1; the block LUNs of `media`. -/
def store (c : Option BlkCmd) (g : Memory := []) (b : Blk := {}) : State :=
  { running (media ++ [(HQ_BLK_NS.EN 0, 1), (HQ_BLK_NS.SIZE 0, 64), (HQ_BLK_STAT.READY, 1), (SLC_CFG.EN 0, 1), (SLC_CFG.ADMIN 0, 1), (HQ_BLK_MAP.BASE_4K, 1)]) with
    nand := { lun := mediaLuns }, gddr := g, blk := { b with cmds := c.toList } }
/-- The 64 bytes of an entry, and the command with its host data in the device. -/
def blkCmd (opc nsid arg0 arg1 arg2 : Nat) (data : List Byte := []) (phase : Nat := 2) : BlkCmd :=
  { id := 1, ring := 7, entry := 0, index := 0, tag := 3, slice := 0, opc := opc, nsid := nsid, stamp := 0, phase := phase, data := data,
    bytes := zeros 8 ++ leBytes 8 arg0 ++ leBytes 4 arg1 ++ leBytes 4 arg2 ++ zeros 16 ++ leBytes 4 (if opc = 0x10 ∨ opc = 0x11 ∨ opc = 0x18 then 4096 else 0) ++ (if opc = 0x12 ∨ 0x1A ≤ opc then [0] else [1]) ++ zeros 19 }
def readLast : BlkCmd := blkCmd 0x10 1 63 0 0
def writeLast : BlkCmd := blkCmd 0x11 1 63 0 0 (zeros 4096)
def trimLast : BlkCmd := blkCmd 0x13 1 0 0 0 (zeros 4 ++ leBytes 4 1 ++ leBytes 8 63)
def trimNone : BlkCmd := blkCmd 0x13 1 0 0 0 (zeros 16)
def flushCmd : BlkCmd := blkCmd 0x12 1 0 0 0
/-- LBA 63 is unit 0 of page 0 of block 3 of BLOCK LUN 2 of channel 0; a READ of it to be submitted, and one whose page has been read, or is POISON. -/
def entry63 (poison : Bool) : Memory := Memory.writeBytes [] (4096 + 8 * 63) (leBytes 8 ((if poison then 3 else 1) + 128 * 2 + 2 ^ 11 * 3))
def readMapped : State := store (some readLast) (entry63 false)
def readBack (poison : Bool) : State :=
  let s := store (some { readLast with phase := 3 }) (entry63 poison) { done := [(({ lun := 2, blk := 3 } : Wl).key, { lun := 2, blk := 3, items := [.unit 1 63 1 (zeros 4096) none] })] }
  { s with nand := { s.nand with done := [{ ch := 0, lun := 2, op := { kind := 4, tag := .read 1, blk := 3 }, status := 0 }] } }
/-- A FLUSH behind a WRITE that has not placed yet; a WRITE to a namespace that is encrypted. -/
def flushBehind : State := { store none with blk := { cmds := [writeLast, { flushCmd with id := 2, stamp := 16 }] } }
def encrypted : State := ((store (some writeLast)).wr (HQ_BLK_NS.ENC 0) 1)
theorem witness_StorageCommands :
    ((store none).run = true ∧ (blkCmd 0x10 1 64 0 0 [] 0).phase = 0 ∧ (store (some (blkCmd 0x10 1 64 0 0 [] 0))).blkCheck (blkCmd 0x10 1 64 0 0 [] 0) = some (0, 0x80)
      ∧ (store (some (blkCmd 0x10 1 64 0 0 [] 0))).blk.cmds.head? = some (blkCmd 0x10 1 64 0 0 [] 0))
    ∧ ((store (some readLast)).turnOf 0x10 readLast ∧ readLast.nsid ≤ 16 ∧ (store (some readLast)).readTurn readLast = true
      ∧ (store (some readLast)).atRestReady readLast.nsid = true ∧ ((store (some readLast)).readLba 1 (readLast.arg0 + 0) [] []).1 = 0 ∧ readLast.nlb = 1)
    ∧ ((store (some writeLast)).turnOf 0x11 writeLast ∧ (store (some writeLast)).mayPlace writeLast = true ∧ (store (some writeLast)).atRestReady 1 = true
      ∧ ((store (some writeLast)).placeAll [.unit 1 63 1 ((store (some writeLast)).writeData writeLast 0) none]).isSome = true)
    ∧ ((store (some trimLast)).turnOf 0x13 trimLast ∧ (store (some trimLast)).mayPlace trimLast = true ∧ trimLast.extent = [(63, 1)] ∧ 63 + 1 ≤ (store none).nsSize 1
      ∧ ((store (some trimLast)).placeAll [.trim 1 63 1 1]).isSome = true ∧ trimNone.extent = [] ∧ (store (some trimNone)).turnOf 0x13 trimNone)
    ∧ ((store (some flushCmd)).turnOf 0x12 flushCmd ∧ (store (some flushCmd)).earlierCmds flushCmd = []) := by decide +kernel

/-- What the state of a READ whose page has been read must meet; the LBA's outcome is `o`. -/
def readWitness (s : State) (c : BlkCmd) (o : Nat) : Bool :=
  let mine := s.nand.done.filter (fun d => d.op.tag == .read c.id)
  s.run && (sortBy BlkCmd.before (s.blk.cmds.filter (fun d => d.opc == 0x10))).head? == some c && c.phase == 3 && s.atRestReady c.nsid
    && !s.waitsFor (fun t => t == .read c.id) && mine.all (fun d => decide (d.status ≤ 2)) && (s.readLba c.nsid (c.arg0 + 0) (badPlaces mine) []).1 == o
theorem witness_StorageReads : (readMapped.turnOf 0x10 readLast ∧ readMapped.readTurn readLast = true ∧ readMapped.blockPages readLast ≠ [])
    ∧ readWitness (readBack false) { readLast with phase := 3 } 0 = true ∧ readWitness (readBack true) { readLast with phase := 3 } 1 = true
    ∧ (flushBehind.turnOf 0x12 { flushCmd with id := 2, stamp := 16 } ∧ writeLast ∈ flushBehind.earlierCmds { flushCmd with id := 2, stamp := 16 } ∧ writeLast.changes = true
      ∧ writeLast.nsid = ({ flushCmd with id := 2, stamp := 16 } : BlkCmd).nsid ∧ writeLast.phase < 4)
    ∧ (encrypted.turnOf 0x11 writeLast ∧ encrypted.mayPlace writeLast = true ∧ encrypted.atRestReady 1 = true ∧ (encrypted.nsCtx 1).isSome = true) := by decide +kernel

/-- An image of one empty segment. -/
def image : List Byte :=
  leBytes 4 0x4D494C59 ++ leBytes 2 1 ++ leBytes 2 1 ++ leBytes 8 320 ++ zeros 4 ++ zeros 2 ++ [0xB1] ++ zeros 233 ++ [1] ++ zeros 63
def fwCommit : BlkCmd := blkCmd 0x1D 0 320 0 0
def downloaded : State := store (some fwCommit) (Memory.writeBytes [] (State.reset.dlBuf) image)
def doneCmd (opc arg2 : Nat) : BlkCmd := { blkCmd opc 1 1 0 arg2 with phase := 4 }
def asked : State := { store (some (doneCmd 0x1A 0xC2)) with hq := { sub := [(7, { open_ := [{ entry := 0, index := 0, fence := false }] })] } }
theorem witness_StorageAdminCommands :
    ((store (some (blkCmd 0x18 1 0 0 0))).turnOf 0x18 (blkCmd 0x18 1 0 0 0) ∧ (blkCmd 0x18 1 0 0 0).sel = 0 ∧ (blkCmd 0x18 1 0 0 1).sel = 1 ∧ (blkCmd 0x18 1 0 0 2).sel = 2)
    ∧ ((store (some (blkCmd 0x19 0 0 0 0x1C0))).turnOf 0x19 (blkCmd 0x19 0 0 0 0x1C0) ∧ (blkCmd 0x19 0 0 0 0x1C0).sel = 0xC0 ∧ bitAt (blkCmd 0x19 0 0 0 0x1C0).arg2 8 = true
      ∧ (blkCmd 0x19 0 0 0 0xC1).sel = 0xC1 ∧ (blkCmd 0x19 0 0 0 2).sel = 2)
    ∧ (store (some (blkCmd 0x1A 1 1 0 0xC2))).turnOf 0x1A (blkCmd 0x1A 1 1 0 0xC2) ∧ (store (some (blkCmd 0x1B 1 0 0 0xC2))).turnOf 0x1B (blkCmd 0x1B 1 0 0 0xC2)
    ∧ ((store (some (blkCmd 0x1C 0 0 0 0 [1, 2, 3, 4]))).turnOf 0x1C (blkCmd 0x1C 0 0 0 0 [1, 2, 3, 4])
      ∧ (store (some (blkCmd 0x1C 0 0 0 0 [1, 2, 3, 4]))).fwTurn (blkCmd 0x1C 0 0 0 0 [1, 2, 3, 4]) = true)
    ∧ (downloaded.turnOf 0x1D fwCommit ∧ downloaded.fwTurn fwCommit = true ∧ downloaded.ro.apply = none ∧ downloaded.flag CFG_FLASH.WP = false ∧ fwCommit.arg0 + 4096 ≤ downloaded.slotSize
      ∧ downloaded.imageOk (Memory.readBytes downloaded.gddr downloaded.dlBuf (min fwCommit.arg0 downloaded.slotSize)) = true)
    ∧ ((downloaded.wr CFG_FLASH.WP 1).flag CFG_FLASH.WP = true)
    ∧ ((store (some (doneCmd 0x1A 0xC2))).blk.cmds.find? (fun d => d.phase == 4) = some (doneCmd 0x1A 0xC2) ∧ (doneCmd 0x1A 0xC2).opc = 0x1A ∧ (doneCmd 0x1A 0xC2).sct = 0
      ∧ (doneCmd 0x1A 0xC2).sel = 0xC2 ∧ 1 ≤ (doneCmd 0x1A 0xC2).nsid)
    ∧ (asked.sub (doneCmd 0x1A 0xC2).ring).open_.any (fun e => e.entry == (doneCmd 0x1A 0xC2).entry) = true := by decide +kernel

/-- A unit of LBA 63 of namespace 1 in wordline 5, its program ended well; a block of one mapped unit, and one with none; the page of that unit read. -/
def unit63 : Wl := { ch := 0, lun := 2, blk := 3, items := [.unit 1 63 1 (zeros 16) none], serial := 1 }
def doneWl : NandDone := { ch := 0, lun := 2, op := { kind := 6, tag := .wordline 5 }, status := 0 }
def wordline : State := let s := store none [] { prog := [(5, unit63)], serial := 1 }; { s with nand := { s.nand with done := [doneWl] } }
def relocates (mapped : Bool) (ds : List NandDone := []) : State :=
  let s := store none (if mapped then Memory.writeBytes [] (4096 + 8 * 63) (leBytes 8 (unit63.ent 0)) else []) { done := [(unit63.key, unit63)] }
  { s with nand := { s.nand with done := ds, lun := s.nand.lun.map (fun e => if e.1 = 2 then (2, { e.2 with used := [(3, true)], stripeBlk := some 4, stripePg := 0, alloc := 5 }) else e) } }
def relocDone : NandDone := { ch := 0, lun := 2, op := { kind := 4, tag := .relocRead 2, blk := 3, cls := 2 }, status := 0 }
def relocMine : OpTag → Bool := fun t => t == .relocRead 2
/-- A checkpoint whose pointer page has passed; one that is due. -/
def pointer : State :=
  let s := store none [] { ckpt := some { serial := 7, map := [] } }
  { s with nand := { s.nand with done := [{ ch := 0, lun := 2, op := { kind := 6, tag := .mapPtr 7 false }, status := 0 }] } }
def ckptDue : State := store none [] { placed := 255 * 2 ^ 30 }
theorem witness_StorageMedium :
    (let s : State := { store none [] { openWl := [(2, unit63)] } with ticks := 10 ^ 9 };
      s.run = true ∧ (FMap.get {} s.blk.openWl 2 : Wl).items ≠ [] ∧ (FMap.get {} s.blk.openWl 2 : Wl).since + usTicks (s.blk.gather.getD (s.rd HQ_BLK_CFG.GATHER_US)) ≤ s.ticks)
    ∧ (wordline.nand.done = [doneWl] ∧ doneWl.op.tag = .wordline 5 ∧ doneWl.status = 0 ∧ FMap.look wordline.blk.prog 5 = some unit63 ∧ unit63.items = [.unit 1 63 1 (zeros 16) none]
      ∧ unit63.map = none ∧ (∀ e ∈ wordline.blk.done, e.2.serial ≤ unit63.serial))
    ∧ (pointer.nand.done.map (fun d => d.op.tag) = [.mapPtr 7 false] ∧ pointer.blk.ckpt = some { serial := 7, map := [] } ∧ pointer.run = true)
    ∧ ((relocates true).flag HQ_BLK_STAT.READY = true ∧ (relocates true).rd (NDC_LUN_CFG.REGION 0 2) = 3 ∧ (relocates true).chanUp 0 = true ∧ (relocates true).chanReads 0 = true
      ∧ (relocates true).lunLost 0 2 = false ∧ ((relocates true).lun 0 2).valid = true ∧ (relocates true).waitsFor relocMine = false
      ∧ (relocates true).nand.done.any (fun d => relocMine d.op.tag) = false ∧ (relocates true).victim 0 2 = some 3
      ∧ (relocates true).liveIn 0 2 3 = [(1, 63, unit63.ent 0)] ∧ (relocates true).toMove 0 2 3 = [(1, 63, unit63.ent 0)] ∧ entPoison (unit63.ent 0) = false)
    ∧ (let s := relocates true [relocDone];
      s.waitsFor relocMine = false ∧ (s.takeDone relocMine).1.head? = some relocDone ∧ relocDone.op.blk = 3 ∧ (s.takeDone relocMine).2.waitsFor relocMine = false
        ∧ ((s.takeDone relocMine).2.moveUnits 0 2 3 [relocDone]).isSome = true)
    ∧ ((relocates false).victim 0 2 = some 3 ∧ (relocates false).liveIn 0 2 3 = [] ∧ (relocates false).readsBlock 0 2 3 = false ∧ (relocates false).waitsFor relocMine = false)
    ∧ (ckptDue.flag HQ_BLK_STAT.READY = true ∧ ckptDue.pointerLuns ≠ [] ∧ ckptDue.blk.ckpt = none ∧ ckptDue.rd HQ_BLK_CFG.MAP_CKPT_GIB * 2 ^ 30 ≤ ckptDue.blk.placed
      ∧ ckptDue.beginCkpt.isSome = true) := by decide +kernel


/-! ### Cipher contexts and jobs -/

/-- A request of admin slice 0 that concerns context 255, which holds a plain exportable key. -/
def plainCtx : CCtx := { loaded := true, source := 1, usage := 3, attr := 1, key := zeros 32 }
def cipherAsk (op : Nat) (pl : List Byte) : State := { asks (running []) op pl with cipher := { ctxs := [(255, plainCtx)] } }
def loads : State := cipherAsk 0x0700 ([255, 1, 0, 0] ++ leBytes 2 1 ++ [1, 1, 1, 32] ++ leBytes 2 9 ++ zeros 56 ++ zeros 64)
def saves : State := cipherAsk 0x0701 [255, 1, 0, 0]
def destroys : State := cipherAsk 0x0702 [255, 0, 0, 0]
/-- Queue 63 with the entry at GDDR7 page 1: its operation, flags, context and lengths; a context that queue may use. -/
def jobQueue (e : List Byte) (c : Cipher) : State :=
  { running [(CPH_JQA.EN 63, 1), (CPH_JQA.BASE_4K 63, 1), (CPH_JQA.ENTRIES_LOG2 63, 4), (CPH_JQA.CTX_HI 63, 255), (CPH_JQD.DATA_SIZE_4K 63, 16), (CPH_STATUS.NONCE_READY, 1)] with
    gddr := Memory.writeBytes [] 4096 e, cipher := { c with ctxs := [(255, plainCtx)] } }
def jobEntry (opc ctx aad len ext : Nat) : List Byte :=
  [1, BitVec.ofNat 8 opc, BitVec.ofNat 8 ctx, 0, BitVec.ofNat 8 ext] ++ zeros 3 ++ leBytes 8 0x2000 ++ leBytes 8 0x3000 ++ leBytes 4 aad ++ leBytes 4 len ++ zeros 32
def hashJob (st : Option Nat) : Job := { queue := 63, index := 0, unit := 3, entry := jobEntry 5 0 0 4 0, status := st }
def polls (e : List Byte) : State := jobQueue e { polled := [(63, 0)] }
theorem witness_CipherContextsAndJobs :
    (loads.request 0 0x0700 132 ∧ loadLen (loads.mb 0).payload = some 132 ∧ loads.arg 0 2 2 = 0 ∧ loads.arg 0 0 1 = 255 ∧ loads.ctxPinned 255 = false
      ∧ (match loads.loadBody 1 ((loads.mb 0).payload.drop 4) with | .ok _ => true | .error _ => false) = true)
    ∧ (saves.request 0 0x0701 4 ∧ saves.arg 0 1 1 = 1 ∧ saves.arg 0 2 2 = 0 ∧ (saves.cctx 255).loaded = true ∧ (saves.cctx 255).source = 1 ∧ bitAt (saves.cctx 255).attr 0 = true)
    ∧ (destroys.request 0 0x0702 4 ∧ destroys.arg 0 1 3 = 0 ∧ destroys.ctxPinned 255 = false ∧ (destroys.cctx 255).loaded = true)
    ∧ (cipherAsk 0x0703 []).request 0 0x0703 0
    ∧ (let s := jobQueue (jobEntry 5 0 0 4 0) {};
      s.cipherOn = true ∧ s.flag (CPH_JQA.EN 63) = true ∧ s.ro.quietQ.contains 63 = false ∧ bitAt (leNat (Memory.readBytes s.gddr (s.jobAddr 63 (s.rd (CPH_JQS.NEXT 63))) 8)) 0 = true
        ∧ FMap.look s.cipher.polledAt 63 = none)
    ∧ (let s : State := { jobQueue (zeros 64) { polledAt := [(63, 0)] } with ticks := 10 ^ 9 };
      s.cipherOn = true ∧ s.flag (CPH_JQA.EN 63) = true ∧ FMap.look s.cipher.polledAt 63 = some 0 ∧ 0 + nsTicks (s.rd CPH_CFG.POLL_NS) ≤ s.ticks
        ∧ bitAt (leNat (Memory.readBytes s.gddr (s.jobAddr 63 (s.rd (CPH_JQS.NEXT 63))) 8)) 0 = false)
    ∧ ((jobQueue [] { jobs := [hashJob (some 1)] }).cipher.jobs.find? (fun j => j.queue == 63) = some (hashJob (some 1)) ∧ (hashJob none).status = none
      ∧ jobOpc (hashJob none).entry = 5 ∧ (jobQueue [] {}).jobAddr 63 0 + 8 ≤ jobDst (hashJob none).entry)
    ∧ ((polls (jobEntry 0 0 0 4 0)).nextJob = some (63, 0) ∧ (polls (jobEntry 0 0 0 4 0)).freeUnit.isSome = true ∧ (polls (jobEntry 0 0 0 4 0)).jobStatus 63 (jobEntry 0 0 0 4 0) = some 1
      ∧ (polls (jobEntry 2 255 0 4 0)).jobStatus 63 (jobEntry 2 255 0 4 0) = none ∧ jobFresh (jobEntry 2 255 0 4 0) = false
      ∧ (polls (jobEntry 1 255 0 4 0)).jobStatus 63 (jobEntry 1 255 0 4 0) = none ∧ jobFresh (jobEntry 1 255 0 4 0) = true
      ∧ ((polls (jobEntry 1 255 0 4 0)).takeNonce 3).isSome = true) := by decide +kernel


/-! ### The group -/

/-- Member 2 of four, its link end 0 to member 1, in a role; the link end as given. -/
def group (role : Nat) (fs : List (Fld × Nat)) (e : Ezn) (link : Nat := 3) : State :=
  { running ([(EZN_CFG.MEMBER, 2), (EZN_CFG.MEMBERS, 4), (EZN_LINK_CFG.EN 0, 1), (EZN_LINK_CFG.PEER 0, 1), (EZN_LINK_STAT.STATE 0, link), (EZN_LINK_STAT.CREDITS 0, 64),
      (EZN_STATUS.ROLE, role), (EZN_STATUS.PRIMARY, 1), (EZN_GROUP_ID.ID, 5), (EZN_STATUS.LEVEL, 1)] ++ fs) with ezn := e, ticks := 10 ^ 10 }
def head (lseq : BitVec 32) (epoch : Fin 65536 := 0) (grp : BitVec 64 := 5) : EzHead :=
  { fver := 1, src := 1, dst := 2, flags := 0, credit := 1, lseq := lseq, lack := 0, epoch := epoch, group := grp }
def unacked : Ezn := { links := [(0, { unacked := [{ lseq := 1, ftype := 4, tries := 8 }] })] }
theorem witness_LinkEndsAndCredits :
    ((group 2 [] {} 1).ezOn 0 = true ∧ (group 2 [] {} 1).linkPresent 0 = true ∧ (group 2 [] {} 1).linkState 0 < 2)
    ∧ ((group 2 [] {}).takesFrame 0 (head 0) 0 ∧ ((group 2 [] {}).ezl 0).waiting = [] ∧ 2 ≤ (group 2 [] {}).linkState 0 ∧ (head 0 0 6).group.toNat ≠ (group 2 [] {}).rd EZN_GROUP_ID.ID)
    ∧ (((group 2 [] unacked).ezl 0).unacked ≠ [] ∧ ((group 2 [] unacked).ezl 0).ackAt + 2500 ≤ (group 2 [] unacked).ticks ∧ (∃ f ∈ ((group 2 [] unacked).ezl 0).unacked, 8 ≤ f.tries))
    ∧ (((group 2 [] {}).ezl 0).txAt + 1250 ≤ (group 2 [] {}).ticks ∧ (group 2 [] {}).freeLink 0)
    ∧ (((group 2 [] { links := [(0, { conf := some 7, wm := some 9 })] }).ezl 0).conf = some 7 ∧ ((group 2 [] { links := [(0, { conf := some 7, wm := some 9 })] }).ezl 0).wm = some 9
      ∧ (group 2 [] { links := [(0, { conf := some 7, wm := some 9 })] }).freeLink 0) := by decide +kernel

/-- A follower that expects record 5; a record's bytes. -/
def expects : Ezn := { expect := some 5 }
def recBytes (q : Nat) : List Byte := leBytes 8 q ++ zeros 56
def voting : Ezn := { claim := some { epoch := 9, votes := [3] } }
def claimPl (l : Nat) : List Byte := leBytes 2 9 ++ zeros 6 ++ leBytes 8 l
def statePl : List Byte := [3, 1] ++ zeros 6 ++ leBytes 2 4 ++ zeros 14
theorem witness_FramesOfTheGroup :
    ((group 2 [] expects).takesFrame 0 (head 1) 1 ∧ (group 2 [] expects).rd EZN_STATUS.ROLE = 2 ∧ (group 2 [] expects).peer 0 = (group 2 [] expects).rd EZN_STATUS.PRIMARY
      ∧ (group 2 [] expects).ezn.expect = some 5 ∧ (parseRecs ((recBytes 5).length / 64) (recBytes 5)).map (fun r => r.seq) = [5]
      ∧ (parseRecs ((recBytes 6).length / 64) (recBytes 6)).map (fun r => r.seq) = [6] ∧ seqIndex 5 ≠ 0 ∧ expects.gaps = [] ∧ expects.inbox = [] ∧ expects.flush = false
      ∧ bitAt (head 1).flags 1 = false ∧ (group 3 [] expects).takesFrame 0 (head 1) 1 ∧ (group 3 [] expects).rd EZN_STATUS.ROLE = 3)
    ∧ ((group 1 [] { members := [(1, { started := true })] }).takesFrame 0 (head 1) 2 ∧ (group 1 [] { members := [(1, { started := true })] }).primary = true
      ∧ ((group 1 [] { members := [(1, { started := true })] }).ezm 1).started = true ∧ ((group 1 [] { members := [(1, { started := true })] }).ezm 1).joining = false)
    ∧ ((group 2 [] { lastW := some 6 }).takesFrame 0 (head 1) 3 ∧ (group 2 [] { lastW := some 6 }).ezn.lastW = some 6 ∧ 6 < field (leBytes 8 7) 0 8
      ∧ (group 2 [(CRF_STATUS.WM_VALID, 1), (CRF_WMARK.SEQ, 6)] { lastW := some 6 }).rd CRF_WMARK.SEQ < field (leBytes 8 7) 0 8
      ∧ (group 2 [(CRF_STATUS.WM_VALID, 1), (CRF_WMARK.SEQ, 7)] { lastW := some 6 }).flag CRF_STATUS.WM_VALID = true
      ∧ field (leBytes 8 7) 0 8 ≤ (group 2 [(CRF_STATUS.WM_VALID, 1), (CRF_WMARK.SEQ, 7)] { lastW := some 6 }).rd CRF_WMARK.SEQ)
    ∧ ((group 2 [] {} 2).takesFrame 0 (head 1) 4 ∧ field statePl 1 1 = 1 ∧ field statePl 12 1 ≠ (group 2 [] {} 2).me ∧ (group 2 [] {} 2).rd EZN_STATUS.EPOCH < field statePl 8 2)
    := by
  refine ⟨?_, ?_, ?_, ?_⟩ <;> decide +kernel
theorem witness_claimsAndControl :
    ((group 4 [(EZN_STATUS.PRIMARY, 3), (CRF_LOCAL.SEQ, 7)] {}).takesFrame 0 (head 1) 5 ∧ (group 4 [(EZN_STATUS.PRIMARY, 3), (CRF_LOCAL.SEQ, 7)] {}).peer 0 ≠ 3
      ∧ (group 4 [(EZN_STATUS.PRIMARY, 3), (CRF_LOCAL.SEQ, 7)] {}).flag EZN_STATUS.ISLAND_LOST = false ∧ field (claimPl 7) 8 8 = 7 ∧ field (claimPl 6) 8 8 < 7)
    ∧ ((group 4 [(EZN_STATUS.PRIMARY, 3)] voting).takesFrame 0 (head 1) 6 ∧ field (leBytes 2 9 ++ [1]) 0 2 = 9 ∧ field (leBytes 2 9 ++ [1]) 2 1 = 1 ∧ (1 : Nat) ∉ [3]
      ∧ (group 4 [(EZN_STATUS.PRIMARY, 3)] voting).threshold ≤ [3].length + 2
      ∧ (group 4 [(EZN_STATUS.PRIMARY, 3)] { claim := some { epoch := 9, votes := [1] } }).takesFrame 0 (head 1) 6 ∧ (1 : Nat) ∈ [1])
    ∧ ((group 4 [(EZN_STATUS.VOTED_EPOCH, 5)] {}).takesFrame 0 (head 1 5) 7 ∧ (group 4 [(EZN_STATUS.VOTED_EPOCH, 5)] {}).rd EZN_STATUS.VOTED_EPOCH = (head 1 5).epoch
      ∧ (group 2 [] {}).takesFrame 0 (head 1 5) 7 ∧ (group 2 [] {}).rd EZN_STATUS.EPOCH ≤ (head 1 5).epoch ∧ (group 2 [] {}).ezn.inbox = [] ∧ (group 2 [] {}).ezn.flush = false)
    ∧ ((group 3 [] {}).takesFrame 0 (head 1) 8 ∧ (group 3 [] {}).rd EZN_STATUS.ROLE = 3 ∧ (group 3 [] {}).primary = false ∧ (group 3 [] {}).peer 0 = (group 3 [] {}).rd EZN_STATUS.PRIMARY
      ∧ field [1] 0 1 = 1 ∧ field [2] 0 1 = 2) := by
  refine ⟨?_, ?_, ?_, ?_⟩ <;> decide +kernel
/-- One more vote is needed than the claim and this one give. -/
theorem witness_voteShort : ((group 4 [(EZN_STATUS.PRIMARY, 3)] { claim := some { epoch := 9 } }).takesFrame 0 (head 1) 6)
    ∧ ([] : List Nat).length + 2 < (group 4 [(EZN_STATUS.PRIMARY, 3)] { claim := some { epoch := 9 } }).threshold := by decide +kernel

def silent : Ezn := { members := [(1, { heard := some 0, started := true })] }
/-- Members 1 and 3 have lost the primary as well, in the same epoch; this member has the highest L. -/
def elects : State :=
  group 4 [(EZN_STATUS.BACKFILL_DONE, 1), (CRF_LOCAL.SEQ, 7), (EZN_MEMBER.LOST_PRIMARY 1, 1), (EZN_MEMBER.LOST_PRIMARY 3, 1)]
    { members := [(1, { stateAt := some (10 ^ 10) }), (3, { stateAt := some (10 ^ 10) })] }
/-- A primary with record 5 in its open page, member 1 JOINING or not started. -/
def serves (x : Member) (role1 : Nat := 3) : State :=
  let s := group 1 [(EZN_MEMBER.ROLE 1, role1), (EZN_MEMBER.SLOT_VALID 1, 1), (EZN_MEMBER.SLOT_VALID 0, 1), (EZN_MEMBER.SLOT_VALID 3, 1), (EZN_STATUS.PRIMARY, 2),
    (EZN_MEMBER.BACKFILL_DONE 0, 1), (EZN_MEMBER.BACKFILL_DONE 1, 1), (EZN_MEMBER.BACKFILL_DONE 3, 1), (EZN_LEVEL.LEVEL_MAX, 2), (EZN_MEMBER.LEVEL_MAX 0, 2),
    (EZN_MEMBER.LEVEL_MAX 1, 2), (EZN_MEMBER.LEVEL_MAX 3, 2)] { members := [(1, x)] }
  { s with crf := { cur := { recs := [rec5] } } }
def groupAsk (s : State) (op : Nat) (pl : List Byte) : State := asks s op pl
theorem witness_TimersAndRequestsOfTheGroup :
    ((group 2 [] {}).isFatal .ezoon = false ∧ 2 ≤ (group 2 [] {}).groupN ∧ (group 2 [] {}).ezn.hbAt + usTicks ((group 2 [] {}).rd EZN_TMO.HB_US) ≤ (group 2 [] {}).ticks
      ∧ (group 2 [] silent).within ((group 2 [] silent).ezm 1).heard = false ∧ (group 2 [(CRF_CFG.MODE, 1)] silent).rd CRF_CFG.MODE ≠ 0)
    ∧ ((group 4 [] {}).ezn.claim = none ∧ (group 4 [] {}).ezn.electAt + usTicks ((group 4 [] {}).rd EZN_TMO.ELECT_WAIT_US) ≤ (group 4 [] {}).ticks
      ∧ (group 4 [] {}).electors.length + 1 < (group 4 [] {}).threshold)
    ∧ (elects.electors = [1, 3] ∧ 3 ≤ elects.groupN ∧ elects.threshold ≤ elects.electors.length + 1 ∧ elects.flag EZN_STATUS.BACKFILL_DONE = true
      ∧ (∀ j ∈ elects.electors, elects.rd (EZN_MEMBER_L.L j) < elects.rd CRF_LOCAL.SEQ)
      ∧ elects.highestEpoch + 1 < 2 ^ 16)
    ∧ ((group 4 [] voting).ezn.claim = some { epoch := 9, votes := [3] } ∧ 0 + 2 * usTicks ((group 4 [] voting).rd EZN_TMO.ELECT_WAIT_US) ≤ (group 4 [] voting).ticks
      ∧ 3 ≤ (group 4 [] voting).groupN ∧ 9 + 1 < 2 ^ 16 ∧ (group 4 [] { claim := some { epoch := 65535 } }).ezn.claim = some { epoch := 65535 } ∧ 2 ^ 16 ≤ 65535 + 1)
    ∧ ((group 1 [] silent).primary = true ∧ ((group 1 [] silent).ezm 1).started = true ∧ (group 1 [] silent).within ((group 1 [] silent).ezm 1).heard = false)
    ∧ ((group 1 [] { wait := true }).ezn.wait = true ∧ (group 1 [] { wait := true }).ezn.mark = none ∧ (group 1 [] { wait := true }).ezn.closing = none ∧ modeNeeds ((group 1 [] { wait := true }).rd CRF_CFG.MODE) ≤ (group 1 [] { wait := true }).followers.length)
    ∧ ((group 3 [(CRF_CFG.MODE, 1), (EZN_TMO.FORM_S, 1)] {}).ezn.formAt + (group 3 [(CRF_CFG.MODE, 1), (EZN_TMO.FORM_S, 1)] {}).rd EZN_TMO.FORM_S * 1250000000 ≤ 10 ^ 10
      ∧ ((group 3 [(CRF_CFG.MODE, 1)] {}).ezm 1).heard = none)
    ∧ ((serves { started := true, next := some 5 }).primary = true ∧ ((serves { started := true, next := some 5 }).bestLink 1).isSome = true
      ∧ (serves { started := true, next := some 5 }).itemsFrom 5 = [.record rec5] ∧ rec5.bytes.length ≤ 8192
      ∧ ((serves { started := true, next := some 5 }).ezm 1).paidAt ≤ (serves { started := true, next := some 5 }).ticks) := by decide +kernel
theorem witness_requestsOfTheGroup :
    (groupAsk (serves {}) 0x0600 []).request 0 0x0600 0
    ∧ (let s := groupAsk (serves {}) 0x0601 (leBytes 4 1); s.request 0 0x0601 4 ∧ s.arg 0 1 3 = 0 ∧ s.arg 0 0 1 ∈ s.followers ∧ s.ezn.wait = false)
    ∧ (let s := groupAsk (group 5 [] {}) 0x0602 (leBytes 4 1); s.request 0 0x0602 4 ∧ s.sequencing = false ∧ s.seesPrimary = false ∧ s.arg 0 0 1 = 1 ∧ s.highestEpoch + 1 < 2 ^ 16)
    ∧ (let s := groupAsk (serves { stateAt := some (10 ^ 10) }) 0x0603 (leBytes 8 1 ++ leBytes 8 5); s.request 0 0x0603 16 ∧ s.arg 0 1 7 = 0 ∧ s.primary = true ∧ s.arg 0 0 1 ∈ s.others
      ∧ s.roleOf 1 = 3 ∧ s.presentM 1 = true ∧ s.arg 0 8 8 = 5 ∧ s.oldest ≤ 5 ∧ (∃ r ∈ s.journal, r.seq = 5))
    ∧ (let s := groupAsk (serves {} 2) 0x0604 (leBytes 4 2); s.request 0 0x0604 4 ∧ s.arg 0 1 3 = 0 ∧ s.rd EZN_STATUS.LEVEL < 2 ∧ 2 ≤ s.groupMax
      ∧ (∀ j ∈ s.others, j ∈ s.followers ∧ s.flag (EZN_MEMBER.BACKFILL_DONE j) = true) ∧ s.flag EZN_LEVEL.RAISE_PENDING = false ∧ s.ezn.raising = none) := by decide +kernel


/-! ### Sections, images and attestation -/

/-- A section without items, generation `g`. -/
def section_ (id g : Nat) : List Byte :=
  let h := leBytes 4 0x54434553 ++ leBytes 2 1 ++ leBytes 2 id ++ leBytes 8 g ++ zeros 8 ++ leBytes 8 (crc64 []) ++ zeros 24
  h ++ leBytes 8 (crc64 h)
/-- The default flash with a section's bytes in copy 0, and its commit record. -/
def flash (id g : Nat) (committed : Bool) : Memory :=
  let (a, n) := State.reset.copyAt id 0
  let b := section_ id g
  let m := Memory.writeBytes [] a (b.map (fun x => ~~~ x))
  if committed then Memory.writeBytes m (a + n - 4096) ((commitRecord (copyTarget id 0) g b.length (crc64 b) 0 0 0).map (fun x => ~~~ x)) else m
def flashAsk (m : Memory) (op : Nat) (pl : List Byte) : State := { asks (running []) op pl with ro := { flash := m } }
def applies : State := flashAsk (flash 0x0F 3 true) 0x0200 (leBytes 2 0x0F ++ zeros 2 ++ leBytes 8 3)
def sectionWrites : State := flashAsk [] 0x0201 (leBytes 2 0x0F ++ zeros 2 ++ leBytes 4 (512 * 503) ++ zeros 512)
def sectionCommits : State := flashAsk (flash 0x0F 3 false) 0x0202 (leBytes 2 0x0F ++ zeros 2 ++ leBytes 4 64 ++ leBytes 8 (crc64 (section_ 0x0F 3)))
def imageWrites : State := flashAsk [] 0x0204 (leBytes 4 (512 * 81911) ++ zeros 4 ++ zeros 512)
def imageCommits : State := flashAsk (Memory.writeBytes [] (State.reset.slotAt 0) (image.map (fun x => ~~~ x))) 0x0205 (leBytes 8 320)
def waitsToApply (id : Nat) : State :=
  { running [] with ro := { apply := some { id := id, gen := 3, source := 2, bytes := section_ id 3, asker := 0 } }, merge := { open_ := true } }
def attests (off : Nat) : State := { asks (running []) 0x0207 (zeros 32 ++ leBytes 4 off ++ zeros 4) with ro := { record := zeros 100 } }
theorem witness_applySection : applies.request 0 0x0200 12 ∧ applies.arg 0 0 2 = 0x0F ∧ applies.arg 0 2 2 = 0 ∧ applies.ro.apply = none ∧ 0x0F ∈ sectionIds
    ∧ (let t := applies.served 0
      ∃ c ∈ ((t.cands t.bootedImage 0x0F).find? (fun c => c.gen == applies.arg 0 4 8)).toList,
        ¬((t.sec 0x0F).gen = applies.arg 0 4 8 ∧ (t.sec 0x0F).source = c.source) ∧ t.fullCheck c 0x0F = none ∧ t.liveCheck 0x0F (itemsOf (c.bytes.take (secLen c.bytes))) = none) := by
  decide +kernel
theorem witness_SectionsImagesAndAttestation :
    (sectionWrites.request 0 0x0201 520 ∧ sectionWrites.arg 0 2 2 = 0 ∧ sectionWrites.arg 0 4 4 % 512 = 0
      ∧ sectionWrites.arg 0 4 4 + 512 + 4096 ≤ ((sectionWrites.served 0).copyAt 0x0F ((sectionWrites.served 0).standby 0x0F)).2 ∧ sectionWrites.flag CFG_FLASH.WP = false)
    ∧ (let t := sectionCommits.served 0
      let at_ := t.copyAt 0x0F (t.standby 0x0F)
      let b := t.flashBytes at_.1 (min (sectionCommits.arg 0 4 4) at_.2)
      sectionCommits.request 0 0x0202 16 ∧ at_.2 ≠ 0 ∧ sectionCommits.arg 0 4 4 + 4096 ≤ at_.2 ∧ sectionCommits.arg 0 4 4 = secLen b
        ∧ t.fullCheck { gen := secGen b, source := 2 + t.standby 0x0F, bytes := b, crc := secCrcOk b && crc64 b == sectionCommits.arg 0 8 8 } 0x0F = none
        ∧ (∀ x ∈ t.cands t.bootedImage 0x0F, x.gen < secGen b))
    ∧ (imageWrites.request 0 0x0204 520 ∧ imageWrites.arg 0 4 4 = 0 ∧ imageWrites.arg 0 0 4 % 512 = 0 ∧ imageWrites.arg 0 0 4 + 512 + 4096 ≤ (imageWrites.served 0).slotSize)
    ∧ (let t := imageCommits.served 0
      let img := t.flashBytes (t.slotAt t.spareSlot) (min (imageCommits.arg 0 0 8) t.slotSize)
      imageCommits.request 0 0x0205 8 ∧ img.length = imageCommits.arg 0 0 8 ∧ t.imageOk img = true)
    ∧ ((waitsToApply 0x0F).ro.apply.isSome = true ∧ (waitsToApply 0x0F).atSafePoint { id := 0x0F, gen := 3, source := 2, bytes := section_ 0x0F 3, asker := 0 } = true
      ∧ (let s : State := { waitsToApply 0x0F with ticks := 10 ^ 12 }; s.ro.apply.elim false (fun a => decide (a.at_ + msTicks (s.rd CFG_CTRL.APPLY_LIMIT_MS) ≤ s.ticks)) = true))
    ∧ ((flashAsk [] 0x0203 (leBytes 4 0x13)).request 0 0x0203 4 ∧ (flashAsk [] 0x0203 (leBytes 4 0x13)).arg 0 2 2 = 0 ∧ 0x13 ∈ sectionIds)
    ∧ (flashAsk [] 0x0206 []).request 0 0x0206 0
    ∧ ((attests 0).request 0 0x0207 40 ∧ (attests 0).arg 0 36 4 = 0 ∧ (attests 0).arg 0 32 4 = 0 ∧ (attests 99).arg 0 32 4 ≠ 0 ∧ (attests 99).arg 0 32 4 < (attests 99).ro.record.length)
    ∧ (({ State.reset with fuses := { debugLock := true } } : State).fuses.debugLock = true ∧ State.reset.fuses.debugLock = false
      ∧ (({ State.reset with cipher := { ctxs := [(5, { source := 2 })] } } : State).cctx 5).source = 2) := by
  decide +kernel


/-! ### Errors, resets, power and the sideband -/

theorem settled (s : State) (h : s.err.fatal = []) : s.fatalSettled := fun _ hc => absurd (h ▸ hc) List.not_mem_nil
def first (n code cls : Nat) (info : Nat := 0) : List (Fld × Nat) :=
  [(ERR_STAT.FIRST_VALID n, 1), (ERR_FIRST.CODE n, code), (ERR_FIRST.CLASS n, cls), (ERR_FIRST_INFO.INFO n, info)]
def cluster5 (fs : List (Fld × Nat)) (k : Carafe) (hold : Bool) : State :=
  { running fs with err := { fatal := [.cluster 5] }, crf := k, merge := { hold := hold } }
def device (fs : List (Fld × Nat)) : State := { running fs with err := { fatal := [.core], device := true } }
def resetAsk (kind word : Nat) : State := asks (running []) 0x0500 (leBytes 4 kind ++ leBytes 4 word)
def resetAsked : State := { running [] with err := { ask := some (3, 4), askAt := some 0 }, mbox := [(3, { st := .done })], ticks := 12500000 }
def domainAsk (fatal : Bool) : State := { asks (running []) 0x0501 [1, 63, 0, 0] with err := { fatal := if fatal then [.cluster 63] else [] } }
def recalAsk : State :=
  asks (running [(SEQ_PORT.EN 2, 1), (SEQ_PORT.LANE0 2, 63), (SEQ_PST.LINK 2, 1), (TMP_LDIE.VALID 63, 1)]) 0x0502 [63, 0, 0, 0]
def injectAsk (c : Nat) : State := asks (running []) 0x0503 (leBytes 1 1 ++ leBytes 1 c ++ leBytes 2 0x0101 ++ zeros 12)
theorem witness_ErrorsAndResets :
    ((running []).noLog 127 = true ∧ (running []).noLog 48 = false ∧ (running []).isFatal (unitOfRecord 48 1 0 0) = false ∧ (running []).rd (ERR_STAT.FIRST_VALID 48) = 0
      ∧ ackAtOnce 48 1 = false ∧ (running (first 48 1 3)).rd (ERR_STAT.FIRST_VALID 48) = 1 ∧ (running (first 48 1 3)).rd (ERR_STAT.SECOND_VALID 48) = 0
      ∧ (running (first 48 1 3)).rd (ERR_STAT.FIRST_VALID 0) = 0 ∧ (running ((ERR_STAT.SECOND_VALID 48, 1) :: first 48 1 3)).rd (ERR_STAT.SECOND_VALID 48) = 1)
    ∧ (stopsDevice (unitOfRecord 1 0x0101 0 0) = true ∧ (running []).isFatal (unitOfRecord 1 0x0101 0 0) = false ∧ (running []).noLog 1 = false)
    ∧ ((running (first 127 1 3)).flag (ERR_STAT.FIRST_VALID 127) = true ∧ (running []).flag (ERR_STAT.FIRST_VALID 127) = false)
    ∧ ((on ((ERR_FIRST.SUB 0, 1) :: first 0 1 3 0x0101 ++ first 1 0x0101 3)).firstIs 0 1 3 1 0x0101
      ∧ (on ((ERR_FIRST.SUB 0, 1) :: first 0 1 3 0x0101 ++ first 1 0x0101 3)).rd (ERR_STAT.FIRST_VALID 1) = 1 ∧ stopsDevice (unitOf 1 (bits 0x0101 0 16) (bits 0x0101 16 8)) = true
      ∧ (on (first 0 1 3)).flag (ERR_FIRST.INJECTED 0) = false
      ∧ (let s : State := { on (first 0 1 3) with ticks := 10 ^ 10 }; s.err.escAt + msTicks (s.rd ERR_CFG.ESC_WAIT_MS) ≤ s.ticks))
    ∧ ((cluster5 [] {} false).run = true ∧ (cluster5 [] {} false).isFatal (.cluster 5) = true ∧ FMap.look (cluster5 [] {} false).dy.remaps 5 = none
      ∧ (cluster5 [] {} false).flag (ERR_CLU_FB.EN 5) = false ∧ (cluster5 [(ERR_CLU_FB.EN 5, 1), (ERR_CLU_FB.FB_CLUSTER 5, 6)] {} true).flag (ERR_CLU_FB.EN 5) = true
      ∧ (cluster5 [(ERR_CLU_FB.EN 5, 1), (ERR_CLU_FB.FB_CLUSTER 5, 6)] {} true).hasCluster 6 = true
      ∧ (cluster5 [(ERR_CLU_FB.EN 5, 1), (ERR_CLU_FB.FB_CLUSTER 5, 6)] {} true).isFatal (.cluster 6) = false
      ∧ (cluster5 [] {} false).merge.hold = false ∧ (let k : Carafe := { issued := [{ r := order1, tick := 0, verdict := some 1 }] };
        (cluster5 [] k true).merge.hold = true ∧ ∀ r ∈ (cluster5 [] k true).crf.issued, r.fixed = true))
    ∧ ((device []).err.device = true ∧ (device []).err.halted = false ∧ (device []).spent = true ∧ (device []).flag ERR_CFG.FATAL_HALT = false ∧ (device []).rd RST_STATUS.STATE = 1
      ∧ (device [(ERR_CFG.FATAL_HALT, 1)]).flag ERR_CFG.FATAL_HALT = true ∧ (device [(ERR_CFG.FATAL_HALT, 1)]).spent = true)
    ∧ ((running []).recovery = false ∧ (running []).err.pend = none ∧ (running []).flag PWR_STATUS.POWER_FAIL = false) := by decide +kernel
theorem witness_serviceRequests :
    ((resetAsk 1 0x54455352).request 0 0x0500 8 ∧ (resetAsk 1 0x54455352).arg 0 1 3 = 0 ∧ (resetAsk 2 0x54455352).arg 0 0 1 = 2 ∧ (resetAsk 1 0x54455352).arg 0 4 4 = 0x54455352
      ∧ (resetAsk 1 5).arg 0 4 4 ≠ 0x54455352)
    ∧ (resetAsked.err.ask = some (3, 4) ∧ resetAsked.err.askAt = some 0 ∧ 0 + msTicks 10 ≤ resetAsked.ticks ∧ resetAsked.err.pend = none
      ∧ resetAsked.flag PWR_STATUS.POWER_FAIL = false)
    ∧ ((domainAsk true).request 0 0x0501 4 ∧ (domainAsk true).arg 0 2 2 = 0 ∧ (domainAsk true).arg 0 0 1 = 1 ∧ (domainAsk true).arg 0 1 1 = 63 ∧ (domainAsk true).hasCluster 63 = true
      ∧ (domainAsk true).isFatal (.cluster 63) = true ∧ (domainAsk false).isFatal (.cluster 63) = false)
    ∧ (recalAsk.request 0 0x0502 4 ∧ recalAsk.tamp.recalReq = [] ∧ recalAsk.arg 0 1 3 = 0 ∧ recalAsk.arg 0 0 1 = 63 ∧ recalAsk.portOfLane 63 = some 2
      ∧ recalAsk.flag (SEQ_PST.LINK 2) = true ∧ recalAsk.flag (TMP_LDIE.VALID 63) = true ∧ recalAsk.laneBusy 63 = false ∧ recalAsk.tamp.recal = none)
    ∧ ((injectAsk 5).request 0 0x0503 16 ∧ (injectAsk 5).arg 0 5 3 = 0 ∧ (injectAsk 5).arg 0 0 1 = 1 ∧ (injectAsk 5).arg 0 1 1 = 5 ∧ (injectAsk 1).arg 0 1 1 = 1
      ∧ (injectAsk 5).isFatal (unitOfRecord 1 ((injectAsk 5).arg 0 2 2) ((injectAsk 5).arg 0 4 1) ((injectAsk 5).arg 0 8 8)) = false) := by decide +kernel
theorem witness_fatalSettled : (running []).fatalSettled ∧ (on (first 0 1 3)).fatalSettled := ⟨settled _ rfl, settled _ rfl⟩

def pending (t : Nat) : State := { running [] with err := { pend := some t } }
def held (fail : Bool) : State := { State.reset with pw := { hold := some 1, fail := fail } }
def failing (fs : List (Fld × Nat)) : State := running ((PWR_STATUS.POWER_FAIL, 1) :: fs)
def unlocked : State := { running [(NDC_CFG.EN 31, 1)] with ticks := 12500000 }
theorem witness_PowerAndClocks :
    ((State.reset.slotImage 0) = none ∧ (State.reset.slotImage 1) = none)
    ∧ ((pending 2).quiet = true ∧ resetRank 2 = 2 ∧ (pending 4).quiet = true ∧ resetRank 4 = 1 ∧ (pending 4).flag PWR_STATUS.POWER_FAIL = false)
    ∧ (({ running [] with nand := { ctx := [(0, { op := some nandOp })] } } : State).quiet = false ∧ (running []).err.pend = none ∧ (running []).pw.hold = none)
    ∧ ((failing []).flag PWR_STATUS.POWER_FAIL = true ∧ (failing []).flag PWR_STATUS.PWR_SAFE = false ∧ (failing []).spent = true)
    ∧ ((held true).pw.hold = some 1 ∧ (held true).pw.fail = true ∧ (held false).flag CLK_STATUS.ON_BACKUP = false)
    ∧ ((running []).isFatal .power = false ∧ bitAt ((running [(CLK_STATUS.LOCK, 2 ^ 24)]).rd CLK_STATUS.LOCK) 24 = true
      ∧ bitAt ((running [(CLK_STATUS.LOCK, 2 ^ 14)]).rd CLK_STATUS.LOCK) 14 = true ∧ (running [(PCI_LINK.UP, 1)]).flag PCI_LINK.UP = true)
    ∧ (bitAt (unlocked.rd CLK_STATUS.LOCK) 20 = false ∧ unlocked.run = true ∧ unlocked.hasChannel 31 = true ∧ unlocked.flag (NDC_CFG.EN 31) = true
      ∧ FMap.get 0 unlocked.pw.pllAt (17 + 3) + msTicks 10 ≤ unlocked.ticks ∧ (running [(TMP_STATUS.STATE, 5)]).rd TMP_STATUS.STATE = 5 ∧ (running []).rd TMP_STATUS.STATE ≠ 5)
    ∧ ((List.replicate 8 ({ mv := 1000, current := 70000, inTol := true, out10 := false } : RailIn)).length = 8
      ∧ (∀ r ∈ List.replicate 8 ({ mv := 1000, current := 70000, inTol := true, out10 := false } : RailIn), r.out10 = false)
      ∧ (∀ v ∈ List.replicate 8 (115 * 16 - 1 : Int), v < 115 * 16) ∧ (List.replicate 8 (115 * 16 : Int)).length = 8 ∧ (∃ v ∈ List.replicate 8 (115 * 16 : Int), 115 * 16 ≤ v)) := by decide +kernel
def noChannel : State := { running [] with part := .YL9632 }
theorem witness_SidebandCommands : noChannel.hasChannel 24 = false ∧ (running []).hasChannel 31 = true ∧ (running []).flag (ERR_STAT.FIRST_VALID 127) = false
    ∧ (running (first 127 1 3)).flag (ERR_STAT.FIRST_VALID 127) = true ∧ (pending 4).err.pend.isSome = true ∧ (running []).flag PWR_STATUS.POWER_FAIL = false
    ∧ (running [(ERR_SUM.FIRST 1, 1)]).alert = true ∧ (running []).alert = false := by decide +kernel
theorem witness_StepTakesTheFrontCommand : (stepping (.add 9 1 2 3)).pending = .add 9 1 2 3 :: [] ∧ State.reset.pending = [] := by decide +kernel

/-! ### Commands that no sender can form (log entry 1) -/

theorem test_illFormed : Instr.wf (.railSample (List.replicate 7 { mv := 0, current := 0, inTol := true, out10 := false })) = false
    ∧ Instr.wf (.tempSample (List.replicate 9 0)) = false ∧ Instr.wf (.inboundBarAccess .pf0Bar4 0 0 none) = false
    ∧ Instr.wf (.inboundBarAccess .pf0Bar4 0 0 (some [])) = false ∧ Instr.wf (.peerTlp 0 0 4097 none) = false ∧ Instr.wf (.peerTlp 0 0 0 (some (zeros 4097))) = false := by decide +kernel
theorem test_wellFormed : Instr.wf (.peerTlp 0 0 4096 none) = true ∧ Instr.wf (.tempSample (List.replicate 8 0)) = true
    ∧ Instr.wf (.dieMeasureDone 0 8388607 (-8388608)) = true := by decide +kernel
/-- Even those complete: they act on nothing. -/
theorem witness_EveryCommandCompletes : gives (.tempSample (List.replicate 9 0)) State.reset (fun _ => true) = true
    ∧ gives (.peerTlp 0 0 4097 none) (linked []) (fun _ => true) = true := by decide +kernel


/-! ### Single steps against the manual's tables and worked examples -/

/-- Thread 9 runs one instruction with g1 and g2 given: the value of g3. -/
def alu (c : Instr) (a b v : Word) : Bool := gives c (thread [] { g := [(1, a), (2, b)] }) (fun u => (u.th 9).r 3 == v)
/-- 05 Table 05-3: the sum wraps at 2⁶⁴; ADDSU saturates; the high half of a product; the bytes the other way round; a shift by rs2[5:0]. -/
theorem test_add_wraps : alu (.add 9 3 1 2) (2 ^ 64 - 1) 2 1 = true := by decide +kernel
theorem test_addsu_saturates : alu (.addsu 9 3 1 2) (2 ^ 64 - 1) 2 (2 ^ 64 - 1) = true := by decide +kernel
theorem test_mulhu_high : alu (.mulhu 9 3 1 2) (2 ^ 63) 6 3 = true := by decide +kernel
theorem test_bswap_order : alu (.bswap 9 3 1 0) 0x0102030405060708 0 0x0807060504030201 = true := by decide +kernel
theorem test_shl_mod64 : alu (.shl 9 3 1 2) 1 65 2 = true := by decide +kernel
theorem test_sar_sign : alu (.sari 9 3 1 63) (2 ^ 63) 0 (2 ^ 64 - 1) = true := by decide +kernel
/-- 05 R175: bits 8 to 11 of 0xF00, unsigned and signed. -/
theorem test_fxt_fields : alu (.fxt 9 3 1 8 3) 0xF00 0 0xF = true ∧ alu (.fxts 9 3 1 8 3) 0xF00 0 (2 ^ 64 - 1) = true := by decide +kernel
/-- 05 R167: a write of g0 is discarded. -/
theorem test_g0_reads_zero : gives (.addi 9 0 0 5) (thread [] {}) (fun u => (u.th 9).r 0 == 0) = true := by decide +kernel
/-- 03, "a tie at Vellmark": ports 0 to 47; in second 1,798,761,638 port 41 has rank 4 and port 5 rank 16; in second 1,798,761,648 port 5 has rank 6. -/
def vellmark (sec : Nat) : State := { State.reset with merge := { ties := [{ second := sec, list := List.range 48 }] } }
theorem test_tie_ranks : (vellmark 1798761638).tieRank 41 1798761638 = 4 ∧ (vellmark 1798761638).tieRank 5 1798761638 = 16 ∧ (vellmark 1798761648).tieRank 5 1798761648 = 6
    ∧ (vellmark 1798761648).tieRank 41 1798761648 = 42 := by decide +kernel
/-- 08, the example of R311: 512 bytes at 0x7F000FC0 in requests of at most 512 bytes. -/
theorem test_read_splits : (splitRead 512 9 0x7F000FC0 512).map (fun q => (q.addr, q.len)) = [(0x7F000FC0, 64), (0x7F001000, 448)] := by decide +kernel
/-- 13 R495: the check value of CRC-64. -/
theorem test_crc64 : crc64 [0x31, 0x32, 0x33, 0x34, 0x35, 0x36, 0x37, 0x38, 0x39] = 0x995DC9BBDF1939FA := by decide +kernel
/-- 09, the example of R372: ring 5 of 64 KiB; a record of 6 granules at Wd 0x17FE goes behind a PAD, and Wd becomes 0x1806. -/
def orrin : State :=
  let r : Rec := { seq := 9, typ := 0x40, payload := zeros 128 }
  { linked [(SLC_CFG.EN 0, 1)] with
    hq := { desc := [(32773, { w1 := 16 + 2 ^ 5 })], dlv := [(5, { st := .run, wd := 0x17FE, rd := 0x1500, bounds := [0x17FE] })], slices := [(0, { st := 0 })], out := [(5, .record r)] } }
theorem test_pad_entry : gives .deliverGroup orrin (fun u => (u.dlv 5).wd == 0x1806) = true := by decide +kernel
/-- 09 Table 09-8: at 260 ns INDEX 0x403 is not H and a grant is outstanding, so the push falls back. -/
def vellmarkPush : State :=
  { linked [(SLC_CFG.EN 0, 1)] with
    hq := { desc := [(8, { w1 := 16 + 2 ^ 5 })], slices := [(0, { st := 0 })],
            sub := [(8, { st := .run, h := 0x400, a := 0x403, f := 0x403, grants := 1, push := Memory.writeBytes [] 0 (0x31 :: 2 :: zeros 94), pushed := 2 ^ 12 - 1 })] } }
theorem test_push_falls_back : gives (.pushGo 8 0x403) vellmarkPush (fun u => (u.sub 8).a == 0x406 && u.rd HQ_CNT0.PUSH_FALLBACK == 1) = true := by decide +kernel
/-- 07 Table 07-10: at 0x10A, BR SR_MATCH with mask 0x01 and expect 0x01 goes to 0x10C when SR is 0x01, and on otherwise. -/
def polled (sr : Nat) : State :=
  { running [] with nand := { ctx := [(0, { op := some nandOp, st := .issuing, pc := 0x10A, sr := sr })], bank := [(0, { used := 0x200, words := [(0x10A, 0x280101010000010C)] })] } }
theorem test_sr_match : gives (.dripBr 0 0 1 0x0101 0x10C) (polled 0xE1) (fun u => (u.ctx 0 0).pc == 0x10C) = true
    ∧ gives (.dripBr 0 0 1 0x0101 0x10C) (polled 0xE0) (fun u => (u.ctx 0 0).pc == 0x10B) = true := by decide +kernel
/-- 08 R339, Table 08-16: an unexpected completion is advisory, and code 0x15 is not reported through AER. -/
theorem test_aer_reports : (State.reset.aer 0x13 1).out = [.aer 1 0x13 0] ∧ (State.reset.aer 0x16 0).out = [.aer 0 0x16 2] ∧ (State.reset.aer 0x12 1).out = [.aer 1 0x12 1]
    ∧ (State.reset.aer 0x15 1).out = [] := by decide +kernel
/-- 15 R557: RECCLK_OUT of a 10 GbE port is lane 24 divided by 66, and is static low when the port's link is down. -/
theorem test_recclk : (linked [(CLK_RECCLK.EN, 1), (CLK_RECCLK.SLOT, 2), (TMP_SRC_CFG.TPORT2_EN, 1), (TMP_SRC_CFG.TPORT2, 3), (SEQ_PORT.LANE0 3, 24), (SEQ_PST.LINK 3, 1)]).recclkOut = some (24, 66)
    ∧ gives (.portLinkLoss 3) (linked [(CLK_RECCLK.EN, 1), (CLK_RECCLK.SLOT, 2), (TMP_SRC_CFG.TPORT2_EN, 1), (TMP_SRC_CFG.TPORT2, 3), (SEQ_PORT.EN 3, 1), (SEQ_PST.LINK 3, 1), (SEQ_PST.ACTIVE 3, 1)])
      (fun u => u.recclkOut == none) = true := by decide +kernel
/-- 05 Tables 05-1 to 05-15, a word of each family written out field by field: ADD g1, g2, g3 and the canonical NOP; ADDI g31, g1, 0xFFFF; MOVK g2, hw 3, 0x1234; BR g3, g4,
cond 5, −1; FXT g3, g1, 8, 4 bits; LD g3, [g4 − 8] of 8 bytes, be; TST g3, g4, table 15, word 7; LREL g4 + 511; RCV g5, g4; ECLR g0, 0x0040; FGET g20, 0; RGET; STOP. -/
theorem test_dyaris_words : ([0x00221800, 0, 0x07E1FFFF, 0x24581234, 0x30645FFF, 0x3C612030, 0x4064DFF8, 0x5464FE00, 0x600421FF, 0x64A44000, 0x6C000040, 0x82800000, 0x90221800,
      0x98000000].map (decodeTableWord 32))
    = [some (.add 0 1 2 3), some (.add 0 0 0 0), some (.addi 0 31 1 0xFFFF), some (.movk 0 2 3 0 0x1234), some (.br 0 3 4 5 0xFFF), some (.fxt 0 3 1 8 3),
      some (.ld 0 3 4 3 false true 0xFF8), some (.tst 0 3 4 15 7 0), some (.lrel 0 0 4 0 511), some (.rcv 0 5 4 0 0), some (.eclr 0 0 0 0x40), some (.fget 0 20 0 0),
      some (.rget 0 1 2 3 0), some (.stop 0 0)] := by decide +kernel
/-- 05 R168: reserved major opcodes, an undefined ALU funct, an undefined sub of 0x0F, 0x18 and 0x19. -/
theorem test_undefined_words : [0x28000000, 0x5C000000, 0xFC000000, 0x00000010, 0x3C000003, 0x60003000, 0x64007000].all (fun w => (decodeTableWord 32 w).isNone) = true := by decide +kernel
/-- 07 Table 07-5 (and Table 07-10's words): CMD 0xFF; ADDR of 5 bytes, column and row; WAITC RB_READY for 125,000 cycles and WAITC BUF; BR SR_MATCH to 0x10C; SRD; END FAIL;
UOP 0x11 is reserved. -/
theorem test_microwords : ([0x04000000000000FF, 0x0805000200000000, 0x200000000001E848, 0x2003000000000000, 0x280101010000010C, 0x3C00000000000000, 0x4000000000000001,
      0x4400000000000000].map (decodeTableWord 64))
    = [some (.dripCmd 0 0 0 0 0xFF), some (.dripAddr 0 0 5 2 0), some (.dripWaitc 0 0 0 0 125000), some (.dripWaitc 0 0 3 0 0), some (.dripBr 0 0 1 0x0101 0x10C),
      some (.dripSrd 0 0 0 0 0 0), some (.dripEnd 0 0 0 0 1), none] := by decide +kernel
theorem witness_WordsKeepTheirBits : decodeDyaris 9 0x6C000040 = some (.eclr 9 0 0 0x40) ∧ decodeDrip 31 15 0x60 0x3C00000000000000 = some (.dripSrd 31 15 0 0 0 0x60)
    ∧ 0x6C000040 < 2 ^ 32 := by decide +kernel
/-- A word that spells a command runs as the next step; one that spells none changes nothing. -/
theorem witness_words : decodeTableWord 32 0x6C000040 = some (.eclr 0 0 0 0x40) ∧ (State.reset.withFetchWord 32 0x6C000040).pending = [.eclr 0 0 0 0x40]
    ∧ decodeTableWord 16 0 = none ∧ State.reset.withFetchWord 16 0 = State.reset := by decide +kernel

end Sys2Proof.Tests
end

namespace Sys2Proof.Machine
open Sys2Proof

/-! ### Tables without some of their keys -/

/-- The table without the entries whose key `p` names. -/
def FMap.without {β : Type} (p : Nat → Bool) (m : FMap β) : FMap β := m.filter (fun e => !p e.1)

section
variable {β : Type} {p q : Nat → Bool}

theorem FMap.look_without (m : FMap β) {k : Nat} (hk : p k = false) : FMap.look (FMap.without p m) k = FMap.look m k := by
  induction m with
  | nil => rfl
  | cons e m ih =>
    obtain ⟨j, v⟩ := e
    by_cases hj : j = k
    · subst hj; simp [FMap.without, FMap.look, hk]
    · cases hp : p j <;> simpa [FMap.without, FMap.look, hp, hj] using ih

theorem FMap.without_del (m : FMap β) {k : Nat} (hk : p k = true) : FMap.without p (FMap.del m k) = FMap.without p m := by
  induction m with
  | nil => rfl
  | cons e m ih =>
    obtain ⟨j, v⟩ := e
    by_cases hj : j = k
    · subst hj; simpa [FMap.without, FMap.del, hk] using ih
    · cases hp : p j <;> simpa [FMap.without, FMap.del, hp, hj] using ih

theorem FMap.without_ins (m : FMap β) {k : Nat} (v : β) (hk : p k = true) : FMap.without p (FMap.ins m k v) = FMap.without p m := by
  induction m with
  | nil => simp [FMap.without, FMap.ins, hk]
  | cons e m ih =>
    obtain ⟨j, w⟩ := e
    simp only [FMap.ins]
    split
    · simp [FMap.without, hk]
    · split
      · next hj => subst hj; simp [FMap.without, hk]
      · cases hp : p j <;> simpa [FMap.without, hp] using ih

theorem FMap.without_set [DecidableEq β] (d : β) (m : FMap β) {k : Nat} (v : β) (hk : p k = true) :
    FMap.without p (FMap.set d m k v) = FMap.without p m := by
  unfold FMap.set
  split
  · exact without_del m hk
  · exact without_ins m v hk

theorem FMap.without_without (m : FMap β) (hpq : ∀ k, p k = true → q k = true) : FMap.without q (FMap.without p m) = FMap.without q m := by
  unfold FMap.without
  rw [List.filter_filter]
  refine List.filter_congr fun e _ => ?_
  cases hp : p e.1
  · simp
  · simp [hpq _ hp]

end

/-! ### What Tamp's shared operations leave alone

Three nested views of a state, each with more of it blanked out: what Tamp writes when it posts records, when it changes its state or its source, and when a
sample or a setting moves the time. An operation that keeps a view keeps every field that the view still shows, and every register whose key it does not blank. -/

/-- The register field that posting a record writes. -/
def recordKey (k : Nat) : Bool := k == SEQ_STATUS.SHARED_FREE.key

/-- The register fields that a change of Tamp's state or source writes. -/
def statusKey (k : Nat) : Bool :=
  recordKey k || [TMP_STATUS.STATE.key, TMP_STATUS.SOURCE.key, TMP_STATUS.CLASS_NOW.key, TMP_STATUS.HOLD_S.key, TMP_EBOUND.E_HOLD_PS.key,
    TMP_OFFSET.SAMPLES.key].contains k

/-- The register fields that an offset sample or a setting of the timebase writes; the error logs lie above every register of Tamp and of the merge. -/
def clockKey (k : Nat) : Bool :=
  statusKey k || [TMP_RATE.ADJ.key, TMP_RATE.SLEWING.key, TMP_OFFSET.THETA.key, TMP_STEP.DELTA_NS.key, TMP_STEP_ID.ID.key, SEQ_TIE.TIE_HEAD.key,
    SEQ_TIE.LIST_P.key, SEQ_TIE.SECOND.key].contains k || decide (ERR_CFG.AUTO_ACK.key ≤ k)

/-- The state but for the records that Tamp has committed and posted, and the TRACE record that it gathers. -/
def State.butRecords (s : State) : State :=
  { s with
    regs := FMap.without recordKey s.regs, free := 0
    tamp := { s.tamp with waiting := [], trace := {}, firstAfter := false, lcalGen := 0 }
    merge := { s.merge with slots := [] } }

/-- The state but for Tamp's records and status: state, source, error bounds and samples. -/
def State.butStatus (s : State) : State :=
  { s.butRecords with
    regs := FMap.without statusKey s.regs
    tamp := { s.butRecords.tamp with
      samples := [], lockRun := 0, everLocked := false, selInHold := false, inHold := false, holdMs := 0, eEntry := none, eTime := none, eIsHold := false,
      eNext := none, dropped := false } }

/-- The state but for Tamp's records, status and time: the timebase and what follows from its being set, and the logs. -/
def State.butClock (s : State) : State :=
  { s.butStatus with
    regs := FMap.without clockKey s.regs, out := [], pci := {}
    tamp := { s.butStatus.tamp with tb := 0, moved := 0, ppsSecond := 0, firstSample := false, declined := [] }
    merge := { s.butStatus.merge with wm := [], ties := [] } }

theorem State.butStatus_butRecords (s : State) : s.butRecords.butStatus = s.butStatus := by
  simp only [State.butStatus, State.butRecords]
  rw [FMap.without_without _ (by simp +contextual [statusKey])]

theorem State.butClock_butStatus (s : State) : s.butStatus.butClock = s.butClock := by
  simp only [State.butClock, State.butStatus, State.butRecords]
  rw [FMap.without_without _ (by simp +contextual [clockKey])]

theorem State.butStatus_of_butRecords {s u : State} (h : u.butRecords = s.butRecords) : u.butStatus = s.butStatus := by
  rw [← u.butStatus_butRecords, h, s.butStatus_butRecords]

theorem State.butClock_of_butStatus {s u : State} (h : u.butStatus = s.butStatus) : u.butClock = s.butClock := by
  rw [← u.butClock_butStatus, h, s.butClock_butStatus]

/-- Registers that agree but for some keys agree at every other key. -/
theorem State.rd_of_without {s u : State} {p : Nat → Bool} (h : FMap.without p u.regs = FMap.without p s.regs) {f : Fld} (hf : p f.key = false) :
    u.rd f = s.rd f := by
  unfold State.rd FMap.get
  rw [← FMap.look_without u.regs hf, h, FMap.look_without s.regs hf]

theorem State.rd_of_butRecords {s u : State} (h : u.butRecords = s.butRecords) (f : Fld) (hf : recordKey f.key = false) : u.rd f = s.rd f :=
  State.rd_of_without (congrArg State.regs h) hf

theorem State.rd_of_butStatus {s u : State} (h : u.butStatus = s.butStatus) (f : Fld) (hf : statusKey f.key = false) : u.rd f = s.rd f :=
  State.rd_of_without (congrArg State.regs h) hf

theorem State.rd_of_butClock {s u : State} (h : u.butClock = s.butClock) (f : Fld) (hf : clockKey f.key = false) : u.rd f = s.rd f :=
  State.rd_of_without (congrArg State.regs h) hf

@[simp] theorem State.butRecords_wr (s : State) (f : Fld) (v : Nat) (hf : recordKey f.key = true) : (s.wr f v).butRecords = s.butRecords := by
  simp only [State.butRecords, State.wr, FMap.without_set _ _ _ hf]

@[simp] theorem State.butStatus_wr (s : State) (f : Fld) (v : Nat) (hf : statusKey f.key = true) : (s.wr f v).butStatus = s.butStatus := by
  simp only [State.butStatus, State.butRecords, State.wr, FMap.without_set _ _ _ hf]

@[simp] theorem State.butClock_wr (s : State) (f : Fld) (v : Nat) (hf : clockKey f.key = true) : (s.wr f v).butClock = s.butClock := by
  simp only [State.butClock, State.butStatus, State.butRecords, State.wr, FMap.without_set _ _ _ hf]

/-! ### Posting records -/

theorem State.butRecords_postSlot (s : State) (p : Nat) (st : Stamp) (x : SlotState) (c : Rec) (sh : Bool) (d : List Byte) (cp : Bool) :
    (s.postSlot p st x c sh d cp).butRecords = s.butRecords := by
  unfold State.postSlot
  extract_lets u
  split
  · exact State.butRecords_wr u _ _ rfl
  · rfl

theorem State.butRecords_postTamp (s : State) (rs : List Rec) : (s.postTamp rs).butRecords = s.butRecords := by
  induction rs generalizing s with
  | nil => rfl
  | cons r rs ih =>
    unfold State.postTamp
    split
    · exact (ih _).trans (State.butRecords_postSlot ..)
    · rfl

@[simp] theorem State.butRecords_tampRec (s : State) (r : Rec) : (s.tampRec r).butRecords = s.butRecords := by
  unfold State.tampRec
  split
  · exact State.butRecords_postTamp ..
  · rfl

@[simp] theorem State.butRecords_timeDisc (s : State) (kind : Nat) (c : Consent) (t old new : Nat) :
    (s.timeDisc kind c t old new).butRecords = s.butRecords := State.butRecords_tampRec ..

@[simp] theorem State.butRecords_setTrace (s : State) (f : TraceAcc → TraceAcc) : (s.setTrace f).butRecords = s.butRecords := by
  unfold State.setTrace; split <;> rfl

@[simp] theorem State.butRecords_traceFlag (s : State) (i : Nat) : (s.traceFlag i).butRecords = s.butRecords := State.butRecords_setTrace ..

@[simp] theorem State.butRecords_submitTrace (s : State) (next cls : Nat) : (s.submitTrace next cls).butRecords = s.butRecords := by
  unfold State.submitTrace
  extract_lets n
  split
  next utc s1 h =>
    have h1 : s1.butRecords = s.butRecords := by
      split at h <;> cases h <;> rfl
    exact (State.butRecords_tampRec ..).trans h1

/-- A lane calibration record counts the lane's GEN up, and is posted. -/
theorem State.butRecords_laneCal (s : State) (n kind : Nat) (oldRx oldTx : Int) :
    (s.laneCal n kind oldRx oldTx).butRecords = (s.wr (TMP_LDIE.GEN n) (s.rd (TMP_LDIE.GEN n) + 1)).butRecords := by
  unfold State.laneCal
  extract_lets st t s1 s2 s3
  exact (State.butRecords_tampRec ..).trans ((State.butRecords_setTrace ..).trans ((State.butRecords_traceFlag ..).trans rfl))

/-! ### Status -/

@[simp] theorem State.butStatus_setTrace (s : State) (f : TraceAcc → TraceAcc) : (s.setTrace f).butStatus = s.butStatus :=
  State.butStatus_of_butRecords (State.butRecords_setTrace ..)

@[simp] theorem State.butStatus_traceFlag (s : State) (i : Nat) : (s.traceFlag i).butStatus = s.butStatus := State.butStatus_setTrace ..

@[simp] theorem State.butStatus_setClassNow (s : State) : s.setClassNow.butStatus = s.butStatus := State.butStatus_wr _ _ _ rfl

@[simp] theorem State.butStatus_takeE (s : State) (e : Option Nat × Bool) : (s.takeE e).butStatus = s.butStatus := by
  unfold State.takeE
  extract_lets t s1 s2
  have h : s2.butStatus = s1.butStatus := by
    unfold s2; split
    · exact State.butStatus_setTrace ..
    · rfl
  exact (State.butStatus_setClassNow s2).trans h

@[simp] theorem State.butStatus_tampState (s : State) (st : Nat) : (s.tampState st).butStatus = s.butStatus := by
  unfold State.tampState
  extract_lets s1 s2 t2 s3 t3 s4 s5 t5 s6
  have h1 : s1.butStatus = s.butStatus := by unfold s1; split <;> simp
  have h2 : s2.butStatus = s1.butStatus := State.butStatus_wr _ _ _ rfl
  have h4 : s4.butStatus = s2.butStatus := by
    unfold s4; split
    · exact State.butStatus_wr _ _ _ rfl
    · split
      · split <;> rfl
      · rfl
  have h5 : s5.butStatus = s4.butStatus := by
    unfold s5; split
    · rfl
    · exact State.butStatus_wr _ _ _ rfl
  exact (State.butStatus_setClassNow s6).trans (h5.trans (h4.trans (h2.trans h1)))

@[simp] theorem State.butStatus_tampStateNow (s : State) (st : Nat) : (s.tampStateNow st).butStatus = s.butStatus := by
  simp [State.tampStateNow]

@[simp] theorem State.butStatus_noSource (s : State) : s.noSource.butStatus = s.butStatus := State.butStatus_tampState ..

@[simp] theorem State.butStatus_deselect (s : State) : s.deselect.butStatus = s.butStatus := by
  have h : (s.wr TMP_STATUS.SOURCE 0).butStatus = s.butStatus := State.butStatus_wr _ _ _ rfl
  simp only [State.deselect]
  split
  · rfl
  · split
    · exact (State.butStatus_noSource _).trans h
    · exact h

@[simp] theorem State.butStatus_select (s : State) (src : Nat) : (s.select src).butStatus = s.butStatus := by
  unfold State.select
  extract_lets t s1 s2 st
  have h : s2.butStatus = s1.butStatus := (State.butStatus_wr _ _ _ rfl).trans (State.butStatus_wr _ _ _ rfl)
  split
  · exact (State.butStatus_tampState ..).trans h
  · exact h

@[simp] theorem State.butStatus_reselect (s : State) : s.reselect.butStatus = s.butStatus := by
  unfold State.reselect
  split
  · rfl
  · extract_lets d cur s1
    have h : s1.butStatus = s.butStatus := by unfold s1; split <;> simp
    split
    · rfl
    · split
      · exact h
      · exact (State.butStatus_select ..).trans h

@[simp] theorem State.butStatus_shiftSamples (s : State) (d : Int) : (s.shiftSamples d).butStatus = s.butStatus := rfl

@[simp] theorem State.butStatus_holdMs1 (s : State) : s.holdMs1.butStatus = s.butStatus := by
  unfold State.holdMs1
  split
  · exact State.butStatus_wr _ _ _ rfl
  · split <;> rfl

@[simp] theorem State.butStatus_afterCorrection (s : State) (src : Nat) : (s.afterCorrection src).butStatus = s.butStatus := by
  unfold State.afterCorrection
  extract_lets d kept t s1 s2 s3
  have h2 : s2.butStatus = s1.butStatus := (State.butStatus_tampStateNow ..).trans (State.butStatus_wr _ _ _ rfl)
  split
  · exact State.butStatus_tampStateNow ..
  · split
    · exact h2
    · exact (State.butStatus_takeE ..).trans ((State.butStatus_select ..).trans h2)

/-! ### Interrupts and warnings -/

theorem State.msix_only (s : State) (fn v : Nat) : s.msix fn v = { s with out := (s.msix fn v).out, pci := (s.msix fn v).pci } := by
  unfold State.msix State.setPend
  split
  · rfl
  · split
    · split <;> rfl
    · rfl

theorem State.errVector_only (s : State) (v : Nat) : s.errVector v = { s with out := (s.errVector v).out, pci := (s.errVector v).pci } := by
  unfold State.errVector
  split
  · exact State.msix_only ..
  · rfl

@[simp] theorem State.rd_errVector (s : State) (v : Nat) (f : Fld) : (s.errVector v).rd f = s.rd f := by
  rw [State.errVector_only]; rfl

@[simp] theorem State.butClock_errVector (s : State) (v : Nat) : (s.errVector v).butClock = s.butClock := by
  rw [State.errVector_only]; rfl

@[simp] theorem State.errVector_fields (s : State) (v : Nat) :
    (s.errVector v).tamp = s.tamp ∧ (s.errVector v).merge = s.merge ∧ (s.errVector v).mbox = s.mbox := by
  rw [State.errVector_only]; exact ⟨rfl, rfl, rfl⟩

@[simp] theorem State.warn_fields (s : State) (n code sub info : Nat) :
    (s.warn n code sub info).tamp = s.tamp ∧ (s.warn n code sub info).merge = s.merge ∧ (s.warn n code sub info).mbox = s.mbox := by
  simp [State.warn]

/-- A warning writes its log alone, which lies above the registers of Tamp and of the merge. -/
theorem State.rd_warn (s : State) (n code sub info : Nat) {f : Fld} (hf : f.key < ERR_CFG.AUTO_ACK.key) : (s.warn n code sub info).rd f = s.rd f := by
  simp only [State.warn, State.count, State.rd_errVector]
  simp (disch := (dsimp only at *; omega)) only [State.rd_wr_other]

/-! ### Time -/

/-- The bound on the magnitude of ADJ: 200 ppm of 2^48 (02 R51). -/
def adjLimit : Nat := 56294995342

/-- Time does not run backwards from `s` to `u`, and ADJ stays within its bound. -/
def State.notBack (s u : State) : Prop :=
  s.tamp.tb ≤ u.tamp.tb ∧ ((s.rdInt TMP_RATE.ADJ).natAbs ≤ adjLimit → (u.rdInt TMP_RATE.ADJ).natAbs ≤ adjLimit)

/-- From `s` to `u` only Tamp's records, status and time changed, and time does not run backwards. -/
def State.clockStep (s u : State) : Prop := u.butClock = s.butClock ∧ s.notBack u

section
variable {s u v : State}

theorem State.notBack.refl (s : State) : s.notBack s := ⟨le_rfl, id⟩

theorem State.notBack.trans (h : s.notBack u) (h' : u.notBack v) : s.notBack v := ⟨h.1.trans h'.1, h'.2 ∘ h.2⟩

theorem State.notBack.of_le (ht : s.tamp.tb ≤ u.tamp.tb) (ha : u.rd TMP_RATE.ADJ = s.rd TMP_RATE.ADJ) : s.notBack u :=
  ⟨ht, by simp only [State.rdInt, ha, imp_self]⟩

theorem State.notBack.of_eq (ht : u.tamp.tb = s.tamp.tb) (ha : u.rd TMP_RATE.ADJ = s.rd TMP_RATE.ADJ) : s.notBack u := .of_le ht.ge ha

theorem State.notBack.of_butStatus (h : u.butStatus = s.butStatus) : s.notBack u :=
  .of_eq (congrArg (·.tamp.tb) h) (State.rd_of_butStatus h _ rfl)

theorem State.notBack.of_butRecords (h : u.butRecords = s.butRecords) : s.notBack u := .of_butStatus (State.butStatus_of_butRecords h)

theorem State.notBack.wr (s : State) {f : Fld} (x : Nat) (hf : TMP_RATE.ADJ.key ≠ f.key) : s.notBack (s.wr f x) := .of_eq rfl (State.rd_wr_other s x hf)

theorem State.notBack.warn (s : State) (n code sub info : Nat) : s.notBack (s.warn n code sub info) :=
  .of_eq (by simp) (State.rd_warn _ _ _ _ _ (by decide))

theorem State.clockStep.refl (s : State) : s.clockStep s := ⟨rfl, .refl s⟩

theorem State.clockStep.trans (h : s.clockStep u) (h' : u.clockStep v) : s.clockStep v := ⟨h'.1.trans h.1, h.2.trans h'.2⟩

theorem State.clockStep.of_eq (h : u.butClock = s.butClock) (ht : u.tamp.tb = s.tamp.tb) (ha : u.rd TMP_RATE.ADJ = s.rd TMP_RATE.ADJ) : s.clockStep u :=
  ⟨h, .of_eq ht ha⟩

theorem State.clockStep.of_butStatus (h : u.butStatus = s.butStatus) : s.clockStep u := ⟨State.butClock_of_butStatus h, .of_butStatus h⟩

theorem State.clockStep.wr (s : State) (f : Fld) (x : Nat) (hf : clockKey f.key = true) (hn : TMP_RATE.ADJ.key ≠ f.key) : s.clockStep (s.wr f x) :=
  ⟨State.butClock_wr s f x hf, .wr s x hn⟩

theorem State.clockStep.warn (s : State) (n code sub info : Nat) : s.clockStep (s.warn n code sub info) := by
  refine ⟨?_, .warn ..⟩
  have hlog : ∀ (s : State) (f : Fld) (x : Nat), ERR_CFG.AUTO_ACK.key ≤ f.key → (s.wr f x).butClock = s.butClock := fun s f x hf =>
    State.butClock_wr s f x (by simp only [clockKey, decide_eq_true hf, Bool.or_true])
  simp only [State.warn, State.count, State.butClock_errVector]
  simp (disch := (dsimp only; omega)) only [hlog]

end

theorem clampInt_natAbs_le (m : Nat) (i : Int) : (clampInt m i).natAbs ≤ m := by
  unfold clampInt; omega

/-- ADJ reads back the number written, when it is within its bound. -/
theorem State.rdInt_adj_wr (s : State) {i : Int} (hi : i.natAbs ≤ adjLimit) : (s.wr TMP_RATE.ADJ (ofInt 40 i)).rdInt TMP_RATE.ADJ = i := by
  unfold adjLimit at hi
  simp only [State.rdInt, State.rd_wr_same, toInt, ofInt]
  norm_num
  split <;> omega

/-- The servo sets ADJ within its bound (02 R51). -/
theorem State.clockStep.steer (s : State) (th : Int) : s.clockStep (s.steer th) := by
  unfold State.steer
  extract_lets est s1 x s2 adj s3 s4
  have h3 : s2.clockStep s3 := by
    have hadj : adj.natAbs ≤ adjLimit := clampInt_natAbs_le ..
    exact ⟨State.butClock_wr _ _ _ rfl, le_rfl, fun _ => (State.rdInt_adj_wr s2 hadj).symm ▸ hadj⟩
  have h4 : s2.clockStep s4 := h3.trans (.wr _ _ _ rfl (by decide))
  have h : s.clockStep s4 := (State.clockStep.of_eq rfl rfl rfl).trans h4
  split
  · exact h.trans (.of_butStatus (State.butStatus_traceFlag ..))
  · exact h

theorem State.clockStep.redeem (s : State) (src : Nat) (th : Int) : s.clockStep (s.redeem src th) := by
  unfold State.redeem; split <;> exact .of_eq rfl rfl rfl

theorem State.clockStep.tickPorts (s : State) : s.clockStep s.tickPorts := by
  suffices ∀ (l : List Nat) (s : State), s.clockStep (l.foldl State.tickPort s) from this _ s
  intro l
  induction l with
  | nil => exact .refl
  | cons p l ih => exact fun s => (State.clockStep.of_eq rfl rfl rfl).trans (ih _)

theorem State.clockStep.showTie (s : State) : s.clockStep s.showTie := by
  simp only [State.showTie]
  split
  · exact ((State.clockStep.wr s SEQ_TIE.SECOND _ rfl (by decide)).trans (.wr _ SEQ_TIE.LIST_P _ rfl (by decide))).trans
      (.wr _ SEQ_TIE.TIE_HEAD _ rfl (by decide))
  · exact .refl s

theorem State.clockStep.tickTie (s : State) : s.clockStep s.tickTie := by
  simp only [State.tickTie]
  split
  · exact .refl s
  · exact State.clockStep.trans (.of_eq rfl rfl rfl) (.showTie _)

theorem State.tamp_tickPorts (s : State) : s.tickPorts.tamp = s.tamp := by
  suffices ∀ (l : List Nat) (s : State), (l.foldl State.tickPort s).tamp = s.tamp from this _ s
  intro l
  induction l with
  | nil => exact fun _ => rfl
  | cons p l ih => exact fun s => (ih _).trans rfl

theorem State.tamp_tickTie (s : State) : s.tickTie.tamp = s.tamp := by
  simp only [State.tickTie, State.showTie]
  split
  · rfl
  · split <;> rfl

theorem State.tb_setTb (s : State) (t : Nat) : (s.setTb t).tamp.tb = t := by
  simp only [State.setTb, State.tamp_tickPorts, State.tamp_tickTie]

theorem State.clockStep.setTb (s : State) {t : Nat} (h : s.tamp.tb ≤ t) : s.clockStep (s.setTb t) := by
  unfold State.setTb
  extract_lets t1 s1 x t2 s2
  have h2 : s.clockStep s2 := ⟨rfl, h, id⟩
  exact h2.trans ((State.clockStep.tickTie _).trans (.tickPorts _))

theorem le_tbShift {t : Nat} {d : Int} (h : 0 ≤ d) : t ≤ tbShift t d := by
  unfold tbShift; omega

theorem State.clockStep.sample (s : State) (th : Int) : s.clockStep (s.sample th) := by
  unfold State.sample
  split
  next h =>
    extract_lets t s1
    simp only [Bool.and_eq_true, decide_eq_true_eq] at h
    exact (State.clockStep.of_eq (u := s1) rfl rfl rfl).trans (State.clockStep.setTb s1 (le_tbShift (by omega)))
  · extract_lets t s1 st s2 s3 t3 s4 t4 s5 s6 s7 s8 s9 within t9 s10 s11 t11
    have h2 : s.clockStep s2 := (State.clockStep.of_eq (u := s1) rfl rfl rfl).trans
      ((State.clockStep.wr s1 TMP_OFFSET.THETA _ rfl (by decide)).trans (.wr _ TMP_OFFSET.SAMPLES _ rfl (by decide)))
    have h3 : s.clockStep s3 := h2.trans (.of_butStatus (State.butStatus_setTrace ..))
    have h4 : s.clockStep s4 := h3.trans (.of_eq rfl rfl rfl)
    have h6 : s.clockStep s6 := by
      refine (h4.trans (v := s5) (.of_eq rfl rfl rfl)).trans ?_
      unfold s6; split
      · exact .refl _
      · exact .wr _ TMP_STEP.DELTA_NS _ rfl (by decide)
    have h8 : s.clockStep s8 := by
      unfold s8; split
      · exact h4.trans (.of_butStatus (State.butStatus_tampState ..))
      · exact h4
    have h10 : s.clockStep s10 := (h8.trans (.steer _ _)).trans (.of_eq rfl rfl rfl)
    have h11 : s.clockStep s11 := by
      unfold s11; split
      · exact h10.trans (.of_butStatus (State.butStatus_tampState ..))
      · exact h10
    split
    · exact h3
    · split
      · split
        · exact h6
        · have h7 : s6.clockStep s7 := (State.clockStep.wr s6 TMP_STEP_ID.ID _ rfl (by decide)).trans (.wr _ TMP_RATE.SLEWING _ rfl (by decide))
          exact (h6.trans h7).trans ((State.clockStep.of_butStatus (State.butStatus_tampState ..)).trans (.warn ..))
      · split
        · split
          · exact h11.trans (.of_eq rfl rfl rfl)
          · exact h11
        · exact h11

end Sys2Proof.Machine

namespace Sys2Proof.Machine
open Sys2Proof

/-! ### The tick -/

/-- What the end of a tick keeps: the timebase, the error bound and class in force, ADJ, and every port's watermark, which may rise. -/
structure State.tickKept (s u : State) : Prop where
  tb : u.tamp.tb = s.tamp.tb
  eTime : u.tamp.eTime = s.tamp.eTime
  ticks : u.ticks = s.ticks
  cls : u.rd TMP_STATUS.CLASS_NOW = s.rd TMP_STATUS.CLASS_NOW
  adj : u.rd TMP_RATE.ADJ = s.rd TMP_RATE.ADJ
  wm : ∀ p, FMap.get 0 s.merge.wm p ≤ FMap.get 0 u.merge.wm p

theorem State.tickKept.refl (s : State) : s.tickKept s := ⟨rfl, rfl, rfl, rfl, rfl, fun _ => le_rfl⟩

theorem State.tickKept.trans {s u v : State} (h : s.tickKept u) (h' : u.tickKept v) : s.tickKept v :=
  ⟨h'.tb.trans h.tb, h'.eTime.trans h.eTime, h'.ticks.trans h.ticks, h'.cls.trans h.cls, h'.adj.trans h.adj, fun p => (h.wm p).trans (h'.wm p)⟩

theorem State.tickKept.wr (s : State) (f : Fld) (v : Nat) (hc : TMP_STATUS.CLASS_NOW.key ≠ f.key) (ha : TMP_RATE.ADJ.key ≠ f.key) : s.tickKept (s.wr f v) :=
  ⟨rfl, rfl, rfl, State.rd_wr_other s v hc, State.rd_wr_other s v ha, fun _ => le_rfl⟩

theorem State.tickKept.of_butRecords {s u : State} (h : u.butRecords = s.butRecords) : s.tickKept u :=
  ⟨congrArg (·.tamp.tb) h, congrArg (·.tamp.eTime) h, congrArg (·.ticks) h, State.rd_of_butRecords h _ rfl, State.rd_of_butRecords h _ rfl,
    fun p => (congrArg (fun s => FMap.get 0 s.merge.wm p) h).ge⟩

/-- A fold of steps that each keep it keeps it. -/
theorem State.tickKept.foldl {α : Type} {f : State → α → State} (hf : ∀ (s : State) a, s.tickKept (f s a)) (l : List α) (s : State) : s.tickKept (l.foldl f s) := by
  induction l generalizing s with
  | nil => exact .refl s
  | cons a l ih => exact (hf s a).trans (ih _)

theorem State.tickKept.laneCal (s : State) (n kind : Nat) (oldRx oldTx : Int) : s.tickKept (s.laneCal n kind oldRx oldTx) :=
  (State.tickKept.wr s (TMP_LDIE.GEN n) _ (by dsimp only; omega) (by dsimp only; omega)).trans (.of_butRecords (State.butRecords_laneCal ..))

theorem State.tickKept.calLane (s : State) (n : Nat) (c : LaneCal) : s.tickKept (s.calLane n c) := by
  unfold State.calLane
  extract_lets t s1 old oldRx oldTx t1 s2 s3
  have h1 : s.tickKept s1 := by
    unfold s1; split
    · exact State.tickKept.trans (u := { s with tamp := { s.tamp with recal := none } }) ⟨rfl, rfl, rfl, rfl, rfl, fun _ => le_rfl⟩
        (.wr _ TMP_CNT.RECAL_ABANDONED _ (by decide) (by decide))
    · exact .refl s
  have h2 : s1.tickKept s2 := ⟨rfl, rfl, rfl, rfl, rfl, fun _ => le_rfl⟩
  have hlane : ∀ (u : State) (f : Fld) (v : Nat), TMP_RATE.ADJ.key < f.key → u.tickKept (u.wr f v) := fun u f v hf =>
    .wr u f v (by dsimp only at *; omega) (by dsimp only at *; omega)
  have h3 : s2.tickKept s3 :=
    (((hlane _ (TMP_LCAL_RX.BOARD n) _ (by dsimp only; omega)).trans (hlane _ (TMP_LCAL_RX.UNC n) _ (by dsimp only; omega))).trans
      (hlane _ (TMP_LCAL_TX.BOARD n) _ (by dsimp only; omega))).trans (hlane _ (TMP_LCAL_TX.UNC n) _ (by dsimp only; omega))
  refine ((h1.trans h2).trans h3).trans ?_
  unfold State.calRecord
  split
  · exact .refl _
  · exact .laneCal ..

theorem State.tickKept.calGaps (s : State) : s.tickKept s.calGaps := by
  refine .foldl (fun s e => ?_) _ s
  split
  · split
    · exact .refl s
    · exact .calLane ..
  · exact .refl s

/-- A port's watermark never falls (03 R96). -/
theorem State.tickKept.tickPort (s : State) (p : Nat) : s.tickKept (s.tickPort p) := by
  refine ⟨rfl, rfl, rfl, rfl, rfl, fun q => ?_⟩
  unfold State.tickPort
  by_cases hq : q = p
  · subst hq; simp
  · simp [FMap.get_set_other _ _ _ _ hq]

theorem State.tickKept.showTie (s : State) : s.tickKept s.showTie := by
  simp only [State.showTie]
  split
  · exact ((State.tickKept.wr s SEQ_TIE.SECOND _ (by decide) (by decide)).trans (.wr _ SEQ_TIE.LIST_P _ (by decide) (by decide))).trans
      (.wr _ SEQ_TIE.TIE_HEAD _ (by decide) (by decide))
  · exact .refl s

theorem State.tickKept.tickTie (s : State) : s.tickKept s.tickTie := by
  simp only [State.tickTie]
  split
  · exact .refl s
  · refine State.tickKept.trans ?_ (.showTie _)
    exact ⟨rfl, rfl, rfl, rfl, rfl, fun _ => le_rfl⟩

theorem State.tickKept.ppsFall (s : State) : s.tickKept s.ppsFall := by
  unfold State.ppsFall
  split
  · split
    · exact ⟨rfl, rfl, rfl, rfl, rfl, fun _ => le_rfl⟩
    · exact .refl s
  · exact .refl s

/-- The timebase advances by `d` at a tick, and a correction has so much less to remove (02 R51). -/
def State.tickStart (s : State) (d : Nat) : State :=
  let s : State := { s.advanceTb d with ticks := s.ticks + 1 }
  match s.tamp.corr with
  | some (c, src, r) => { s with tamp := { s.tamp with corr := some (c, src, r - d), moved := s.tamp.moved - d } }
  | none => s

/-- An E_time evaluated before the tick takes effect at it (02 R59). -/
def State.tickE (s : State) : State := match s.tamp.eNext with | some e => s.takeE e | none => s

theorem execTimebaseTick_eq (s : State) : execTimebaseTick s = .next (s.tickStart s.tickAdvance).tickE.ppsFall.tickTie.tickPorts.calGaps := by
  unfold execTimebaseTick
  generalize s.tickAdvance = d
  rfl

theorem State.tickStart_fields (s : State) (d : Nat) :
    (s.tickStart d).tamp.tb = s.tamp.tb + d ∧ (s.tickStart d).ticks = s.ticks + 1 ∧ (s.tickStart d).regs = s.regs ∧ (s.tickStart d).merge = s.merge
      ∧ (s.tickStart d).tamp.eNext = s.tamp.eNext := by
  unfold State.tickStart
  extract_lets t u
  split <;> exact ⟨rfl, rfl, rfl, rfl, rfl⟩

@[simp] theorem State.rd_tickStart (s : State) (d : Nat) (f : Fld) : (s.tickStart d).rd f = s.rd f := by
  obtain ⟨-, -, hregs, -, -⟩ := s.tickStart_fields d
  unfold State.rd; rw [hregs]

@[simp] theorem State.butStatus_tickE (s : State) : s.tickE.butStatus = s.butStatus := by
  unfold State.tickE
  split
  · exact State.butStatus_takeE ..
  · rfl

/-- What follows the taking of E_time in a tick. -/
theorem State.tickKept.tickEnd (s : State) : s.tickKept s.ppsFall.tickTie.tickPorts.calGaps :=
  (((State.tickKept.ppsFall s).trans (.tickTie _)).trans (.foldl State.tickKept.tickPort _ _)).trans (.calGaps _)

/-- A tick adds its advance to the timebase, and leaves ADJ. -/
theorem tb_execTimebaseTick {s u : State} (h : execTimebaseTick s = .next u) :
    u.tamp.tb = s.tamp.tb + s.tickAdvance ∧ u.rd TMP_RATE.ADJ = s.rd TMP_RATE.ADJ := by
  rw [execTimebaseTick_eq] at h
  cases h
  have hend := State.tickKept.tickEnd (s.tickStart s.tickAdvance).tickE
  have hE := State.butStatus_tickE (s.tickStart s.tickAdvance)
  obtain ⟨htb, -, -, -, -⟩ := s.tickStart_fields s.tickAdvance
  exact ⟨hend.tb.trans ((congrArg (·.tamp.tb) hE).trans htb), hend.adj.trans ((State.rd_of_butStatus hE _ rfl).trans (State.rd_tickStart ..))⟩

/-- With ADJ within its bound a tick adds at least 0.4 ns × (1 − 200 ppm) (02 R51). -/
theorem State.le_tickAdvance {s : State} (h : (s.rdInt TMP_RATE.ADJ).natAbs ≤ adjLimit) : 2 * 2 ^ 32 * (2 ^ 48 - adjLimit) ≤ s.tickAdvance := by
  unfold State.tickAdvance adjLimit at *
  refine Nat.mul_le_mul (Nat.mul_le_mul ?_ le_rfl) (by omega)
  split <;> decide

end Sys2Proof.Machine

namespace Sys2Proof.Machine
open Sys2Proof

/-! ### Time never runs backwards -/

section
variable {s u : State}

theorem State.notBack.setPtp (s : State) (k : Nat) (x : PtpSlot) : s.notBack (s.setPtp k x) := .of_eq rfl rfl

theorem State.notBack.answer (s : State) (sl st : Nat) (rsp : List Byte) : s.notBack (s.answer sl st rsp) := by
  simp only [State.answer]
  split
  · exact .of_eq rfl rfl
  · exact .refl s

/-- A fold of steps in which time does not run backwards. -/
theorem State.notBack.foldl {α : Type} {f : State → α → State} (hf : ∀ (s : State) a, s.notBack (f s a)) (l : List α) (s : State) :
    s.notBack (l.foldl f s) := by
  induction l generalizing s with
  | nil => exact .refl s
  | cons a l ih => exact (hf s a).trans (ih _)

/-- Serving a request: the owner's own part decides. -/
theorem State.notBack.serve (s : State) (sl op : Nat) (lenOk : Nat → Bool) (admin recOk : Bool) {f : State → List Byte → State × Option (Nat × List Byte)}
    (hf : ∀ (s : State) pl, s.notBack (f s pl).1) : s.notBack (s.serve sl op lenOk admin recOk f) := by
  simp only [State.serve]
  split
  · exact .refl s
  · iterate 4 (split; exact .answer ..)
    have h := State.notBack.trans (State.notBack.of_eq (s := s) rfl rfl) (hf (s.setMb sl { s.mb sl with taken := true }) (s.mb sl).payload)
    split
    next hr => rw [hr] at h; exact h.trans (.answer ..)
    next hr => rw [hr] at h; exact h

theorem State.notBack.reselect (s : State) : s.notBack s.reselect := .of_butStatus (State.butStatus_reselect s)

theorem State.notBack.traceFlag (s : State) (i : Nat) : s.notBack (s.traceFlag i) := .of_butRecords (State.butRecords_traceFlag ..)

/-! PTP messages (02 R61 to R75) -/

theorem State.notBack.bmca (s : State) (silent : Option Nat) : s.notBack (s.bmca silent) := by
  have hwr : ∀ (s : State) (k st : Nat), s.notBack (s.wr (TMP_PTP_STAT.PORT_STATE k) st) := fun s k st => .wr s st (by dsimp only; omega)
  refine .foldl (fun s d => ?_) _ s
  dsimp only
  split
  · exact (State.notBack.setPtp ..).trans (hwr ..)
  · exact hwr ..

theorem State.notBack.utcCheck (s : State) (utc : Option Int) : s.notBack (s.utcCheck utc) := by
  unfold State.utcCheck
  split
  · split
    · exact .refl s
    · exact (State.notBack.wr s _ (by decide)).trans (.traceFlag ..)
  · exact .refl s

theorem State.notBack.rxAnnounce (s : State) (k : Nat) (m : List Byte) : s.notBack (s.rxAnnounce k m) := by
  unfold State.rxAnnounce
  extract_lets x a rest old y mine s1 s2
  have h1 : s.notBack s1 := .setPtp ..
  have h2 : s1.notBack s2 := by
    unfold s2; split
    · exact (State.notBack.wr _ (f := TMP_PTP_STAT.STEPS_REMOVED k) _ (by dsimp only; omega)).trans (.utcCheck ..)
    · exact .refl _
  split
  · exact .refl s
  · exact (h1.trans h2).trans ((State.notBack.bmca ..).trans (.reselect _))

theorem State.notBack.ptpSample (s : State) (k : Nat) (off : Int) : s.notBack (s.ptpSample k off) := by
  unfold State.ptpSample
  extract_lets x s1 s2 s3 th s4 was s5
  have h3 : s.notBack s3 := (State.notBack.setPtp ..).trans
    ((State.notBack.wr s1 (f := TMP_PTP_STAT.PORT_STATE k) _ (by dsimp only; omega)).trans (.wr s2 (f := TMP_PTP_STAT.STEPS_REMOVED k) _ (by dsimp only; omega)))
  have h5 : s.notBack s5 := h3.trans ((State.clockStep.redeem ..).2.trans (.reselect s4))
  split
  · exact h5.trans (State.clockStep.sample ..).2
  · exact h5

theorem State.notBack.syncDone (s : State) (k : Nat) (t1 : Int) (t2 : Nat) : s.notBack (s.syncDone k t1 t2) := by
  simp only [State.syncDone]
  split
  · exact .setPtp ..
  · exact (State.notBack.setPtp ..).trans (.ptpSample ..)

theorem State.notBack.rxSync (s : State) (k t2 : Nat) (m : List Byte) : s.notBack (s.rxSync k t2 m) := by
  unfold State.rxSync
  extract_lets s1 x s2
  have h1 : s.notBack s1 := .wr s (f := TMP_PTP_STAT.SYNC_RX k) _ (by dsimp only; omega)
  have h2 : s.notBack s2 := h1.trans (.setPtp ..)
  split
  · exact h1
  · split
    · exact h2.trans ((State.notBack.setPtp ..).trans (.reselect _))
    · exact h2.trans ((State.notBack.syncDone ..).trans (.reselect _))

theorem State.notBack.ptpHandle (s : State) (k : Nat) (st : Stamp) (m : List Byte) : s.notBack (s.ptpHandle k st m) := by
  unfold State.ptpHandle
  split
  · exact .rxSync ..
  · unfold State.rxDelayReq; split
    · exact .refl s
    · exact .of_eq rfl rfl
  · unfold State.rxFollowUp; split
    · split
      · exact .syncDone ..
      · exact .refl s
    · exact .refl s
  · simp only [State.rxDelayResp]; split
    · split
      · exact .setPtp ..
      · exact .refl s
    · exact .refl s
  · exact .rxAnnounce ..
  · simp only [State.rxSignal]; split
    · exact .refl s
    · exact .wr s (f := TMP_PTP_STAT.L1_STATE k) _ (by dsimp only; omega)
  · exact .refl s

theorem State.notBack.ptpGeneralDue (s : State) (k : Nat) : s.notBack (s.ptpGeneralDue k) := by
  unfold State.ptpGeneralDue
  extract_lets x s1 s2
  have h2 : s.notBack s2 := by
    unfold s2; split <;> exact .of_eq rfl rfl
  split
  · split
    · exact h2.trans (.of_eq rfl rfl)
    · exact h2
  · exact .refl s

/-- In whatever state the outcome gives, time has not run backwards. -/
def State.notBackIn (s : State) (o : Host.Outcome State Fault Refusal) : Prop := ∀ u, o = .next u → s.notBack u

theorem State.notBack.next (h : s.notBack u) : s.notBackIn (.next u) := fun _ hu => by cases hu; exact h

/-! ### Each command of the time block -/

theorem notBackIn_timebaseTick (s : State) : s.notBackIn (execTimebaseTick s) := by
  intro u h
  obtain ⟨htb, hadj⟩ := tb_execTimebaseTick h
  exact .of_le (htb ▸ Nat.le_add_right ..) hadj

theorem notBackIn_etimeEval (s : State) : s.notBackIn (execEtimeEval s) := by
  unfold execEtimeEval
  extract_lets s1 s2 s3 t s4
  have h1 : s.notBack s1 := .of_butStatus (State.butStatus_holdMs1 s)
  have h3 : s1.notBack s3 := (State.notBack.wr s1 (f := TMP_EBOUND.E_REF_PS) _ (by decide)).trans (.wr s2 (f := TMP_EBOUND.E_HOLD_PS) _ (by decide))
  have h4 : s3.notBack s4 := .of_eq rfl rfl
  exact (((h1.trans h3).trans h4).trans (.of_butStatus (State.butStatus_setClassNow s4))).next

theorem notBackIn_ptpMessageRx (k : Fin 4) (s : State) : s.notBackIn (execPtpMessageRx k s) := by
  unfold execPtpMessageRx
  split
  · exact (State.notBack.refl s).next
  · extract_lets x s1
    have h1 : s.notBack s1 := .setPtp ..
    refine State.notBack.next ?_
    split
    · exact h1.trans (.ptpHandle ..)
    · exact h1

theorem notBackIn_ptpEventTx (k : Fin 4) (sub : Fin 3277) (msg : List Byte) (s : State) : s.notBackIn (execPtpEventTx k sub msg s) := by
  unfold execPtpEventTx
  split
  · exact (State.notBack.refl s).next
  · split
    · exact (State.notBack.refl s).next
    · extract_lets st one r msg' s1 x s2
      have h2 : s.notBack s2 := by
        unfold s2; split
        · exact .of_eq rfl rfl
        · split <;> exact .of_eq rfl rfl
      exact (h2.trans (.ptpGeneralDue ..)).next

theorem notBackIn_ppsInEdge (sub : Fin 3277) (s : State) : s.notBackIn (execPpsInEdge sub s) := by
  unfold execPpsInEdge
  split
  · exact (State.notBack.refl s).next
  · extract_lets u st t s1 t1 near err ps s2 sec th t2 s3 s4
    have h2 : s.notBack s2 := (State.notBack.of_eq (u := s1) rfl rfl).trans
      ((State.notBack.wr s1 (f := TMP_PPS_IN_ERR.ERR_PS) _ (by decide)).trans (.of_butRecords (State.butRecords_setTrace ..)))
    have h4 : s.notBack s4 := (h2.trans (.of_eq (u := s3) rfl rfl)).trans ((State.clockStep.redeem ..).2.trans (.reselect _))
    split
    · exact ((h2.trans (.wr s2 _ (by decide))).trans ((State.notBack.traceFlag ..).trans (.warn ..))).next
    · refine State.notBack.next ?_
      split
      · exact h4.trans (State.clockStep.sample ..).2
      · exact h4

theorem notBackIn_sourceLost (src : Fin 6) (s : State) : s.notBackIn (execSourceLost src s) := by
  unfold execSourceLost
  split
  · exact (State.notBack.refl s).next
  · split
    · extract_lets t s1 s2
      have h2 : s.notBack s2 := (State.notBack.of_eq (u := s1) rfl rfl).trans
        ((State.notBack.wr s1 _ (by decide)).trans ((State.notBack.traceFlag ..).trans (.warn ..)))
      exact (h2.trans (.reselect _)).next
    · exact ((State.notBack.setPtp ..).trans ((State.notBack.bmca ..).trans (.reselect _))).next

theorem notBackIn_ppsOutEdge (s : State) : s.notBackIn (execPpsOutEdge s) := by
  unfold execPpsOutEdge
  extract_lets sec t s1 ok t1
  split
  · exact (State.notBack.refl s).next
  · refine State.notBack.next ?_
    split <;> exact .of_eq rfl rfl

theorem notBackIn_snapTake (s : State) : s.notBackIn (execSnapTake s) :=
  ((State.notBack.wr s (f := TMP_SNAP_LO.STAMP_LO) _ (by decide)).trans
    ((State.notBack.wr _ (f := TMP_SNAP_HI.STAMP_HI) _ (by decide)).trans (.wr _ (f := TMP_SNAP_CTRL.VALID) _ (by decide)))).next

theorem notBackIn_timeStepConsent (sl : Fin 256) (s : State) : s.notBackIn (execTimeStepConsent sl s) := by
  refine State.notBack.next (.serve _ _ _ _ _ _ fun s pl => ?_)
  extract_lets d c t s1 t1 s2 s3
  have h3 : s.notBack s3 := by
    unfold s3; split
    · exact .of_eq rfl rfl
    · exact ((State.notBack.of_eq (u := s1) rfl rfl).trans (.of_butStatus (State.butStatus_tampState ..))).trans (.of_butRecords (State.butRecords_timeDisc ..))
  iterate 3 (split; exact .refl s)
  exact h3

theorem State.notBack.setTb (s : State) {t : Nat} (h : s.tamp.tb ≤ t) : s.notBack (s.setTb t) := (State.clockStep.setTb s h).2

theorem notBackIn_timeStepApply (s : State) : s.notBackIn (execTimeStepApply s) := by
  unfold execTimeStepApply
  split
  · exact (State.notBack.refl s).next
  next c _ =>
    extract_lets old new t s1 cls s2 s3 s4
    have h2 : s.notBack s2 := (State.notBack.of_eq (u := s1) rfl rfl).trans (.traceFlag ..)
    have h3 : s3.butRecords = s1.butRecords := by
      unfold s3; split
      · exact (State.butRecords_traceFlag ..).trans ((State.butRecords_submitTrace ..).trans (State.butRecords_traceFlag ..))
      · exact State.butRecords_traceFlag ..
    have htb : s3.tamp.tb = old := congrArg (·.tamp.tb) h3
    have h4 : s3.notBack s4 := (State.notBack.setTb s3 (htb ▸ Nat.le_add_right ..)).trans
      (.of_butStatus ((State.butStatus_tampStateNow ..).trans (State.butStatus_shiftSamples ..)))
    exact (((State.notBack.of_eq (u := s1) rfl rfl).trans (.of_butRecords h3)).trans (h4.trans (.of_butRecords (State.butRecords_timeDisc ..)))).next

theorem notBackIn_correctionEnd (s : State) : s.notBackIn (execCorrectionEnd s) := by
  unfold execCorrectionEnd
  split
  · extract_lets t t1 s1 s2
    have h2 : s1.notBack s2 := .of_butStatus ((State.butStatus_afterCorrection ..).trans (State.butStatus_shiftSamples ..))
    exact (((State.notBack.of_eq (u := s1) rfl rfl).trans h2).trans (.of_butRecords (State.butRecords_timeDisc ..))).next
  · exact (State.notBack.refl s).next

theorem notBackIn_timeStepDecline (sl : Fin 256) (s : State) : s.notBackIn (execTimeStepDecline sl s) := by
  refine State.notBack.next (.serve _ _ _ _ _ _ fun s pl => ?_)
  extract_lets src t s1 s2
  have h2 : s1.notBack s2 := (State.notBack.wr s1 (f := TMP_STATUS.SOURCE) _ (by decide)).trans (.of_butStatus (State.butStatus_noSource _))
  iterate 2 (split; exact .refl s)
  exact ((State.notBack.of_eq (u := s1) rfl rfl).trans h2).trans (.reselect s2)

theorem notBackIn_timeSetTod (sl : Fin 256) (s : State) : s.notBackIn (execTimeSetTod sl s) := by
  refine State.notBack.next (.serve _ _ _ _ _ _ fun s pl => ?_)
  extract_lets t
  split
  · exact .refl s
  · split
    · exact .refl s
    next h => exact .setTb s (not_lt.mp h)

theorem State.notBack.enableStamping (s : State) : s.notBack s.enableStamping :=
  (State.notBack.wr s (f := TMP_STATUS.STAMPING) 1 (by decide)).trans
    ((State.notBack.wr _ (f := TMP_STATUS.BEHIND_JOURNAL) 0 (by decide)).trans (.of_eq rfl rfl))

theorem notBackIn_timeStartUnlocked (sl : Fin 256) (s : State) : s.notBackIn (execTimeStartUnlocked sl s) := by
  refine State.notBack.next (.serve _ _ _ _ _ _ fun s _ => ?_)
  extract_lets t s1
  have h1 : s.notBack s1 := .of_eq rfl rfl
  split
  · exact h1
  · split
    · exact h1.trans (.enableStamping s1)
    · exact h1.trans (.wr s1 1 (by decide))

theorem notBackIn_stampingEnable (s : State) : s.notBackIn (execStampingEnable s) := by
  unfold execStampingEnable
  split
  · exact (State.notBack.refl s).next
  · split
    · exact (State.notBack.enableStamping s).next
    · exact (State.notBack.wr s 1 (by decide)).next

theorem State.notBack.clearFirst (s : State) (n : Nat) : s.notBack (s.clearFirst n) := by
  have hclear : ∀ (s : State) (n : Nat), s.notBack ((s.wr (ERR_STAT.FIRST_VALID n) 0).wrBit (ERR_SUM.FIRST (n / 64)) (n % 64) false) := fun s n =>
    (State.notBack.wr s _ (by dsimp only; omega)).trans (.wr _ (f := ERR_SUM.FIRST (n / 64)) _ (by dsimp only; omega))
  simp only [State.clearFirst]
  split
  · exact (hclear s n).trans (hclear _ 0)
  · exact hclear s n

theorem State.notBack.ackGroup (s : State) (g : Nat) : s.notBack (s.ackGroup g) := by
  simp only [State.ackGroup]
  split
  · exact .clearFirst ..
  · exact .refl s

theorem notBackIn_linkLock (n : Fin 64) (s : State) : s.notBackIn (execLinkLock n s) := by
  simp only [execLinkLock]
  split
  · exact (State.notBack.refl s).next
  · exact (State.notBack.trans (.of_eq rfl rfl) (.ackGroup ..)).next

theorem State.notBack.laneCal (s : State) (n kind : Nat) (oldRx oldTx : Int) : s.notBack (s.laneCal n kind oldRx oldTx) :=
  (State.notBack.wr s (f := TMP_LDIE.GEN n) _ (by dsimp only; omega)).trans (.of_butRecords (State.butRecords_laneCal ..))

theorem State.notBack.raiseLink (s : State) (n : Nat) : s.notBack (s.raiseLink n) := by
  unfold State.raiseLink
  split
  next p _ =>
    split
    · exact .wr s (f := SEQ_PST.LINK p) 1 (by dsimp only; omega)
    · exact .refl s
  · exact .refl s

/-- A write of a lane's register, all of which lie above ADJ. -/
theorem State.notBack.wr_lane (s : State) (f : Fld) (v : Nat) (hf : TMP_RATE.ADJ.key < f.key) : s.notBack (s.wr f v) := .wr s v hf.ne

theorem notBackIn_dieMeasureDone (n : Fin 64) (rx tx : BitVec 24) (s : State) : s.notBackIn (execDieMeasureDone n rx tx s) := by
  unfold execDieMeasureDone
  split
  · exact (State.notBack.refl s).next
  · extract_lets t s1 oldRx oldTx s2 s3
    have h2 : s1.notBack s2 := (State.notBack.wr_lane s1 (TMP_LDIE.RX_DIE n) _ (by dsimp only; omega)).trans (.wr_lane _ (TMP_LDIE.TX_DIE n) _ (by dsimp only; omega))
    have h3 : s2.notBack s3 := (State.notBack.wr_lane s2 (TMP_LEXCESS.RX_EXCESS_PS n) _ (by dsimp only; omega)).trans
      (.wr_lane _ (TMP_LEXCESS.TX_EXCESS_PS n) _ (by dsimp only; omega))
    have h4 : s3.notBack ((s3.wr (TMP_LDIE.VALID n) 1).laneCal n 3 oldRx oldTx) := (State.notBack.wr_lane s3 (TMP_LDIE.VALID n) _ (by dsimp only; omega)).trans (.laneCal ..)
    exact ((((State.notBack.of_eq (u := s1) rfl rfl).trans h2).trans h3).trans (h4.trans (.raiseLink ..))).next

theorem notBackIn_recalStart (n : Fin 64) (s : State) : s.notBackIn (execRecalStart n s) := by
  unfold execRecalStart
  extract_lets linked t
  split
  · exact (State.notBack.of_eq rfl rfl).next
  · exact (State.notBack.refl s).next

theorem State.notBack.answerRecal (s : State) (n st : Nat) (rsp : List Byte) : s.notBack (s.answerRecal n st rsp) := by
  unfold State.answerRecal
  extract_lets here t s1
  exact (State.notBack.of_eq (u := s1) rfl rfl).trans (.foldl (fun s r => .answer s r.2.1 st rsp) here s1)

theorem notBackIn_recalApply (n : Fin 64) (rx tx : BitVec 24) (s : State) : s.notBackIn (execRecalApply n rx tx s) := by
  unfold execRecalApply
  split
  · exact (State.notBack.refl s).next
  · extract_lets t s1 exRx exTx oldRx oldTx s2 s3 s4 s5 s6
    clear_value exRx exTx
    have h2 : s1.notBack s2 := by
      unfold s2; split
      · exact (State.notBack.wr_lane s1 (TMP_LDIE.RX_DIE n) _ (by dsimp only; omega)).trans (.wr_lane _ (TMP_LEXCESS.RX_EXCESS_PS n) _ (by dsimp only; omega))
      · exact .wr_lane s1 (TMP_LEXCESS.RX_EXCESS_PS n) _ (by dsimp only; omega)
    have h3 : s2.notBack s3 := by
      unfold s3; split
      · exact (State.notBack.wr_lane s2 (TMP_LDIE.TX_DIE n) _ (by dsimp only; omega)).trans (.wr_lane _ (TMP_LEXCESS.TX_EXCESS_PS n) _ (by dsimp only; omega))
      · exact .wr_lane s2 (TMP_LEXCESS.TX_EXCESS_PS n) _ (by dsimp only; omega)
    have h4 : s.notBack s4 := by
      refine (((State.notBack.of_eq (u := s1) rfl rfl).trans h2).trans h3).trans ?_
      unfold s4; split
      · exact .refl s3
      · exact .laneCal ..
    have h5 : s4.notBack s5 := (State.notBack.wr_lane s4 (TMP_LDIE.REJECT n) _ (by dsimp only; omega)).trans
      ((State.notBack.wr _ (f := TMP_STATUS.LCAL_REJECT) _ (by decide)).trans (.wr _ (f := TMP_CNT.RECAL_REJECTED) _ (by decide)))
    split
    · exact ((h4.trans h5).trans ((State.notBack.warn ..).trans (.answerRecal ..))).next
    · exact (h4.trans (.answerRecal ..)).next

theorem notBackIn_traceSubmit (s : State) : s.notBackIn (execTraceSubmit s) := by
  unfold execTraceSubmit
  split
  · exact (State.notBack.of_butRecords (State.butRecords_submitTrace ..)).next
  · exact (State.notBack.refl s).next

end

/-- Settles O5: each command of the time block keeps `State.notBack`, and a tick's advance has its least value at an ADJ of −200 ppm in CORRECTING. -/
theorem timeNeverRunsBackwards : Obligations.TimeNeverRunsBackwards := by
  unfold Obligations.TimeNeverRunsBackwards
  refine ⟨fun s u c k sub msg src sl n rx tx hc => ?_, fun s u hadj h => ?_⟩
  · suffices s.notBackIn (exec c s) from this u
    simp only [List.mem_cons, List.not_mem_nil, or_false] at hc
    rcases hc with rfl | rfl | rfl | rfl | rfl | rfl | rfl | rfl | rfl | rfl | rfl | rfl | rfl | rfl | rfl | rfl | rfl | rfl | rfl | rfl
    · exact notBackIn_timebaseTick s
    · exact notBackIn_etimeEval s
    · exact notBackIn_ptpMessageRx k s
    · exact notBackIn_ptpEventTx k sub msg s
    · exact notBackIn_ppsInEdge sub s
    · exact notBackIn_sourceLost src s
    · exact notBackIn_ppsOutEdge s
    · exact notBackIn_snapTake s
    · exact notBackIn_timeStepConsent sl s
    · exact notBackIn_timeStepApply s
    · exact notBackIn_correctionEnd s
    · exact notBackIn_timeStepDecline sl s
    · exact notBackIn_timeSetTod sl s
    · exact notBackIn_timeStartUnlocked sl s
    · exact notBackIn_stampingEnable s
    · exact notBackIn_linkLock n s
    · exact notBackIn_dieMeasureDone n rx tx s
    · exact notBackIn_recalStart n s
    · exact notBackIn_recalApply n rx tx s
    · exact notBackIn_traceSubmit s
  · obtain ⟨htb, -⟩ := tb_execTimebaseTick (s := s) h
    rw [htb]
    exact Nat.add_le_add_left (State.le_tickAdvance hadj) _

end Sys2Proof.Machine

namespace Sys2Proof.Machine
open Sys2Proof

/-! ### SNAP_TAKE -/

/-- A stamp rounds the timebase to eighths of a nanosecond, halves upward (02 R55). -/
theorem stampOf_eighths (t cls : Nat) :
    stampOf t cls = (2 * t + 5 * 2 ^ 77) / (2 * (5 * 2 ^ 77)) / 8000000000 * 2 ^ 48 + (2 * t + 5 * 2 ^ 77) / (2 * (5 * 2 ^ 77)) / 8 % 1000000000 * 2 ^ 16
      + (2 * t + 5 * 2 ^ 77) / (2 * (5 * 2 ^ 77)) % 8 * 0x200 * 16 + cls % 16 := by
  have hhalf : (2 * t + 5 * 2 ^ 77) / (2 * (5 * 2 ^ 77)) = (t + 5 * 2 ^ 76) / (5 * 2 ^ 77) := by omega
  simp only [stampOf, hhalf]

/-- A register write after changes of registers alone. -/
theorem State.wr_regsOnly {s u : State} (h : u = { s with regs := u.regs }) (f : Fld) (v : Nat) : u.wr f v = { s with regs := (u.wr f v).regs } :=
  congrArg (fun x : State => { x with regs := (u.wr f v).regs }) h

/-- SNAP_TAKE writes three registers, none of which another undoes (02 R53). -/
theorem snapTake_effect (s : State) : ∃ u, exec .snapTake s = .next u ∧ u.rd TMP_SNAP_LO.STAMP_LO = s.nowStamp % 2 ^ 64
    ∧ u.rd TMP_SNAP_HI.STAMP_HI = s.nowStamp / 2 ^ 64 % 2 ^ TMP_SNAP_HI.STAMP_HI.width ∧ u.rd TMP_SNAP_CTRL.VALID = 1 ∧ u = { s with regs := u.regs }
    ∧ ∀ f : Fld, f.key ∉ [TMP_SNAP_LO.STAMP_LO.key, TMP_SNAP_HI.STAMP_HI.key, TMP_SNAP_CTRL.VALID.key] → u.rd f = s.rd f := by
  refine ⟨s.snapTake, rfl, ?_, ?_, ?_, ?_, fun f hf => ?_⟩ <;> unfold State.snapTake
  · rw [State.rd_wr_other _ _ (by decide), State.rd_wr_other _ _ (by decide), State.rd_wr_same, Nat.mod_mod]
  · rw [State.rd_wr_other _ _ (by decide), State.rd_wr_same]
  · rw [State.rd_wr_same]; rfl
  · exact State.wr_regsOnly (State.wr_regsOnly (State.wr_only ..) _ _) _ _
  · simp only [List.mem_cons, List.not_mem_nil, or_false, not_or] at hf
    obtain ⟨hlo, hhi, hvalid⟩ := hf
    rw [State.rd_wr_other _ _ hvalid, State.rd_wr_other _ _ hhi, State.rd_wr_other _ _ hlo]

/-- Settles O1: the stamp of the present timebase is the one that SNAP_TAKE stores. -/
theorem snapCopiesTheTimebase : Obligations.SnapCopiesTheTimebase := by
  unfold Obligations.SnapCopiesTheTimebase
  intro s
  have h := snapTake_effect s
  rw [State.nowStamp, stampOf_eighths] at h
  exact h

/-! ### Ticks and E_time -/

/-- Every class fits the four bits of a stamp and of CLASS_NOW. -/
theorem classOf_lt (e : Nat) : classOf e < 16 := by
  unfold classOf classBounds
  simp only [firstIdx]
  split_ifs <;> decide

/-- In LOCKED the class of an E_time that is no E_hold is the class of E_cap + E_time (02 R57). -/
theorem State.rd_cls_takeE {s : State} {x : Nat} (hst : s.rd TMP_STATUS.STATE = 2) : (s.takeE (some x, false)).rd TMP_STATUS.CLASS_NOW = classOf (eCap + x) := by
  have hcls : State.stampClass { s with tamp := { s.tamp with eTime := some x, eIsHold := false, eNext := none } } 0 = classOf (eCap + x) := by
    have hf : State.forced15 { s with tamp := { s.tamp with eTime := some x, eIsHold := false, eNext := none } } = false := by
      have hst' : State.rd { s with tamp := { s.tamp with eTime := some x, eIsHold := false, eNext := none } } TMP_STATUS.STATE = 2 := hst
      simp [State.forced15, hst']
    simp [State.stampClass, hf]
  simp only [State.takeE, State.setClassNow, hcls, State.rd_wr_same]
  exact Nat.mod_eq_of_lt (classOf_lt _)

@[simp] theorem State.eTime_takeE (s : State) (e : Option Nat × Bool) : (s.takeE e).tamp.eTime = e.1 := by
  unfold State.takeE State.setClassNow
  extract_lets t s1 s2
  have h : s2.butRecords = s1.butRecords := by
    unfold s2; split
    · exact State.butRecords_setTrace ..
    · rfl
  exact congrArg (·.tamp.eTime) h

/-- TIMEBASE_TICK (02 R51, R57, R59; 03 R96). -/
theorem timebaseTick_effect (s : State) :
    ∃ u, exec .timebaseTick s = .next u ∧ u.ticks = s.ticks + 1
      ∧ u.tamp.tb = s.tamp.tb + (if s.rd TMP_STATUS.STATE = 5 then 2 else 4) * 2 ^ 32 * ((2 : Int) ^ 48 + s.rdInt TMP_RATE.ADJ).toNat
      ∧ (∀ p, p < 64 → FMap.get 0 s.merge.wm p ≤ FMap.get 0 u.merge.wm p)
      ∧ ∀ e h, s.tamp.eNext = some (e, h) → u.tamp.eTime = e
        ∧ (s.rd TMP_STATUS.STATE = 2 → h = false → ∀ x, e = some x → u.rd TMP_STATUS.CLASS_NOW = classOf (eCap + x)) := by
  obtain ⟨-, hticks, -, hmerge, heNext⟩ := s.tickStart_fields s.tickAdvance
  have hE := State.butStatus_tickE (s.tickStart s.tickAdvance)
  have hend := State.tickKept.tickEnd (s.tickStart s.tickAdvance).tickE
  have h : execTimebaseTick s = .next _ := execTimebaseTick_eq s
  refine ⟨_, h, hend.ticks.trans ((congrArg (·.ticks) hE).trans hticks), (tb_execTimebaseTick h).1, fun p _ => ?_, fun e hold he => ?_⟩
  · have hwm : (s.tickStart s.tickAdvance).tickE.merge.wm = s.merge.wm := (congrArg (·.merge.wm) hE).trans (congrArg (·.wm) hmerge)
    exact hwm ▸ hend.wm p
  · have hstep : (s.tickStart s.tickAdvance).tickE = (s.tickStart s.tickAdvance).takeE (e, hold) := by
      unfold State.tickE; rw [heNext, he]
    refine ⟨hend.eTime.trans (hstep ▸ State.eTime_takeE ..), fun hst hh x hx => ?_⟩
    subst hh hx
    exact hend.cls.trans (hstep ▸ State.rd_cls_takeE (by rw [State.rd_tickStart, hst]))

end Sys2Proof.Machine

namespace Sys2Proof.Machine
open Sys2Proof

theorem State.holdMs1_keeps (s : State) :
    s.holdMs1.tamp = { s.tamp with holdMs := s.holdMs1.tamp.holdMs } ∧ ∀ f : Fld, f.key ≠ TMP_STATUS.HOLD_S.key → s.holdMs1.rd f = s.rd f := by
  simp only [State.holdMs1]
  split
  · exact ⟨rfl, fun f hf => State.rd_wr_other _ _ hf⟩
  · split
    · exact ⟨rfl, fun _ _ => rfl⟩
    · exact ⟨rfl, fun _ _ => rfl⟩

/-- E_meas depends on the samples, on the source and its Announce, and on the configured accuracies (02 R61). -/
theorem State.eMeas_congr {s u : State} (hsamples : u.tamp.samples = s.tamp.samples) (hptp : u.tamp.ptp = s.tamp.ptp)
    (hrd : ∀ f ∈ [TMP_STATUS.SOURCE, TMP_ACC_CFG.A_PPS_PS, TMP_ACC_CFG.A_GM_PS, TMP_ACC_CFG.A_PATH_PS], u.rd f = s.rd f) : u.eMeas = s.eMeas := by
  simp only [List.forall_mem_cons, List.not_mem_nil, false_imp_iff, implies_true, and_true] at hrd
  obtain ⟨hsrc, hpps, hgm, hpath⟩ := hrd
  simp only [State.eMeas, State.aSrc, State.srcAnn, State.ptpSlot, hsamples, hptp, hsrc, hpps, hgm, hpath]

/-- With 16 samples in LOCKED, E_time is E_meas (02 R60, R61). -/
theorem State.evalE_locked {s : State} {e : Nat} (hst : s.rd TMP_STATUS.STATE = 2) (he : s.eMeas = some e) : s.evalE = (some e, false) := by
  have hlen : ¬s.tamp.samples.length < 16 := by
    intro h
    simp [State.eMeas, h] at he
  simp [State.evalE, State.useHold, hst, hlen, he]

theorem State.rd_cls_setClassNow_freerun {s : State} (hst : s.rd TMP_STATUS.STATE = 0) : s.setClassNow.rd TMP_STATUS.CLASS_NOW = 15 := by
  have hf : s.forced15 = true := by simp [State.forced15, hst]
  simp [State.setClassNow, State.stampClass, hf]

/-- ETIME_EVAL up to the class in force: the state's E_time is evaluated for the next tick. -/
theorem execEtimeEval_eq (s : State) : ∃ u : State, execEtimeEval s = .next (State.setClassNow { u with tamp := { u.tamp with eNext := some u.evalE } })
    ∧ u.tamp = { s.tamp with holdMs := u.tamp.holdMs }
    ∧ ∀ f : Fld, f.key ∉ [TMP_STATUS.HOLD_S.key, TMP_EBOUND.E_REF_PS.key, TMP_EBOUND.E_HOLD_PS.key] → u.rd f = s.rd f := by
  obtain ⟨htamp, hrd⟩ := s.holdMs1_keeps
  refine ⟨_, rfl, htamp, fun f hf => ?_⟩
  simp only [List.mem_cons, List.not_mem_nil, or_false, not_or] at hf
  obtain ⟨hhold, href, hehold⟩ := hf
  rw [State.rd_wr_other _ _ hehold, State.rd_wr_other _ _ href, hrd f hhold]

/-- ETIME_EVAL in LOCKED with 16 samples evaluates E_meas for the next tick (02 R59, R61). -/
theorem etimeEval_locked (s : State) (e : Nat) (hst : s.rd TMP_STATUS.STATE = 2) (he : s.eMeas = some e) :
    ∃ u, exec .etimeEval s = .next u ∧ u.tamp.eNext = some (some e, false) ∧ u.tamp.eTime = s.tamp.eTime := by
  obtain ⟨u, hexec, htamp, hrd⟩ := execEtimeEval_eq s
  have hmeas : u.eMeas = some e := (State.eMeas_congr (congrArg (·.samples) htamp) (congrArg (·.ptp) htamp) (by
    intro f hf
    refine hrd f ?_
    revert f; decide)).trans he
  refine ⟨_, hexec, ?_, congrArg (·.eTime) htamp⟩
  exact congrArg some (State.evalE_locked ((hrd _ (by decide)).trans hst) hmeas)

/-- ETIME_EVAL in FREERUN leaves class 15 (02 R58). -/
theorem etimeEval_freerun (s : State) (hst : s.rd TMP_STATUS.STATE = 0) : ∃ u, exec .etimeEval s = .next u ∧ u.rd TMP_STATUS.CLASS_NOW = 15 := by
  obtain ⟨u, hexec, -, hrd⟩ := execEtimeEval_eq s
  exact ⟨_, hexec, State.rd_cls_setClassNow_freerun ((hrd _ (by decide)).trans hst)⟩

/-! ### The timing slots -/

@[simp] theorem State.ptpSlot_setPtp_same (s : State) (k : Nat) (x : PtpSlot) : (s.setPtp k x).ptpSlot k = x := by
  simp [State.ptpSlot, State.setPtp]

theorem State.ptpSlot_setPtp_other (s : State) {k j : Nat} (x : PtpSlot) (h : j ≠ k) : (s.setPtp k x).ptpSlot j = s.ptpSlot j := by
  simp [State.ptpSlot, State.setPtp, FMap.get_set_other _ _ _ _ h]

/-- What Roaster's PTP state machines keep of slot `k` while they handle its message: what waits, whether it is lost, and its count of Syncs. -/
structure State.slotKept (k : Nat) (s u : State) : Prop where
  inbox : (u.ptpSlot k).inbox = (s.ptpSlot k).inbox
  lost : (u.ptpSlot k).lost = (s.ptpSlot k).lost
  syncs : u.rd (TMP_PTP_STAT.SYNC_RX k) = s.rd (TMP_PTP_STAT.SYNC_RX k)

section
variable {k : Nat} {s u v : State}

theorem State.slotKept.refl (k : Nat) (s : State) : State.slotKept k s s := ⟨rfl, rfl, rfl⟩

theorem State.slotKept.trans (h : State.slotKept k s u) (h' : State.slotKept k u v) : State.slotKept k s v :=
  ⟨h'.inbox.trans h.inbox, h'.lost.trans h.lost, h'.syncs.trans h.syncs⟩

theorem clockKey_syncRx (hk : k < 4) : clockKey (TMP_PTP_STAT.SYNC_RX k).key = false := by
  interval_cases k <;> rfl

theorem State.slotKept.of_butClock (hk : k < 4) (h : u.butClock = s.butClock) : State.slotKept k s u := by
  have htable : u.tamp.ptp = s.tamp.ptp := congrArg (·.tamp.ptp) h
  have hptp : u.ptpSlot k = s.ptpSlot k := by unfold State.ptpSlot; rw [htable]
  exact ⟨hptp ▸ rfl, hptp ▸ rfl, State.rd_of_butClock h _ (clockKey_syncRx hk)⟩

theorem State.slotKept.wr (s : State) (f : Fld) (x : Nat) (hf : (TMP_PTP_STAT.SYNC_RX k).key ≠ f.key) : State.slotKept k s (s.wr f x) :=
  ⟨rfl, rfl, State.rd_wr_other s x hf⟩

/-- A slot may change in all but what waits and whether it is lost. -/
theorem State.slotKept.setPtp (k : Nat) (s : State) (j : Nat) (x : PtpSlot) (hi : x.inbox = (s.ptpSlot j).inbox) (hl : x.lost = (s.ptpSlot j).lost) :
    State.slotKept k s (s.setPtp j x) := by
  by_cases h : k = j
  · subst h; exact ⟨by rw [State.ptpSlot_setPtp_same, hi], by rw [State.ptpSlot_setPtp_same, hl], rfl⟩
  · exact ⟨by rw [State.ptpSlot_setPtp_other _ _ h], by rw [State.ptpSlot_setPtp_other _ _ h], rfl⟩

theorem State.slotKept.reselect (hk : k < 4) (s : State) : State.slotKept k s s.reselect :=
  .of_butClock hk (State.butClock_of_butStatus (State.butStatus_reselect s))

theorem State.slotKept.ptpSample (hk : k < 4) (s : State) (j : Nat) (off : Int) : State.slotKept k s (s.ptpSample j off) := by
  unfold State.ptpSample
  extract_lets x s1 s2 s3 th s4 was s5
  have h1 : State.slotKept k s s1 := .setPtp k s j _ rfl rfl
  have h3 : State.slotKept k s1 s3 := (State.slotKept.wr s1 (TMP_PTP_STAT.PORT_STATE j) _ (by dsimp only; omega)).trans
    (.wr s2 (TMP_PTP_STAT.STEPS_REMOVED j) _ (by dsimp only; omega))
  have h5 : State.slotKept k s3 s5 := (State.slotKept.of_butClock hk (State.clockStep.redeem ..).1).trans (.reselect hk s4)
  split
  · exact ((h1.trans h3).trans h5).trans (.of_butClock hk (State.clockStep.sample ..).1)
  · exact (h1.trans h3).trans h5

theorem State.slotKept.syncDone (hk : k < 4) (s : State) (j : Nat) (t1 : Int) (t2 : Nat) : State.slotKept k s (s.syncDone j t1 t2) := by
  unfold State.syncDone
  extract_lets x s1
  have h1 : State.slotKept k s s1 := .setPtp k s j _ rfl rfl
  split
  · exact h1
  · exact h1.trans (.ptpSample hk ..)

theorem State.slotKept.foldl {α : Type} {f : State → α → State} (hf : ∀ (s : State) a, State.slotKept k s (f s a)) (l : List α) (s : State) :
    State.slotKept k s (l.foldl f s) := by
  induction l generalizing s with
  | nil => exact .refl k s
  | cons a l ih => exact (hf s a).trans (ih _)

theorem State.slotKept.bmca (k : Nat) (s : State) (silent : Option Nat) : State.slotKept k s (s.bmca silent) := by
  refine .foldl (fun s d => ?_) _ s
  dsimp only
  refine State.slotKept.trans ?_ (.wr _ (TMP_PTP_STAT.PORT_STATE d.1) _ (by dsimp only; omega))
  split
  · exact .setPtp k s _ _ rfl rfl
  · exact .refl k s

end

/-! ### PTP messages -/

theorem satInt_lt (w : Nat) (i : Int) : satInt w i < 2 ^ w := by
  have hpos : (0 : Int) < (2 ^ w : Nat) := by exact_mod_cast Nat.two_pow_pos w
  unfold satInt ofInt
  have := Int.emod_lt_of_pos (max (-(2 ^ (w - 1) : Nat) : Int) (min i ((2 ^ (w - 1) : Nat) - 1))) hpos
  have := Int.emod_nonneg (max (-(2 ^ (w - 1) : Nat) : Int) (min i ((2 ^ (w - 1) : Nat) - 1))) hpos.ne'
  omega

/-- In CORRECTING an offset sample of the source in use is stored, and steers nothing (02 R75). -/
theorem State.sample_correcting {s : State} (th : Int) (hfirst : s.tamp.firstSample = true) (hst : s.rd TMP_STATUS.STATE = 5) :
    (s.sample th).rd TMP_OFFSET.THETA = satInt 48 th ∧ (s.sample th).rd TMP_STATUS.STATE = 5 := by
  unfold State.sample
  rw [if_neg (by simp [hfirst])]
  extract_lets t s1 st s2 s3
  have hst1 : st = 5 := hst
  rw [if_pos hst1]
  have h3 : s3.butRecords = s2.butRecords := State.butRecords_setTrace ..
  refine ⟨(State.rd_of_butRecords h3 _ rfl).trans ?_, (State.rd_of_butRecords h3 _ rfl).trans ?_⟩
  · have h2 : s2.rd TMP_OFFSET.THETA = (s1.wr TMP_OFFSET.THETA (satInt 48 th)).rd TMP_OFFSET.THETA := State.rd_wr_other _ _ (by decide)
    rw [h2, State.rd_wr_same, Nat.mod_eq_of_lt (satInt_lt 48 th)]
  · have h2 : s2.rd TMP_STATUS.STATE = (s1.wr TMP_OFFSET.THETA (satInt 48 th)).rd TMP_STATUS.STATE := State.rd_wr_other _ _ (by decide)
    rw [h2, State.rd_wr_other _ _ (by decide)]
    exact hst

theorem State.reselect_correcting {s : State} (hst : s.rd TMP_STATUS.STATE = 5) : s.reselect = s := by
  unfold State.reselect; rw [if_pos hst]

/-- An offset sample of the source in use, in CORRECTING (02 R62, R75). -/
theorem State.ptpSample_correcting {s : State} {k : Nat} (off : Int) (hfirst : s.tamp.firstSample = true) (hst : s.rd TMP_STATUS.STATE = 5)
    (hsrc : s.rd TMP_STATUS.SOURCE = k + 1) :
    (s.ptpSample k off).rd TMP_OFFSET.THETA = satInt 48 (off / (5 * 2 ^ 68 : Nat)) ∧ (s.ptpSample k off).rd TMP_STATUS.STATE = 5 := by
  unfold State.ptpSample
  extract_lets x s1 s2 s3 th s4 was s5
  have hrd : ∀ f : Fld, f.key < (TMP_PTP_STAT.PORT_STATE 0).key → s4.rd f = s.rd f := fun f hf => by
    have h4 : s4.rd f = s3.rd f := by
      unfold s4 State.redeem; split <;> rfl
    rw [h4, State.rd_wr_other s2 _ (by dsimp only at *; omega), State.rd_wr_other s1 _ (by dsimp only at *; omega)]
    rfl
  have hst4 : s4.rd TMP_STATUS.STATE = 5 := (hrd _ (by decide)).trans hst
  have hsrc4 : s4.rd TMP_STATUS.SOURCE = k + 1 := (hrd _ (by decide)).trans hsrc
  have h5 : s5 = s4 := State.reselect_correcting hst4
  rw [h5, if_pos ⟨hsrc4, hsrc4⟩]
  have hfirst4 : s4.tamp.firstSample = true := by
    unfold s4 State.redeem; split <;> exact hfirst
  exact State.sample_correcting th hfirst4 hst4

/-- Counting a Sync does not change whom the slot follows. -/
theorem State.follows_count (s : State) (k : Nat) (m : List Byte) : (s.count (TMP_PTP_STAT.SYNC_RX k)).follows k m = s.follows k m := by
  have hst : (s.count (TMP_PTP_STAT.SYNC_RX k)).rd (TMP_PTP_STAT.PORT_STATE k) = s.rd (TMP_PTP_STAT.PORT_STATE k) :=
    State.rd_wr_other s _ (by dsimp only; omega)
  unfold State.follows
  rw [hst]; rfl

/-- A Sync of the slot's oldest message, from the master followed or not (02 R62, R64). -/
theorem State.rxSync_effect (s : State) {k : Nat} (hk : k < 4) (t2 : Nat) (m : List Byte) :
    ((s.rxSync k t2 m).ptpSlot k).inbox = (s.ptpSlot k).inbox
      ∧ (s.rxSync k t2 m).rd (TMP_PTP_STAT.SYNC_RX k) = min (s.rd (TMP_PTP_STAT.SYNC_RX k) + 1) (2 ^ (TMP_PTP_STAT.SYNC_RX k).width - 1)
      ∧ (s.follows k m = true → ((s.rxSync k t2 m).ptpSlot k).lost = false) := by
  unfold State.rxSync
  extract_lets s1 x s2
  have hcount : s1.rd (TMP_PTP_STAT.SYNC_RX k) = min (s.rd (TMP_PTP_STAT.SYNC_RX k) + 1) (2 ^ (TMP_PTP_STAT.SYNC_RX k).width - 1) := State.rd_count ..
  have hfollows : s1.follows k m = s.follows k m := State.follows_count ..
  have hslot : s2.ptpSlot k = { s.ptpSlot k with lost := false } := State.ptpSlot_setPtp_same ..
  have heffect : ∀ u, State.slotKept k s2 u → (u.ptpSlot k).inbox = (s.ptpSlot k).inbox
      ∧ u.rd (TMP_PTP_STAT.SYNC_RX k) = min (s.rd (TMP_PTP_STAT.SYNC_RX k) + 1) (2 ^ (TMP_PTP_STAT.SYNC_RX k).width - 1)
      ∧ (s.follows k m = true → (u.ptpSlot k).lost = false) := fun u h =>
    ⟨h.inbox.trans (by rw [hslot]), h.syncs.trans hcount, fun _ => h.lost.trans (by rw [hslot])⟩
  split
  next h => exact ⟨rfl, hcount, fun hf => by rw [hfollows, hf] at h; contradiction⟩
  · split
    · refine heffect _ (State.slotKept.trans ?_ (.reselect hk _))
      exact .setPtp k s2 k _ rfl rfl
    · exact heffect _ ((State.slotKept.syncDone hk ..).trans (.reselect hk _))

theorem State.syncDone_correcting {s : State} {k : Nat} (t1 : Int) (t2 : Nat) {d : Int} (hdelay : (s.ptpSlot k).delay = some d)
    (hst : s.rd TMP_STATUS.STATE = 5) (hsrc : s.rd TMP_STATUS.SOURCE = k + 1) (hfirst : s.tamp.firstSample = true) :
    (s.syncDone k t1 t2).rd TMP_OFFSET.THETA
        = satInt 48 (((t2 : Int) - t1 - s.rdInt (TMP_PTP_CFG.ASYM_PS k) * (tbNs : Int) / 1000 - d / 2) / (5 * 2 ^ 68 : Nat))
      ∧ (s.syncDone k t1 t2).rd TMP_STATUS.STATE = 5 := by
  unfold State.syncDone
  extract_lets x s1
  have hslot : (s1.ptpSlot k).delay = some d := by rw [State.ptpSlot_setPtp_same]; exact hdelay
  rw [hslot]
  exact State.ptpSample_correcting (s := s1) _ hfirst hst hsrc

/-- In CORRECTING a one-step Sync from the master followed stores its offset (02 R75; IEEE 1588). -/
theorem State.rxSync_correcting {s : State} {k : Nat} (t2 : Nat) (m : List Byte) {d : Int} (hf : s.follows k m = true) (hone : bitAt (field m 6 1) 1 = false)
    (hdelay : (s.ptpSlot k).delay = some d) (hst : s.rd TMP_STATUS.STATE = 5) (hsrc : s.rd TMP_STATUS.SOURCE = k + 1) (hfirst : s.tamp.firstSample = true) :
    (s.rxSync k t2 m).rd TMP_OFFSET.THETA
        = satInt 48 (((t2 : Int) - ((ptpTime m : Int) + ptpCorr m) - s.rdInt (TMP_PTP_CFG.ASYM_PS k) * (tbNs : Int) / 1000 - d / 2) / (5 * 2 ^ 68 : Nat))
      ∧ (s.rxSync k t2 m).rd TMP_STATUS.STATE = 5 := by
  unfold State.rxSync
  extract_lets s1 x s2
  have hrd : ∀ f : Fld, f.key ≠ (TMP_PTP_STAT.SYNC_RX k).key → s2.rd f = s.rd f := fun f hf => State.rd_wr_other s _ hf
  have hslot : (s2.ptpSlot k).delay = some d := by rw [State.ptpSlot_setPtp_same]; exact hdelay
  have hasym : s2.rdInt (TMP_PTP_CFG.ASYM_PS k) = s.rdInt (TMP_PTP_CFG.ASYM_PS k) := by
    unfold State.rdInt; rw [hrd _ (by dsimp only; omega)]
  obtain ⟨htheta, hst'⟩ := State.syncDone_correcting ((ptpTime m : Int) + ptpCorr m) t2 hslot ((hrd _ (by dsimp only; omega)).trans hst)
    ((hrd _ (by dsimp only; omega)).trans hsrc) hfirst
  rw [if_neg (by simp [s1, State.follows_count, hf]), if_neg (by simp [hone]), State.reselect_correcting hst', htheta, hasym]
  exact ⟨rfl, hst'⟩

/-- The slot's oldest message leaves its queue, of which `rest` is left. -/
def State.popPtp (s : State) (k : Nat) (rest : List (Stamp × List Byte)) : State := s.setPtp k { s.ptpSlot k with inbox := rest }

@[simp] theorem State.ptpSlot_popPtp (s : State) (k : Nat) (rest : List (Stamp × List Byte)) : (s.popPtp k rest).ptpSlot k = { s.ptpSlot k with inbox := rest } :=
  State.ptpSlot_setPtp_same ..

/-- The oldest message is handled when the device runs, the port is up, and it is of the slot's domain. -/
theorem execPtpMessageRx_cons {s : State} {k : Fin 4} {st : Stamp} {m : List Byte} {rest : List (Stamp × List Byte)}
    (hin : (s.ptpSlot k).inbox = (st, m) :: rest) (hrun : s.run = true) (hup : s.tportUp k = true) (hours : s.ptpOurs k m = true) :
    exec (.ptpMessageRx k) s = .next ((s.popPtp k rest).ptpHandle k st m) := by
  have hhandled : ((s.popPtp k rest).run && (s.popPtp k rest).tportUp k && (s.popPtp k rest).ptpOurs k m) = true := by
    rw [show (s.popPtp k rest).run = true from hrun, show (s.popPtp k rest).tportUp k = true from hup, show (s.popPtp k rest).ptpOurs k m = true from hours]
    rfl
  change execPtpMessageRx k s = _
  unfold execPtpMessageRx
  rw [hin]
  exact congrArg Host.Outcome.next (if_pos hhandled)

/-- PTP_MESSAGE_RX of a Sync (02 R62, R64, R75). -/
theorem ptpMessageRx_sync (s : State) (k : Fin 4) (st : Stamp) (m : List Byte) (rest : List (Stamp × List Byte)) (hin : (s.ptpSlot k).inbox = (st, m) :: rest)
    (hrun : s.run = true) (hup : s.tportUp k = true) (hours : s.ptpOurs k m = true) (htype : ptpType m = 0) :
    ∃ u, exec (.ptpMessageRx k) s = .next u ∧ (u.ptpSlot k).inbox = rest
      ∧ u.rd (TMP_PTP_STAT.SYNC_RX k) = min (s.rd (TMP_PTP_STAT.SYNC_RX k) + 1) (2 ^ (TMP_PTP_STAT.SYNC_RX k).width - 1)
      ∧ (s.follows k m = true → (u.ptpSlot k).lost = false)
      ∧ ∀ d : Int, s.follows k m = true → bitAt (field m 6 1) 1 = false → (s.ptpSlot k).delay = some d →
          s.rd TMP_STATUS.STATE = 5 → s.rd TMP_STATUS.SOURCE = k.val + 1 → s.tamp.firstSample = true →
          u.rd TMP_OFFSET.THETA = satInt 48 (((stampTb st : Int) - ((ptpTime m : Int) + ptpCorr m) - s.rdInt (TMP_PTP_CFG.ASYM_PS k) * (tbNs : Int) / 1000 - d / 2) / (5 * 2 ^ 68 : Nat))
          ∧ u.rd TMP_STATUS.STATE = 5 := by
  have hslot := s.ptpSlot_popPtp k rest
  have hfollows : (s.popPtp k rest).follows k m = s.follows k m := by
    unfold State.follows; rw [hslot]; rfl
  have hhandle : (s.popPtp k rest).ptpHandle k st m = (s.popPtp k rest).rxSync k (stampTb st) m := by
    unfold State.ptpHandle; rw [htype]; rfl
  obtain ⟨hinbox, hsyncs, hlost⟩ := State.rxSync_effect (s.popPtp k rest) k.isLt (stampTb st) m
  refine ⟨_, (execPtpMessageRx_cons hin hrun hup hours).trans (congrArg _ hhandle), hinbox.trans (by rw [hslot]), hsyncs, fun hf => hlost (hfollows.trans hf), ?_⟩
  intro d hf hone hdelay hst hsrc hfirst
  exact State.rxSync_correcting (stampTb st) m (hfollows.trans hf) hone (by rw [hslot]; exact hdelay) hst hsrc hfirst

end Sys2Proof.Machine

namespace Sys2Proof.Machine
open Sys2Proof

/-! ### PTP messages sent -/

/-- The general messages that a slot has due keep the stamp of its Delay_Req, and go out beside what has gone out. -/
theorem State.ptpGeneralDue_keeps (s : State) (k : Nat) :
    ((s.ptpGeneralDue k).ptpSlot k).dreq = (s.ptpSlot k).dreq ∧ ∀ o ∈ s.out, o ∈ (s.ptpGeneralDue k).out := by
  unfold State.ptpGeneralDue
  extract_lets x s1 s2
  have h1 : (s1.ptpSlot k).dreq = (s.ptpSlot k).dreq := by rw [State.ptpSlot_setPtp_same]
  have h2 : s2.ptpSlot k = s1.ptpSlot k ∧ ∀ o ∈ s.out, o ∈ s2.out := by
    unfold s2; split
    · exact ⟨rfl, fun o ho => List.mem_cons_of_mem _ ho⟩
    · exact ⟨rfl, fun o ho => ho⟩
  obtain ⟨hslot, hout⟩ := h2
  split
  · split
    · exact ⟨(congrArg PtpSlot.dreq hslot).trans h1, fun o ho => List.mem_cons_of_mem _ (hout o ho)⟩
    · exact ⟨(congrArg PtpSlot.dreq hslot).trans h1, hout⟩
  · exact ⟨rfl, fun o ho => ho⟩

/-- PTP_EVENT_TX at a port that is not one-step (02 R54, R56, R66). -/
theorem ptpEventTx_effect (s : State) (k : Fin 4) (sub : Fin 3277) (msg : List Byte) (p : Nat) (hport : s.tport k = some p) (hrun : s.run = true)
    (hlink : s.flag (SEQ_PST.LINK p) = true) (hone : s.flag (TMP_PTP_CFG.ONE_STEP k) = false) :
    let st := stampOf (tbShift (s.tbAt sub) (s.txTotal (s.rd (SEQ_PORT.LANE0 p)))) (s.portClass p false)
    ∃ u, exec (.ptpEventTx k sub msg) s = .next u ∧ .ptp k msg st ∈ u.out ∧ (ptpType msg = 1 → (u.ptpSlot k).dreq = some (ptpSeq msg, stampTb st)) := by
  change ∃ u, execPtpEventTx k sub msg s = .next u ∧ _
  unfold execPtpEventTx
  rw [hport]
  simp only [hrun, hlink, hone, Bool.not_true, Bool.or_self, Bool.false_eq_true, if_false, Bool.false_and, Bool.not_false, Bool.and_true]
  generalize stampOf (tbShift (s.tbAt sub) (s.txTotal (s.rd (SEQ_PORT.LANE0 p)))) (s.portClass p false) = st
  refine ⟨_, rfl, ?_, ?_⟩
  · refine (State.ptpGeneralDue_keeps _ k).2 _ ?_
    split
    · exact List.mem_cons_self
    · split
      · exact List.mem_cons_of_mem _ List.mem_cons_self
      · exact List.mem_cons_self
  · intro htype
    rw [if_pos htype, (State.ptpGeneralDue_keeps _ k).1, State.ptpSlot_setPtp_same]

/-! ### PPS -/

/-- The instant of a PPS_IN edge with a stamp, corrected by IN_COMP_PS (02 R69). -/
def State.ppsEdge (s : State) (st : Stamp) : Int := (stampTb st : Int) - s.rdInt TMP_PPS_COMP.IN_COMP_PS * (tbNs : Int) / 1000

/-- How far an instant lies from the nearest second. -/
def secondError (t : Int) : Int := t - (t + (tbNs * 1000000000 / 2 : Nat)) / (tbNs * 1000000000 : Nat) * (tbNs * 1000000000 : Nat)

/-- PPS_IN_EDGE: neither a loss nor a sample changes the edge's stamp and error (02 R54, R69, R70). -/
theorem execPpsInEdge_effect (s : State) (sub : Fin 3277) (hclock : s.ppsClock = true) (st : Stamp)
    (hst : stampOf (s.tbAt sub) (s.rd TMP_STATUS.CLASS_NOW) = st) :
    ∃ u, execPpsInEdge sub s = .next u ∧ u.tamp.ppsStamp = st
      ∧ u.rd TMP_PPS_IN_ERR.ERR_PS = satInt 32 (secondError (s.ppsEdge st) * 1000 / (tbNs : Int))
      ∧ (250000000 * tbNs < (secondError (s.ppsEdge st)).natAbs → u.rd TMP_STATUS.PPS_IN_LOSS = 1)
      ∧ ((secondError (s.ppsEdge st)).natAbs ≤ 250000000 * tbNs → u.tamp.ppsOk = true) := by
  unfold execPpsInEdge
  rw [if_neg (by simp [hclock]), hst]
  extract_lets u st' t1 s1 t near err ps s2 sec th t2 s3 s4
  have herr : secondError (s.ppsEdge st) = err := rfl
  have h2 : s2.butRecords = (s1.wr TMP_PPS_IN_ERR.ERR_PS ps).butRecords := State.butRecords_setTrace ..
  have hps : s2.rd TMP_PPS_IN_ERR.ERR_PS = satInt 32 (err * 1000 / (tbNs : Int)) := by
    rw [State.rd_of_butRecords h2 _ rfl, State.rd_wr_same]
    exact Nat.mod_eq_of_lt (satInt_lt 32 _)
  have hstamp : s2.tamp.ppsStamp = st := congrArg (·.tamp.ppsStamp) h2
  rw [herr]
  split
  next hlost =>
    have hflag : ((s2.wr TMP_STATUS.PPS_IN_LOSS 1).traceFlag 5).butRecords = (s2.wr TMP_STATUS.PPS_IN_LOSS 1).butRecords := State.butRecords_traceFlag ..
    refine ⟨_, rfl, ?_, ?_, fun _ => ?_, fun h => absurd hlost (not_lt.mpr h)⟩
    · rw [(State.warn_fields ..).1]; exact (congrArg (·.tamp.ppsStamp) hflag).trans hstamp
    · rw [State.rd_warn _ _ _ _ _ (by decide), State.rd_of_butRecords hflag _ rfl, State.rd_wr_other _ _ (by decide), hps]
    · rw [State.rd_warn _ _ _ _ _ (by decide), State.rd_of_butRecords hflag _ rfl, State.rd_wr_same]; rfl
  next hok =>
    have h4 : s3.clockStep s4 := (State.clockStep.redeem s3 5 th).trans (.of_butStatus (State.butStatus_reselect _))
    have heffect : ∀ v, s3.clockStep v → v.tamp.ppsStamp = st ∧ v.rd TMP_PPS_IN_ERR.ERR_PS = satInt 32 (err * 1000 / (tbNs : Int))
        ∧ (250000000 * tbNs < err.natAbs → v.rd TMP_STATUS.PPS_IN_LOSS = 1) ∧ (err.natAbs ≤ 250000000 * tbNs → v.tamp.ppsOk = true) := fun v hv =>
      ⟨(congrArg (·.tamp.ppsStamp) hv.1).trans hstamp, (State.rd_of_butClock hv.1 _ rfl).trans hps, fun h => absurd h hok,
        fun _ => congrArg (·.tamp.ppsOk) hv.1⟩
    refine ⟨_, rfl, heffect _ ?_⟩
    split
    · exact h4.trans (.sample ..)
    · exact h4

/-- PPS_IN_EDGE, with a nanosecond written as the manual's units. -/
theorem ppsInEdge_effect (s : State) (sub : Fin 3277) (hclock : s.ppsClock = true) :
    let second : Int := 5 * 2 ^ 80 * 1000000000
    let st := stampOf (s.tbAt sub) (s.rd TMP_STATUS.CLASS_NOW)
    let edge : Int := (stampTb st : Int) - s.rdInt TMP_PPS_COMP.IN_COMP_PS * (5 * 2 ^ 80) / 1000
    let err := edge - (edge + second / 2) / second * second
    ∃ u, exec (.ppsInEdge sub) s = .next u ∧ u.tamp.ppsStamp = st ∧ u.rd TMP_PPS_IN_ERR.ERR_PS = satInt 32 (err * 1000 / (5 * 2 ^ 80))
      ∧ (250000000 * (5 * 2 ^ 80) < err.natAbs → u.rd TMP_STATUS.PPS_IN_LOSS = 1) ∧ (err.natAbs ≤ 250000000 * (5 * 2 ^ 80) → u.tamp.ppsOk = true) := by
  have h := execPpsInEdge_effect s sub hclock _ rfl
  generalize stampOf (s.tbAt sub) (s.rd TMP_STATUS.CLASS_NOW) = st at *
  have hns : (tbNs : Int) = 5 * 2 ^ 80 := by norm_num [tbNs]
  have hsecond : ((tbNs * 1000000000 : Nat) : Int) = 5 * 2 ^ 80 * 1000000000 := by norm_num [tbNs]
  have hhalf : ((tbNs * 1000000000 / 2 : Nat) : Int) = 5 * 2 ^ 80 * 1000000000 / 2 := by norm_num [tbNs]
  simp only [secondError, State.ppsEdge, hns, hsecond, hhalf] at h
  exact h

/-- SOURCE_LOST of PPS_IN (02 R62, R69). -/
theorem sourceLost_pps (s : State) : ∃ u, exec (.sourceLost 5) s = .next u ∧ u.tamp.ppsOk = false ∧ u.rd TMP_STATUS.PPS_IN_LOSS = 1 := by
  change ∃ u, execSourceLost 5 s = .next u ∧ _
  unfold execSourceLost
  rw [if_neg (by decide), if_pos (by decide)]
  extract_lets t s1 s2
  have hflag : ((s1.wr TMP_STATUS.PPS_IN_LOSS 1).traceFlag 5).butRecords = (s1.wr TMP_STATUS.PPS_IN_LOSS 1).butRecords := State.butRecords_traceFlag ..
  have hok : s2.tamp.ppsOk = false := by
    rw [show s2.tamp = _ from (State.warn_fields ..).1]; exact congrArg (·.tamp.ppsOk) hflag
  have hloss : s2.rd TMP_STATUS.PPS_IN_LOSS = 1 := by
    rw [State.rd_warn _ _ _ _ _ (by decide), State.rd_of_butRecords hflag _ rfl, State.rd_wr_same]; rfl
  have hsel := State.butStatus_reselect s2
  exact ⟨_, rfl, (congrArg (·.tamp.ppsOk) hsel).trans hok, (State.rd_of_butStatus hsel _ rfl).trans hloss⟩

/-- SOURCE_LOST of a timing slot (02 R62). -/
theorem sourceLost_slot (s : State) (src : Fin 6) (h1 : 1 ≤ src.val) (h4 : src.val ≤ 4) :
    ∃ u, exec (.sourceLost src) s = .next u ∧ (u.ptpSlot (src.val - 1)).lost = true := by
  change ∃ u, execSourceLost src s = .next u ∧ _
  unfold execSourceLost
  rw [if_neg (by omega), if_neg (by omega)]
  extract_lets k x left s1
  have hkept : State.slotKept k s1 (s1.bmca (if left.isEmpty then some k else none)).reselect :=
    (State.slotKept.bmca ..).trans (.reselect (by omega) _)
  exact ⟨_, rfl, hkept.lost.trans (by rw [State.ptpSlot_setPtp_same])⟩

/-- PPS_OUT_EDGE in a new second, when the configuration and the state permit it (02 R71). -/
theorem ppsOutEdge_effect (s : State) (hsec : s.tamp.ppsSecond < tbSec s.ppsTime) (hclock : s.ppsClock = true) (hen : s.flag TMP_PPS_CFG.OUT_EN = true)
    (hhold : s.rd TMP_STATUS.STATE ≠ 3 ∨ s.flag TMP_PPS_CFG.OUT_IN_HOLD = true) (hcls : s.rd TMP_STATUS.CLASS_NOW ≠ 15 ∨ s.flag TMP_PPS_CFG.OUT_IN_UNTRACE = true) :
    ∃ u, exec .ppsOutEdge s = .next u ∧ u = { s with tamp := { s.tamp with ppsSecond := tbSec s.ppsTime, ppsFalls := some (s.ticks + s.rd TMP_PPS_CFG.WIDTH_US * 1250) },
                                                     out := .ppsOut (tbSec s.ppsTime) :: s.out } := by
  refine ⟨_, ?_, rfl⟩
  change execPpsOutEdge s = _
  unfold execPpsOutEdge
  extract_lets sec t s1 ok t1
  have hok : ok = true := by
    have hpermit : (s.ppsClock && s.flag TMP_PPS_CFG.OUT_EN && (s.rd TMP_STATUS.STATE != 3 || s.flag TMP_PPS_CFG.OUT_IN_HOLD)
        && (s.rd TMP_STATUS.CLASS_NOW != 15 || s.flag TMP_PPS_CFG.OUT_IN_UNTRACE)) = true := by simp [hclock, hen, hhold, hcls]
    exact hpermit
  rw [if_neg (not_le.mpr hsec), if_pos hok]
  rfl

/-- Settles O2: the clauses are the effects of the seven commands, each by its own lemma. -/
theorem timeSourcesAndTicks : Obligations.TimeSourcesAndTicks := by
  unfold Obligations.TimeSourcesAndTicks
  intro s
  exact ⟨timebaseTick_effect s, fun e hst _ he => etimeEval_locked s e hst he, etimeEval_freerun s, ptpMessageRx_sync s, ptpEventTx_effect s,
    ppsInEdge_effect s, sourceLost_pps s, sourceLost_slot s, ppsOutEdge_effect s⟩

end Sys2Proof.Machine

namespace Sys2Proof.Machine
open Sys2Proof

/-! ### Serving a mailbox request -/

/-- A request that passes its checks is served in the state in which it has been taken (08 R320, R322). -/
theorem State.serve_request {s : State} {sl op len : Nat} (h : s.request sl op len) (lenOk : Nat → Bool) (hlen : lenOk len = true) (admin recOk : Bool)
    (f : State → List Byte → State × Option (Nat × List Byte)) {s' : State} {st : Nat} {rsp : List Byte}
    (hf : f (s.served sl) (s.mb sl).payload = (s', some (st, rsp))) : s.serve sl op lenOk admin recOk f = s'.answer sl st rsp := by
  obtain ⟨hready, hon, hadmin, hrec, hl⟩ := h
  simp only [State.serve, hready, hon, hadmin, hrec, hl, hlen, Bool.not_true, Bool.false_and, Bool.and_false, Bool.false_eq_true, if_false]
  have hf' : f (s.setMb sl { s.mb sl with taken := true }) (s.mb sl).payload = (s', some (st, rsp)) := hf
  rw [hf']

/-- A request that is ready to be served is copied and not taken. -/
theorem State.busy_of_ready {s : State} {sl op : Nat} (h : s.mbReady sl op = true) : (s.mb sl).st = .busy ∧ (s.mb sl).op = op := by
  simp only [State.mbReady, Bool.and_eq_true, beq_iff_eq] at h
  obtain ⟨⟨⟨⟨-, hbusy⟩, -⟩, hop⟩, -⟩ := h
  exact ⟨hbusy, hop⟩

/-- The answer to a request whose mailbox the owner's part has left alone; a status other than OK carries a payload for few opcodes (08 R321). -/
theorem State.answered_answer {s u : State} {sl op len : Nat} (h : s.request sl op len) (hu : u.mbox = (s.served sl).mbox) (st : Nat) (rsp : List Byte)
    (hrsp : hasPayload op st = true ∨ rsp = []) : (u.answer sl st rsp).answered sl st rsp := by
  obtain ⟨hbusy, hop⟩ := State.busy_of_ready h.1
  have hmb : u.mb sl = { s.mb sl with taken := true } := by
    rw [State.mb, hu]
    exact State.mb_setMb_same ..
  have hop' : (u.mb sl).op = op := by rw [hmb]; exact hop
  have hpayload : (if hasPayload (u.mb sl).op st then rsp else []) = rsp := by
    rw [hop']
    rcases hrsp with h | h
    · rw [if_pos h]
    · rw [h, ite_self]
  unfold State.answered State.answer
  extract_lets m
  rw [hpayload, if_pos (by simp [m, hmb, hbusy]), State.mb_setMb_same]
  exact ⟨rfl, rfl⟩

/-- An answer changes the mailbox alone. -/
theorem State.answer_only (s : State) (sl st : Nat) (rsp : List Byte) : s.answer sl st rsp = { s with mbox := (s.answer sl st rsp).mbox } := by
  simp only [State.answer]; split <;> rfl

@[simp] theorem State.answer_tamp (s : State) (sl st : Nat) (rsp : List Byte) : (s.answer sl st rsp).tamp = s.tamp := by
  rw [State.answer_only]

@[simp] theorem State.rd_answer (s : State) (sl st : Nat) (rsp : List Byte) (f : Fld) : (s.answer sl st rsp).rd f = s.rd f := by
  rw [State.answer_only]; rfl

/-! ### Fields that the views of a state show -/

section
variable {s u : State}

theorem State.tb_of_butRecords (h : u.butRecords = s.butRecords) : u.tamp.tb = s.tamp.tb := congrArg (·.tamp.tb) h
theorem State.step_of_butRecords (h : u.butRecords = s.butRecords) : u.tamp.step = s.tamp.step := congrArg (·.tamp.step) h
theorem State.samples_of_butRecords (h : u.butRecords = s.butRecords) : u.tamp.samples = s.tamp.samples := congrArg (·.tamp.samples) h
theorem State.tb_of_butStatus (h : u.butStatus = s.butStatus) : u.tamp.tb = s.tamp.tb := congrArg (·.tamp.tb) h
theorem State.step_of_butStatus (h : u.butStatus = s.butStatus) : u.tamp.step = s.tamp.step := congrArg (·.tamp.step) h
theorem State.mbox_of_butClock (h : u.butClock = s.butClock) : u.mbox = s.mbox := congrArg (·.mbox) h
theorem State.corr_of_butStatus (h : u.butStatus = s.butStatus) : u.tamp.corr = s.tamp.corr := congrArg (·.tamp.corr) h
theorem State.declined_of_butStatus (h : u.butStatus = s.butStatus) : u.tamp.declined = s.tamp.declined := congrArg (·.tamp.declined) h
theorem State.mbox_of_butStatus (h : u.butStatus = s.butStatus) : u.mbox = s.mbox := congrArg (·.mbox) h
theorem State.step_of_butClock (h : u.butClock = s.butClock) : u.tamp.step = s.tamp.step := congrArg (·.tamp.step) h

end

/-! ### Consent -/

/-- Tamp is in the state it enters (02 R62). -/
theorem State.rd_state_tampState (s : State) (st : Nat) : (s.tampState st).rd TMP_STATUS.STATE = st % 8 := by
  unfold State.tampState
  extract_lets s1 s2 t2 s3 t3 s4 s5 t5 s6
  have h2 : s2.rd TMP_STATUS.STATE = st % 8 := State.rd_wr_same ..
  have h4 : s4.rd TMP_STATUS.STATE = s2.rd TMP_STATUS.STATE := by
    unfold s4; split
    · exact State.rd_wr_other _ _ (by decide)
    · split
      · split <;> rfl
      · rfl
  have h5 : s5.rd TMP_STATUS.STATE = s4.rd TMP_STATUS.STATE := by
    unfold s5; split
    · rfl
    · exact State.rd_wr_other _ _ (by decide)
  have h6 : s6.setClassNow.rd TMP_STATUS.STATE = s5.rd TMP_STATUS.STATE := State.rd_wr_other s6 _ (by decide)
  rw [h6, h5, h4, h2]

/-- What a consent begins: a forward step waits, a backward correction runs (02 R76, R77). -/
def State.consented (s : State) (c : Consent) : State :=
  if 0 < c.deltaNs then { s with tamp := { s.tamp with step := some c } }
  else
    let s := { s with tamp := { s.tamp with corr := some (c, s.rd TMP_STATUS.SOURCE, c.deltaNs.natAbs * tbNs) } }
    (s.tampState 5).timeDisc 2 c s.tamp.tb s.tamp.tb (s.tamp.tb + (s.tampState 5).tickAdvance)

theorem State.consented_forward {s : State} {c : Consent} (h : 0 < c.deltaNs) : s.consented c = { s with tamp := { s.tamp with step := some c } } := if_pos h

theorem State.consented_backward {s : State} {c : Consent} (h : c.deltaNs ≤ 0) :
    (s.consented c).rd TMP_STATUS.STATE = 5 ∧ (s.consented c).tamp.corr = some (c, s.rd TMP_STATUS.SOURCE, c.deltaNs.natAbs * tbNs)
      ∧ (s.consented c).mbox = s.mbox := by
  unfold State.consented
  rw [if_neg (not_lt.mpr h)]
  extract_lets t s1
  have hstate : (s1.tampState 5).rd TMP_STATUS.STATE = 5 := State.rd_state_tampState ..
  have hkept : (s1.tampState 5).butStatus = s1.butStatus := State.butStatus_tampState ..
  have hcorr : s1.tamp.corr = some (c, s.rd TMP_STATUS.SOURCE, c.deltaNs.natAbs * tbNs) := rfl
  have hmbox : s1.mbox = s.mbox := rfl
  generalize s1.tampState 5 = s2 at *
  have hrec : ∀ t old new, (s2.timeDisc 2 c t old new).butRecords = s2.butRecords := fun _ _ _ => State.butRecords_timeDisc ..
  have hall : ∀ t old new, (s2.timeDisc 2 c t old new).butStatus = s1.butStatus := fun t old new => (State.butStatus_of_butRecords (hrec t old new)).trans hkept
  clear_value s1
  exact ⟨(State.rd_of_butRecords (hrec ..) TMP_STATUS.STATE rfl).trans hstate, (State.corr_of_butStatus (hall ..)).trans hcorr,
    (State.mbox_of_butStatus (hall ..)).trans hmbox⟩

/-- TIME_STEP_CONSENT in STEP_PENDING with the current id and a sufficient bound (02 R76, R77). -/
theorem execTimeStepConsent_granted {s : State} {sl : Fin 256} (hreq : s.request sl 0x0100 16) (hst : s.rd TMP_STATUS.STATE = 4) (hstep : s.tamp.step = none)
    (hid : s.arg sl 0 4 = s.rd TMP_STEP_ID.ID) (hbound : (s.rdInt TMP_STEP.DELTA_NS).natAbs ≤ s.arg sl 4 8) :
    exec (.timeStepConsent sl) s = .next (((s.served sl).consented
      { deltaNs := s.rdInt TMP_STEP.DELTA_NS, stepId := s.arg sl 0 4, slice := sl, tag := s.arg sl 12 4 }).answer sl 0 (leBytes 8 (ofInt 64 (s.rdInt TMP_STEP.DELTA_NS)))) := by
  refine congrArg Host.Outcome.next (State.serve_request hreq _ rfl true false _ ?_)
  have h1 : ¬((s.served sl).rd TMP_STATUS.STATE ≠ 4 ∨ (s.served sl).tamp.step.isSome) := by
    rw [show (s.served sl).rd TMP_STATUS.STATE = 4 from hst, show (s.served sl).tamp.step = none from hstep]; simp
  have h2 : ¬field (s.mb sl).payload 0 4 ≠ (s.served sl).rd TMP_STEP_ID.ID := not_not.mpr hid
  have h3 : ¬field (s.mb sl).payload 4 8 < ((s.served sl).rdInt TMP_STEP.DELTA_NS).natAbs := not_lt.mpr hbound
  dsimp only
  rw [if_neg h1, if_neg h2, if_neg h3]
  rfl

theorem timeStepConsent_effect (s : State) (sl : Fin 256) (hreq : s.request sl 0x0100 16) (hst : s.rd TMP_STATUS.STATE = 4) (hstep : s.tamp.step = none)
    (hid : s.arg sl 0 4 = s.rd TMP_STEP_ID.ID) (hbound : (s.rdInt TMP_STEP.DELTA_NS).natAbs ≤ s.arg sl 4 8) :
    ∃ u, exec (.timeStepConsent sl) s = .next u ∧ u.answered sl 0 (leBytes 8 (ofInt 64 (s.rdInt TMP_STEP.DELTA_NS)))
        ∧ (0 < s.rdInt TMP_STEP.DELTA_NS → u.tamp.step = some { deltaNs := s.rdInt TMP_STEP.DELTA_NS, stepId := s.arg sl 0 4, slice := sl, tag := s.arg sl 12 4 }
          ∧ u.rd TMP_STATUS.STATE = 4)
        ∧ (s.rdInt TMP_STEP.DELTA_NS ≤ 0 → u.rd TMP_STATUS.STATE = 5 ∧ ∃ c src, u.tamp.corr = some (c, src, (s.rdInt TMP_STEP.DELTA_NS).natAbs * tbNs)) := by
  have hexec := execTimeStepConsent_granted hreq hst hstep hid hbound
  generalize hd : s.rdInt TMP_STEP.DELTA_NS = d at *
  let c : Consent := { deltaNs := d, stepId := s.arg sl 0 4, slice := sl, tag := s.arg sl 12 4 }
  refine ⟨_, hexec, State.answered_answer hreq ?_ 0 _ (.inl rfl), fun hpos => ?_, fun hneg => ?_⟩
  · rcases lt_or_ge 0 d with h | h
    · rw [State.consented_forward (c := c) h]
    · exact (State.consented_backward (c := c) h).2.2
  · rw [State.answer_tamp, State.rd_answer, State.consented_forward (c := c) hpos]
    exact ⟨rfl, hst⟩
  · obtain ⟨hstate, hcorr, -⟩ := State.consented_backward (s := s.served sl) (c := c) hneg
    rw [State.answer_tamp, State.rd_answer]
    exact ⟨hstate, c, _, hcorr⟩

/-! ### Steps and corrections -/

theorem State.samples_tampState (s : State) (st : Nat) : (s.tampState st).tamp.samples = s.tamp.samples := by
  unfold State.tampState
  extract_lets s1 s2 t2 s3 t3 s4 s5 t5 s6
  have h2 : s2.tamp.samples = s.tamp.samples := by
    unfold s2 s1
    split
    · rfl
    · exact congrArg (·.tamp.samples) (State.butRecords_traceFlag s 0)
  have h4 : s4.tamp.samples = s2.tamp.samples := by
    unfold s4; split
    · rfl
    · split
      · split <;> rfl
      · rfl
  have h5 : s5.tamp.samples = s4.tamp.samples := by
    unfold s5; split <;> rfl
  exact h5.trans (h4.trans h2)

/-- An E_time that takes effect leaves the samples, and writes no register but CLASS_NOW. -/
theorem State.takeE_keeps (s : State) (e : Option Nat × Bool) :
    (s.takeE e).tamp.samples = s.tamp.samples ∧ (s.takeE e).rd TMP_STATUS.STATE = s.rd TMP_STATUS.STATE := by
  unfold State.takeE
  extract_lets t s1 s2
  have h2 : s2.butRecords = s1.butRecords := by
    unfold s2; split
    · exact State.butRecords_setTrace ..
    · rfl
  exact ⟨congrArg (·.tamp.samples) h2, (State.rd_wr_other s2 _ (by decide)).trans (State.rd_of_butRecords h2 _ rfl)⟩

/-- A state entered at a tick, whose E_time is in effect at once (02 R78). -/
theorem State.tampStateNow_effect (s : State) (st : Nat) :
    (s.tampStateNow st).tamp.samples = s.tamp.samples ∧ (s.tampStateNow st).rd TMP_STATUS.STATE = st % 8 := by
  obtain ⟨hsamples, hst⟩ := (s.tampState st).takeE_keeps (s.tampState st).evalE
  exact ⟨hsamples.trans (State.samples_tampState ..), hst.trans (State.rd_state_tampState ..)⟩

theorem State.samples_setTb (s : State) (t : Nat) : (s.setTb t).tamp.samples = s.tamp.samples := by
  simp only [State.setTb, State.tamp_tickPorts, State.tamp_tickTie]

theorem State.samples_shiftSamples (s : State) (d : Int) : (s.shiftSamples d).tamp.samples = s.tamp.samples.map (· + d * 4096) := rfl

/-- A step moves the timebase and the stored samples, and Tamp acquires afresh (02 R78). -/
theorem State.steppedTo_effect (s : State) (c : Consent) (old new : Nat) (h : s.tamp.tb ≤ new) :
    let u := (((s.setTb new).shiftSamples c.deltaNs).tampStateNow 1).timeDisc 1 c new old new
    u.tamp.tb = new ∧ u.tamp.step = s.tamp.step ∧ u.rd TMP_STATUS.STATE = 1 ∧ u.tamp.samples = s.tamp.samples.map (· + c.deltaNs * 4096) := by
  have htb : (s.setTb new).tamp.tb = new := State.tb_setTb ..
  have hstep : (s.setTb new).tamp.step = s.tamp.step := State.step_of_butClock (State.clockStep.setTb s h).1
  have hsamples : (s.setTb new).tamp.samples = s.tamp.samples := State.samples_setTb ..
  generalize s.setTb new = s1 at *
  obtain ⟨hnowSamples, hst⟩ := (s1.shiftSamples c.deltaNs).tampStateNow_effect 1
  rw [State.samples_shiftSamples, hsamples] at hnowSamples
  have hnow : ((s1.shiftSamples c.deltaNs).tampStateNow 1).butStatus = s1.butStatus := (State.butStatus_tampStateNow ..).trans (State.butStatus_shiftSamples ..)
  generalize (s1.shiftSamples c.deltaNs).tampStateNow 1 = s2 at *
  have hrec : (s2.timeDisc 1 c new old new).butRecords = s2.butRecords := State.butRecords_timeDisc ..
  exact ⟨(State.tb_of_butRecords hrec).trans ((State.tb_of_butStatus hnow).trans htb),
    (State.step_of_butRecords hrec).trans ((State.step_of_butStatus hnow).trans hstep),
    (State.rd_of_butRecords hrec TMP_STATUS.STATE rfl).trans hst, (State.samples_of_butRecords hrec).trans hnowSamples⟩

/-- TIME_STEP_APPLY (02 R76, R78). -/
theorem timeStepApply_effect (s : State) (c : Consent) (hc : s.tamp.step = some c) :
    ∃ u, exec .timeStepApply s = .next u ∧ u.tamp.tb = s.tamp.tb + c.deltaNs.toNat * tbNs ∧ u.tamp.step = none
        ∧ u.rd TMP_STATUS.STATE = 1 ∧ u.tamp.samples = s.tamp.samples.map (· + c.deltaNs * 4096) := by
  change ∃ u, execTimeStepApply s = .next u ∧ _
  unfold execTimeStepApply
  split
  next h => rw [hc] at h; contradiction
  next c' h =>
    obtain rfl : c = c' := Option.some.inj (hc.symm.trans h)
    extract_lets old new t s1 cls s2 s3 s4
    have h2 : s2.butRecords = s1.butRecords := State.butRecords_traceFlag ..
    have h3 : s3.butRecords = s1.butRecords := by
      unfold s3; split
      · exact (State.butRecords_traceFlag ..).trans ((State.butRecords_submitTrace ..).trans h2)
      · exact h2
    have htb3 : s3.tamp.tb = s1.tamp.tb := State.tb_of_butRecords h3
    have hstep3 : s3.tamp.step = s1.tamp.step := State.step_of_butRecords h3
    have hsamples3 : s3.tamp.samples = s1.tamp.samples := State.samples_of_butRecords h3
    have hnew : new = s.tamp.tb + c.deltaNs.toNat * tbNs := rfl
    rw [← hnew]
    have hle : s3.tamp.tb ≤ new := by rw [htb3, hnew]; exact Nat.le_add_right ..
    clear_value new s3
    have h4 : s4 = ((s3.setTb new).shiftSamples c.deltaNs).tampStateNow 1 := rfl
    obtain ⟨htb, hstep, hst, hsamples⟩ := s3.steppedTo_effect c old new hle
    rw [← h4] at htb hstep hst hsamples
    clear_value s4
    exact ⟨_, rfl, htb, hstep.trans hstep3, hst, hsamples.trans (congrArg (List.map _) hsamples3)⟩

/-- A source selected in FREERUN or HOLDOVER begins ACQUIRING (02 R62). -/
theorem State.rd_state_select {s : State} (src : Nat) (h : s.rd TMP_STATUS.STATE = 0 ∨ s.rd TMP_STATUS.STATE = 3) : (s.select src).rd TMP_STATUS.STATE = 1 := by
  unfold State.select
  extract_lets t s1 s2 st
  have hst : st = s.rd TMP_STATUS.STATE := (State.rd_wr_other _ _ (by decide)).trans (State.rd_wr_other s1 _ (by decide))
  rw [if_pos (hst ▸ h)]
  exact State.rd_state_tampState ..

/-- After a correction Tamp acquires a source, or has none (02 R62, R78). -/
theorem State.rd_state_afterCorrection (s : State) (src : Nat) : (s.afterCorrection src).rd TMP_STATUS.STATE ∈ [0, 1, 3] := by
  unfold State.afterCorrection
  extract_lets d kept t s1 s2 s3
  have h2 : s2.rd TMP_STATUS.STATE = 0 ∨ s2.rd TMP_STATUS.STATE = 3 := by
    rw [show s2.rd TMP_STATUS.STATE = _ from ((s1.wr TMP_STATUS.SOURCE 0).tampStateNow_effect _).2]
    split
    · exact .inr rfl
    · exact .inl rfl
  split
  · rw [(s1.tampStateNow_effect 1).2]; decide
  · split
    · simp only [List.mem_cons, List.not_mem_nil, or_false]
      rcases h2 with h | h <;> simp [h]
    · rw [(State.takeE_keeps ..).2, show s3.rd TMP_STATUS.STATE = 1 from State.rd_state_select d h2]
      decide

/-- A correction that ends leaves the timebase (02 R78). -/
theorem State.corrected_effect (s : State) (c : Consent) (src t new : Nat) :
    let u := ((s.shiftSamples c.deltaNs).afterCorrection src).timeDisc 3 c t t new
    u.tamp.corr = s.tamp.corr ∧ u.rd TMP_STATUS.STATE ∈ [0, 1, 3] ∧ u.tamp.tb = s.tamp.tb := by
  have hst := (s.shiftSamples c.deltaNs).rd_state_afterCorrection src
  have hkept : ((s.shiftSamples c.deltaNs).afterCorrection src).butStatus = s.butStatus :=
    (State.butStatus_afterCorrection ..).trans (State.butStatus_shiftSamples ..)
  generalize (s.shiftSamples c.deltaNs).afterCorrection src = s1 at *
  have hrec : (s1.timeDisc 3 c t t new).butRecords = s1.butRecords := State.butRecords_timeDisc ..
  have hall := (State.butStatus_of_butRecords hrec).trans hkept
  dsimp only
  rw [State.rd_of_butRecords hrec TMP_STATUS.STATE rfl]
  exact ⟨State.corr_of_butStatus hall, hst, State.tb_of_butStatus hall⟩

/-- CORRECTION_END (02 R62, R76). -/
theorem correctionEnd_effect (s : State) (c : Consent) (src : Nat) (hc : s.tamp.corr = some (c, src, 0)) :
    ∃ u, exec .correctionEnd s = .next u ∧ u.tamp.corr = none ∧ u.rd TMP_STATUS.STATE ∈ [0, 1, 3] ∧ u.tamp.tb = s.tamp.tb := by
  change ∃ u, execCorrectionEnd s = .next u ∧ _
  unfold execCorrectionEnd
  rw [hc]
  dsimp only
  exact ⟨_, rfl, State.corrected_effect { s with tamp := { s.tamp with corr := none } } c src ..⟩

/-- What a decline does: its source is excluded, and Tamp looks for another (02 R62, Table 02-4). -/
def State.decline (s : State) : State :=
  let src := s.rd TMP_STATUS.SOURCE
  let s := { s with tamp := { s.tamp with declined := if src = 0 ∨ s.tamp.declined.contains src then s.tamp.declined else src :: s.tamp.declined } }
  ((s.wr TMP_STATUS.SOURCE 0).noSource).reselect

theorem State.decline_effect {s : State} (h : s.rd TMP_STATUS.SOURCE ≠ 0) : s.decline.mbox = s.mbox ∧ s.rd TMP_STATUS.SOURCE ∈ s.decline.tamp.declined := by
  unfold State.decline
  extract_lets src t s1
  have hkept : ((s1.wr TMP_STATUS.SOURCE 0).noSource).reselect.butStatus = s1.butStatus :=
    (State.butStatus_reselect _).trans ((State.butStatus_noSource _).trans (State.butStatus_wr _ _ _ rfl))
  have hmem : src ∈ s1.tamp.declined := by
    change src ∈ if src = 0 ∨ s.tamp.declined.contains src then s.tamp.declined else src :: s.tamp.declined
    split
    next hin => exact List.contains_iff_mem.mp (hin.resolve_left h)
    · exact List.mem_cons_self
  have hmbox : s1.mbox = s.mbox := rfl
  generalize ((s1.wr TMP_STATUS.SOURCE 0).noSource).reselect = s2 at *
  clear_value s1
  exact ⟨(State.mbox_of_butStatus hkept).trans hmbox, State.declined_of_butStatus hkept ▸ hmem⟩

/-- TIME_STEP_DECLINE (02 Table 02-4). -/
theorem timeStepDecline_effect (s : State) (sl : Fin 256) (hreq : s.request sl 0x0101 4) (hst : s.rd TMP_STATUS.STATE = 4) (hstep : s.tamp.step = none)
    (hid : s.arg sl 0 4 = s.rd TMP_STEP_ID.ID) (hsrc : s.rd TMP_STATUS.SOURCE ≠ 0) :
    ∃ u, exec (.timeStepDecline sl) s = .next u ∧ u.answered sl 0 [] ∧ s.rd TMP_STATUS.SOURCE ∈ u.tamp.declined := by
  have hserve : exec (.timeStepDecline sl) s = .next ((s.served sl).decline.answer sl 0 []) := by
    refine congrArg Host.Outcome.next (State.serve_request hreq _ rfl true false _ ?_)
    have h1 : ¬((s.served sl).rd TMP_STATUS.STATE ≠ 4 ∨ (s.served sl).tamp.step.isSome) := by
      rw [show (s.served sl).rd TMP_STATUS.STATE = 4 from hst, show (s.served sl).tamp.step = none from hstep]; simp
    have h2 : ¬field (s.mb sl).payload 0 4 ≠ (s.served sl).rd TMP_STEP_ID.ID := not_not.mpr hid
    dsimp only
    rw [if_neg h1, if_neg h2]
    rfl
  obtain ⟨hmbox, hmem⟩ := State.decline_effect (s := s.served sl) hsrc
  refine ⟨_, hserve, State.answered_answer hreq hmbox 0 [] (.inr rfl), ?_⟩
  rw [State.answer_tamp]
  exact hmem

/-! ### Setting the time, and port stamping -/

/-- TIME_SET_TOD before port stamping was first enabled (02 R73). -/
theorem timeSetTod_effect (s : State) (sl : Fin 256) (hreq : s.request sl 0x0102 12) (hever : s.tamp.stampedEver = false) :
    let t := (s.arg sl 0 8 * 1000000000 + s.arg sl 8 4) * tbNs
    ∃ u, exec (.timeSetTod sl) s = .next u ∧ (s.tamp.tb ≤ t → u.answered sl 0 [] ∧ u.tamp.tb = t) ∧ (t < s.tamp.tb → u.answered sl 0x0101 [] ∧ u.tamp.tb = s.tamp.tb) := by
  intro t
  have hever' : ¬(s.served sl).tamp.stampedEver = true := by
    rw [show (s.served sl).tamp.stampedEver = false from hever]; decide
  have hbackward : t < s.tamp.tb → exec (.timeSetTod sl) s = .next ((s.served sl).answer sl 0x0101 []) := fun h => by
    refine congrArg Host.Outcome.next (State.serve_request hreq _ rfl true false _ ?_)
    dsimp only
    rw [if_neg hever']
    exact if_pos h
  have hforward : ¬t < s.tamp.tb → exec (.timeSetTod sl) s = .next (((s.served sl).setTb t).answer sl 0 []) := fun h => by
    refine congrArg Host.Outcome.next (State.serve_request hreq _ rfl true false _ ?_)
    dsimp only
    rw [if_neg hever']
    exact if_neg h
  clear_value t
  by_cases hlt : t < s.tamp.tb
  · refine ⟨_, hbackward hlt, fun h => absurd hlt (not_lt.mpr h), fun _ => ?_⟩
    rw [State.answer_tamp]
    exact ⟨State.answered_answer hreq rfl _ [] (.inr rfl), rfl⟩
  · refine ⟨_, hforward hlt, fun h => ?_, fun h => absurd h hlt⟩
    have hmbox : ((s.served sl).setTb t).mbox = (s.served sl).mbox := State.mbox_of_butClock (State.clockStep.setTb (s.served sl) h).1
    rw [State.answer_tamp, State.tb_setTb]
    exact ⟨State.answered_answer hreq hmbox 0 [] (.inr rfl), rfl⟩

/-- Port stamping enabled above the journal (02 R73). -/
theorem State.enableStamping_effect (s : State) :
    s.enableStamping.flag TMP_STATUS.STAMPING = true ∧ s.enableStamping.tamp.stampedEver = true ∧ s.enableStamping.flag TMP_STATUS.BEHIND_JOURNAL = false := by
  let s1 := s.wr TMP_STATUS.STAMPING 1
  have hon : (s1.wr TMP_STATUS.BEHIND_JOURNAL 0).flag TMP_STATUS.STAMPING = true := by
    simp [State.flag, s1, State.rd_wr_other, TMP_STATUS.STAMPING, TMP_STATUS.BEHIND_JOURNAL]
  have hbehind : (s1.wr TMP_STATUS.BEHIND_JOURNAL 0).flag TMP_STATUS.BEHIND_JOURNAL = false := by simp [State.flag]
  exact ⟨hon, rfl, hbehind⟩

/-- TIME_START_UNLOCKED above the journal (02 R73). -/
theorem timeStartUnlocked_effect (s : State) (sl : Fin 256) (hreq : s.request sl 0x0103 0) (hoff : s.flag TMP_STATUS.STAMPING = false) (habove : s.aboveJournal = true) :
    ∃ u, exec (.timeStartUnlocked sl) s = .next u ∧ u.answered sl 0 [] ∧ u.flag TMP_STATUS.STAMPING = true ∧ u.tamp.stampedEver = true := by
  let s1 : State := { s.served sl with tamp := { (s.served sl).tamp with startUnlocked := true } }
  have hserve : exec (.timeStartUnlocked sl) s = .next (s1.enableStamping.answer sl 0 []) := by
    refine congrArg Host.Outcome.next (State.serve_request hreq _ rfl true false _ ?_)
    have hoff' : ¬s1.flag TMP_STATUS.STAMPING = true := by rw [show s1.flag TMP_STATUS.STAMPING = false from hoff]; decide
    have habove' : s1.aboveJournal = true := habove
    dsimp only
    rw [if_neg hoff', if_pos habove']
  obtain ⟨hon, hever, -⟩ := s1.enableStamping_effect
  have hmbox : s1.enableStamping.mbox = (s.served sl).mbox := rfl
  refine ⟨_, hserve, State.answered_answer hreq hmbox 0 [] (.inr rfl), ?_⟩
  rw [State.flag, State.rd_answer, State.answer_tamp]
  exact ⟨hon, hever⟩

/-- STAMPING_ENABLE after a lock, above the journal (02 R73). -/
theorem stampingEnable_effect (s : State) (hoff : s.flag TMP_STATUS.STAMPING = false) (hlock : s.tamp.everLocked = true) (habove : s.aboveJournal = true) :
    ∃ u, exec .stampingEnable s = .next u ∧ u.flag TMP_STATUS.STAMPING = true ∧ u.tamp.stampedEver = true ∧ u.flag TMP_STATUS.BEHIND_JOURNAL = false := by
  refine ⟨s.enableStamping, ?_, s.enableStamping_effect⟩
  change execStampingEnable s = _
  simp [execStampingEnable, hoff, hlock, habove]

/-! ### TRACE -/

/-- Before the merge sequencer issues, Tamp's records wait (02 R90, 03 R92). -/
theorem State.tampRec_waits {s : State} (r : Rec) (hclosed : s.merge.open_ = false) : (s.tampRec r).tamp.waiting = s.tamp.waiting ++ [r] := by
  have hpost : ∀ rs, (s.postTamp rs).tamp.waiting = rs := by
    intro rs
    cases rs with
    | nil => rfl
    | cons r rs => simp [State.postTamp, hclosed]
  simp [State.tampRec, hclosed, hpost]

/-- The second's record that Tamp submits before the merge sequencer issues (02 R90, R91). -/
theorem State.submitTrace_waits {s : State} (next cls : Nat) (hclosed : s.merge.open_ = false) :
    ∃ r : Rec, (s.submitTrace next cls).tamp.waiting = s.tamp.waiting ++ [r] ∧ r.typ = 1 ∧ r.port = 0x40
      ∧ r.stamp = (s.tamp.trace.second + 1) * 2 ^ 48 + cls ∧ (s.submitTrace next cls).tamp.trace.second = next := by
  unfold State.submitTrace
  extract_lets n
  split
  next utc s1 h =>
    have h1 : s1.merge = s.merge ∧ s1.tamp = s.tamp := by
      split at h <;> cases h <;> exact ⟨rfl, rfl⟩
    obtain ⟨hmerge, htamp⟩ := h1
    have hwait := State.tampRec_waits (s := s1) { stamp := (n + 1) * 2 ^ 48 + cls, port := 0x40, typ := 1, payload := s1.tracePayload utc } (hmerge ▸ hclosed)
    rw [htamp] at hwait
    exact ⟨_, hwait, rfl, rfl, rfl, rfl⟩

/-- TRACE_SUBMIT at the end of a second, while the merge sequencer does not issue yet (02 R90, R91). -/
theorem traceSubmit_effect (s : State) (hopen : s.tamp.traceOpen = true) (hsec : s.tamp.trace.second < tbSec s.tamp.tb) (_hseq : s.sequencing = true)
    (hclosed : s.merge.open_ = false) :
    ∃ u r, exec .traceSubmit s = .next u ∧ u.tamp.waiting = s.tamp.waiting ++ [r] ∧ r.typ = 1 ∧ r.port = 0x40
        ∧ r.stamp = (s.tamp.trace.second + 1) * 2 ^ 48 + s.rd TMP_STATUS.CLASS_NOW ∧ u.tamp.trace.second = tbSec s.tamp.tb := by
  obtain ⟨r, hr⟩ := State.submitTrace_waits (tbSec s.tamp.tb) (s.rd TMP_STATUS.CLASS_NOW) hclosed
  refine ⟨_, r, ?_, hr⟩
  change execTraceSubmit s = _
  have hdue : s.traceDue = true := by rw [State.traceDue, hopen, decide_eq_true hsec]; rfl
  rw [execTraceSubmit, if_pos hdue]

/-- Settles O3: the clauses are the effects of the eight commands, each by its own lemma. -/
theorem timeRequestsAndTrace : Obligations.TimeRequestsAndTrace := by
  unfold Obligations.TimeRequestsAndTrace
  intro s sl
  exact ⟨timeStepConsent_effect s sl, timeStepApply_effect s, correctionEnd_effect s, timeStepDecline_effect s sl, timeSetTod_effect s sl,
    timeStartUnlocked_effect s sl, stampingEnable_effect s, traceSubmit_effect s⟩

end Sys2Proof.Machine

namespace Sys2Proof.Machine
open Sys2Proof

/-! ### The lanes of a port -/

theorem toInt_toNat {w : Nat} (x : BitVec w) : toInt w (x.toNat % 2 ^ w) = x.toInt := by
  have h : x.toNat < 2 ^ w := x.isLt
  cases w with
  | zero => simp [toInt, BitVec.toInt, Subsingleton.elim x 0]
  | succ w =>
    have hw : (2 : Nat) ^ (w + 1) = 2 * 2 ^ w := by ring
    simp only [toInt, BitVec.toInt, Nat.mod_eq_of_lt h, Nat.add_sub_cancel]
    split <;> split <;> omega

/-- The lanes of a port, and the port of a lane, are read from the registers of the ports. -/
theorem State.lanes_congr {s u : State} (h : ∀ f : Fld, (SEQ_PORT.EN 0).key ≤ f.key → u.rd f = s.rd f) :
    (∀ p, u.lanesOf p = s.lanesOf p) ∧ ∀ n, u.portOfLane n = s.portOfLane n := by
  have hlanes : ∀ p, u.lanesOf p = s.lanesOf p := fun p => by
    simp only [State.lanesOf, h (SEQ_PORT.LANES_LOG2 p) (by dsimp only; omega), h (SEQ_PORT.LANE0 p) (by dsimp only; omega)]
  have hen : ∀ p, u.rd (SEQ_PORT.EN p) = s.rd (SEQ_PORT.EN p) := fun p => h _ (by dsimp only; omega)
  exact ⟨hlanes, fun n => by simp only [State.portOfLane, hlanes, State.flag, hen]⟩

/-! ### LINK_LOCK -/

theorem State.tamp_clearFirst (s : State) (n : Nat) : (s.clearFirst n).tamp = s.tamp := by
  simp only [State.clearFirst]; split <;> rfl

theorem State.tamp_ackGroup (s : State) (g : Nat) : (s.ackGroup g).tamp = s.tamp := by
  simp only [State.ackGroup]
  split
  · exact State.tamp_clearFirst ..
  · rfl

/-- LINK_LOCK of a present lane in use (02 R86). -/
theorem linkLock_effect (s : State) (n : Fin 64) (hrun : s.run = true) (hlane : s.hasLane n = true) (hdead : s.laneDead n = false) :
    ∃ u, exec (.linkLock n) s = .next u ∧ FMap.get false u.tamp.laneUp n = true ∧ FMap.get false u.tamp.measuring n = true := by
  change ∃ u, execLinkLock n s = .next u ∧ _
  simp only [execLinkLock, hrun, hlane, hdead, Bool.not_true, Bool.or_self, Bool.false_eq_true, if_false]
  refine ⟨_, rfl, ?_⟩
  rw [State.tamp_ackGroup]
  dsimp only
  exact ⟨FMap.get_set_same .., FMap.get_set_same ..⟩

/-! ### Calibration records -/

/-- The registers that lane `n`'s calibration record leaves: all but the lane's GEN and the shared pool (02 R85). -/
theorem State.rd_laneCal (s : State) (n kind : Nat) (oldRx oldTx : Int) {f : Fld} (hrec : recordKey f.key = false) (hgen : f.key ≠ (TMP_LDIE.GEN n).key) :
    (s.laneCal n kind oldRx oldTx).rd f = s.rd f :=
  (State.rd_of_butRecords (State.butRecords_laneCal ..) f hrec).trans (State.rd_wr_other s _ hgen)

/-- A key other than SHARED_FREE's is not the one that a record writes. -/
theorem recordKey_of_ne {k : Nat} (h : k ≠ SEQ_STATUS.SHARED_FREE.key) : recordKey k = false := beq_eq_false_iff_ne.mpr h

theorem State.rd_gen_laneCal (s : State) {n : Nat} (hn : n < 64) (kind : Nat) (oldRx oldTx : Int) :
    (s.laneCal n kind oldRx oldTx).rd (TMP_LDIE.GEN n) = (s.rd (TMP_LDIE.GEN n) + 1) % 2 ^ (TMP_LDIE.GEN n).width :=
  (State.rd_of_butRecords (State.butRecords_laneCal ..) _ (recordKey_of_ne (by dsimp only; omega))).trans (State.rd_wr_same ..)

section
variable (s : State) (n kind : Nat) (oldRx oldTx : Int)

theorem State.measuring_laneCal : (s.laneCal n kind oldRx oldTx).tamp.measuring = s.tamp.measuring := congrArg (·.tamp.measuring) (State.butRecords_laneCal ..)
theorem State.laneUp_laneCal : (s.laneCal n kind oldRx oldTx).tamp.laneUp = s.tamp.laneUp := congrArg (·.tamp.laneUp) (State.butRecords_laneCal ..)
theorem State.recal_laneCal : (s.laneCal n kind oldRx oldTx).tamp.recal = s.tamp.recal := congrArg (·.tamp.recal) (State.butRecords_laneCal ..)

theorem State.tamp_raiseLink : (s.raiseLink n).tamp = s.tamp := by
  unfold State.raiseLink
  split
  · split <;> rfl
  · rfl

/-- The registers below the ports' own are left when a link comes up. -/
theorem State.rd_raiseLink {f : Fld} (hf : f.key < SEQ_STATUS.SHARED_FREE.key) : (s.raiseLink n).rd f = s.rd f := by
  unfold State.raiseLink
  split
  next p _ =>
    split
    · exact State.rd_wr_other s (f := SEQ_PST.LINK p) 1 (by dsimp only at *; omega)
    · rfl
  · rfl

end

/-! ### DIE_MEASURE_DONE -/

/-- What the measurement at lock stores of a lane (02 R83, R86). -/
def State.storeDie (s : State) (n : Nat) (rx tx : BitVec 24) : State :=
  let s := (s.wr (TMP_LDIE.RX_DIE n) rx.toNat).wr (TMP_LDIE.TX_DIE n) tx.toNat
  let s := (s.wr (TMP_LEXCESS.RX_EXCESS_PS n) 0).wr (TMP_LEXCESS.TX_EXCESS_PS n) 0
  s.wr (TMP_LDIE.VALID n) 1

theorem State.rd_storeDie (s : State) (n : Nat) (rx tx : BitVec 24) :
    (s.storeDie n rx tx).rdInt (TMP_LDIE.RX_DIE n) = rx.toInt ∧ (s.storeDie n rx tx).rdInt (TMP_LDIE.TX_DIE n) = tx.toInt
      ∧ (s.storeDie n rx tx).rd (TMP_LEXCESS.RX_EXCESS_PS n) = 0 ∧ (s.storeDie n rx tx).rd (TMP_LEXCESS.TX_EXCESS_PS n) = 0
      ∧ (s.storeDie n rx tx).flag (TMP_LDIE.VALID n) = true ∧ (s.storeDie n rx tx).rd (TMP_LDIE.GEN n) = s.rd (TMP_LDIE.GEN n) := by
  simp (disch := (dsimp only; omega)) [State.storeDie, State.rdInt, State.flag, State.rd_wr_other]
  exact ⟨toInt_toNat rx, toInt_toNat tx⟩

theorem State.rd_storeDie_other (s : State) {n : Nat} (hn : n < 64) (rx tx : BitVec 24) {f : Fld} (hf : SEQ_STATUS.SHARED_FREE.key < f.key) :
    (s.storeDie n rx tx).rd f = s.rd f := by
  simp (disch := (dsimp only at *; omega)) only [State.storeDie, State.rd_wr_other]

/-- DIE_MEASURE_DONE of a lane being measured (02 R83, R86). -/
theorem dieMeasureDone_effect (s : State) (n : Fin 64) (rx tx : BitVec 24) (hmeas : FMap.get false s.tamp.measuring n = true) :
    ∃ u, exec (.dieMeasureDone n rx tx) s = .next u
      ∧ u.rdInt (TMP_LDIE.RX_DIE n) = rx.toInt ∧ u.rdInt (TMP_LDIE.TX_DIE n) = tx.toInt ∧ u.rd (TMP_LEXCESS.RX_EXCESS_PS n) = 0 ∧ u.rd (TMP_LEXCESS.TX_EXCESS_PS n) = 0
      ∧ u.flag (TMP_LDIE.VALID n) = true ∧ u.rd (TMP_LDIE.GEN n) = (s.rd (TMP_LDIE.GEN n) + 1) % 2 ^ (TMP_LDIE.GEN n).width
      ∧ FMap.get false u.tamp.measuring n = false
      ∧ ∀ p, s.portOfLane n = some p → (s.lanesOf p).all (fun l => FMap.get false s.tamp.laneUp l && (l == n.val || !FMap.get false s.tamp.measuring l)) = true →
          u.flag (SEQ_PST.LINK p) = true := by
  have hn := n.isLt
  let s1 : State := { s with tamp := { s.tamp with measuring := FMap.set false s.tamp.measuring n false, measured := FMap.set 0 s.tamp.measured n s.ticks } }
  let s2 := s1.storeDie n rx tx
  let s3 := s2.laneCal n 3 (s1.rxTotal n) (s1.txTotal n)
  have hexec : exec (.dieMeasureDone n rx tx) s = .next (s3.raiseLink n) := by
    change execDieMeasureDone n rx tx s = _
    unfold execDieMeasureDone
    rw [hmeas]
    rfl
  have hgen3 : s3.rd (TMP_LDIE.GEN n) = (s2.rd (TMP_LDIE.GEN n) + 1) % 2 ^ (TMP_LDIE.GEN n).width := State.rd_gen_laneCal s2 hn ..
  have hrd3 : ∀ f : Fld, f.key ≠ SEQ_STATUS.SHARED_FREE.key → f.key ≠ (TMP_LDIE.GEN n).key → s3.rd f = s2.rd f := fun f hrec hgen =>
    State.rd_laneCal s2 n 3 _ _ (recordKey_of_ne hrec) hgen
  have hmeas3 : s3.tamp.measuring = FMap.set false s.tamp.measuring n false := State.measuring_laneCal s2 ..
  have hup3 : s3.tamp.laneUp = s.tamp.laneUp := State.laneUp_laneCal s2 ..
  obtain ⟨hrx, htx, hexRx, hexTx, hvalid, hgen⟩ := s1.rd_storeDie n rx tx
  have hports : ∀ f : Fld, (SEQ_PORT.EN 0).key ≤ f.key → s3.rd f = s.rd f := fun f hf => by
    dsimp only at hf
    exact (hrd3 f (by dsimp only; omega) (by dsimp only; omega)).trans (s1.rd_storeDie_other hn rx tx (by dsimp only; omega))
  obtain ⟨hlanes, hport⟩ := State.lanes_congr hports
  refine ⟨_, hexec, ?_⟩
  simp (disch := (dsimp only; omega)) only [State.rdInt, State.flag, State.rd_raiseLink, hrd3, hgen3]
  refine ⟨hrx, htx, hexRx, hexTx, hvalid, congrArg (fun g => (g + 1) % _) hgen, ?_, fun p hp hall => ?_⟩
  · rw [State.tamp_raiseLink, hmeas3]
    exact FMap.get_set_same ..
  · have hready : (s3.lanesOf p).all (fun l => FMap.get false s3.tamp.laneUp l && !FMap.get false s3.tamp.measuring l) = true := by
      rw [hlanes, hup3, hmeas3, List.all_eq_true]
      intro l hl
      have hl' := List.all_eq_true.mp hall l hl
      by_cases hln : l = n
      · subst hln
        simpa using hl'
      · simpa [FMap.get_set_other _ _ _ _ hln, hln] using hl'
    rw [State.raiseLink, hport, hp]
    dsimp only
    rw [if_pos hready, State.rd_wr_same]
    rfl

/-! ### Live recalibration -/

/-- RECAL_START of an idle valid lane of a linked port, PERIOD_S after its last measurement (02 R87). -/
theorem recalStart_effect (s : State) (n : Fin 64) (p : Nat) (hper : s.rd TMP_RECAL_CFG.PERIOD_S ≠ 0)
    (hdue : FMap.get 0 s.tamp.measured n + s.rd TMP_RECAL_CFG.PERIOD_S * 1250000000 ≤ s.ticks) (hp : s.portOfLane n = some p)
    (hlink : s.flag (SEQ_PST.LINK p) = true) (hvalid : s.flag (TMP_LDIE.VALID n) = true) (hbusy : s.laneBusy n = false) (hrecal : s.tamp.recal = none) :
    ∃ u, exec (.recalStart n) s = .next u ∧ u = { s with tamp := { s.tamp with recal := some n } } := by
  refine ⟨_, ?_, rfl⟩
  change execRecalStart n s = _
  have hdue' : s.recalDue n = true := by simp [State.recalDue, hper, hdue]
  simp only [execRecalStart, hp, hdue', hlink, hvalid, hbusy, hrecal]
  rfl

/-- An answer to the requests of a lane changes no register and nothing of the merge, and leaves the measurement. -/
theorem State.answerRecal_keeps (s : State) (n st : Nat) (rsp : List Byte) :
    (s.answerRecal n st rsp).regs = s.regs ∧ (s.answerRecal n st rsp).merge = s.merge ∧ (s.answerRecal n st rsp).tamp.recal = s.tamp.recal := by
  have hfold : ∀ (l : List (Nat × Nat × Nat)) (s : State), l.foldl (fun s r => s.answer r.2.1 st rsp) s
      = { s with mbox := (l.foldl (fun s r => s.answer r.2.1 st rsp) s).mbox } := by
    intro l
    induction l with
    | nil => exact fun s => rfl
    | cons r l ih =>
      intro s
      rw [List.foldl_cons, ih, State.answer_only]
  unfold State.answerRecal
  extract_lets here t s1
  rw [hfold]
  exact ⟨rfl, rfl, rfl⟩

theorem State.rd_answerRecal (s : State) (n st : Nat) (rsp : List Byte) (f : Fld) : (s.answerRecal n st rsp).rd f = s.rd f := by
  obtain ⟨hregs, -, -⟩ := s.answerRecal_keeps n st rsp
  rw [State.rd, hregs, State.rd]

theorem State.recal_answerRecal (s : State) (n st : Nat) (rsp : List Byte) : (s.answerRecal n st rsp).tamp.recal = s.tamp.recal := by
  obtain ⟨-, -, hrecal⟩ := s.answerRecal_keeps n st rsp
  exact hrecal

/-- A result within LIMIT_PS has no excess. -/
theorem State.recalExcess_within {s : State} {old new : Int} (h : (new - old).natAbs * 1000 ≤ s.rd TMP_RECAL_CFG.LIMIT_PS * 4096) :
    s.recalExcess old new = none := if_neg (not_lt.mpr h)

theorem State.recalExcess_outside {s : State} {old new : Int} (h : s.rd TMP_RECAL_CFG.LIMIT_PS * 4096 < (new - old).natAbs * 1000) :
    ∃ d, s.recalExcess old new = some d := ⟨_, if_pos h⟩

/-- RECAL_APPLY of a result within LIMIT_PS in both directions (02 R84, R87). -/
theorem recalApply_within (s : State) (n : Fin 64) (rx tx : BitVec 24) (hrecal : s.tamp.recal = some n) (hbusy : s.laneBusy n = false)
    (hdr : (rx.toInt - s.rdInt (TMP_LDIE.RX_DIE n)).natAbs * 1000 ≤ s.rd TMP_RECAL_CFG.LIMIT_PS * 4096)
    (hdt : (tx.toInt - s.rdInt (TMP_LDIE.TX_DIE n)).natAbs * 1000 ≤ s.rd TMP_RECAL_CFG.LIMIT_PS * 4096) :
    ∃ u, exec (.recalApply n rx tx) s = .next u ∧ u.rdInt (TMP_LDIE.RX_DIE n) = rx.toInt ∧ u.rdInt (TMP_LDIE.TX_DIE n) = tx.toInt
        ∧ u.tamp.recal = none ∧ u.rd (TMP_LDIE.GEN n) = (s.rd (TMP_LDIE.GEN n) + 1) % 2 ^ (TMP_LDIE.GEN n).width := by
  have hn := n.isLt
  change ∃ u, execRecalApply n rx tx s = .next u ∧ _
  unfold execRecalApply
  rw [if_neg (by simp [hrecal, hbusy])]
  extract_lets t s1 exRx exTx oldRx oldTx s2 s3 s4 s5 s6
  have hrx : exRx = none := State.recalExcess_within hdr
  have htx : exTx = none := State.recalExcess_within hdt
  clear_value exRx exTx
  subst hrx htx
  have h3 : s3 = (((s1.wr (TMP_LDIE.RX_DIE n) rx.toNat).wr (TMP_LEXCESS.RX_EXCESS_PS n) 0).wr (TMP_LDIE.TX_DIE n) tx.toNat).wr (TMP_LEXCESS.TX_EXCESS_PS n) 0 := rfl
  have hgen : s4.rd (TMP_LDIE.GEN n) = (s3.rd (TMP_LDIE.GEN n) + 1) % 2 ^ (TMP_LDIE.GEN n).width := State.rd_gen_laneCal s3 hn ..
  have hrd : ∀ f : Fld, f.key ≠ SEQ_STATUS.SHARED_FREE.key → f.key ≠ (TMP_LDIE.GEN n).key → s4.rd f = s3.rd f := fun f hrec hgen =>
    State.rd_laneCal s3 n 1 _ _ (recordKey_of_ne hrec) hgen
  have hrecal4 : s4.tamp.recal = none := State.recal_laneCal s3 ..
  refine ⟨_, rfl, ?_⟩
  simp (disch := (dsimp only; omega)) only [State.rdInt, State.rd_answerRecal, State.recal_answerRecal, hrd, hgen, h3, State.rd_wr_other, State.rd_wr_same]
  exact ⟨toInt_toNat rx, toInt_toNat tx, hrecal4, rfl⟩

/-- RECAL_APPLY of a result outside LIMIT_PS in both directions (02 R87). -/
theorem recalApply_outside (s : State) (n : Fin 64) (rx tx : BitVec 24) (hrecal : s.tamp.recal = some n) (hbusy : s.laneBusy n = false)
    (hdr : s.rd TMP_RECAL_CFG.LIMIT_PS * 4096 < (rx.toInt - s.rdInt (TMP_LDIE.RX_DIE n)).natAbs * 1000)
    (hdt : s.rd TMP_RECAL_CFG.LIMIT_PS * 4096 < (tx.toInt - s.rdInt (TMP_LDIE.TX_DIE n)).natAbs * 1000) :
    ∃ u, exec (.recalApply n rx tx) s = .next u ∧ u.rd (TMP_LDIE.RX_DIE n) = s.rd (TMP_LDIE.RX_DIE n)
        ∧ u.rd (TMP_LDIE.TX_DIE n) = s.rd (TMP_LDIE.TX_DIE n) ∧ u.flag (TMP_LDIE.REJECT n) = true ∧ u.tamp.recal = none
        ∧ u.rd TMP_CNT.RECAL_REJECTED = min (s.rd TMP_CNT.RECAL_REJECTED + 1) (2 ^ TMP_CNT.RECAL_REJECTED.width - 1) := by
  have hn := n.isLt
  change ∃ u, execRecalApply n rx tx s = .next u ∧ _
  unfold execRecalApply
  rw [if_neg (by simp [hrecal, hbusy])]
  extract_lets t s1 exRx exTx oldRx oldTx s2 s3 s4 s5 s6
  obtain ⟨dr, hrx⟩ : ∃ d, exRx = some d := State.recalExcess_outside hdr
  obtain ⟨dt, htx⟩ : ∃ d, exTx = some d := State.recalExcess_outside hdt
  clear_value exRx exTx
  subst hrx htx
  have h5 : s5 = (((((s1.wr (TMP_LEXCESS.RX_EXCESS_PS n) dr).wr (TMP_LEXCESS.TX_EXCESS_PS n) dt).wr (TMP_LDIE.REJECT n) 1).wr TMP_STATUS.LCAL_REJECT 1).count
    TMP_CNT.RECAL_REJECTED) := rfl
  have hrd : ∀ f : Fld, f.key < ERR_CFG.AUTO_ACK.key → s6.rd f = s5.rd f := fun f hf => State.rd_warn s5 _ _ _ _ hf
  have hrecal6 : s6.tamp.recal = none := congrArg (·.recal) (State.warn_fields s5 ..).1
  refine ⟨_, rfl, ?_⟩
  simp (disch := (dsimp only; omega)) only [State.flag, State.rd_answerRecal, State.recal_answerRecal, hrd, h5, State.count, State.rd_wr_other, State.rd_wr_same]
  exact ⟨rfl, rfl, rfl, hrecal6, Nat.mod_eq_of_lt (by simp only [satInc]; omega)⟩

/-- Settles O4: the four commands, each by its own lemma. -/
theorem laneCalibration : Obligations.LaneCalibration := by
  unfold Obligations.LaneCalibration
  intro s n rx tx
  refine ⟨linkLock_effect s n, dieMeasureDone_effect s n rx tx, fun p => recalStart_effect s n p, fun hrecal hbusy => ?_⟩
  exact ⟨recalApply_within s n rx tx hrecal hbusy, recalApply_outside s n rx tx hrecal hbusy⟩

end Sys2Proof.Machine

namespace Sys2Proof.Machine
open Sys2Proof

/-! ### What keeps the merge store -/

/-- The merge store is kept, and so are the registers whose keys satisfy `P`. -/
def State.mergeKept (P : Nat → Prop) (s u : State) : Prop := u.merge = s.merge ∧ ∀ f : Fld, P f.key → u.rd f = s.rd f

section
variable {P : Nat → Prop} {s u v : State}

theorem State.mergeKept.refl (s : State) : State.mergeKept P s s := ⟨rfl, fun _ _ => rfl⟩

theorem State.mergeKept.trans (h : State.mergeKept P s u) (h' : State.mergeKept P u v) : State.mergeKept P s v :=
  ⟨h'.1.trans h.1, fun f hf => (h'.2 f hf).trans (h.2 f hf)⟩

theorem State.mergeKept.wr (s : State) (f : Fld) (x : Nat) (hf : ¬P f.key) : State.mergeKept P s (s.wr f x) :=
  ⟨rfl, fun _ hg => State.rd_wr_other s x fun h => hf (h ▸ hg)⟩

theorem State.mergeKept.of_regs (hm : u.merge = s.merge) (hr : u.regs = s.regs) : State.mergeKept P s u :=
  ⟨hm, fun f _ => by rw [State.rd, hr, State.rd]⟩

theorem State.mergeKept.foldl {α : Type} {f : State → α → State} (hf : ∀ (s : State) a, State.mergeKept P s (f s a)) (l : List α) (s : State) :
    State.mergeKept P s (l.foldl f s) := by
  induction l generalizing s with
  | nil => exact .refl s
  | cons a l ih => exact (hf s a).trans (ih _)

theorem State.mergeKept.framesOf (h : State.mergeKept P s u) (p : Nat) : u.framesOf p = s.framesOf p := by rw [State.framesOf, h.1, State.framesOf]

theorem State.mergeKept.slotsOf (h : State.mergeKept P s u) (p : Nat) : u.slotsOf p = s.slotsOf p := by rw [State.slotsOf, h.1, State.slotsOf]

end

@[simp] theorem State.framesOf_setFrames_same (s : State) (p : Nat) (l : List Frame) : (s.setFrames p l).framesOf p = l := by
  simp [State.framesOf, State.setFrames]

@[simp] theorem State.framesOf_wr (s : State) (f : Fld) (v p : Nat) : (s.wr f v).framesOf p = s.framesOf p := rfl
@[simp] theorem State.framesOf_count (s : State) (f : Fld) (p : Nat) : (s.count f).framesOf p = s.framesOf p := rfl
@[simp] theorem State.slotsOf_count (s : State) (f : Fld) (p : Nat) : (s.count f).slotsOf p = s.slotsOf p := rfl

/-! ### FRAME_START -/

/-- The keys of the merge's registers, which lie above Tamp's. -/
def mergeKey (k : Nat) : Prop := SEQ_STATUS.SHARED_FREE.key < k

theorem State.mergeKept.abandonRecal (s : State) (p : Nat) : State.mergeKept mergeKey s (s.abandonRecal p) := by
  unfold State.abandonRecal
  split
  · split
    · exact (State.mergeKept.of_regs rfl rfl).trans (.wr _ TMP_CNT.RECAL_ABANDONED _ (by unfold mergeKey; decide))
    · exact .refl s
  · exact .refl s

theorem State.mergeKept.tracePortStamp (s : State) (c : Nat) : State.mergeKept mergeKey s (s.tracePortStamp c) := by
  unfold State.tracePortStamp
  extract_lets s1
  have h1 : State.mergeKept mergeKey s s1 := by
    unfold s1; split
    · exact .wr s TMP_CNT.CLASS15_STAMPS _ (by unfold mergeKey; decide)
    · exact .refl s
  refine h1.trans ?_
  unfold State.setTrace
  split
  · exact .of_regs rfl rfl
  · exact .refl s1

/-- FRAME_START on a port that is up (02 R56; 03 R93). -/
theorem frameStart_effect (s : State) (p : Fin 64) (sub : Fin 3277) (hup : s.portUp p = true) :
    ∃ u, exec (.frameStart p sub) s = .next u ∧ u.framesOf p = s.framesOf p
        ++ [{ stamp := stampOf (tbShift (s.tbAt sub) (-(s.rxTotal (s.rd (SEQ_PORT.LANE0 p))))) (s.portClass p true), early := !s.constrains p }] := by
  change ∃ u, execFrameStart p sub s = .next u ∧ _
  unfold execFrameStart
  rw [hup]
  extract_lets n cls st s1 s2
  have h2 : State.mergeKept mergeKey s s2 := by
    refine (State.mergeKept.abandonRecal s p).trans ?_
    unfold s2; split
    · exact .tracePortStamp ..
    · exact .refl s1
  have hconstrains : s2.constrains p = s.constrains p := by
    simp only [State.constrains, State.flag, h2.2 (SEQ_PST.ACTIVE p) (by simp only [mergeKey]; omega), h2.2 (SEQ_PST.LEAVING p) (by simp only [mergeKey]; omega)]
  refine ⟨_, rfl, ?_⟩
  rw [State.framesOf_setFrames_same, h2.framesOf, hconstrains]

/-! ### FRAME_END -/

@[simp] theorem State.framesOf_postSlot (s : State) (p : Nat) (st : Stamp) (x : SlotState) (c : Rec) (sh : Bool) (d : List Byte) (cp : Bool) (q : Nat) :
    (s.postSlot p st x c sh d cp).framesOf q = s.framesOf q := by
  simp only [State.postSlot]; split <;> rfl

@[simp] theorem State.slotsOf_postSlot (s : State) (p : Nat) (st : Stamp) (x : SlotState) (c : Rec) (sh : Bool) (d : List Byte) (cp : Bool) :
    (s.postSlot p st x c sh d cp).slotsOf p = s.slotsOf p ++ [{ stamp := st, st := x, shared := sh, cand := c, data := d, copied := cp }] := by
  simp only [State.postSlot]
  split
  · exact State.slotsOf_setSlots_same ..
  · exact State.slotsOf_setSlots_same ..

/-- A frame of legal length on port `p`. -/
def State.legalLen (s : State) (p len : Nat) : Prop := 64 ≤ len ∧ len ≤ s.rd (SEQ_PORT.MAXLEN p)

theorem State.frameBad_eq_false {s : State} {p len : Nat} (h : s.legalLen p len) : (!true || decide (len < 64) || decide (s.rd (SEQ_PORT.MAXLEN p) < len)) = false := by
  obtain ⟨hmin, hmax⟩ := h
  simp [hmin, hmax]

/-- A good frame on an active port that finds a slot (03 R93, R98). -/
theorem frameEnd_posts (s : State) (p : Fin 64) (data : List Byte) (f : Frame) (fs : List Frame) (hfs : s.framesOf p = f :: fs) (hearly : f.early = false)
    (hcon : s.constrains p = true) (sh : Bool) (hlen : s.legalLen p (data.length + 4)) (hptp : (s.isTiming p && (ptpOf data).isSome) = false)
    (hpool : s.slotPool p = some sh) :
    ∃ u, exec (.frameEnd p data true) s = .next u ∧ u.framesOf p = fs
      ∧ u.slotsOf p = s.slotsOf p ++ [{ stamp := f.stamp, st := .pending, shared := sh, cand := { stamp := f.stamp, port := p }, data := data, copied := false }] := by
  change ∃ u, execFrameEnd p data true s = .next u ∧ _
  unfold execFrameEnd
  rw [hfs]
  dsimp -zeta only
  extract_lets s1 len bad
  have hbad : bad = false := State.frameBad_eq_false hlen
  have hptp1 : (!bad && s1.isTiming p && (ptpOf data).isSome) = false := by rw [hbad]; exact hptp
  have hcon1 : (f.early || !s1.constrains p) = false := by rw [hearly, show s1.constrains p = true from hcon]; rfl
  have hpool1 : s1.slotPool p = some sh := hpool
  rw [hptp1, hcon1, hbad, hpool1]
  refine ⟨_, rfl, ?_⟩
  rw [State.framesOf_postSlot, State.slotsOf_postSlot]
  exact ⟨State.framesOf_setFrames_same .., rfl⟩

/-- A bad frame on an active port, or one of illegal length (03 R98). -/
theorem frameEnd_bad (s : State) (p : Fin 64) (data : List Byte) (good : Bool) (f : Frame) (fs : List Frame) (hfs : s.framesOf p = f :: fs)
    (hearly : f.early = false) (hcon : s.constrains p = true) (hbad : good = false ∨ data.length + 4 < 64 ∨ s.rd (SEQ_PORT.MAXLEN p) < data.length + 4) :
    ∃ u, exec (.frameEnd p data good) s = .next u ∧ u.framesOf p = fs ∧ u.slotsOf p = s.slotsOf p
      ∧ u.rd (SEQ_PCNT0.BAD_FRAME p) = min (s.rd (SEQ_PCNT0.BAD_FRAME p) + 1) (2 ^ (SEQ_PCNT0.BAD_FRAME p).width - 1) := by
  change ∃ u, execFrameEnd p data good s = .next u ∧ _
  unfold execFrameEnd
  rw [hfs]
  dsimp -zeta only
  extract_lets s1 len bad
  have hbad1 : bad = true := by
    change (!good || decide (data.length + 4 < 64) || decide (s.rd (SEQ_PORT.MAXLEN p) < data.length + 4)) = true
    simpa [or_assoc] using hbad
  have hcon1 : (f.early || !s1.constrains p) = false := by rw [hearly, show s1.constrains p = true from hcon]; rfl
  rw [hbad1, hcon1]
  refine ⟨_, rfl, ?_⟩
  rw [State.framesOf_count, State.slotsOf_count, State.rd_count]
  exact ⟨State.framesOf_setFrames_same .., rfl, rfl⟩

/-- A PTP message of the slot's transport on a timing port (02 R56). -/
theorem frameEnd_ptp (s : State) (p : Fin 64) (data : List Byte) (f : Frame) (fs : List Frame) (k tr : Nat) (m : List Byte) (hfs : s.framesOf p = f :: fs)
    (hlen : s.legalLen p (data.length + 4)) (hk : [0, 1, 2, 3].find? (fun j => s.tport j == some p.val) = some k) (hptp : ptpOf data = some (tr, m))
    (htr : tr = s.rd (TMP_PTP_CFG.TRANSPORT k)) :
    ∃ u, exec (.frameEnd p data true) s = .next u ∧ u.framesOf p = fs ∧ (u.ptpSlot k).inbox = (s.ptpSlot k).inbox ++ [(f.stamp, m)] ∧ u.slotsOf p = s.slotsOf p := by
  change ∃ u, execFrameEnd p data true s = .next u ∧ _
  unfold execFrameEnd
  rw [hfs]
  dsimp -zeta only
  extract_lets s1 len bad
  have hbad : bad = false := State.frameBad_eq_false hlen
  have htiming : s1.isTiming p = true := List.any_eq_true.mpr ⟨k, List.mem_of_find?_eq_some hk, List.find?_some (p := fun j => s.tport j == some p.val) hk⟩
  have hk1 : [0, 1, 2, 3].find? (fun j => s1.tport j == some p.val) = some k := hk
  have htr1 : tr = s1.rd (TMP_PTP_CFG.TRANSPORT k) := htr
  have harrive : s1.ptpArrive p f.stamp data = s1.setPtp k { s1.ptpSlot k with inbox := (s1.ptpSlot k).inbox ++ [(f.stamp, m)] } := by
    simp only [State.ptpArrive, hk1, hptp, if_pos htr1]
  rw [hbad, htiming, hptp]
  refine ⟨_, rfl, ?_⟩
  rw [harrive, State.ptpSlot_setPtp_same]
  exact ⟨State.framesOf_setFrames_same .., rfl, rfl⟩

/-! ### Frames that are discarded -/

/-- FRAME_PASSES_MAXLEN (03 R98). -/
theorem framePassesMaxlen_effect (s : State) (p : Fin 64) (f : Frame) (hlast : (s.framesOf p).getLast? = some f) (hearly : f.early = false) :
    ∃ u, exec (.framePassesMaxlen p) s = .next u ∧ u.framesOf p = (s.framesOf p).dropLast
      ∧ u.rd (SEQ_PCNT0.BAD_FRAME p) = min (s.rd (SEQ_PCNT0.BAD_FRAME p) + 1) (2 ^ (SEQ_PCNT0.BAD_FRAME p).width - 1) := by
  change ∃ u, execFramePassesMaxlen p s = .next u ∧ _
  unfold execFramePassesMaxlen
  rw [hlast]
  dsimp only
  rw [hearly]
  exact ⟨_, rfl, State.framesOf_setFrames_same .., State.rd_count ..⟩

/-- FIP_TIMEOUT (03 R100). -/
theorem fipTimeout_effect (s : State) (p : Fin 64) :
    let late : Frame → Bool := fun f => decide (stampTb f.stamp + s.fipLimit p * tbNs < s.tamp.tb)
    (s.framesOf p).any late = true → ∃ u, exec (.fipTimeout p) s = .next u ∧ u.framesOf p = dropFirst late (s.framesOf p)
      ∧ u.rd (SEQ_PCNT1.FIP_TIMEOUT p) = min (s.rd (SEQ_PCNT1.FIP_TIMEOUT p) + 1) (2 ^ (SEQ_PCNT1.FIP_TIMEOUT p).width - 1) := by
  intro late hlate
  have hexec : exec (.fipTimeout p) s = .next ((s.setFrames p (dropFirst late (s.framesOf p))).count (SEQ_PCNT1.FIP_TIMEOUT p)) := if_pos hlate
  exact ⟨_, hexec, State.framesOf_setFrames_same .., State.rd_count ..⟩

/-! ### Membership -/

/-- PORT_LEAVE of a LEAVING port without slots, two windows after its loss (03 R99, R101). -/
theorem portLeave_effect (s : State) (p : Fin 64) (hleaving : s.flag (SEQ_PST.LEAVING p) = true) (hslots : s.slotsOf p = [])
    (hdue : FMap.get 0 s.merge.lossAt p + 2 * s.rd SEQ_CFG.WINDOW_NS * tbNs ≤ s.tamp.tb) :
    ∃ u, exec (.portLeave p) s = .next u ∧ u.flag (SEQ_PST.LEAVING p) = false ∧ u.flag (SEQ_PST.ACTIVE p) = false := by
  let s1 : State := { s with merge := { s.merge with lossAt := FMap.set 0 s.merge.lossAt p 0 } }
  have hexec : exec (.portLeave p) s = .next ((s1.wr (SEQ_PST.LEAVING p) 0).wr (SEQ_PST.ACTIVE p) 0) :=
    if_pos (by simp [hleaving, hslots, hdue])
  refine ⟨_, hexec, ?_, ?_⟩
  · rw [State.flag_wr_other _ _ (by dsimp only; omega), State.flag_wr_same]
    rfl
  · rw [State.flag_wr_same]
    rfl

/-- PORT_JOIN of a port that may join (03 R104). -/
theorem portJoin_effect (s : State) (p : Fin 64) (hjoin : s.mayJoin p = true) :
    ∃ u, exec (.portJoin p) s = .next u ∧ u.flag (SEQ_PST.ACTIVE p) = true ∧ ∀ f ∈ u.framesOf p, f.early = true := by
  let s1 := s.wr (SEQ_PST.ACTIVE p) 1
  have hexec : exec (.portJoin p) s = .next (s1.setFrames p ((s1.framesOf p).map (fun f => { f with early := true }))) := if_pos hjoin
  have hactive : s1.flag (SEQ_PST.ACTIVE p) = true := State.flag_wr_same ..
  refine ⟨_, hexec, hactive, fun f hf => ?_⟩
  rw [State.framesOf_setFrames_same] at hf
  obtain ⟨g, -, rfl⟩ := List.mem_map.mp hf
  rfl

end Sys2Proof.Machine

namespace Sys2Proof.Machine
open Sys2Proof

/-! ### PORT_LINK_LOSS -/

/-- The keys of registers other than the lanes' VALID, whose keys are all 184 modulo 256. -/
def notLaneKey (k : Nat) : Prop := k % 256 ≠ 184

theorem State.mergeKept.laneDown (s : State) (n : Nat) : State.mergeKept notLaneKey s (s.laneDown n) := by
  unfold State.laneDown
  extract_lets t s1
  have hwr : State.mergeKept notLaneKey s1 (s1.wr (TMP_LDIE.VALID n) 0) := .wr s1 (TMP_LDIE.VALID n) 0 (by simp only [notLaneKey]; omega)
  have hanswer : State.mergeKept notLaneKey (s1.wr (TMP_LDIE.VALID n) 0) ((s1.wr (TMP_LDIE.VALID n) 0).answerRecal n 0x0100 []) := by
    obtain ⟨hregs, hmerge, -⟩ := (s1.wr (TMP_LDIE.VALID n) 0).answerRecal_keeps n 0x0100 []
    exact .of_regs hmerge hregs
  exact (State.mergeKept.of_regs (u := s1) rfl rfl).trans (hwr.trans hanswer)

theorem State.mergeKept.fences {P : Nat → Prop} (s : State) (r n : Nat) : State.mergeKept P s (s.fences r n) := by
  induction n generalizing s with
  | zero => exact .refl s
  | succ n ih =>
    unfold State.fences
    extract_lets x
    split
    · split
      · exact (State.mergeKept.of_regs rfl rfl).trans (ih _)
      · exact .refl s
    · exact .refl s

/-- A completion on a submission ring is of the host queues alone (09 R366). -/
theorem State.mergeKept.complete {P : Nat → Prop} (s : State) (r entry : Nat) (g : Group) : State.mergeKept P s (s.complete r entry g) := by
  unfold State.complete
  extract_lets x
  split
  · exact (State.mergeKept.of_regs rfl rfl).trans (.fences ..)
  · exact .refl s

/-- The keys of registers other than the count of the frames a port's loss ends. -/
def notPortDownKey (k : Nat) : Prop := k ≠ PRG_CNT.PORT_DOWN.key

theorem State.mergeKept.txLoss (s : State) (p : Nat) : State.mergeKept notPortDownKey s (s.txLoss p) := by
  have hdone : ∀ (s : State) (f : EFrame), State.mergeKept notPortDownKey s ((s.count PRG_CNT.PORT_DOWN).egressDone p f 4) := fun s f => by
    have hcount : State.mergeKept notPortDownKey s (s.count PRG_CNT.PORT_DOWN) := .wr s PRG_CNT.PORT_DOWN _ (not_not.mpr rfl)
    exact hcount.trans (.complete ..)
  unfold State.txLoss
  extract_lets x s1 s2
  have h2 : State.mergeKept notPortDownKey s s2 := by
    refine (State.mergeKept.of_regs (u := s1) rfl rfl).trans ?_
    unfold s2; split
    · exact .of_regs rfl rfl
    · exact .refl s1
  exact h2.trans (.foldl hdone _ s2)

/-- A port's receive side goes down (03 R99). -/
theorem State.portLoss_effect (s : State) (p : Nat) :
    (s.portLoss p).framesOf p = [] ∧ (s.portLoss p).flag (SEQ_PST.LINK p) = false ∧ (s.portLoss p).flag (SEQ_PST.LEAVING p) = true
      ∧ (s.portLoss p).rd (SEQ_PCNT1.LINK_CUT p) = min (s.rd (SEQ_PCNT1.LINK_CUT p) + (s.framesOf p).length) (2 ^ (SEQ_PCNT1.LINK_CUT p).width - 1)
      ∧ ∀ f : Fld, notLaneKey f.key → f.key ∉ [(SEQ_PCNT1.LINK_CUT p).key, (SEQ_PST.LINK p).key, (SEQ_PST.LEAVING p).key] → (s.portLoss p).rd f = s.rd f := by
  unfold State.portLoss
  extract_lets s1 s2 s3 m
  have h3 : State.mergeKept notLaneKey s2 s3 := .foldl (fun s n => .laneDown s n) (s2.lanesOf p) s2
  have h1 : s1.rd (SEQ_PCNT1.LINK_CUT p) = min (s.rd (SEQ_PCNT1.LINK_CUT p) + (s.framesOf p).length) (2 ^ (SEQ_PCNT1.LINK_CUT p).width - 1) :=
    (State.rd_wr_same ..).trans (Nat.mod_eq_of_lt (by simp only [satAdd]; omega))
  have h1other : ∀ f : Fld, f.key ≠ (SEQ_PCNT1.LINK_CUT p).key → s1.rd f = s.rd f := fun f hcut => State.rd_wr_other s _ hcut
  have h2 : s2 = (s1.setFrames p []).wr (SEQ_PST.LINK p) 0 := rfl
  have hframes : s3.framesOf p = [] := by rw [h3.framesOf, h2, State.framesOf_wr, State.framesOf_setFrames_same]
  clear_value s1 s2 s3
  have h4 : ∀ e f, State.rd { s3 with merge := e } f = s3.rd f := fun _ _ => rfl
  refine ⟨hframes, ?_, ?_, ?_, fun f hf hne => ?_⟩
  · rw [State.flag_wr_other _ _ (by dsimp only; omega), State.flag, h4, h3.2 _ (by simp only [notLaneKey]; omega), h2, State.rd_wr_same]
    rfl
  · rw [State.flag_wr_same]
    rfl
  · rw [State.rd_wr_other _ _ (by dsimp only; omega), h4, h3.2 _ (by simp only [notLaneKey]; omega), h2, State.rd_wr_other _ _ (by dsimp only; omega)]
    exact h1
  · simp only [List.mem_cons, List.not_mem_nil, or_false, not_or] at hne
    obtain ⟨hcut, hlink, hleaving⟩ := hne
    rw [State.rd_wr_other _ _ hleaving, h4, h3.2 f hf, h2, State.rd_wr_other _ _ hlink, State.rd_setFrames]
    exact h1other f hcut

/-- A timing slot's port is read from TMP_SRC_CFG. -/
theorem State.tport_congr {s u : State} (h : ∀ f : Fld, TMP_SRC_CFG.TPORT0.key ≤ f.key → f.key ≤ TMP_SRC_CFG.TPORT3_EN.key → u.rd f = s.rd f) (k : Nat) :
    u.tport k = s.tport k := by
  unfold State.tport State.flag
  split
  · rw [h TMP_SRC_CFG.TPORT0 (by decide) (by decide), h TMP_SRC_CFG.TPORT0_EN (by decide) (by decide)]
  · rw [h TMP_SRC_CFG.TPORT1 (by decide) (by decide), h TMP_SRC_CFG.TPORT1_EN (by decide) (by decide)]
  · rw [h TMP_SRC_CFG.TPORT2 (by decide) (by decide), h TMP_SRC_CFG.TPORT2_EN (by decide) (by decide)]
  · rw [h TMP_SRC_CFG.TPORT3 (by decide) (by decide), h TMP_SRC_CFG.TPORT3_EN (by decide) (by decide)]
  · rfl

/-- RECCLK_OUT is static low while the port of the slot it follows is down (02 R56; 15 R557). -/
theorem State.recclkOut_down {s : State} {p : Nat} (hfollow : s.flag CLK_RECCLK.FOLLOW = false) (hport : s.tport (s.rd CLK_RECCLK.SLOT) = some p)
    (hlink : s.flag (SEQ_PST.LINK p) = false) : s.recclkOut = none := by
  simp [State.recclkOut, hfollow, hport, hlink]

/-- PORT_LINK_LOSS of a port whose link is up (03 R99; 06 R237; 15 R557). -/
theorem portLinkLoss_effect (s : State) (p : Fin 64) (hlink : s.flag (SEQ_PST.LINK p) = true) :
    ∃ u, exec (.portLinkLoss p) s = .next u ∧ u.flag (SEQ_PST.LINK p) = false ∧ u.framesOf p = [] ∧ u.flag (SEQ_PST.LEAVING p) = true
        ∧ u.rd (SEQ_PCNT1.LINK_CUT p) = min (s.rd (SEQ_PCNT1.LINK_CUT p) + (s.framesOf p).length) (2 ^ (SEQ_PCNT1.LINK_CUT p).width - 1)
        ∧ (s.flag CLK_RECCLK.FOLLOW = false → s.tport (s.rd CLK_RECCLK.SLOT) = some p.val → u.recclkOut = none) := by
  have hp := p.isLt
  have hexec : exec (.portLinkLoss p) s = .next (s.portDown p) := if_pos hlink
  obtain ⟨hframes, hdown, hleaving, hcut, hrd⟩ := s.portLoss_effect p
  have htx : State.mergeKept notPortDownKey (s.portLoss p) (s.portDown p) := .txLoss ..
  have hdown' : (s.portDown p).flag (SEQ_PST.LINK p) = false := by
    rw [State.flag, htx.2 _ (by simp only [notPortDownKey]; omega)]; exact hdown
  have hkept : ∀ f : Fld, notLaneKey f.key → f.key ∉ [(SEQ_PCNT1.LINK_CUT p).key, (SEQ_PST.LINK p).key, (SEQ_PST.LEAVING p).key] → notPortDownKey f.key →
      (s.portDown p).rd f = s.rd f := fun f hlane hport hcount => (htx.2 f hcount).trans (hrd f hlane hport)
  refine ⟨_, hexec, hdown', (htx.framesOf p).trans hframes, ?_, ?_, fun hfollow hport => ?_⟩
  · rw [State.flag, htx.2 _ (by simp only [notPortDownKey]; omega)]; exact hleaving
  · rw [htx.2 _ (by simp only [notPortDownKey]; omega)]; exact hcut
  · have hslot : (s.portDown p).rd CLK_RECCLK.SLOT = s.rd CLK_RECCLK.SLOT :=
      hkept _ (by unfold notLaneKey; decide) (by simp; omega) (by unfold notPortDownKey; decide)
    have hfollow' : (s.portDown p).rd CLK_RECCLK.FOLLOW = s.rd CLK_RECCLK.FOLLOW :=
      hkept _ (by unfold notLaneKey; decide) (by simp; omega) (by unfold notPortDownKey; decide)
    have htport : ∀ k, (s.portDown p).tport k = s.tport k := State.tport_congr fun f hlo hhi =>
      hkept f (by simp only [notLaneKey] at *; omega) (by simp at *; omega) (by simp only [notPortDownKey] at *; omega)
    exact State.recclkOut_down (by rw [State.flag, hfollow']; exact hfollow) (by rw [hslot, htport]; exact hport) hdown'

/-! ### Error records -/

/-- The keys below those of the error logs and of the power domains. -/
def belowLogs (k : Nat) : Prop := k < ERR_CFG.AUTO_ACK.key

section
variable (s : State)

theorem State.mergeKept.wr_log (f : Fld) (v : Nat) (hf : ERR_CFG.AUTO_ACK.key ≤ f.key) : State.mergeKept belowLogs s (s.wr f v) := .wr s f v (not_lt.mpr hf)

theorem State.mergeKept.errVector (v : Nat) : State.mergeKept belowLogs s (s.errVector v) := by
  obtain ⟨-, hmerge, -⟩ := s.errVector_fields v
  exact ⟨hmerge, fun f _ => State.rd_errVector ..⟩

theorem State.mergeKept.warn (n code sub info : Nat) : State.mergeKept belowLogs s (s.warn n code sub info) := by
  obtain ⟨-, hmerge, -⟩ := s.warn_fields n code sub info
  exact ⟨hmerge, fun f hf => State.rd_warn _ _ _ _ _ hf⟩

theorem State.mergeKept.firstRecord (n code cls sub info : Nat) (inj : Bool) : State.mergeKept belowLogs s (s.firstRecord n code cls sub info inj) := by
  unfold State.firstRecord
  obtain ⟨sec, ns⟩ := s.timeWord
  dsimp -zeta only
  extract_lets s1 s2 s3 e s4
  have h3 : State.mergeKept belowLogs s s3 := ⟨by simp only [s3, s2, s1, State.wrBit, State.wrB, State.wr_fields], fun f hf => by
    unfold belowLogs at hf
    simp (disch := (dsimp only at *; omega)) only [s3, s2, s1, State.wrBit, State.wrB, State.rd_wr_other]⟩
  have h4 : State.mergeKept belowLogs s3 s4 := by
    unfold s4; split
    · exact .of_regs rfl rfl
    · exact .refl s3
  exact (h3.trans h4).trans (.errVector ..)

theorem State.mergeKept.secondRecord (n code cls sub info : Nat) (inj : Bool) : State.mergeKept belowLogs s (s.secondRecord n code cls sub info inj) := by
  unfold State.secondRecord
  obtain ⟨sec, ns⟩ := s.timeWord
  dsimp -zeta only
  extract_lets s1 s2
  have h3 : State.mergeKept belowLogs s (s2.wr (ERR_STAT.SECOND_VALID n) 1) := ⟨by simp only [s2, s1, State.wrB, State.wr_fields], fun f hf => by
    unfold belowLogs at hf
    simp (disch := (dsimp only at *; omega)) only [s2, s1, State.wrB, State.rd_wr_other]⟩
  exact h3.trans (.errVector ..)

theorem State.mergeKept.declareFatal (u : FatalUnit) : State.mergeKept belowLogs s (s.declareFatal u) := by
  unfold State.declareFatal
  split
  · exact .refl s
  · extract_lets n e s1 s2 s3
    have h3 : State.mergeKept belowLogs s s3 := (State.mergeKept.of_regs (u := s1) rfl rfl).trans
      ((State.mergeKept.wr_log s1 (ERR_FATAL.FATAL (n / 64)) _ (by dsimp only; omega)).trans (.wr_log s2 (ERR_STAT.FATAL n) _ (by dsimp only; omega)))
    refine State.mergeKept.trans ?_ (.errVector _ 2)
    split
    next d _ => exact h3.trans (.wr_log s3 (PWR_DOM.ON (d / 64)) _ (by dsimp only; omega))
    · exact h3

theorem State.mergeKept.clearFirst (n : Nat) : State.mergeKept belowLogs s (s.clearFirst n) := by
  have hclear : ∀ (s : State) (n : Nat), State.mergeKept belowLogs s ((s.wr (ERR_STAT.FIRST_VALID n) 0).wrBit (ERR_SUM.FIRST (n / 64)) (n % 64) false) := fun s n =>
    (State.mergeKept.wr_log s (ERR_STAT.FIRST_VALID n) 0 (by dsimp only; omega)).trans (.wr_log _ (ERR_SUM.FIRST (n / 64)) _ (by dsimp only; omega))
  simp only [State.clearFirst]
  split
  · exact (hclear s n).trans (hclear _ 0)
  · exact hclear s n

theorem State.mergeKept.logCore (n code cls sub info : Nat) (inj : Bool) : State.mergeKept belowLogs s (s.logCore n code cls sub info inj) := by
  unfold State.logCore
  extract_lets s1 u s2
  have h1 : State.mergeKept belowLogs s s1 := (State.mergeKept.wr_log s (ERR_STAT.TOTAL n) _ (by dsimp only; omega)).trans
    (.wr_log _ (ERR_CNT.UNCORRECTED n) _ (by dsimp only; omega))
  refine h1.trans ?_
  split
  · exact .refl s1
  · split
    · exact .firstRecord ..
    · split
      · refine (State.mergeKept.secondRecord s1 n code cls sub info inj).trans ?_
        split
        · split
          · exact .warn ..
          · exact .declareFatal ..
        · exact .wr_log s2 (ERR_STAT.ESCALATED n) _ (by dsimp only; omega)
      · exact .wr_log s1 (ERR_STAT.THIRD n) _ (by dsimp only; omega)

/-- A logged error leaves the merge store, and every register below the logs (14 R526 to R530). -/
theorem State.mergeKept.logError (n code cls sub info : Nat) (inj : Bool) : State.mergeKept belowLogs s (s.logError n code cls sub info inj) := by
  unfold State.logError
  extract_lets second s1 s2 s3
  have h2 : State.mergeKept belowLogs s s2 := by
    refine (State.mergeKept.logCore s n code cls sub info inj).trans ?_
    unfold s2; split
    · exact .logCore ..
    · exact .refl s1
  have h3 : State.mergeKept belowLogs s s3 := by
    refine h2.trans ?_
    unfold s3; split
    · split
      · exact .warn ..
      · exact .declareFatal ..
    · exact .refl s2
  split
  · exact h3.trans (.clearFirst ..)
  · exact h3

end

/-! ### PARSE_LATE -/

/-- PARSE_LATE of a port with a late slot (03 R104). -/
theorem parseLate_effect (s : State) (p : Fin 64) :
    let late : Slot → Bool := fun t => t.st == .pending && decide (stampTb t.stamp + (s.rd SEQ_CFG.WINDOW_NS + s.rd SEQ_CFG.PARSE_LIMIT_NS) * tbNs ≤ s.tamp.tb)
    (s.slotsOf p).any late = true → ∃ u, exec (.parseLate p) s = .next u
      ∧ u.rd SEQ_CNT.PARSE_LATE = min (s.rd SEQ_CNT.PARSE_LATE + 1) (2 ^ SEQ_CNT.PARSE_LATE.width - 1)
      ∧ u.slotsOf p = mapFirst late (fun t => { t with st := .dropped }) (s.slotsOf p) := by
  intro late hlate
  obtain ⟨t, ht⟩ : ∃ t, (s.slotsOf p).find? late = some t := by
    rw [← Option.isSome_iff_exists, List.find?_isSome]
    exact List.any_eq_true.mp hlate
  let s1 := (s.setSlots p (mapFirst late (fun t => { t with st := .dropped }) (s.slotsOf p))).count SEQ_CNT.PARSE_LATE
  have hexec : exec (.parseLate p) s = .next (s1.logError 2 0x0201 3 p (t.stamp % 2 ^ 64)) := by
    change execParseLate p s = _
    simp only [execParseLate]
    rw [ht]
  have hlog : State.mergeKept belowLogs s1 (s1.logError 2 0x0201 3 p (t.stamp % 2 ^ 64)) := .logError ..
  refine ⟨_, hexec, ?_, (hlog.slotsOf p).trans (State.slotsOf_setSlots_same ..)⟩
  rw [hlog.2 SEQ_CNT.PARSE_LATE (by unfold belowLogs; decide)]
  exact State.rd_count ..

/-- Settles O6: the eight commands, each by its own lemma. -/
theorem portsAndSlots : Obligations.PortsAndSlots := by
  unfold Obligations.PortsAndSlots
  intro s p counted
  refine ⟨frameStart_effect s p, fun data good f fs hfs hearly hcon => ⟨?_, frameEnd_bad s p data good f fs hfs hearly hcon⟩, ?_,
    framePassesMaxlen_effect s p, fipTimeout_effect s p, portLinkLoss_effect s p, portLeave_effect s p, portJoin_effect s p, parseLate_effect s p⟩
  · rintro sh rfl hmin hmax
    exact frameEnd_posts s p data f fs hfs hearly hcon sh ⟨hmin, hmax⟩
  · intro data f fs k tr m hfs hmin hmax
    exact frameEnd_ptp s p data f fs k tr m hfs ⟨hmin, hmax⟩

end Sys2Proof.Machine

namespace Sys2Proof.Machine
open Sys2Proof

/-! ### The heads of the merge store -/

/-- `u` is `s` but for the table of slots, in which every source still has the slots that it has in `s`. -/
def State.slotsKept (s u : State) : Prop :=
  (∃ m, u = { s with merge := { s.merge with slots := m } }) ∧ ∀ q, u.slotsOf q = s.slotsOf q

theorem State.slotsKept.refl (s : State) : s.slotsKept s := ⟨⟨s.merge.slots, rfl⟩, fun _ => rfl⟩

theorem State.slotsKept.trans {s u v : State} (h : s.slotsKept u) (h' : u.slotsKept v) : s.slotsKept v := by
  obtain ⟨⟨m, rfl⟩, hslots⟩ := h
  obtain ⟨⟨m', rfl⟩, hslots'⟩ := h'
  exact ⟨⟨m', rfl⟩, fun q => (hslots' q).trans (hslots q)⟩

theorem State.slotsKept.tamp {s u : State} (h : s.slotsKept u) : u.tamp = s.tamp := by
  obtain ⟨⟨m, rfl⟩, -⟩ := h
  rfl

theorem State.slotsOf_setSlots (s : State) (p q : Nat) (l : List Slot) : (s.setSlots p l).slotsOf q = if q = p then l else s.slotsOf q := by
  split
  next h => subst h; exact State.slotsOf_setSlots_same ..
  next h => exact FMap.get_set_other [] [] s.merge.slots l h

theorem State.slotsKept.setSlots (s : State) (p : Nat) : s.slotsKept (s.setSlots p (s.slotsOf p)) := by
  refine ⟨⟨_, rfl⟩, fun q => ?_⟩
  rw [State.slotsOf_setSlots]
  split
  next h => rw [h]
  next => rfl

/-- Source `p` has no DROPPED slot at its head. -/
def State.headLive (s : State) (p : Nat) : Prop := ∀ t, (s.slotsOf p).head? = some t → t.st ≠ .dropped

theorem State.slotsKept.dropHeads {s : State} {p : Nat} (h : s.headLive p) : s.slotsKept (s.dropHeads p (s.slotsOf p)) := by
  have hset : s.dropHeads p (s.slotsOf p) = s.setSlots p (s.slotsOf p) := by
    unfold State.headLive at h
    cases hl : s.slotsOf p with
    | nil => rfl
    | cons t ts => exact if_neg (h t (by rw [hl]; rfl))
  rw [hset]
  exact .setSlots s p

theorem State.slotsKept.dropAllHeads {l : List Nat} {s : State} (h : ∀ p ∈ l, s.headLive p) :
    s.slotsKept (l.foldl (fun s p => s.dropHeads p (s.slotsOf p)) s) := by
  induction l generalizing s with
  | nil => exact .refl s
  | cons p l ih =>
    have hp : s.slotsKept (s.dropHeads p (s.slotsOf p)) := .dropHeads (h p List.mem_cons_self)
    refine hp.trans (ih fun q hq t ht => ?_)
    rw [hp.2 q] at ht
    exact h q (List.mem_cons_of_mem p hq) t ht

theorem State.flushTamp_of_waiting_nil {s : State} (h : s.tamp.waiting = []) : s.flushTamp = s := by
  unfold State.flushTamp
  rw [h]
  change { s with tamp := { s.tamp with waiting := [] } } = s
  rw [← h]

/-- The state in which MERGE_RELEASE looks for the head of least key: the DROPPED slots at the heads are gone, and Tamp has posted what it can. -/
def State.headsOut (s : State) : State := ((List.range 65).foldl (fun s p => s.dropHeads p (s.slotsOf p)) s).flushTamp

theorem State.slotsKept.headsOut {s : State} (hlive : ∀ p, p < 65 → s.headLive p) (hwait : s.tamp.waiting = []) : s.slotsKept s.headsOut := by
  have hdrop := State.slotsKept.dropAllHeads (l := List.range 65) fun p hp => hlive p (List.mem_range.mp hp)
  have hwait' : ((List.range 65).foldl (fun s p => s.dropHeads p (s.slotsOf p)) s).tamp.waiting = [] := by
    rwa [hdrop.tamp]
  rwa [State.headsOut, State.flushTamp_of_waiting_nil hwait']

theorem State.slotsKept.leastHead {s u : State} (h : s.slotsKept u) : u.leastHead = s.leastHead := by
  obtain ⟨⟨m, rfl⟩, hslots⟩ := h
  simp only [State.leastHead, hslots]
  rfl

theorem State.slotsKept.releasable {s u : State} (h : s.slotsKept u) (st : Stamp) : u.releasable st = s.releasable st := by
  obtain ⟨⟨m, rfl⟩, -⟩ := h
  rfl

/-! ### What MERGE_RELEASE keeps -/

theorem State.butRecords_freeSlot (s : State) (t : Slot) : (s.freeSlot t).butRecords = s.butRecords := by
  unfold State.freeSlot
  split
  · exact State.butRecords_wr s _ _ rfl
  · rfl

theorem State.butRecords_dropHeads (s : State) (p : Nat) (l : List Slot) : (s.dropHeads p l).butRecords = s.butRecords := by
  induction l generalizing s with
  | nil => rfl
  | cons t ts ih =>
    unfold State.dropHeads
    split
    · exact (ih _).trans (State.butRecords_freeSlot ..)
    · rfl

theorem State.butRecords_flushTamp (s : State) : s.flushTamp.butRecords = s.butRecords := State.butRecords_postTamp ..

theorem State.butRecords_headsOut (s : State) : s.headsOut.butRecords = s.butRecords := by
  have hdrop : ∀ l : List Nat, ∀ s : State, (l.foldl (fun s p => s.dropHeads p (s.slotsOf p)) s).butRecords = s.butRecords := by
    intro l
    induction l with
    | nil => exact fun _ => rfl
    | cons p l ih => exact fun s => (ih _).trans (State.butRecords_dropHeads ..)
  exact (State.butRecords_flushTamp _).trans (hdrop _ s)

theorem State.lane_of_butRecords {s u : State} (h : u.butRecords = s.butRecords) : u.merge.lane = s.merge.lane := congrArg (·.merge.lane) h

/-- The hold fields are the only registers that `setHold` writes. -/
theorem State.rd_setHold (s : State) (v : Bool) (p : Nat) (b : Bool) {f : Fld} (hf : f.key < SEQ_STATUS.HOLD_PORT.key ∨ SEQ_STATUS.HELD_BY_PARSE.key < f.key) :
    (s.setHold v p b).rd f = s.rd f := by
  simp only at hf
  simp only [State.setHold, State.wrB]
  rw [State.rd_wr_other _ _ (by simp only; omega), State.rd_wr_other _ _ (by simp only; omega), State.rd_wr_other _ _ (by simp only; omega)]

theorem State.setHold_fields (s : State) (v : Bool) (p : Nat) (b : Bool) : (s.setHold v p b).merge = s.merge ∧ (s.setHold v p b).tamp = s.tamp := ⟨rfl, rfl⟩

theorem State.releasable_setHold (s : State) (v : Bool) (p : Nat) (b : Bool) (st : Stamp) : (s.setHold v p b).releasable st = s.releasable st := by
  have hconstrains : ∀ q, (s.setHold v p b).constrains q = s.constrains q := fun q => by
    simp only [State.constrains, State.flag, s.rd_setHold v p b (f := SEQ_PST.ACTIVE q) (.inr (by simp only; omega)),
      s.rd_setHold v p b (f := SEQ_PST.LEAVING q) (.inr (by simp only; omega))]
  simp only [State.releasable, State.holders, hconstrains, s.rd_setHold v p b (f := SEQ_CFG.WINDOW_NS) (.inl (by decide))]
  rfl

/-! ### MERGE_RELEASE -/

/-- MERGE_RELEASE offers the slot at the head of `p`: the hold fields are cleared, and Tamp posts what it can into the slot that is free again. -/
def State.released (s : State) (p : Nat) (t : Slot) : State := ((s.setHold false 0 false).offer p t).flushTamp

theorem exec_mergeRelease (s : State) : exec .mergeRelease s = execMergeRelease s := rfl

/-- What MERGE_RELEASE can do (03 R103, R105, R109): it shows what holds the head of least key, or it offers that head. -/
theorem mergeRelease_cases {s u : State} (h : exec .mergeRelease s = .next u) :
    (∃ v p b, u = s.headsOut.setHold v p b) ∨
    ∃ p t, s.headsOut.leastHead = some (p, t) ∧ t.st ≠ .pending ∧ s.headsOut.releasable t.stamp = true ∧ s.headsOut.merge.lane = []
      ∧ u = s.headsOut.released p t := by
  rw [exec_mergeRelease] at h
  unfold execMergeRelease at h
  extract_lets s0 s1 s2 at h
  have hs1 : s1 = s.headsOut := rfl
  rw [← hs1]
  clear_value s1
  split at h
  next => exact .inl ⟨_, _, _, (Host.Outcome.next.inj h).symm⟩
  next p t hleast =>
    split at h
    next => exact .inl ⟨_, _, _, (Host.Outcome.next.inj h).symm⟩
    next hst =>
      split at h
      next => exact .inl ⟨_, _, _, (Host.Outcome.next.inj h).symm⟩
      next =>
        split at h
        next hoffer =>
          obtain ⟨hrel, hlane⟩ := Bool.and_eq_true_iff.mp hoffer
          exact .inr ⟨p, t, hleast, hst, (s1.releasable_setHold ..).symm.trans hrel, List.isEmpty_iff.mp hlane, (Host.Outcome.next.inj h).symm⟩
        next => exact .inl ⟨_, _, _, (Host.Outcome.next.inj h).symm⟩

theorem State.holders_of_releasable {s : State} {st : Stamp} (h : s.releasable st = true) : s.holders st = [] := by
  unfold State.releasable at h
  exact List.isEmpty_iff.mp (Bool.and_eq_true_iff.mp h).2

/-- The head of least key is offered when it is READY, it may be released and the merge lane is empty. -/
theorem mergeRelease_released {s : State} {p : Nat} {t : Slot} (hleast : s.headsOut.leastHead = some (p, t)) (hready : t.st = .ready)
    (hrel : s.headsOut.releasable t.stamp = true) (hlane : s.headsOut.merge.lane = []) : exec .mergeRelease s = .next (s.headsOut.released p t) := by
  rw [exec_mergeRelease]
  unfold execMergeRelease
  extract_lets s0 s1 s2
  have hs1 : s1 = s.headsOut := rfl
  rw [← hs1] at hleast hrel hlane ⊢
  clear_value s1
  have hoffer : (s2.releasable t.stamp && s2.merge.lane.isEmpty) = true :=
    Bool.and_eq_true_iff.mpr ⟨(s1.releasable_setHold ..).trans hrel, List.isEmpty_iff.mpr hlane⟩
  simp only [hleast, hready, reduceCtorEq, if_false, State.holders_of_releasable hrel, List.getLast?_nil, hoffer, if_true]
  rfl

/-- What the offer of a slot does to the merge store and to SEQ_LAST_REL. -/
theorem State.offer_effect (s : State) (p : Nat) (t : Slot) :
    (s.offer p t).merge.lane = s.merge.lane ++ [t.cand] ∧ (s.offer p t).merge.lastRel = some t.stamp ∧ (s.offer p t).slotsOf p = (s.slotsOf p).tail
      ∧ (s.offer p t).rd SEQ_LAST_REL.STAMP_LO = t.stamp % 2 ^ 64 ∧ (s.offer p t).tamp = s.tamp := by
  unfold State.offer
  extract_lets s1 s2 s3 s4
  have h1 : s1.merge = (s.setSlots p (s.slotsOf p).tail).merge ∧ s1.tamp = s.tamp := by
    unfold s1 State.freeSlot; split <;> exact ⟨rfl, rfl⟩
  have h2 : s2.merge = s1.merge ∧ s2.tamp = s1.tamp := by
    unfold s2; split
    · split <;> exact ⟨rfl, rfl⟩
    · exact ⟨rfl, rfl⟩
  have h3 : s3.merge = s2.merge ∧ s3.tamp = s2.tamp := by
    unfold s3; split <;> exact ⟨rfl, rfl⟩
  have hmerge : s4.merge = (s.setSlots p (s.slotsOf p).tail).merge := h3.1.trans (h2.1.trans h1.1)
  have hslots : s4.slotsOf p = (s.slotsOf p).tail := by
    rw [State.slotsOf, hmerge]; exact State.slotsOf_setSlots_same ..
  have hstamp : s4.rd SEQ_LAST_REL.STAMP_LO = t.stamp % 2 ^ 64 := (State.rd_wr_same ..).trans (Nat.mod_mod _ _)
  exact ⟨by simp only [hmerge]; rfl, rfl, hslots, hstamp, h3.2.trans (h2.2.trans h1.2)⟩

/-- What the release of a slot does to the merge store and to SEQ_LAST_REL, when nothing waits in Tamp. -/
theorem State.released_effect (s : State) (p : Nat) (t : Slot) (hwait : s.tamp.waiting = []) :
    (s.released p t).merge.lane = s.merge.lane ++ [t.cand] ∧ (s.released p t).merge.lastRel = some t.stamp
      ∧ (s.released p t).slotsOf p = (s.slotsOf p).tail ∧ (s.released p t).rd SEQ_LAST_REL.STAMP_LO = t.stamp % 2 ^ 64 := by
  obtain ⟨hlane, hlast, hslots, hstamp, htamp⟩ := (s.setHold false 0 false).offer_effect p t
  have hflush : s.released p t = (s.setHold false 0 false).offer p t := State.flushTamp_of_waiting_nil (by rw [htamp]; exact hwait)
  rw [hflush]
  exact ⟨hlane, hlast, hslots, hstamp⟩

theorem State.lane_released (s : State) (p : Nat) (t : Slot) : (s.released p t).merge.lane = s.merge.lane ++ [t.cand] :=
  (State.lane_of_butRecords (State.butRecords_flushTamp _)).trans (State.offer_effect ..).1

/-- MERGE_RELEASE of a READY head that nothing holds (03 R103, R109). -/
theorem mergeRelease_effect (s : State) (p : Nat) (t : Slot) (hlive : ∀ q, q < 65 → s.headLive q) (hwait : s.tamp.waiting = [])
    (hleast : s.leastHead = some (p, t)) (hready : t.st = .ready) (hrel : s.releasable t.stamp = true) (hlane : s.merge.lane = []) :
    ∃ u, exec .mergeRelease s = .next u ∧ u.merge.lane = [t.cand] ∧ u.merge.lastRel = some t.stamp ∧ u.slotsOf p = (s.slotsOf p).tail
      ∧ u.rd SEQ_LAST_REL.STAMP_LO = t.stamp % 2 ^ 64 := by
  have hkept : s.slotsKept s.headsOut := .headsOut hlive hwait
  have hlane' : s.headsOut.merge.lane = [] := (State.lane_of_butRecords s.butRecords_headsOut).trans hlane
  have hexec : exec .mergeRelease s = .next (s.headsOut.released p t) :=
    mergeRelease_released (hkept.leastHead.trans hleast) hready ((hkept.releasable _).trans hrel) hlane'
  obtain ⟨hl, hlast, hslots, hstamp⟩ := s.headsOut.released_effect p t (by rw [hkept.tamp]; exact hwait)
  rw [hlane'] at hl
  rw [hkept.2 p] at hslots
  exact ⟨_, hexec, hl, hlast, hslots, hstamp⟩

/-- MERGE_RELEASE leaves at most one record on offer in the merge lane (03 R109). -/
theorem mergeRelease_lane {s u : State} (h : s.merge.lane.length ≤ 1) (hu : exec .mergeRelease s = .next u) : u.merge.lane.length ≤ 1 := by
  obtain ⟨v, p, b, rfl⟩ | ⟨p, t, -, -, -, hlane, rfl⟩ := mergeRelease_cases hu
  · rwa [(State.setHold_fields ..).1, State.lane_of_butRecords s.butRecords_headsOut]
  · rw [State.lane_released, hlane]
    exact le_rfl

end Sys2Proof.Machine

namespace Sys2Proof.Machine
open Sys2Proof

/-! ### DISPATCH -/

theorem State.chan_setChan_same (s : State) (k c : Nat) (x : Chan) : (s.setChan k c x).chan k c = x := FMap.get_set_same ..

/-- A message sent with the credit taken for it is on its way to the channel, and the credits stand as before (05 R185). -/
theorem State.chan_sendRemote_credit (s : State) (k c : Nat) (m : List Word) :
    ((s.setChan k c { s.chan k c with credits := (s.chan k c).credits + 1 }).sendRemote k c m).chan k c
      = { s.chan k c with inflight := (s.chan k c).inflight ++ [m] } := by
  simp only [State.sendRemote, State.chan_setChan_same, Nat.add_sub_cancel]

/-- DISPATCH of the first message whose channel has a free entry (05 R185). -/
theorem dispatch_effect (s : State) (r : Rec) (k c i : Nat) (h : s.dispatchable = some (r, k, c, i)) : ∃ u, exec .dispatch s = .next u
    ∧ u.chan k c = { s.chan k c with inflight := (s.chan k c).inflight ++ [dispatchMsg r i] }
    ∧ u.merge.dispatch = dropFirst (fun x => x.seq == r.seq) s.merge.dispatch
    ∧ u = { s with merge := { s.merge with dispatch := u.merge.dispatch }, dy := { s.dy with chans := u.dy.chans } } := by
  let s1 : State := { s with merge := { s.merge with dispatch := dropFirst (fun x => x.seq == r.seq) s.merge.dispatch } }
  have hexec : exec .dispatch s
      = .next ((s1.setChan k c { s1.chan k c with credits := (s1.chan k c).credits + 1 }).sendRemote k c (dispatchMsg r i)) := by
    change execDispatch s = _
    simp only [execDispatch]
    rw [h]
  exact ⟨_, hexec, s1.chan_sendRemote_credit .., rfl, rfl⟩

/-! ### VERDICT_DEADLINE -/

/-- Among elements of different keys, the first of a key is the only one. -/
theorem mapFirst_key_eq_map {α : Type} (key : α → Nat) (f : α → α) (q : Nat) {l : List α} (h : (l.map key).Nodup) :
    mapFirst (fun a => key a == q) f l = l.map (fun a => if key a = q then f a else a) := by
  induction l with
  | nil => rfl
  | cons a l ih =>
    obtain ⟨ha, hl⟩ := List.nodup_cons.mp h
    simp only [mapFirst, List.map_cons, beq_iff_eq]
    split
    next hq =>
      have hother : ∀ b ∈ l, key b ≠ q := fun b hb hbq => ha (hq ▸ hbq ▸ List.mem_map_of_mem hb)
      rw [List.map_congr_left fun b hb => if_neg (hother b hb), List.map_id']
    next => rw [ih hl]

/-- The record takes LATE_VALUE. -/
def State.lateVerdict (s : State) (q : Seq) : State :=
  (s.setIssued q (fun i => i.byDevice (s.rd CRF_VERDICT_CFG.LATE_VALUE))).count CRF_CNT2.VERDICT_LATE

theorem State.rd_lateVerdict (s : State) (q : Seq) : (s.lateVerdict q).rd CRF_VERDICT_CFG.LATE_VALUE = s.rd CRF_VERDICT_CFG.LATE_VALUE :=
  State.rd_wr_other _ _ (by decide)

theorem State.issued_lateVerdict {s : State} (q : Seq) (h : (s.crf.issued.map (fun i => i.r.seq)).Nodup) :
    (s.lateVerdict q).crf.issued = s.crf.issued.map (fun i => if i.r.seq = q then i.byDevice (s.rd CRF_VERDICT_CFG.LATE_VALUE) else i) :=
  mapFirst_key_eq_map (fun i : Issued => i.r.seq) _ q h

/-- The records whose numbers are among `qs` take LATE_VALUE, one after the other. -/
theorem State.issued_lateVerdicts {qs : List Seq} (hqs : qs.Nodup) {s : State} (h : (s.crf.issued.map (fun i => i.r.seq)).Nodup) :
    (qs.foldl State.lateVerdict s).crf.issued
      = s.crf.issued.map (fun i => if i.r.seq ∈ qs then i.byDevice (s.rd CRF_VERDICT_CFG.LATE_VALUE) else i) := by
  induction qs generalizing s with
  | nil => simp
  | cons q qs ih =>
    obtain ⟨hq, hqs⟩ := List.nodup_cons.mp hqs
    have hissued := s.issued_lateVerdict q h
    have hseq : (s.lateVerdict q).crf.issued.map (fun i => i.r.seq) = s.crf.issued.map (fun i => i.r.seq) := by
      rw [hissued, List.map_map]
      refine List.map_congr_left fun i _ => ?_
      simp only [Function.comp_apply]
      split <;> rfl
    rw [List.foldl_cons, ih hqs (hseq ▸ h), hissued, State.rd_lateVerdict, List.map_map]
    refine List.map_congr_left fun i _ => ?_
    by_cases hi : i.r.seq = q
    · simp [hi, hq, Issued.byDevice]
    · simp [hi]

/-- An issued record has no verdict and its deadline has come (06 R209). -/
def State.isLate (s : State) (i : Issued) : Bool := !i.fixed && s.deadline i

theorem State.isLate_eq_false_iff {s : State} {i : Issued} : s.isLate i = false ↔ i.fixed = true ∨ s.deadline i = false := by
  rw [State.isLate, Bool.and_eq_false_iff, Bool.not_eq_false']

theorem execVerdictDeadline_eq (s : State) :
    exec .verdictDeadline s = .next (((s.crf.issued.filter s.isLate).map (fun i => i.r.seq)).foldl State.lateVerdict s) := by
  rw [List.foldl_map]
  rfl

/-- Records of different numbers: one is among the late ones when its number is. -/
theorem State.seq_mem_late {s : State} (h : (s.crf.issued.map (fun i => i.r.seq)).Nodup) {i : Issued} (hi : i ∈ s.crf.issued) :
    i.r.seq ∈ (s.crf.issued.filter s.isLate).map (fun i => i.r.seq) ↔ s.isLate i = true := by
  constructor
  · intro hseq
    obtain ⟨j, hj, hji⟩ := List.mem_map.mp hseq
    obtain ⟨hj, hlate⟩ := List.mem_filter.mp hj
    rwa [← List.inj_on_of_nodup_map h hj hi hji]
  · exact fun hlate => List.mem_map_of_mem (List.mem_filter.mpr ⟨hi, hlate⟩)

/-- VERDICT_DEADLINE gives LATE_VALUE to the late records and leaves the others. -/
theorem verdictDeadline_issued {s : State} (h : (s.crf.issued.map (fun i => i.r.seq)).Nodup) : ∃ u, exec .verdictDeadline s = .next u
    ∧ u.crf.issued = s.crf.issued.map (fun i => if s.isLate i then i.byDevice (s.rd CRF_VERDICT_CFG.LATE_VALUE) else i) := by
  have hnodup : ((s.crf.issued.filter s.isLate).map (fun i => i.r.seq)).Nodup := h.sublist (List.filter_sublist.map _)
  refine ⟨_, execVerdictDeadline_eq s, (State.issued_lateVerdicts hnodup h).trans (List.map_congr_left fun i hi => ?_)⟩
  simp only [State.seq_mem_late h hi]

theorem Issued.fixed_byDevice (i : Issued) (v : Nat) : (i.byDevice v).fixed = true := by simp [Issued.fixed, Issued.byDevice]

theorem verdictDeadline_effect (s : State) (h : (s.crf.issued.map (fun i => i.r.seq)).Nodup) : ∃ u, exec .verdictDeadline s = .next u
    ∧ (∀ i ∈ u.crf.issued, i.fixed = true ∨ s.deadline i = false)
    ∧ (∀ j ∈ s.crf.issued, j.fixed = false → s.deadline j = true →
        ∃ i ∈ u.crf.issued, i.r.seq = j.r.seq ∧ i.verdict = some (s.rd CRF_VERDICT_CFG.LATE_VALUE))
    ∧ (∀ j ∈ s.crf.issued, j.fixed = true ∨ s.deadline j = false → j ∈ u.crf.issued) := by
  obtain ⟨u, hexec, hu⟩ := verdictDeadline_issued h
  refine ⟨u, hexec, fun i hi => ?_, fun j hj hfixed hdead => ?_, fun j hj hkeep => ?_⟩
  · rw [hu] at hi
    obtain ⟨j, -, rfl⟩ := List.mem_map.mp hi
    split
    next => exact .inl (Issued.fixed_byDevice ..)
    next hlate => exact State.isLate_eq_false_iff.mp (Bool.eq_false_iff.mpr hlate)
  · refine ⟨j.byDevice (s.rd CRF_VERDICT_CFG.LATE_VALUE), ?_, rfl, rfl⟩
    exact hu ▸ List.mem_map.mpr ⟨j, hj, if_pos (by simp [State.isLate, hfixed, hdead])⟩
  · exact hu ▸ List.mem_map.mpr ⟨j, hj, if_neg (Bool.eq_false_iff.mp (State.isLate_eq_false_iff.mpr hkeep))⟩

/-- Settles O7: the three commands, each by its own lemma. -/
theorem releaseAndVerdicts : Obligations.ReleaseAndVerdicts := by
  unfold Obligations.ReleaseAndVerdicts
  exact fun s => ⟨mergeRelease_effect s, dispatch_effect s, verdictDeadline_effect s⟩

end Sys2Proof.Machine

namespace Sys2Proof.Machine
open Sys2Proof

/-! ### The issue of a record -/

/-- What the issue of a record brings beside its number keeps the merge store, the records issued and SEQ_NEXT. -/
structure State.issueKept (s u : State) : Prop where
  merge : u.merge = s.merge
  crf : u.crf = s.crf
  next : u.rd SEQ_NEXT.NEXT = s.rd SEQ_NEXT.NEXT

section
variable {s u v : State}

theorem State.issueKept.refl (s : State) : s.issueKept s := ⟨rfl, rfl, rfl⟩

theorem State.issueKept.trans (h : s.issueKept u) (h' : u.issueKept v) : s.issueKept v :=
  ⟨h'.merge.trans h.merge, h'.crf.trans h.crf, h'.next.trans h.next⟩

theorem State.issueKept.wr (s : State) (f : Fld) (x : Nat) (hf : SEQ_NEXT.NEXT.key ≠ f.key) : s.issueKept (s.wr f x) :=
  ⟨rfl, rfl, State.rd_wr_other s x hf⟩

theorem State.issueKept.of_eq (hm : u.merge = s.merge) (hc : u.crf = s.crf) (hr : u.regs = s.regs) : s.issueKept u :=
  ⟨hm, hc, by rw [State.rd, hr, State.rd]⟩

theorem State.issueKept.answer (h : s.issueKept u) (sl st : Nat) (rsp : List Byte) : s.issueKept (u.answer sl st rsp) := by
  rw [State.answer_only]
  exact h.trans (.of_eq rfl rfl rfl)

theorem State.issueKept.foldl {α : Type} {f : State → α → State} (hf : ∀ (s : State) a, s.issueKept (f s a)) (l : List α) (s : State) :
    s.issueKept (l.foldl f s) := by
  induction l generalizing s with
  | nil => exact .refl s
  | cons a l ih => exact (hf s a).trans (ih _)

end

theorem State.issueKept.issueEffect (s : State) (r : Rec) : s.issueKept (s.issueEffect r) := by
  unfold State.issueEffect
  split
  -- TRACE
  next => exact .wr s TMP_TRC_SEQ.SEQ _ (by decide)
  -- EPOCH_ROLL
  next =>
    have hclose : s.issueKept (s.closeEpoch { epoch := seqEpoch r.seq, index := seqIndex r.seq, roll := true }) := .of_eq rfl rfl rfl
    exact hclose.trans (.trans (.wr _ SEQ_CNT.ROLLS _ (by decide)) (.wr _ EZN_STATUS.EPOCH _ (by decide)))
  -- MODE_CHANGE
  next =>
    extract_lets nm
    split
    · exact .refl s
    · exact .trans (.wr s CRF_CFG.MODE _ (by decide)) (.trans (.wr _ CRF_BOUNDARY.SEQ _ (by decide)) (.wr _ CRF_STATUS.BOUNDARY_PENDING _ (by decide)))
  -- FEATURE_LEVEL
  next =>
    extract_lets e s1
    have h1 : s.issueKept s1 := ⟨rfl, rfl, State.rd_wr_other _ 1 (by decide)⟩
    split
    · refine .answer ?_ ..
      exact h1.trans (.of_eq rfl rfl rfl)
    · exact h1
  -- STRIPE_PLAN
  next =>
    extract_lets mine n s1
    have h1 : s.issueKept s1 := .of_eq rfl rfl rfl
    exact h1.trans (.foldl (fun s _ => .answer (.refl s) ..) mine s1)
  -- EGRESS
  next => exact .of_eq rfl rfl rfl
  next => exact .refl s

/-- The records that the lanes offer, and the sequencer cycle, are the same. -/
structure State.lanesKept (s u : State) : Prop where
  lane : u.merge.lane = s.merge.lane
  device : u.merge.device = s.merge.device
  host : u.merge.host = s.merge.host
  cycle : u.merge.cycle = s.merge.cycle

theorem State.lanesKept.of_merge {s u : State} (h : u.merge = s.merge) : s.lanesKept u := by
  constructor <;> rw [h]

theorem State.lanesKept.trans {s u v : State} (h : s.lanesKept u) (h' : u.lanesKept v) : s.lanesKept v :=
  ⟨h'.lane.trans h.lane, h'.device.trans h.device, h'.host.trans h.host, h'.cycle.trans h.cycle⟩

/-- The issued record is the offered one with its number: its type, port, payload and stamp stand. -/
structure Issued.isOf (i : Issued) (r : Rec) : Prop where
  seq : i.r.seq = r.seq
  typ : i.r.typ = r.typ
  port : i.r.port = r.port
  payload : i.r.payload = r.payload
  stamp : i.r.stamp = r.stamp

theorem State.ask_effect (s : State) (r : Rec) :
    (s.ask r).1.isOf r ∧ s.lanesKept (s.ask r).2 ∧ (s.ask r).2.crf = s.crf ∧ (s.ask r).2.rd SEQ_NEXT.NEXT = s.rd SEQ_NEXT.NEXT := by
  unfold State.ask
  extract_lets i
  split
  · exact ⟨⟨rfl, rfl, rfl, rfl, rfl⟩, .of_merge rfl, rfl, rfl⟩
  · split
    · exact ⟨⟨rfl, rfl, rfl, rfl, rfl⟩, .of_merge rfl, rfl, State.rd_wr_other s _ (by decide)⟩
    · exact ⟨⟨rfl, rfl, rfl, rfl, rfl⟩, ⟨rfl, rfl, rfl, rfl⟩, rfl, rfl⟩

/-- Record `r` is issued between `s` and `u`: it takes the number SEQ_NEXT and is appended to the records issued, and SEQ_NEXT moves on (03 R110). -/
def State.numbers (s u : State) (r : Rec) : Prop :=
  ∃ i, u.crf.issued = s.crf.issued ++ [i] ∧ i.isOf { r with seq := s.rd SEQ_NEXT.NEXT } ∧ u.rd SEQ_NEXT.NEXT = i.r.after % 2 ^ 64

theorem State.rd_setNext (s : State) (n : Nat) : (s.setNext n).rd SEQ_NEXT.NEXT = n % 2 ^ 64 :=
  (State.rd_wr_other _ _ (by decide)).trans (State.rd_wr_same ..)

theorem State.issueRec_effect (s : State) (r : Rec) : s.lanesKept (s.issueRec r) ∧ s.numbers (s.issueRec r) r := by
  let q : Rec := { r with seq := s.rd SEQ_NEXT.NEXT, flags := setBits r.flags 0 1 (b2n (needsVerdict r.typ)) }
  let s1 : State := (s.setNext q.after).count SEQ_ISSUED.ISSUED
  have hnext1 : s1.rd SEQ_NEXT.NEXT = q.after % 2 ^ 64 := (State.rd_wr_other _ _ (by decide)).trans (s.rd_setNext _)
  obtain ⟨hi, hlanes, hcrf, hnext⟩ := s1.ask_effect q
  let s2 : State := (s1.ask q).2.issueEffect q
  have heffect : (s1.ask q).2.issueKept s2 := .issueEffect ..
  let s3 : State := if q.port = 0xFF then s2.setSub q.ring { s2.sub q.ring with last := q.seq } else s2
  have hkept : (s1.ask q).2.issueKept s3 := by
    unfold s3
    split
    · exact heffect.trans (.of_eq rfl rfl rfl)
    · exact heffect
  have hrec : s.issueRec r = { s3 with crf := { s3.crf with issued := s3.crf.issued ++ [(s1.ask q).1] } } := rfl
  have hafter : q.after = (s1.ask q).1.r.after := by rw [Rec.after, ← hi.typ, ← hi.seq, Rec.after]
  rw [hrec]
  refine ⟨.trans (.trans (u := s1) (.of_merge rfl) hlanes) (.of_merge hkept.merge), (s1.ask q).1, ?_, ⟨hi.seq, hi.typ, hi.port, hi.payload, hi.stamp⟩, ?_⟩
  · change s3.crf.issued ++ _ = _
    rw [hkept.crf, hcrf]
    rfl
  · exact hkept.next.trans (hnext.trans (hafter ▸ hnext1))

/-! ### The lanes -/

theorem State.takeMerge_nil {s : State} (h : s.merge.lane = []) : s.takeMerge = none := by
  rw [State.takeMerge, h]

theorem State.takeMerge_cons {s : State} {r : Rec} {rs : List Rec} (h : s.merge.lane = r :: rs) :
    ∃ u, s.takeMerge = some u ∧ s.numbers u r ∧ u.merge.lane = rs ∧ u.merge.device ++ u.merge.host = s.merge.device ++ s.merge.host
      ∧ u.merge.cycle = s.merge.cycle := by
  obtain ⟨hlanes, hnumbers⟩ := State.issueRec_effect { s with merge := { s.merge with lane := rs } } r
  have htake : s.takeMerge = some ({ s with merge := { s.merge with lane := rs } }.issueRec r) := by rw [State.takeMerge, h]
  exact ⟨_, htake, hnumbers, hlanes.lane, congrArg₂ (· ++ ·) hlanes.device hlanes.host, hlanes.cycle⟩

theorem State.takeHost_nil {s : State} (h : s.merge.device ++ s.merge.host = []) : s.takeHost = none := by
  obtain ⟨hdev, hhost⟩ := List.append_eq_nil_iff.mp h
  rw [State.takeHost, hdev, hhost]

/-- The host lane's record is a device record while there is one (06 R208). -/
theorem State.takeHost_cons {s : State} {r : Rec} {rs : List Rec} (h : s.merge.device ++ s.merge.host = r :: rs) :
    ∃ u q, s.takeHost = some u ∧ s.numbers u q ∧ q.typ = r.typ ∧ q.port = r.port ∧ u.merge.lane = s.merge.lane
      ∧ u.merge.device ++ u.merge.host = rs ∧ u.merge.cycle = s.merge.cycle := by
  cases hdev : s.merge.device with
  | cons d ds =>
    rw [hdev] at h
    obtain ⟨rfl, rfl⟩ := List.cons.inj h
    obtain ⟨hlanes, hnumbers⟩ := State.issueRec_effect { s with merge := { s.merge with device := ds } } (s.stampDevice d)
    have htake : s.takeHost = some ({ s with merge := { s.merge with device := ds } }.issueRec (s.stampDevice d)) := by
      rw [State.takeHost, hdev]
    exact ⟨_, _, htake, hnumbers, rfl, rfl, hlanes.lane, congrArg₂ (· ++ ·) hlanes.device hlanes.host, hlanes.cycle⟩
  | nil =>
    rw [hdev, List.nil_append] at h
    obtain ⟨hlanes, hnumbers⟩ := State.issueRec_effect { s with merge := { s.merge with host := rs } } r
    have htake : s.takeHost = some ({ s with merge := { s.merge with host := rs } }.issueRec r) := by rw [State.takeHost, hdev, h]
    exact ⟨_, _, htake, hnumbers, rfl, rfl, hlanes.lane, (congrArg₂ (· ++ ·) hlanes.device hlanes.host).trans (congrArg (· ++ rs) hdev), hlanes.cycle⟩

/-! ### SEQUENCE_ISSUE -/

section
variable {s : State} (hissue : s.issuing = true) (hroll : seqIndex (s.rd SEQ_NEXT.NEXT) + 1 ≠ 2 ^ s.rd SEQ_CFG.ROLL_LOG2)
include hissue hroll

/-- A sequencer cycle in which no roll is due issues from the lane whose turn it is, or from the other (03 R109). -/
theorem sequenceIssue_eq : exec .sequenceIssue s = .next ((if s.merge.cycle % 2 = 0 then s.nextCycle.takeMerge.orElse (fun _ => s.nextCycle.takeHost)
    else s.nextCycle.takeHost.orElse (fun _ => s.nextCycle.takeMerge)).getD s.nextCycle) := by
  have hissue' : s.nextCycle.issuing = true := hissue
  have hroll' : s.nextCycle.rollDue = false := beq_false_of_ne hroll
  change execSequenceIssue s = _
  unfold execSequenceIssue
  extract_lets c s1 m h
  change (if !s.nextCycle.issuing then _ else if s.nextCycle.rollDue then _ else _) = _
  rw [hissue', hroll']
  rfl

/-- The merge lane issues in an even cycle, and at once when the host lane offers nothing (03 R109). -/
theorem sequenceIssue_merge {r : Rec} {rs : List Rec} (hlane : s.merge.lane = r :: rs)
    (hturn : s.merge.device ++ s.merge.host = [] ∨ s.merge.cycle % 2 = 0) :
    ∃ u, exec .sequenceIssue s = .next u ∧ u.merge.cycle = s.merge.cycle + 1 ∧ s.numbers u r ∧ u.merge.lane = rs
      ∧ u.merge.device ++ u.merge.host = s.merge.device ++ s.merge.host := by
  obtain ⟨u, htake, hnumbers, hrs, hhost, hcycle⟩ := State.takeMerge_cons (s := s.nextCycle) hlane
  refine ⟨u, ?_, hcycle, hnumbers, hrs, hhost⟩
  rw [sequenceIssue_eq hissue hroll, htake]
  split
  next => rfl
  next hodd => rw [State.takeHost_nil (s := s.nextCycle) (hturn.resolve_right hodd)]; rfl

/-- The host lane issues in an odd cycle, and at once when the merge lane offers nothing (03 R109). -/
theorem sequenceIssue_host {r : Rec} {rs : List Rec} (hhost : s.merge.device ++ s.merge.host = r :: rs)
    (hturn : s.merge.lane = [] ∨ s.merge.cycle % 2 ≠ 0) :
    ∃ u q, exec .sequenceIssue s = .next u ∧ u.merge.cycle = s.merge.cycle + 1 ∧ s.numbers u q ∧ q.typ = r.typ ∧ q.port = r.port
      ∧ u.merge.lane = s.merge.lane ∧ u.merge.device ++ u.merge.host = rs := by
  obtain ⟨u, q, htake, hnumbers, htyp, hport, hlane, hrs, hcycle⟩ := State.takeHost_cons (s := s.nextCycle) hhost
  refine ⟨u, q, ?_, hcycle, hnumbers, htyp, hport, hlane, hrs⟩
  rw [sequenceIssue_eq hissue hroll, htake]
  split
  next heven => rw [State.takeMerge_nil (s := s.nextCycle) (hturn.resolve_right (not_not.mpr heven))]; rfl
  next => rfl

end

/-- Settles O8: the lane whose turn it is issues, by one lemma for each lane, and MERGE_RELEASE offers one record at a time. -/
theorem lanesTakeTurns : Obligations.LanesTakeTurns := by
  unfold Obligations.LanesTakeTurns
  refine ⟨?_, fun s u => mergeRelease_lane⟩
  rintro s m h hissue hroll rfl rfl hne mergeTurn
  cases hturn : mergeTurn with
  | true =>
    obtain ⟨hlane, hhost⟩ := Bool.and_eq_true_iff.mp hturn
    obtain ⟨r, rs, hrs⟩ := List.exists_cons_of_ne_nil (l := s.merge.lane) (by simpa using hlane)
    obtain ⟨u, hexec, hcycle, ⟨i, hissued, hi, hnext⟩, hlane', hhost'⟩ := sequenceIssue_merge hissue hroll hrs (by simpa using hhost)
    refine ⟨u, i, hexec, hcycle, hissued, hi.seq, hnext, fun _ => ⟨by rw [hlane', hrs]; rfl, hhost', fun q hq => ?_⟩, nofun⟩
    rw [hrs] at hq
    cases hq
    exact ⟨hi.typ, hi.payload, hi.stamp⟩
  | false =>
    have hhostTurn : s.merge.lane = [] ∨ s.merge.device ++ s.merge.host ≠ [] ∧ s.merge.cycle % 2 ≠ 0 := by simpa [mergeTurn, or_iff_not_imp_left] using hturn
    obtain ⟨r, rs, hrs⟩ := List.exists_cons_of_ne_nil (l := s.merge.device ++ s.merge.host)
      (hhostTurn.elim (fun hnil => by rwa [hnil] at hne) And.left)
    obtain ⟨u, q, hexec, hcycle, ⟨i, hissued, hi, hnext⟩, htyp, hport, hlane', hhost'⟩ := sequenceIssue_host hissue hroll hrs (hhostTurn.imp_right And.right)
    refine ⟨u, i, hexec, hcycle, hissued, hi.seq, hnext, nofun, fun _ => ⟨hlane', by rw [hhost', hrs]; rfl, fun d hd => ?_⟩⟩
    rw [hrs] at hd
    cases hd
    exact ⟨hi.typ.trans htyp, hi.port.trans hport⟩

end Sys2Proof.Machine

namespace Sys2Proof.Machine
open Sys2Proof

/-! ### What an error record leaves -/

/-- From `s` to `u` only register fields, interfaces, the endpoint and the error state changed; and, under `low`, no register field of a cluster block. -/
def State.logKept (low : Prop) (s u : State) : Prop :=
  u = { s with regs := u.regs, out := u.out, pci := u.pci, err := u.err } ∧ (low → ∀ f : Fld, 0x8000000 ≤ f.key → u.rd f = s.rd f)

section
variable {low : Prop} {s u v : State}

theorem State.logKept.refl (s : State) : s.logKept low s := ⟨rfl, fun _ _ _ => rfl⟩

theorem State.logKept.trans (h : s.logKept low u) (h' : u.logKept low v) : s.logKept low v := by
  refine ⟨?_, fun hl f hf => (h'.2 hl f hf).trans (h.2 hl f hf)⟩
  have hv := h'.1
  rw [h.1] at hv
  exact hv

theorem State.logKept.wr (s : State) (f : Fld) (x : Nat) (hf : low → f.key < 0x8000000) : s.logKept low (s.wr f x) :=
  ⟨rfl, fun hl _ hg => State.rd_wr_other s x (Nat.ne_of_gt ((hf hl).trans_le hg))⟩

theorem State.logKept.errVector (s : State) (n : Nat) : s.logKept low (s.errVector n) :=
  ⟨by rw [State.errVector_only], fun _ _ _ => State.rd_errVector ..⟩

theorem State.logKept.foldl {α : Type} {f : State → α → State} (l : List α) (hf : ∀ (s : State), ∀ a ∈ l, s.logKept low (f s a)) (s : State) :
    s.logKept low (l.foldl f s) := by
  induction l generalizing s with
  | nil => exact .refl s
  | cons a l ih => exact (hf s a List.mem_cons_self).trans (ih (fun s b hb => hf s b (List.mem_cons_of_mem _ hb)) _)

theorem State.logKept.dy (h : s.logKept low u) : u.dy = s.dy := by rw [h.1]
theorem State.logKept.pending (h : s.logKept low u) : u.pending = s.pending := by rw [h.1]

end

theorem domOf_lt {u : FatalUnit} {d : Nat} (hu : logOf u < 4096) (hd : domOf u = some d) : d < 8192 := by
  cases u <;> simp only [domOf, Option.some.injEq, reduceCtorEq] at hd <;> simp only [logOf] at hu <;> omega

section
variable {low : Prop} (s : State) {n : Nat}

theorem State.logKept.warn (hn : low → n < 4096) (code sub info : Nat) : s.logKept low (s.warn n code sub info) := by
  unfold State.warn
  obtain ⟨sec, ns⟩ := s.timeWord
  dsimp -zeta only
  extract_lets s1 s2
  refine State.logKept.trans (u := s2.count (ERR_CNT.WARNINGS n)) ⟨by simp only [s2, s1, State.count, State.wr], fun hl f hf => ?_⟩ (.errVector ..)
  have := hn hl
  simp (disch := (dsimp only at *; omega)) only [s2, s1, State.count, State.rd_wr_other]

theorem State.logKept.firstRecord (hn : low → n < 4096) (code cls sub info : Nat) (inj : Bool) : s.logKept low (s.firstRecord n code cls sub info inj) := by
  unfold State.firstRecord
  obtain ⟨sec, ns⟩ := s.timeWord
  dsimp -zeta only
  extract_lets s1 s2 s3 e s4
  have h3 : s.logKept low s3 := ⟨by simp only [s3, s2, s1, State.wrBit, State.wrB, State.wr], fun hl f hf => by
    have := hn hl
    simp (disch := (dsimp only at *; omega)) only [s3, s2, s1, State.wrBit, State.wrB, State.rd_wr_other]⟩
  have h4 : s3.logKept low s4 := by
    unfold s4; split
    · exact ⟨rfl, fun _ _ _ => rfl⟩
    · exact .refl s3
  exact (h3.trans h4).trans (.errVector ..)

theorem State.logKept.secondRecord (hn : low → n < 4096) (code cls sub info : Nat) (inj : Bool) : s.logKept low (s.secondRecord n code cls sub info inj) := by
  unfold State.secondRecord
  obtain ⟨sec, ns⟩ := s.timeWord
  dsimp -zeta only
  extract_lets s1 s2
  refine State.logKept.trans (u := s2.wr (ERR_STAT.SECOND_VALID n) 1) ⟨by simp only [s2, s1, State.wrB, State.wr], fun hl f hf => ?_⟩ (.errVector ..)
  have := hn hl
  simp (disch := (dsimp only at *; omega)) only [s2, s1, State.wrB, State.rd_wr_other]

theorem State.logKept.declareFatal {u : FatalUnit} (hu : low → logOf u < 4096) : s.logKept low (s.declareFatal u) := by
  unfold State.declareFatal
  split
  · exact .refl s
  · extract_lets n e s1 s2 s3
    have h3 : s.logKept low s3 := State.logKept.trans (u := s1) ⟨rfl, fun _ _ _ => rfl⟩
      ((State.logKept.wr s1 (ERR_FATAL.FATAL (n / 64)) _ (fun hl => by have := hu hl; dsimp only; omega)).trans
        (.wr s2 (ERR_STAT.FATAL n) _ (fun hl => by have := hu hl; dsimp only; omega)))
    refine State.logKept.trans ?_ (.errVector _ 2)
    split
    next d hd =>
      exact h3.trans (.wr s3 (PWR_DOM.ON (d / 64)) _ (fun hl => by have := domOf_lt (hu hl) hd; dsimp only; omega))
    · exact h3

theorem State.logKept.clearFirst (hn : low → n < 4096) : s.logKept low (s.clearFirst n) := by
  have hclear : ∀ (s : State) (n : Nat), (low → n < 4096) → s.logKept low ((s.wr (ERR_STAT.FIRST_VALID n) 0).wrBit (ERR_SUM.FIRST (n / 64)) (n % 64) false) :=
    fun s n hn => (State.logKept.wr s (ERR_STAT.FIRST_VALID n) 0 (fun hl => by have := hn hl; dsimp only; omega)).trans
      (.wr _ (ERR_SUM.FIRST (n / 64)) _ (fun hl => by have := hn hl; dsimp only; omega))
  simp only [State.clearFirst]
  split
  · exact (hclear s n hn).trans (hclear _ 0 (fun _ => by decide))
  · exact hclear s n hn

theorem State.logKept.logCore (hn : low → n < 4096) (code cls sub info : Nat) (inj : Bool) (hu : low → logOf (unitOfRecord n code sub info) < 4096) :
    s.logKept low (s.logCore n code cls sub info inj) := by
  unfold State.logCore
  extract_lets s1 u s2
  have hwr : ∀ (s : State) (f : Fld) (x : Nat), (n < 4096 → f.key < 0x8000000) → s.logKept low (s.wr f x) := fun s f x hf => .wr s f x fun hl => hf (hn hl)
  have h1 : s.logKept low s1 := (hwr s (ERR_STAT.TOTAL n) _ (by dsimp only; omega)).trans (hwr _ (ERR_CNT.UNCORRECTED n) _ (by dsimp only; omega))
  refine h1.trans ?_
  split
  · exact .refl s1
  · split
    · exact .firstRecord s1 hn ..
    · split
      · refine (State.logKept.secondRecord s1 hn code cls sub info inj).trans ?_
        split
        · split
          · exact .warn _ (fun _ => by decide) ..
          · exact .declareFatal _ hu
        · exact hwr s2 (ERR_STAT.ESCALATED n) _ (by dsimp only; omega)
      · exact hwr s1 (ERR_STAT.THIRD n) _ (by dsimp only; omega)

/-- A logged error changes register fields, interfaces and the error state alone, and no field of a cluster block when the logs and units it names exist (14 R522, R530). -/
theorem State.logKept.logError (hn : low → n < 4096) (code cls sub info : Nat) (inj : Bool) (hu : low → logOf (unitOfRecord n code sub info) < 4096)
    (hesc : low → logOf (unitOfRecord 0 1 n (code % 65536 + (sub % 256) * 65536)) < 4096) : s.logKept low (s.logError n code cls sub info inj) := by
  unfold State.logError
  extract_lets second s1 s2 s3
  have h2 : s.logKept low s2 := by
    refine (State.logKept.logCore s hn code cls sub info inj hu).trans ?_
    unfold s2; split
    · exact .logCore s1 (fun _ => by decide) _ _ _ _ _ hesc
    · exact .refl s1
  have h3 : s.logKept low s3 := by
    refine h2.trans ?_
    unfold s3; split
    · split
      · exact .warn s2 (fun _ => by decide) ..
      · exact .declareFatal s2 hu
    · exact .refl s2
  split
  · exact h3.trans (.clearFirst s3 hn)
  · exact h3

end

end Sys2Proof.Machine

namespace Sys2Proof.Machine
open Sys2Proof

/-! ### Locks and their holders -/

/-- What the locks need of a thread: its state, what it is parked on and the locks it holds. -/
structure LockView where
  st : ThState
  park : Option Park
  locks : List Nat

def Thread.lockView (x : Thread) : LockView := ⟨x.st, x.park, x.locks⟩

/-- The locks by cluster × 512 + n, and what the locks need of each thread. -/
def State.lockTable (s : State) (j : Nat) : Lock := FMap.get {} s.dy.locks j
def State.lockViews (s : State) (t : Nat) : LockView := (s.th t).lockView

/-- The soundness of locks (04 R143 to R146), over a table of locks `L` and the threads' views `T`. -/
structure LocksOk (L : Nat → Lock) (T : Nat → LockView) : Prop where
  owned : ∀ k n i, k < 64 → n < 512 → i < 128 → ((L (k * 512 + n)).owner = some i ↔ n ∈ (T (k * 128 + i)).locks)
  ownerLt : ∀ k n i, k < 64 → n < 512 → (L (k * 512 + n)).owner = some i → i < 128
  ranked : ∀ t, t < 8192 → (T t).locks.Pairwise (· < ·) ∧ (T t).locks.length ≤ 8 ∧ ∀ n ∈ (T t).locks, n < 512
  queued : ∀ k n, k < 64 → n < 512 → (L (k * 512 + n)).saucer.Nodup ∧ ∀ i ∈ (L (k * 512 + n)).saucer, i < 128 ∧ (T (k * 128 + i)).st = .wait
    ∧ (T (k * 128 + i)).park = some (.lock n) ∧ (T (k * 128 + i)).locks.length < 8 ∧ ∀ m ∈ (T (k * 128 + i)).locks, m < n

theorem State.locksSound_iff (s : State) : s.locksSound ↔ s.pending.all (fun c => plainInstr c) = true ∧ LocksOk s.lockTable s.lockViews :=
  ⟨fun ⟨hp, h1, h2, h3, h4⟩ => ⟨hp, ⟨h1, h2, h3, h4⟩⟩, fun ⟨hp, h⟩ => ⟨hp, h.owned, h.ownerLt, h.ranked, h.queued⟩⟩

/-- Thread `i` of cluster `k` stands in no Saucer. -/
def NotQueued (L : Nat → Lock) (k i : Nat) : Prop := ∀ n, n < 512 → i ∉ (L (k * 512 + n)).saucer

/-- The lock table with one lock changed, read at a lock. -/
theorem update_lock (L : Nat → Lock) (l : Lock) {k n k' n' : Nat} (hn : n < 512) (hn' : n' < 512) :
    Function.update L (k * 512 + n) l (k' * 512 + n') = if k' = k ∧ n' = n then l else L (k' * 512 + n') := by
  rw [Function.update_apply]
  exact if_congr (by omega) rfl rfl

/-- The threads' views with one thread changed, read at a thread. -/
theorem update_view (T : Nat → LockView) (y : LockView) {k i k' i' : Nat} (hi : i < 128) (hi' : i' < 128) :
    Function.update T (k * 128 + i) y (k' * 128 + i') = if k' = k ∧ i' = i then y else T (k' * 128 + i') := by
  rw [Function.update_apply]
  exact if_congr (by omega) rfl rfl

section
variable {L : Nat → Lock} {T : Nat → LockView} {k i n : Nat} {y : LockView}

/-- A thread that does not wait for a lock stands in no Saucer. -/
theorem LocksOk.notQueued (h : LocksOk L T) (hk : k < 64) (hw : (T (k * 128 + i)).st ≠ .wait ∨ ∀ n, (T (k * 128 + i)).park ≠ some (.lock n)) :
    NotQueued L k i := by
  intro n hn hmem
  obtain ⟨-, hst, hpark, -⟩ := (h.queued k n hk hn).2 i hmem
  exact hw.elim (· hst) (· n hpark)

/-- A thread that holds no more than it did, and stands in no Saucer, may change its state and what it is parked on. -/
theorem LocksOk.setView (h : LocksOk L T) (hi : i < 128) (hlocks : y.locks = (T (k * 128 + i)).locks)
    (hy : (y.st = (T (k * 128 + i)).st ∧ y.park = (T (k * 128 + i)).park) ∨ NotQueued L k i) : LocksOk L (Function.update T (k * 128 + i) y) := by
  have hl : ∀ j, (Function.update T (k * 128 + i) y j).locks = (T j).locks := fun j => by
    rw [Function.update_apply]
    split
    next hj => rw [hj, hlocks]
    · rfl
  refine ⟨fun k n i hk hn hi => by rw [hl]; exact h.owned k n i hk hn hi, h.ownerLt, fun j hj => by rw [hl]; exact h.ranked j hj, fun k' n hk' hn => ?_⟩
  obtain ⟨hnodup, hq⟩ := h.queued k' n hk' hn
  refine ⟨hnodup, fun i' hmem => ?_⟩
  obtain ⟨hlt, hst, hpark, hheld⟩ := hq i' hmem
  rw [hl, update_view _ _ hi hlt]
  split
  next hj =>
    obtain ⟨rfl, rfl⟩ := hj
    obtain ⟨hs, hp⟩ | hfree := hy
    · exact ⟨hlt, hs.trans hst, hp.trans hpark, hheld⟩
    · exact absurd hmem (hfree n hn)
  · exact ⟨hlt, hst, hpark, hheld⟩

/-- Requests may leave a Saucer. -/
theorem LocksOk.shrink (h : LocksOk L T) (j : Nat) {q : List Nat} (hq : q.Sublist (L j).saucer) :
    LocksOk (Function.update L j { owner := (L j).owner, saucer := q }) T := by
  have howner : ∀ a, (Function.update L j { owner := (L j).owner, saucer := q } a).owner = (L a).owner := fun a => by
    rw [Function.update_apply]; split
    next ha => rw [ha]
    · rfl
  have hsub : ∀ a, (Function.update L j { owner := (L j).owner, saucer := q } a).saucer.Sublist (L a).saucer := fun a => by
    rw [Function.update_apply]; split
    next ha => rw [ha]; exact hq
    · exact List.Sublist.refl _
  refine ⟨fun k n i hk hn hi => by rw [howner]; exact h.owned k n i hk hn hi, fun k n i hk hn => by rw [howner]; exact h.ownerLt k n i hk hn, h.ranked,
    fun k n hk hn => ?_⟩
  obtain ⟨hnodup, hall⟩ := h.queued k n hk hn
  exact ⟨hnodup.sublist (hsub _), fun i hi => hall i ((hsub _).subset hi)⟩

theorem NotQueued.shrink (h : NotQueued L k i) (j : Nat) {q : List Nat} (hq : q.Sublist (L j).saucer) (o : Option Nat) :
    NotQueued (Function.update L j { owner := o, saucer := q }) k i := by
  intro n hn hmem
  rw [Function.update_apply] at hmem
  split at hmem
  next hj => exact h n hn (hj ▸ hq.subset hmem)
  · exact h n hn hmem

/-- A free lock goes to a thread that may take it (04 R144, R145). -/
theorem LocksOk.grant (h : LocksOk L T) (hk : k < 64) (hi : i < 128) (hn : n < 512) (howner : (L (k * 512 + n)).owner = none)
    (hrank : ∀ m ∈ (T (k * 128 + i)).locks, m < n) (hlen : (T (k * 128 + i)).locks.length < 8) {q : List Nat} (hq : q.Sublist (L (k * 512 + n)).saucer)
    (hfree : NotQueued (Function.update L (k * 512 + n) { owner := some i, saucer := q }) k i) (hy : y.locks = (T (k * 128 + i)).locks ++ [n]) :
    LocksOk (Function.update L (k * 512 + n) { owner := some i, saucer := q }) (Function.update T (k * 128 + i) y) := by
  have hnone : ∀ i', i' < 128 → n ∉ (T (k * 128 + i')).locks := fun i' hi' hmem => by
    rw [← h.owned k n i' hk hn hi', howner] at hmem
    cases hmem
  refine ⟨fun k' n' i' hk' hn' hi' => ?_, fun k' n' i' hk' hn' => ?_, fun t ht => ?_, fun k' n' hk' hn' => ?_⟩
  · have hold := h.owned k' n' i' hk' hn' hi'
    rw [update_lock _ _ hn hn', update_view _ _ hi hi']
    by_cases hkk : k' = k
    · subst hkk
      by_cases hnn : n' = n
      · subst hnn
        by_cases hii : i' = i
        · simp [hii, hy]
        · simp [hii, hnone i' hi', Ne.symm hii]
      · by_cases hii : i' = i
        · subst hii; simp [hnn, hold, hy]
        · simp [hnn, hii, hold]
    · simp [hkk, hold]
  · rw [update_lock _ _ hn hn']
    split
    · rintro ⟨⟩; exact hi
    · exact h.ownerLt k' n' i' hk' hn'
  · rw [Function.update_apply]
    split
    next htt =>
      obtain ⟨hpair, -, hlt⟩ := h.ranked t ht
      rw [htt] at hpair hlt
      rw [hy]
      refine ⟨List.pairwise_append.mpr ⟨hpair, List.pairwise_singleton _ _, by simpa using hrank⟩, by simpa using hlen, ?_⟩
      simp only [List.mem_append, List.mem_singleton]
      rintro m (hm | rfl)
      · exact hlt m hm
      · exact hn
    · exact h.ranked t ht
  · have hsub : (Function.update L (k * 512 + n) { owner := some i, saucer := q } (k' * 512 + n')).saucer.Sublist (L (k' * 512 + n')).saucer := by
      rw [update_lock _ _ hn hn']
      split
      next he => obtain ⟨rfl, rfl⟩ := he; exact hq
      · exact List.Sublist.refl _
    obtain ⟨hnodup, hall⟩ := h.queued k' n' hk' hn'
    refine ⟨hnodup.sublist hsub, fun i' hmem => ?_⟩
    have hold := hall i' (hsub.subset hmem)
    rw [update_view _ _ hi hold.1]
    split
    next he => obtain ⟨rfl, rfl⟩ := he; exact absurd hmem (hfree n' hn')
    · exact hold

/-- A lock that a thread holds is free again (04 R145). -/
theorem LocksOk.free (h : LocksOk L T) (hk : k < 64) (hi : i < 128) (hn : n < 512) (hmem : n ∈ (T (k * 128 + i)).locks) (hfree : NotQueued L k i)
    (hy : y.locks = (T (k * 128 + i)).locks.filter (· != n)) :
    LocksOk (Function.update L (k * 512 + n) { owner := none, saucer := (L (k * 512 + n)).saucer }) (Function.update T (k * 128 + i) y) := by
  have howner := (h.owned k n i hk hn hi).mpr hmem
  refine ⟨fun k' n' i' hk' hn' hi' => ?_, fun k' n' i' hk' hn' => ?_, fun t ht => ?_, fun k' n' hk' hn' => ?_⟩
  · have hold := h.owned k' n' i' hk' hn' hi'
    rw [update_lock _ _ hn hn', update_view _ _ hi hi']
    by_cases hkk : k' = k
    · subst hkk
      by_cases hnn : n' = n
      · subst hnn
        by_cases hii : i' = i
        · simp [hii, hy]
        · have : n' ∉ (T (k' * 128 + i')).locks := fun hm => hii (Option.some.inj ((hold.mpr hm).symm.trans howner))
          simp [hii, this]
      · by_cases hii : i' = i
        · subst hii; simp [hnn, hold, hy]
        · simp [hnn, hii, hold]
    · simp [hkk, hold]
  · rw [update_lock _ _ hn hn']
    split
    · rintro ⟨⟩
    · exact h.ownerLt k' n' i' hk' hn'
  · rw [Function.update_apply]
    split
    next htt =>
      obtain ⟨hpair, hlen, hlt⟩ := h.ranked t ht
      rw [htt] at hpair hlen hlt
      rw [hy]
      exact ⟨hpair.filter _, (List.length_filter_le _ _).trans hlen, fun m hm => hlt m (List.mem_of_mem_filter hm)⟩
    · exact h.ranked t ht
  · have hsaucer : (Function.update L (k * 512 + n) { owner := none, saucer := (L (k * 512 + n)).saucer } (k' * 512 + n')).saucer = (L (k' * 512 + n')).saucer := by
      rw [update_lock _ _ hn hn']
      split
      next he => obtain ⟨rfl, rfl⟩ := he; rfl
      · rfl
    rw [hsaucer]
    obtain ⟨hnodup, hall⟩ := h.queued k' n' hk' hn'
    refine ⟨hnodup, fun i' hmem' => ?_⟩
    have hold := hall i' hmem'
    rw [update_view _ _ hi hold.1]
    split
    next he => obtain ⟨rfl, rfl⟩ := he; exact absurd hmem' (hfree n' hn')
    · exact hold

/-- A thread that may take lock `n` joins its Saucer (04 R144, R146). -/
theorem LocksOk.join (h : LocksOk L T) (hk : k < 64) (hi : i < 128) (hn : n < 512) (hfree : NotQueued L k i)
    (hrank : ∀ m ∈ (T (k * 128 + i)).locks, m < n) (hlen : (T (k * 128 + i)).locks.length < 8) (hy : y = ⟨.wait, some (.lock n), (T (k * 128 + i)).locks⟩) :
    LocksOk (Function.update L (k * 512 + n) { owner := (L (k * 512 + n)).owner, saucer := (L (k * 512 + n)).saucer ++ [i] }) (Function.update T (k * 128 + i) y) := by
  have h' := h.setView hi (y := y) (by rw [hy]) (.inr hfree)
  refine ⟨fun k' n' i' hk' hn' hi' => ?_, fun k' n' i' hk' hn' => ?_, h'.ranked, fun k' n' hk' hn' => ?_⟩
  · rw [← h'.owned k' n' i' hk' hn' hi', update_lock _ _ hn hn']
    split
    next he => obtain ⟨rfl, rfl⟩ := he; rfl
    · rfl
  · rw [update_lock _ _ hn hn']
    split
    next he => obtain ⟨rfl, rfl⟩ := he; exact h.ownerLt k' n' i' hk' hn'
    · exact h.ownerLt k' n' i' hk' hn'
  · obtain ⟨hnodup, hall⟩ := h'.queued k' n' hk' hn'
    rw [update_lock _ _ hn hn']
    split
    next he =>
      obtain ⟨rfl, rfl⟩ := he
      refine ⟨hnodup.append (List.nodup_singleton i) (by simpa using hfree n' hn'), fun i' hmem => ?_⟩
      simp only [List.mem_append, List.mem_singleton] at hmem
      obtain hmem | rfl := hmem
      · exact hall i' hmem
      · simpa [hy] using ⟨hi, hlen, hrank⟩
    · exact ⟨hnodup, hall⟩

end

end Sys2Proof.Machine

namespace Sys2Proof.Machine
open Sys2Proof

/-! ### What leaves the locks alone -/

@[simp] theorem State.lockTable_setTh (s : State) (t : Nat) (x : Thread) : (s.setTh t x).lockTable = s.lockTable := rfl
@[simp] theorem State.lockViews_setLock (s : State) (k n : Nat) (l : Lock) : (s.setLock k n l).lockViews = s.lockViews := rfl

@[simp] theorem State.lockTable_setLock (s : State) (k n : Nat) (l : Lock) : (s.setLock k n l).lockTable = Function.update s.lockTable (k * 512 + n) l := by
  funext j
  rw [Function.update_apply]
  split
  next hj => subst hj; exact FMap.get_set_same ..
  next hj => exact FMap.get_set_other _ _ _ _ hj

@[simp] theorem State.lockViews_setTh (s : State) (t : Nat) (x : Thread) : (s.setTh t x).lockViews = Function.update s.lockViews t x.lockView := by
  funext j
  rw [Function.update_apply]
  split
  next hj => subst hj; exact congrArg Thread.lockView (State.th_setTh_same ..)
  next hj => exact congrArg Thread.lockView (State.th_setTh_other _ _ hj)

/-- From `s` to `u` no lock changed, nothing that the locks need of a thread, no thread's registers, and no command came or went. -/
structure State.lockKept (s u : State) : Prop where
  pending : u.pending = s.pending
  table : u.lockTable = s.lockTable
  views : u.lockViews = s.lockViews
  regs : ∀ j, (u.th j).g = (s.th j).g

section
variable {s u v : State}

theorem State.lockKept.refl (s : State) : s.lockKept s := ⟨rfl, rfl, rfl, fun _ => rfl⟩

theorem State.lockKept.trans (h : s.lockKept u) (h' : u.lockKept v) : s.lockKept v :=
  ⟨h'.pending.trans h.pending, h'.table.trans h.table, h'.views.trans h.views, fun j => (h'.regs j).trans (h.regs j)⟩

theorem State.lockKept.of_dy (hp : u.pending = s.pending) (hd : u.dy = s.dy) : s.lockKept u :=
  ⟨hp, by unfold State.lockTable; rw [hd], by unfold State.lockViews State.th; rw [hd], fun _ => by unfold State.th; rw [hd]⟩

theorem State.lockKept.of_logKept {low : Prop} (h : s.logKept low u) : s.lockKept u := .of_dy h.pending h.dy

theorem State.lockKept.foldl {α : Type} {f : State → α → State} (hf : ∀ (s : State) a, s.lockKept (f s a)) (l : List α) (s : State) : s.lockKept (l.foldl f s) := by
  induction l generalizing s with
  | nil => exact .refl s
  | cons a l ih => exact (hf s a).trans (ih _)

theorem State.regs_setTh (s : State) {t : Nat} {y : Thread} (hg : y.g = (s.th t).g) (j : Nat) : ((s.setTh t y).th j).g = (s.th j).g := by
  by_cases hj : j = t
  · rw [hj, State.th_setTh_same, hg]
  · rw [State.th_setTh_other _ _ hj]

theorem State.lockKept.setTh (s : State) {t : Nat} {y : Thread} (hy : y.lockView = (s.th t).lockView) (hg : y.g = (s.th t).g) : s.lockKept (s.setTh t y) :=
  ⟨rfl, rfl, by rw [State.lockViews_setTh, hy]; exact Function.update_eq_self t s.lockViews, State.regs_setTh s hg⟩

theorem State.lockKept.locksSound (h : s.lockKept u) (hs : s.locksSound) : u.locksSound := by
  rw [State.locksSound_iff] at *
  rwa [h.pending, h.table, h.views]

end

theorem State.lockKept.wr (s : State) (f : Fld) (x : Nat) : s.lockKept (s.wr f x) := .of_dy rfl rfl
theorem State.lockKept.raise (s : State) (t bit : Nat) : s.lockKept (s.raise t bit) := .setTh s rfl rfl
theorem State.lockKept.leaveWait (s : State) (t : Nat) : s.lockKept (s.leaveWait t) := ⟨rfl, rfl, rfl, fun _ => rfl⟩
theorem State.lockKept.setChan (s : State) (k c : Nat) (x : Chan) : s.lockKept (s.setChan k c x) := ⟨rfl, rfl, rfl, fun _ => rfl⟩

theorem State.lockKept.grantChan (s : State) (k c : Nat) : s.lockKept (s.grantChan k c) := by
  unfold State.grantChan
  extract_lets x
  split
  · split
    · exact .refl s
    · extract_lets s1 t
      have h1 : s.lockKept s1 := .setChan ..
      refine h1.trans (State.lockKept.trans ?_ (.raise _ t _))
      exact .setTh s1 rfl rfl
  · exact .refl s

theorem State.lockKept.endRsv (s : State) (t : Nat) : s.lockKept (s.endRsv t) := by
  unfold State.endRsv
  extract_lets x s1
  have h1 : s.lockKept s1 := .setTh s rfl rfl
  split
  · exact h1.trans ((State.lockKept.setChan s1 _ _ _).trans (.grantChan ..))
  · exact h1.trans ((State.lockKept.setChan s1 _ _ _).trans (.grantChan ..))
  · exact h1

theorem State.lockKept.writeRegion (s : State) (t : Nat) (r : Region) (bs : List Byte) : s.lockKept (s.writeRegion t r bs) := by
  unfold State.writeRegion
  split
  · exact ⟨rfl, rfl, rfl, fun _ => rfl⟩
  · exact ⟨rfl, rfl, rfl, fun _ => rfl⟩
  · exact ⟨rfl, rfl, rfl, fun _ => rfl⟩
  · exact .refl s

theorem State.lockKept.finishStore (s : State) (t : Nat) : s.lockKept (s.finishStore t) := by
  unfold State.finishStore
  split
  · exact .writeRegion ..
  · exact ⟨rfl, rfl, rfl, fun _ => rfl⟩
  · exact .refl s

theorem State.lockKept.freeBinding (s : State) (g port : Nat) (stamp : Stamp) : s.lockKept (s.freeBinding g port stamp) := by
  refine .foldl (fun s k => ?_) _ s
  extract_lets b
  split
  · exact ⟨rfl, rfl, rfl, fun _ => rfl⟩
  · exact .refl s

theorem State.lockKept.faultField (s : State) (f : Fld) (v : Option Nat) : s.lockKept (s.faultField f v) := by
  unfold State.faultField
  split
  · exact .wr ..
  · exact ⟨rfl, rfl, rfl, fun _ => rfl⟩

theorem State.lockKept.logError (s : State) (n code cls sub info : Nat) (inj : Bool) : s.lockKept (s.logError n code cls sub info inj) :=
  .of_logKept (State.logKept.logError (low := False) s nofun code cls sub info inj nofun nofun)

theorem State.lockKept.declareFatal (s : State) (u : FatalUnit) : s.lockKept (s.declareFatal u) :=
  .of_logKept (State.logKept.declareFatal (low := False) s nofun)

theorem State.lockKept.clearFirst (s : State) (n : Nat) : s.lockKept (s.clearFirst n) := .of_logKept (State.logKept.clearFirst (low := False) s nofun)

theorem State.lockKept.meetBad (s : State) (p : Option (Nat × Nat × Nat)) : s.lockKept (s.meetBad p) := by
  unfold State.meetBad
  split
  · exact .refl s
  · extract_lets hit fresh s1
    have h1 : s.lockKept s1 := by
      unfold s1; split
      · exact .refl s
      · exact .logError ..
    exact h1.trans ⟨rfl, rfl, rfl, fun _ => rfl⟩

theorem State.lockKept.ackMem (s : State) (l : List Nat) : s.lockKept (s.ackMem l) := by
  refine .foldl (fun s n => ?_) l s
  split
  · exact .clearFirst s n
  · exact .refl s

/-! ### Releasing locks -/

/-- A lock that nobody asks for is free once it is released (04 R145). -/
theorem State.passLock_nil {s : State} {k n : Nat} (h : (s.lockOf k n).saucer = []) : s.passLock k n = s.setLock k n { owner := none, saucer := [] } := by
  unfold State.passLock
  simp only [h]

/-- A released lock passes to the oldest request of its Saucer (04 R145). -/
theorem State.passLock_cons {s : State} {k n j : Nat} {rest : List Nat} (h : (s.lockOf k n).saucer = j :: rest) :
    (s.passLock k n).pending = s.pending ∧ (s.passLock k n).lockTable = Function.update s.lockTable (k * 512 + n) { owner := some j, saucer := rest }
      ∧ (s.passLock k n).lockViews = Function.update s.lockViews (k * 128 + j)
          ⟨(s.th (k * 128 + j)).st, (s.th (k * 128 + j)).park, (s.th (k * 128 + j)).locks ++ [n]⟩
      ∧ (∀ t, t ≠ k * 128 + j → (s.passLock k n).th t = s.th t) ∧ ∀ t, ((s.passLock k n).th t).g = (s.th t).g := by
  unfold State.passLock
  simp only [h]
  refine ⟨rfl, ?_, ?_, fun t ht => ?_, fun t => ?_⟩
  · rw [(State.lockKept.raise ..).table, State.lockTable_setTh, State.lockTable_setLock]
  · rw [(State.lockKept.raise ..).views, State.lockViews_setTh]
    rfl
  · unfold State.raise
    simp only [State.th_setTh_other _ _ ht]
    rfl
  · rw [(State.lockKept.raise ..).regs]
    refine (State.regs_setTh _ ?_ t).trans ?_
    · rfl
    · rfl

/-- A release of a lock leaves every thread's registers. -/
theorem State.regs_passLock (s : State) (k n t : Nat) : ((s.passLock k n).th t).g = (s.th t).g := by
  cases h : (s.lockOf k n).saucer with
  | nil => rw [State.passLock_nil h]; rfl
  | cons j rest => exact (State.passLock_cons h).2.2.2.2 t

section
variable {s : State} {k i n : Nat} {y : LockView}

/-- A release of a lock by thread `i` of cluster `k`, whose view is taken to be `y`. -/
theorem State.passLock_ok (hk : k < 64) (hi : i < 128) (hn : n < 512) (hmem : n ∈ y.locks) (h : LocksOk s.lockTable (Function.update s.lockViews (k * 128 + i) y))
    (hfree : NotQueued s.lockTable k i) :
    LocksOk (s.passLock k n).lockTable (Function.update (s.passLock k n).lockViews (k * 128 + i) { y with locks := y.locks.filter (· != n) })
      ∧ NotQueued (s.passLock k n).lockTable k i ∧ (s.passLock k n).pending = s.pending ∧ (s.passLock k n).th (k * 128 + i) = s.th (k * 128 + i) := by
  have hrel := h.free (y := { y with locks := y.locks.filter (· != n) }) hk hi hn (by simpa using hmem) hfree (by simp)
  rw [Function.update_idem] at hrel
  cases hl : (s.lockTable (k * 512 + n)).saucer with
  | nil =>
    rw [hl] at hrel
    rw [State.passLock_nil hl, State.lockTable_setLock]
    exact ⟨hrel, hfree.shrink _ (List.nil_sublist _) none, rfl, rfl⟩
  | cons j rest =>
    obtain ⟨hpending, htable, hviews, hth, -⟩ := State.passLock_cons hl
    have hmemj : j ∈ (s.lockTable (k * 512 + n)).saucer := by rw [hl]; exact List.mem_cons_self
    have hsub : rest.Sublist (s.lockTable (k * 512 + n)).saucer := by rw [hl]; exact List.sublist_cons_self j rest
    have hne : k * 128 + j ≠ k * 128 + i := fun he => hfree n hn (by rwa [show i = j by omega])
    obtain ⟨hnodup, hall⟩ := h.queued k n hk hn
    obtain ⟨hj, -, hpark, hlen, hrank⟩ := hall j hmemj
    rw [Function.update_of_ne hne] at hpark hlen hrank
    -- the new owner waits for this lock alone, so that it stands in no Saucer once it has left this one
    have hjfree : NotQueued (Function.update s.lockTable (k * 512 + n) { owner := some j, saucer := rest }) k j := by
      intro n' hn' hmem'
      rw [update_lock _ _ hn hn'] at hmem'
      split at hmem'
      · rw [hl] at hnodup
        exact (List.nodup_cons.mp hnodup).1 hmem'
      next hnn =>
        obtain ⟨-, -, hpark', -⟩ := (h.queued k n' hk hn').2 j hmem'
        rw [Function.update_of_ne hne, hpark] at hpark'
        exact hnn ⟨rfl, (Park.lock.inj (Option.some.inj hpark')).symm⟩
    have hgrant := hrel.grant (y := ⟨(s.th (k * 128 + j)).st, (s.th (k * 128 + j)).park, (s.th (k * 128 + j)).locks ++ [n]⟩) (q := rest) hk hj hn (by simp)
      (by rwa [Function.update_of_ne hne]) (by rwa [Function.update_of_ne hne]) (by rwa [Function.update_self]) (by rwa [Function.update_idem])
      (by rw [Function.update_of_ne hne]; rfl)
    rw [Function.update_idem, Function.update_comm hne.symm] at hgrant
    rw [htable, hviews]
    exact ⟨hgrant, hfree.shrink _ hsub (some j), hpending, hth _ hne.symm⟩

/-- A release of all the locks that thread `i` of cluster `k` is taken to hold (04 R130). -/
theorem State.passLocks_ok (hk : k < 64) (hi : i < 128) (h : LocksOk s.lockTable (Function.update s.lockViews (k * 128 + i) y))
    (hfree : NotQueued s.lockTable k i) :
    let u := y.locks.foldl (fun s n => s.passLock k n) s
    LocksOk u.lockTable (Function.update u.lockViews (k * 128 + i) { y with locks := [] }) ∧ NotQueued u.lockTable k i ∧ u.pending = s.pending
      ∧ u.th (k * 128 + i) = s.th (k * 128 + i) := by
  obtain ⟨st, park, locks⟩ := y
  induction locks generalizing s with
  | nil => exact ⟨h, hfree, rfl, rfl⟩
  | cons n ns ih =>
    obtain ⟨hpair, -, hlt⟩ := h.ranked (k * 128 + i) (by omega)
    rw [Function.update_self] at hpair hlt
    obtain ⟨hok, hfree', hpending, hth⟩ := State.passLock_ok hk hi (hlt n List.mem_cons_self) (by simp) h hfree
    have hns : (n :: ns).filter (· != n) = ns := by
      rw [List.filter_cons_of_neg (by simp), List.filter_eq_self]
      exact fun m hm => by simpa using ((List.pairwise_cons.mp hpair).1 m hm).ne'
    obtain ⟨hok', hfree'', hpending', hth'⟩ := ih hfree' (hns ▸ hok)
    exact ⟨hok', hfree'', hpending'.trans hpending, hth'.trans hth⟩

end

end Sys2Proof.Machine

namespace Sys2Proof.Machine
open Sys2Proof

/-! ### Reset and faults of a thread -/

theorem State.unpark_ok {s : State} {k i : Nat} (h : LocksOk s.lockTable s.lockViews) (hfree : NotQueued s.lockTable k i) (t : Nat) :
    LocksOk (s.unpark t).lockTable s.lockViews ∧ NotQueued (s.unpark t).lockTable k i ∧ (s.unpark t).pending = s.pending
      ∧ (s.unpark t).lockViews = s.lockViews := by
  unfold State.unpark
  extract_lets k' i'
  split
  next n _ =>
    extract_lets l
    rw [State.lockTable_setLock]
    exact ⟨h.shrink _ List.filter_sublist, hfree.shrink _ List.filter_sublist _, rfl, rfl⟩
  · exact ⟨h, hfree, rfl, rfl⟩
  · exact ⟨h, hfree, rfl, rfl⟩

/-- What RESET does after it has withdrawn the thread's requests and given up its locks (04 R130). -/
def State.resetEnd (s : State) (t : Nat) : State :=
  let s := (s.th t).descs.foldl (fun s d => s.freeBinding (t / 8) d.port d.stamp) s
  let s := s.clearFault t
  { s with merge := { s.merge with fills := s.merge.fills.map fun (r : FillReq) => if r.thread = t then { r with dead := true } else r },
           dy := { s.dy with hands := s.dy.hands.map fun (r : HandReq) => if r.thread = t then { r with dead := true } else r } }

/-- What RESET does before it gives up the locks. -/
def State.resetStart (s : State) (t : Nat) : State :=
  (((if (s.th t).st = .wait then s.leaveWait t else s).finishStore t).unpark t).endRsv t

def State.giveLocks (s : State) (t : Nat) : State := (s.th t).locks.foldl (fun s n => s.passLock (t / 128) n) s

/-- A thread as RESET leaves it (04 R130). -/
def Thread.afterReset (x : Thread) : Thread := { st := .idle, g := x.g, b := x.b, pc := x.pc, wmask := x.wmask, dmas := x.dmas, rcvLen := x.rcvLen }

theorem State.resetThread_eq (s : State) (t : Nat) :
    s.resetThread t = (((s.resetStart t).giveLocks t).resetEnd t).setTh t ((((s.resetStart t).giveLocks t).resetEnd t).th t).afterReset := by
  unfold State.resetThread
  extract_lets s1 s2 s3 s4 s5 m d s6 x
  have h3 : s3 = (s.resetStart t).giveLocks t := rfl
  have h6 : s6 = ((s.resetStart t).giveLocks t).resetEnd t := by
    unfold s6 m d s5 s4
    rw [← h3]
    rfl
  unfold x
  rw [← h6]
  rfl
theorem State.lockKept.resetEnd (s : State) (t : Nat) : s.lockKept (s.resetEnd t) := by
  unfold State.resetEnd
  extract_lets s1 s2
  have h1 : s.lockKept s1 := .foldl (fun s d => .freeBinding ..) _ _
  have h2 : s1.lockKept s2 := ⟨rfl, rfl, rfl, fun _ => rfl⟩
  exact (h1.trans h2).trans ⟨rfl, rfl, rfl, fun _ => rfl⟩

theorem State.resetStart_ok {s : State} {k i : Nat} (h : LocksOk s.lockTable s.lockViews) (hfree : NotQueued s.lockTable k i) (t : Nat) :
    LocksOk (s.resetStart t).lockTable (s.resetStart t).lockViews ∧ NotQueued (s.resetStart t).lockTable k i ∧ (s.resetStart t).pending = s.pending := by
  unfold State.resetStart
  have h0 : s.lockKept ((if (s.th t).st = .wait then s.leaveWait t else s).finishStore t) := by
    refine State.lockKept.trans ?_ (.finishStore ..)
    split
    · exact .leaveWait ..
    · exact .refl s
  generalize (if (s.th t).st = .wait then s.leaveWait t else s).finishStore t = s0 at h0
  obtain ⟨hok, hfree', hpend, hviews⟩ := State.unpark_ok (s := s0) (by rwa [h0.table, h0.views]) (by rwa [h0.table]) t
  have h2 := State.lockKept.endRsv (s0.unpark t) t
  rw [h2.table, h2.views, h2.pending, hpend, hviews]
  exact ⟨hok, hfree', h0.pending⟩

theorem State.giveLocks_ok {s : State} {k i : Nat} (hk : k < 64) (hi : i < 128) (h : LocksOk s.lockTable s.lockViews) (hfree : NotQueued s.lockTable k i) :
    let u := s.giveLocks (k * 128 + i)
    LocksOk u.lockTable (Function.update u.lockViews (k * 128 + i) { s.lockViews (k * 128 + i) with locks := [] }) ∧ NotQueued u.lockTable k i
      ∧ u.pending = s.pending := by
  have hgive : s.giveLocks (k * 128 + i) = (s.lockViews (k * 128 + i)).locks.foldl (fun s n => s.passLock k n) s := by
    rw [State.giveLocks, show (k * 128 + i) / 128 = k by omega]; rfl
  rw [hgive]
  obtain ⟨hok, hfree', hpend, -⟩ := State.passLocks_ok (y := s.lockViews (k * 128 + i)) hk hi (by rwa [Function.update_eq_self]) hfree
  exact ⟨hok, hfree', hpend⟩

/-- RESET of thread `i` of cluster `k`, in no Saucer (04 R130). -/
theorem State.locksSound.resetThread {s : State} {k i : Nat} (hs : s.locksSound) (hk : k < 64) (hi : i < 128) (hfree : NotQueued s.lockTable k i) :
    (s.resetThread (k * 128 + i)).locksSound := by
  obtain ⟨hpend, hok⟩ := (State.locksSound_iff s).mp hs
  obtain ⟨hok1, hfree1, hpend1⟩ := State.resetStart_ok hok hfree (k * 128 + i)
  obtain ⟨hok2, hfree2, hpend2⟩ := State.giveLocks_ok hk hi hok1 hfree1
  have h3 := State.lockKept.resetEnd ((s.resetStart (k * 128 + i)).giveLocks (k * 128 + i)) (k * 128 + i)
  rw [State.resetThread_eq, State.locksSound_iff, State.lockTable_setTh, State.lockViews_setTh, h3.table, h3.views, (State.setTh_fields ..).1, h3.pending, hpend2, hpend1]
  have hend := hok2.setView (k := k) (y := ⟨.idle, none, []⟩) hi (by rw [Function.update_self]) (.inr hfree2)
  rw [Function.update_idem] at hend
  exact ⟨hpend, hend⟩

theorem State.st_resetThread (s : State) (t : Nat) : ((s.resetThread t).th t).st = .idle := by
  rw [State.resetThread_eq, State.th_setTh_same]; rfl

/-! ### Faults -/

section
variable {s : State} {k i : Nat}

/-- Thread `i` of cluster `k`, in no Saucer, is written back with the locks that it held. -/
theorem State.locksSound.setTh (hs : s.locksSound) {y : Thread} (hi : i < 128) (hlocks : y.locks = (s.th (k * 128 + i)).locks)
    (hy : (y.st = (s.th (k * 128 + i)).st ∧ y.park = (s.th (k * 128 + i)).park) ∨ NotQueued s.lockTable k i) : (s.setTh (k * 128 + i) y).locksSound := by
  rw [State.locksSound_iff] at *
  rw [State.lockTable_setTh, State.lockViews_setTh]
  exact ⟨hs.1, hs.2.setView hi hlocks hy⟩

/-- A thread that does not wait for a lock stands in no Saucer. -/
theorem State.locksSound.notQueued (hs : s.locksSound) (hk : k < 64) (hw : (s.th (k * 128 + i)).st ≠ .wait ∨ ∀ n, (s.th (k * 128 + i)).park ≠ some (.lock n)) :
    NotQueued s.lockTable k i := ((State.locksSound_iff s).mp hs).2.notQueued hk hw

theorem State.locksSound.startThread (hs : s.locksSound) (hk : k < 64) (hi : i < 128) : (s.startThread (k * 128 + i)).locksSound := by
  unfold State.startThread
  extract_lets x
  split
  next hst =>
    refine hs.setTh hi rfl (.inr (hs.notQueued hk (.inl ?_)))
    obtain h | h := hst <;> rw [h] <;> decide
  · exact hs

/-- A supervisor's fault (04 R156). -/
theorem State.locksSound.supvFault (hs : s.locksSound) (hk : k < 64) (hi : i < 128) (hfree : NotQueued s.lockTable k i) : (s.supvFault (k * 128 + i)).locksSound := by
  unfold State.supvFault
  extract_lets k' rec_ before s1 d s2 s3
  have h1 : s.lockKept s1 := .logError ..
  have h2 : s.lockKept s2 := h1.trans ⟨rfl, rfl, rfl, fun _ => rfl⟩
  split
  · exact (h2.trans (.declareFatal ..)).locksSound hs
  · have h3 : s3.locksSound := ((h2.locksSound hs).resetThread hk hi (by rwa [h2.table])).startThread hk hi
    split
    · exact (State.lockKept.clearFirst ..).locksSound h3
    · exact h3

@[simp] theorem State.th_faultField (s : State) (f : Fld) (v : Option Nat) (t : Nat) : (s.faultField f v).th t = s.th t := by
  unfold State.faultField; split <;> rfl

/-- A thread that stands in no Saucer faults (04 R157). -/
theorem State.locksSound.fault (hs : s.locksSound) (hk : k < 64) (hi : i < 128) (hfree : NotQueued s.lockTable k i) (e : Flt) :
    (s.fault (k * 128 + i) e).locksSound := by
  unfold State.fault
  extract_lets g j x s1 s2 st s3
  have h2 : s.lockKept s2 := ((((State.lockKept.wr s _ _).trans (.wr _ _ _)).trans (.wr _ _ _)).trans (.faultField _ _ _)).trans (.faultField _ _ _)
  have hx : s2.th (k * 128 + i) = x := by simp only [s2, s1, State.th_faultField, State.th_wr, x]
  have hfree2 : NotQueued s2.lockTable k i := by rwa [h2.table]
  have h3 : s3.locksSound := (h2.locksSound hs).setTh hi (by rw [hx]) (.inr hfree2)
  split
  · exact h3.supvFault hk hi hfree2
  · exact (State.lockKept.raise ..).locksSound h3

theorem State.locksSound.faultAt (hs : s.locksSound) (hk : k < 64) (hi : i < 128) (hfree : NotQueued s.lockTable k i) (e : Flt) :
    (s.faultAt (k * 128 + i) e).locksSound := by
  unfold State.faultAt
  split
  · have h1 := State.lockKept.meetBad s e.ecc
    exact (State.lockKept.ackMem ..).locksSound ((h1.locksSound hs).fault hk hi (by rwa [h1.table]) e)
  · exact hs.fault hk hi hfree e

end

/-! ### Issue -/

/-- After an instruction a stepped thread halts, but not while it is parked on a lock (04 R162; 05 R191). -/
theorem Thread.lockView_afterStep (x : Thread) :
    x.afterStep.locks = x.locks ∧ ((x.afterStep.st = x.st ∧ x.afterStep.park = x.park) ∨ x.st ≠ .wait ∨ x.park = none) := by
  unfold Thread.afterStep
  extract_lets y
  split
  · exact ⟨rfl, .inl ⟨rfl, rfl⟩⟩
  · split
    next h => exact ⟨rfl, .inr (.inl (by rw [show x.st = .run from h]; decide))⟩
    · exact ⟨rfl, .inl ⟨rfl, rfl⟩⟩
    · split
      · exact ⟨rfl, .inl ⟨rfl, rfl⟩⟩
      next h => exact ⟨rfl, .inr (.inr (by simpa using h))⟩
    · exact ⟨rfl, .inl ⟨rfl, rfl⟩⟩

section
variable {s : State} {t : Nat}

/-- Thread `t`, in no Saucer, is written back with the locks that it held. -/
theorem State.locksSound.write (hs : s.locksSound) (hfree : NotQueued s.lockTable (t / 128) (t % 128)) {y : Thread} (hlocks : y.locks = (s.th t).locks) :
    (s.setTh t y).locksSound := by
  have ht : t / 128 * 128 + t % 128 = t := Nat.div_add_mod' t 128
  have h := hs.setTh (k := t / 128) (i := t % 128) (y := y) (by omega) (by rwa [ht]) (.inr hfree)
  rwa [ht] at h

/-- A thread that issues stands in no Saucer. -/
theorem State.locksSound.notQueued_of_canIssue (hs : s.locksSound) (ht : t < 8192) (h : s.canIssue t = true) : NotQueued s.lockTable (t / 128) (t % 128) := by
  refine hs.notQueued (by omega) (.inl ?_)
  simp only [State.canIssue, Bool.and_eq_true, beq_iff_eq] at h
  rw [Nat.div_add_mod', h.2]; decide

/-- The issue of an instruction that keeps the locks sound keeps them sound, whether it faults or not (05 R206). -/
theorem State.locksSound.issue (hs : s.locksSound) (ht : t < 8192) {f : State → Thread → Except Flt State}
    (hf : NotQueued s.lockTable (t / 128) (t % 128) → ∀ u, f s (s.th t) = .ok u → u.locksSound) : (s.issue t f).locksSound := by
  obtain ⟨k, i, hk, hi, htk⟩ : ∃ k i, k < 64 ∧ i < 128 ∧ k * 128 + i = t := ⟨t / 128, t % 128, by omega, by omega, by omega⟩
  unfold State.issue
  extract_lets x
  split
  · exact hs
  next hissue =>
    have hfree := hs.notQueued_of_canIssue ht (by simpa using hissue)
    have hfree' : NotQueued s.lockTable k i := by rwa [show k = t / 128 by omega, show i = t % 128 by omega]
    have hset : ∀ y : Thread, y.locks = x.locks → (s.setTh t y).locksSound := fun y hy => hs.write hfree hy
    have hfault : ∀ (y : Thread) (e : Flt), y.locks = x.locks → ((s.setTh t y).fault t e).locksSound := fun y e hy => by
      rw [← htk] at *
      exact (hset y hy).fault hk hi hfree' e
    have hfaultAt : ∀ e, (s.faultAt t e).locksSound := fun e => by
      rw [← htk]
      exact hs.faultAt hk hi hfree' e
    split
    · refine hfault _ _ ?_
      rfl
    · refine hfault _ _ ?_
      rfl
    · split
      · refine hset _ ?_
        rfl
      · split
        · exact hfaultAt _
        · split
          · exact hfaultAt _
          next u hu =>
            have hsu := hf hfree u hu
            obtain ⟨hlocks, hview⟩ := Thread.lockView_afterStep (u.th t)
            rw [← htk] at *
            exact hsu.setTh hi hlocks (hview.imp id fun h => hsu.notQueued hk (h.imp id fun hp n => by rw [hp]; nofun))

end

end Sys2Proof.Machine

namespace Sys2Proof.Machine
open Sys2Proof

/-! ### The plain instructions -/

@[simp] theorem Thread.locks_w (x : Thread) (n : Nat) (v : Word) : (x.w n v).locks = x.locks := by rw [Thread.w_only]

/-- The state that an outcome gives has sound locks. -/
def LocksSoundNext (o : Host.Outcome State Fault Refusal) : Prop := ∀ u, o = .next u → u.locksSound

theorem LocksSoundNext.next {u : State} (h : u.locksSound) : LocksSoundNext (.next u) := fun _ hu => by cases hu; exact h

/-- An instruction of thread `t` that is well formed changes what the locks need of that thread alone, and not the locks it holds. -/
def WritesThread (s : State) (t : Nat) (e : Except Flt State) : Prop :=
  ∀ u, e = .ok u → ∃ v y, s.lockKept v ∧ u = v.setTh t y ∧ y.locks = (s.th t).locks

section
variable {s : State} {t : Nat}

theorem WritesThread.error (e : Flt) : WritesThread s t (.error e) := fun _ h => by cases h

theorem WritesThread.kept {v : State} (hv : s.lockKept v) {y : Thread} (hy : y.locks = (s.th t).locks) : WritesThread s t (.ok (v.setTh t y)) :=
  fun _ hu => by cases hu; exact ⟨v, y, hv, rfl, hy⟩

theorem WritesThread.ok {y : Thread} (hy : y.locks = (s.th t).locks) : WritesThread s t (.ok (s.setTh t y)) := .kept (.refl s) hy

theorem WritesThread.done {y : Thread} (hy : y.locks = (s.th t).locks) : WritesThread s t (s.done t y) := .ok hy

theorem State.locksSound.write_kept {v : State} (hs : s.locksSound) (hv : s.lockKept v) (hfree : NotQueued s.lockTable (t / 128) (t % 128)) {y : Thread}
    (hy : y.locks = (s.th t).locks) : (v.setTh t y).locksSound :=
  (hv.locksSound hs).write (by rwa [hv.table]) (hy.trans (congrArg (fun T => (T t).locks) hv.views.symm))

end

section
variable {s : State} (hs : s.locksSound) (t : Fin 8192) (rd rs1 rs2 : Fin 32)
include hs

theorem locksSound_instr {f : State → Thread → Except Flt State}
    (hf : NotQueued s.lockTable (t / 128) (t % 128) → ∀ u, f s (s.th t) = .ok u → u.locksSound) : LocksSoundNext (s.instr t f) :=
  .next (hs.issue t.isLt hf)

theorem locksSound_instr_write {f : State → Thread → Except Flt State} (hf : WritesThread s t (f s (s.th t))) : LocksSoundNext (s.instr t f) :=
  locksSound_instr hs t fun hfree u hu => by
    obtain ⟨v, y, hv, rfl, hy⟩ := hf u hu
    exact hs.write_kept hv hfree hy

theorem locksSound_alu (rd : Nat) (f : Thread → Word) : LocksSoundNext (s.alu t rd f) := locksSound_instr_write hs t (.done (Thread.locks_w ..))

theorem locksSound_aluB (rd : Nat) (f : Thread → Word × Bool) : LocksSoundNext (s.aluB t rd f) := locksSound_instr_write hs t (.done (Thread.locks_w ..))

theorem locksSound_aluIf (rd : Nat) (bad : Bool) (f : Thread → Word) : LocksSoundNext (s.aluIf t rd bad f) := by
  refine locksSound_instr_write hs t ?_
  split
  · exact .error _
  · exact .done (Thread.locks_w ..)

theorem locksSound_br (cond : Fin 16) (off : Fin 4096) : LocksSoundNext (execBr t rs1 rs2 cond off s) := by
  refine locksSound_instr_write hs t ?_
  split
  · exact .error _
  · exact .ok rfl
  · exact .done rfl

theorem locksSound_jal (z : Fin 256) (off : Fin 8192) : LocksSoundNext (execJal t rd z off s) := by
  refine locksSound_instr_write hs t ?_
  split
  · exact .error _
  · exact .ok (Thread.locks_w ..)

theorem locksSound_jr (funct : Fin 2048) : LocksSoundNext (execJr t rd rs1 rs2 funct s) := by
  refine locksSound_instr_write hs t ?_
  split
  · exact .error _
  · exact .ok (Thread.locks_w ..)

omit hs in
theorem State.fxtbGo_kept (m : Memory) (d : Nat) (es : List Nat) (n : Nat) (s : State) (x : Thread) :
    s.lockKept (s.fxtbGo m d n es x).1 ∧ (s.fxtbGo m d n es x).2.locks = x.locks := by
  induction es generalizing n s x with
  | nil => exact ⟨.refl s, rfl⟩
  | cons e es ih =>
    unfold State.fxtbGo
    obtain ⟨v, b⟩ := fxtbField m d e
    dsimp only
    have hx : (if b = true then x.setB true else x).locks = x.locks := by split <;> rfl
    split
    · obtain ⟨hk, hl⟩ := ih (n + 1) s _
      exact ⟨hk, hl.trans ((Thread.locks_w ..).trans hx)⟩
    · obtain ⟨hk, hl⟩ := ih (n + 1) s.drew _
      have hdrew : s.lockKept s.drew := .of_dy rfl rfl
      exact ⟨hdrew.trans hk, hl.trans ((Thread.locks_w ..).trans hx)⟩

theorem locksSound_fxtb (funct : Fin 2048) : LocksSoundNext (execFxtb t rd rs1 rs2 funct s) := by
  refine locksSound_instr_write hs t ?_
  extract_lets a
  split
  · exact .error _
  split
  · exact .error _
  split
  next o _ =>
    split
    · exact .error _
    extract_lets es
    split
    · exact .error _
    split
    · exact .error _
    obtain ⟨hkept, hlocks⟩ := State.fxtbGo_kept _ ((s.th t).r rs1).toNat es 24 s ((s.th t).setB false)
    exact .kept hkept hlocks
  · exact .error _

theorem locksSound_wait (imm : Fin 65536) : LocksSoundNext (execWait t rd rs1 imm s) := by
  refine locksSound_instr_write hs t ?_
  extract_lets m
  split
  · exact .error _
  split
  · exact .done rfl
  · exact .ok rfl

theorem locksSound_eclr (imm : Fin 65536) : LocksSoundNext (execEclr t rd rs1 imm s) := by
  refine locksSound_instr_write hs t ?_
  split
  · exact .error _
  · exact .done rfl

theorem locksSound_sig (imm : Fin 65536) : LocksSoundNext (execSig t rd rs1 imm s) := by
  refine locksSound_instr hs t fun hfree u => ?_
  extract_lets target n
  split
  · nofun
  split
  · nofun
  split
  · rintro ⟨⟩
    exact (State.lockKept.raise ..).locksSound (hs.write hfree rfl)
  · rintro ⟨⟩
    exact hs.write_kept (.raise ..) hfree rfl

theorem locksSound_tset (imm : Fin 65536) : LocksSoundNext (execTset t rd rs1 imm s) := by
  refine locksSound_instr_write hs t ?_
  extract_lets v
  split
  · exact .error _
  · exact .done rfl

theorem locksSound_stamp (imm : Fin 65536) : LocksSoundNext (execStamp t rd rs1 imm s) := by
  refine locksSound_instr_write hs t ?_
  split
  · exact .error _
  · exact .done ((Thread.locks_w ..).trans (Thread.locks_w ..))

theorem locksSound_mfs (imm : Fin 65536) : LocksSoundNext (execMfs t rd rs1 imm s) := by
  refine locksSound_instr_write hs t ?_
  split
  · exact .error _
  split
  · exact .error _
  · exact .done (Thread.locks_w ..)

theorem locksSound_stop (z : Fin 67108864) : LocksSoundNext (execStop t z s) := by
  refine locksSound_instr_write hs t ?_
  split
  · exact .error _
  split
  · exact .error _
  · exact .done rfl

theorem locksSound_bkpt (z : Fin 67108864) : LocksSoundNext (execBkpt t z s) := by
  refine locksSound_instr_write hs t ?_
  split
  · exact .error _
  split
  · exact .done rfl
  · exact .done rfl

end

/-! ### The lock instructions -/

section
variable {s : State} (hs : s.locksSound) (t : Fin 8192)
include hs

theorem State.locksSound.lockErr (hfree : NotQueued s.lockTable (t / 128) (t % 128)) (c n : Nat) : (s.lockErr t c n).locksSound := by
  unfold State.lockErr
  extract_lets k pc s1 s2
  have h2 : s.lockKept s2 := (((State.lockKept.wr s _ _).trans (.wr _ _ _)).trans (.wr _ _ _)).trans ((State.lockKept.wr _ _ _).trans (.wr _ _ _))
  have h := (h2.locksSound hs).fault (k := t / 128) (i := t % 128) (by omega) (by omega) (by rwa [h2.table]) { cause := c, info := some n }
  rwa [Nat.div_add_mod'] at h

/-- A lock instruction that is well formed and breaks no rule of rank keeps the locks sound if its effect does (05 R190). -/
theorem State.locksSound.lockInstr (rt z n : Nat) {bad : Thread → Option Nat} {f : State → Thread → State}
    (hf : bad (s.th t) = none → NotQueued s.lockTable (t / 128) (t % 128) → (f s (s.th t)).locksSound) : (s.lockInstr t rt z n bad f).locksSound := by
  unfold State.lockInstr
  extract_lets x
  split
  next hbad =>
    refine hs.issue t.isLt fun hfree u => ?_
    split
    · nofun
    next hform =>
      rintro ⟨⟩
      exact hf (by simpa [hform] using hbad) hfree
  · split
    next hat =>
      simp only [State.atIssue, Bool.and_eq_true] at hat
      obtain ⟨⟨⟨⟨hissue, -⟩, -⟩, -⟩, -⟩ := hat
      exact hs.lockErr t (hs.notQueued_of_canIssue t.isLt hissue) _ _
    · exact hs.issue t.isLt fun _ _ => nofun

omit hs in
/-- What a thread may acquire ranks above all that it holds, and it holds fewer than 8 (04 R144). -/
theorem acquireBad_eq_none {x : Thread} {n : Nat} (h : acquireBad x n = none) : (∀ m ∈ x.locks, m < n) ∧ x.locks.length < 8 := by
  unfold acquireBad at h
  split at h
  · cases h
  next hrank =>
    split at h
    · cases h
    next hlen => exact ⟨by simpa using hrank, by omega⟩

omit hs in
theorem Thread.lockNo_lt (x : Thread) (rs1 imm : Nat) : x.lockNo rs1 imm < 512 := Nat.mod_lt _ (by decide)

/-- A free lock is taken (04 R144; 05 R190). -/
theorem State.locksSound.takeLock (hfree : NotQueued s.lockTable (t / 128) (t % 128)) {n : Nat} (hn : n < 512) (hbad : acquireBad (s.th t) n = none)
    (howner : (s.lockOf (t / 128) n).owner.isNone = true) : (s.takeLock t n (s.th t)).locksSound := by
  obtain ⟨hpend, hok⟩ := (State.locksSound_iff s).mp hs
  obtain ⟨hrank, hlen⟩ := acquireBad_eq_none hbad
  have ht : t / 128 * 128 + t % 128 = (t : Nat) := Nat.div_add_mod' ..
  unfold State.takeLock
  extract_lets l s1
  rw [State.locksSound_iff, State.lockTable_setTh, State.lockViews_setTh, State.lockTable_setLock, State.lockViews_setLock]
  refine ⟨hpend, ?_⟩
  have h := hok.grant (k := t / 128) (i := t % 128) (q := l.saucer) (by omega) (by omega) hn (Option.isNone_iff_eq_none.mp howner)
    (by rw [ht]; exact hrank) (by rw [ht]; exact hlen) (List.Sublist.refl _) (hfree.shrink _ (List.Sublist.refl _) _) (y := ⟨(s.th t).st, (s.th t).park, (s.th t).locks ++ [n]⟩) (by rw [ht]; rfl)
  rwa [ht] at h

theorem locksSound_lck (rt rs1 : Fin 32) (z : Fin 8) (imm : Fin 512) : LocksSoundNext (execLck t rt rs1 z imm s) := by
  unfold execLck
  extract_lets n
  have hn : n < 512 := Thread.lockNo_lt ..
  refine .next (hs.lockInstr t _ _ _ fun hbad hfree => ?_)
  extract_lets l s1
  split
  next howner => exact hs.takeLock t hfree hn hbad howner
  split
  · exact hs.write hfree rfl
  · obtain ⟨hpend, hok⟩ := (State.locksSound_iff s).mp hs
    obtain ⟨hrank, hlen⟩ := acquireBad_eq_none hbad
    have ht : t / 128 * 128 + t % 128 = (t : Nat) := Nat.div_add_mod' ..
    rw [State.locksSound_iff, State.lockTable_setTh, State.lockViews_setTh, State.lockTable_setLock, State.lockViews_setLock]
    refine ⟨hpend, ?_⟩
    have h := hok.join (k := t / 128) (i := t % 128) (by omega) (by omega) hn hfree (by rw [ht]; exact hrank) (by rw [ht]; exact hlen) rfl
    rwa [ht] at h

theorem locksSound_ltry (rt rs1 : Fin 32) (z : Fin 8) (imm : Fin 512) : LocksSoundNext (execLtry t rt rs1 z imm s) := by
  unfold execLtry
  extract_lets n
  refine .next (hs.lockInstr t _ _ _ fun hbad hfree => ?_)
  split
  next howner => exact hs.takeLock t hfree (Thread.lockNo_lt ..) hbad howner
  · exact hs.write hfree rfl

theorem locksSound_lrel (rt rs1 : Fin 32) (z : Fin 8) (imm : Fin 512) : LocksSoundNext (execLrel t rt rs1 z imm s) := by
  unfold execLrel
  extract_lets n
  have hn : n < 512 := Thread.lockNo_lt ..
  refine .next (hs.lockInstr t _ _ _ fun hbad hfree => ?_)
  have hmem : n ∈ (s.th t).locks := by simpa using hbad
  obtain ⟨hpend, hok⟩ := (State.locksSound_iff s).mp hs
  have ht : t / 128 * 128 + t % 128 = (t : Nat) := Nat.div_add_mod' ..
  generalize hs1 : s.setTh t { (s.th t).nextPc with locks := (s.th t).locks.filter (· != n) } = s1
  have hviews : s1.lockViews = Function.update s.lockViews t { s.lockViews t with locks := (s.th t).locks.filter (· != n) } := by
    rw [← hs1, State.lockViews_setTh]; rfl
  have htable : s1.lockTable = s.lockTable := by rw [← hs1, State.lockTable_setTh]
  obtain ⟨hok1, -, hpend1, hth⟩ := State.passLock_ok (s := s1) (k := t / 128) (i := t % 128) (y := s.lockViews t) (by omega) (by omega) hn hmem
    (by rw [ht, hviews, htable, Function.update_idem, Function.update_eq_self]; exact hok) (by rwa [htable])
  rw [ht] at hok1 hth
  have hsame : { s.lockViews t with locks := (s.lockViews t).locks.filter (· != n) } = (s1.passLock (t / 128) n).lockViews t := by
    have : (s1.passLock (t / 128) n).lockViews t = s1.lockViews t := congrArg Thread.lockView hth
    rw [this, hviews, Function.update_self]; rfl
  rw [hsame, Function.update_eq_self] at hok1
  exact (State.locksSound_iff _).mpr ⟨by rw [hpend1, ← hs1]; exact hpend, hok1⟩

/-! ### Waking -/

/-- A parked thread whose request has been granted, or is withdrawn, stands in no Saucer (04 R135; 05 R191). -/
theorem State.locksSound.unparked {p : Park} (hp : (s.th t).park = some p) :
    let u := if (s.parked t p).1 then s.unpark t else s
    u.locksSound ∧ NotQueued u.lockTable (t / 128) (t % 128) ∧ (u.th t).locks = (s.th t).locks := by
  obtain ⟨hpend, hok⟩ := (State.locksSound_iff s).mp hs
  have hid : t / 128 * 128 + t % 128 = (t : Nat) := Nat.div_add_mod' ..
  cases p with
  | chan c =>
    have hfree : NotQueued s.lockTable (t / 128) (t % 128) := hs.notQueued (by omega) (.inr fun n => by rw [hid, hp]; nofun)
    have hunpark : s.lockKept (s.unpark t) := by
      unfold State.unpark
      rw [hp]
      exact .setChan ..
    intro u
    have hu : s.lockKept u := by
      unfold u; split
      · exact hunpark
      · exact .refl s
    exact ⟨hu.locksSound hs, by rwa [hu.table], congrArg (fun T => (T t).locks) hu.views⟩
  | lock n =>
    -- it waits for this lock alone
    have honly : ∀ n', n' < 512 → (t : Nat) % 128 ∈ (s.lockTable (t / 128 * 512 + n')).saucer → n' = n := fun n' hn' hmem => by
      obtain ⟨-, -, hpark, -⟩ := (hok.queued (t / 128) n' (by omega) hn').2 _ hmem
      rw [hid] at hpark
      exact (Park.lock.inj (Option.some.inj (hp.symm.trans hpark))).symm
    have hunpark : s.unpark t = s.setLock (t / 128) n { s.lockOf (t / 128) n with saucer := (s.lockOf (t / 128) n).saucer.filter (· != (t : Nat) % 128) } := by
      unfold State.unpark; rw [hp]
    have hparked : (s.parked t (.lock n)).1 = true ↔ (t : Nat) % 128 ∈ (s.lockTable (t / 128 * 512 + n)).saucer := by
      simp [State.parked, State.lockOf, State.lockTable]
    intro u
    by_cases hin : (t : Nat) % 128 ∈ (s.lockTable (t / 128 * 512 + n)).saucer
    · have hu : u = s.unpark t := if_pos (hparked.mpr hin)
      rw [hu, hunpark, State.locksSound_iff, State.lockTable_setLock, State.lockViews_setLock]
      refine ⟨⟨hpend, hok.shrink _ List.filter_sublist⟩, fun n' hn' hmem => ?_, rfl⟩
      rw [Function.update_apply] at hmem
      split at hmem
      · simpa using List.of_mem_filter hmem
      next hne => exact hne (by rw [honly n' hn' hmem])
    · have hu : u = s := if_neg (mt hparked.mp hin)
      rw [hu]
      exact ⟨hs, fun n' hn' hmem => hin (honly n' hn' hmem ▸ hmem), rfl⟩

theorem locksSound_threadWake : LocksSoundNext (execThreadWake t s) := by
  unfold execThreadWake
  extract_lets x due
  split
  · exact .next hs
  split
  next p hp =>
    obtain ⟨hsu, hfree, hlocks⟩ := hs.unparked t hp
    generalize s.parked t p = parked at *
    obtain ⟨inSaucer, bit⟩ := parked
    dsimp only at *
    split
    · exact .next hs
    · refine .next (hsu.write_kept (.leaveWait ..) hfree ?_)
      exact hlocks.symm
  next hp =>
    split
    · refine .next (hs.write_kept (.leaveWait ..) (hs.notQueued (by omega) (.inr fun n => ?_)) rfl)
      rw [Nat.div_add_mod', show (s.th t).park = none from hp]
      nofun
    · exact .next hs

end

end Sys2Proof.Machine

namespace Sys2Proof.Machine
open Sys2Proof

/-! ### Mutual exclusion along the steps of a Dyaris program -/

/-- A plain command keeps the locks sound. -/
theorem locksSound_exec {s : State} (hs : s.locksSound) (c : Instr) (hc : plainInstr c = true) : LocksSoundNext (exec c s) := by
  cases c with
  | add t | sub t | and t | or t | xor t | shl t | shr t | sar t | mul t | mulhu t | min t | max t => exact locksSound_alu hs t _ _
  | addi t | andi t | ori t | xori t => exact locksSound_alu hs t _ _
  | addsu t | subsu t => exact locksSound_aluB hs t _ _
  | bswap t | popc t | shli t | shri t | sari t | movz t | movk t => exact locksSound_aluIf hs t _ _ _
  | fxt t | fxts t | fins t | rchk t => exact locksSound_aluIf hs t _ _ _
  | br t => exact locksSound_br hs t _ _ _ _
  | jal t => exact locksSound_jal hs t _ _ _
  | jr t => exact locksSound_jr hs t _ _ _ _
  | fxtb t => exact locksSound_fxtb hs t _ _ _ _
  | lck t => exact locksSound_lck hs t _ _ _ _
  | ltry t => exact locksSound_ltry hs t _ _ _ _
  | lrel t => exact locksSound_lrel hs t _ _ _ _
  | wait t => exact locksSound_wait hs t _ _ _
  | eclr t => exact locksSound_eclr hs t _ _ _
  | sig t => exact locksSound_sig hs t _ _ _
  | tset t => exact locksSound_tset hs t _ _ _
  | stamp t => exact locksSound_stamp hs t _ _ _
  | mfs t => exact locksSound_mfs hs t _ _ _
  | stop t => exact locksSound_stop hs t _
  | bkpt t => exact locksSound_bkpt hs t _
  | threadWake t => exact locksSound_threadWake hs t
  | _ => cases hc

/-- Settles O29: every plain instruction, fault and wake keeps the locks sound, and a step takes one of them. -/
theorem locksStayExclusive : Obligations.LocksStayExclusive := by
  unfold Obligations.LocksStayExclusive
  intro s u hs hstep
  unfold step at hstep
  split at hstep
  · cases hstep
    exact hs
  next c cs hpending =>
    obtain ⟨hplain, hlocks⟩ := hs
    rw [hpending, List.all_cons, Bool.and_eq_true] at hplain
    exact locksSound_exec (s := { s with pending := cs }) ⟨hplain.2, hlocks⟩ c hplain.1 u hstep

/-- Settles O30: after reset every thread has the default state and no lock is held or asked for. -/
theorem threadInvariantsAtReset : Obligations.ThreadInvariantsAtReset := by
  unfold Obligations.ThreadInvariantsAtReset
  have hth : ∀ t, State.reset.th t = {} := fun _ => rfl
  have hlock : ∀ k n, State.reset.lockOf k n = {} := fun _ _ => rfl
  refine ⟨⟨rfl, fun t => by rw [hth]; rfl⟩, rfl, ?_⟩
  simp [hth, hlock]

end Sys2Proof.Machine

namespace Sys2Proof.Machine
open Sys2Proof

/-! ### Single bits -/

theorem bitAt_setBits_same (v i b : Nat) : bitAt (setBits v i 1 b) i = (b % 2 == 1) := by
  have hpos : 0 < 2 ^ i := Nat.two_pow_pos i
  have hsplit : setBits v i 1 b = v % 2 ^ i + 2 ^ i * (b % 2 + v / 2 ^ (i + 1) * 2) := by
    simp only [setBits, Nat.pow_succ, Nat.pow_zero, Nat.one_mul]
    ring
  rw [bitAt, hsplit, Nat.add_mul_div_left _ _ hpos, Nat.div_eq_of_lt (Nat.mod_lt _ hpos)]
  congr 1
  omega

@[simp] theorem bitAt_setBits_one (v i : Nat) : bitAt (setBits v i 1 1) i = true := bitAt_setBits_same v i 1
@[simp] theorem bitAt_setBits_zero (v i : Nat) : bitAt (setBits v i 1 0) i = false := bitAt_setBits_same v i 0

/-! ### The end of an instruction -/

/-- The end of an instruction changes what stepping changes alone. -/
theorem Thread.afterStep_only (x : Thread) : x.afterStep = { x with st := x.afterStep.st, stepping := x.afterStep.stepping, passBrk := x.afterStep.passBrk,
                                                                    haltReq := x.afterStep.haltReq, haltedInWait := x.afterStep.haltedInWait } := by
  unfold Thread.afterStep
  extract_lets y
  split
  · rfl
  · split
    · rfl
    · rfl
    · split <;> rfl
    · rfl

@[simp] theorem Thread.afterStep_fields (x : Thread) : x.afterStep.b = x.b ∧ x.afterStep.pc = x.pc ∧ x.afterStep.g = x.g ∧ x.afterStep.wmask = x.wmask
    ∧ x.afterStep.pend = x.pend ∧ x.afterStep.timer = x.timer ∧ x.afterStep.locks = x.locks ∧ x.afterStep.rsv = x.rsv ∧ x.afterStep.stage = x.stage := by
  rw [x.afterStep_only]; exact ⟨rfl, rfl, rfl, rfl, rfl, rfl, rfl, rfl, rfl⟩

theorem Thread.st_afterStep (x : Thread) (h : x.stepping = false) : x.afterStep.st = x.st := by
  simp [Thread.afterStep, h]

/-- Only an access puts the thread in MEMWAIT. -/
theorem Thread.afterStep_memwait (x : Thread) : x.afterStep.st = .memwait ↔ x.st = .memwait := by
  unfold Thread.afterStep
  extract_lets y
  split
  · rfl
  · split
    next h => rw [show x.st = .run from h]; simp
    next h => rfl
    next h => rw [show x.st = .wait from h]; split <;> simp
    · rfl

theorem Thread.r_congr {x y : Thread} (h : y.g = x.g) (n : Nat) : y.r n = x.r n := by
  unfold Thread.r; rw [h]

section
variable {s : State} {t : Nat}

/-- An instruction that goes on at the next PC, and changes neither registers nor B. -/
theorem State.instr_only (h : s.ready t) {f : State → Thread → Except Flt State} {y : Thread} (hf : f s (s.th t) = .ok (s.setTh t y.nextPc)) (hst : y.st ≠ .idle)
    (hb : y.b = (s.th t).b) (hpc : y.pc = (s.th t).pc) (hg : y.g = (s.th t).g) :
    ∃ u, s.instr t f = .next u ∧ (u = s.setTh t (u.th t) ∧ (u.th t).b = (s.th t).b ∧ (u.th t).pc = ((s.th t).pc + 1) % 8192 ∧ ∀ r, (u.th t).r r = (s.th t).r r)
      ∧ u.th t = y.nextPc.afterStep := by
  have hne : y.nextPc ≠ {} := fun he => hst (congrArg Thread.st he)
  refine ⟨s.setTh t y.nextPc.afterStep, ?_, ⟨?_, ?_, ?_, fun r => ?_⟩, State.th_setTh_same ..⟩
  · simp only [State.instr, State.issue_ready h, hf, State.th_setTh_same, State.setTh_setTh _ _ _ _ hne]
  · rw [State.th_setTh_same]
  · rw [State.th_setTh_same, (Thread.afterStep_fields _).1, Thread.nextPc, hb]
  · simp [Thread.nextPc, hpc]
  · rw [State.th_setTh_same, Thread.r_afterStep, Thread.r_nextPc, Thread.r_congr hg]

end

theorem State.th_setTh (s : State) (t : Nat) (x : Thread) (j : Nat) : (s.setTh t x).th j = if j = t then x else s.th j := by
  split
  next hj => rw [hj, State.th_setTh_same]
  next hj => exact State.th_setTh_other _ _ hj

theorem State.th_raise (s : State) (t bit j : Nat) : (s.raise t bit).th j = { s.th j with pend := if j = t then setBits (s.th j).pend bit 1 1 else (s.th j).pend } := by
  unfold State.raise
  rw [State.th_setTh]
  split
  next hj => rw [hj]
  · rfl

/-- The end of an instruction of thread `t` (04 R162). -/
def State.endInstr (s : State) (t : Nat) : State := s.setTh t (s.th t).afterStep

theorem State.th_endInstr (s : State) (t j : Nat) : (s.endInstr t).th j = if j = t then (s.th j).afterStep else s.th j := by
  unfold State.endInstr
  rw [State.th_setTh]
  split
  next hj => rw [hj]
  · rfl

/-- From `s` to `u` threads changed alone. -/
def State.onlyThreads (s u : State) : Prop := u = { s with dy := { s.dy with threads := u.dy.threads } }

section
variable {s u v : State}

theorem State.onlyThreads.refl (s : State) : s.onlyThreads s := rfl

theorem State.onlyThreads.trans (h : s.onlyThreads u) (h' : u.onlyThreads v) : s.onlyThreads v := by
  unfold State.onlyThreads at *
  rw [h] at h'
  exact h'

theorem State.onlyThreads.setTh (h : s.onlyThreads u) (t : Nat) (x : Thread) : s.onlyThreads (u.setTh t x) := h.trans rfl
theorem State.onlyThreads.raise (h : s.onlyThreads u) (t bit : Nat) : s.onlyThreads (u.raise t bit) := h.setTh ..
theorem State.onlyThreads.endInstr (h : s.onlyThreads u) (t : Nat) : s.onlyThreads (u.endInstr t) := h.setTh ..

end

/-! ### Events -/

section
variable {s : State} {t : Fin 8192} (h : s.ready t) (rs1 : Fin 32) (imm : Fin 65536)
include h

/-- A thread that issues is not IDLE. -/
theorem State.ready_ne_idle : (s.th t).st ≠ .idle := by rw [State.ready_run h]; decide

theorem wait_effect : ∃ u, exec (.wait t 0 rs1 imm) s = .next u
    ∧ (u = s.setTh t (u.th t) ∧ (u.th t).b = (s.th t).b ∧ (u.th t).pc = ((s.th t).pc + 1) % 8192 ∧ ∀ r, (u.th t).r r = (s.th t).r r)
    ∧ (u.th t).wmask = evMask (s.th t) rs1 imm ||| 2 ^ 7 ∧ (u.th t).pend = (s.th t).pend
    ∧ ((s.th t).stepping = false → (u.th t).st = if (s.th t).pend &&& (evMask (s.th t) rs1 imm ||| 2 ^ 7) = 0 then .wait else .run) := by
  let y : Thread := { s.th t with
    wmask := evMask (s.th t) rs1 imm ||| 2 ^ 7
    st := if (s.th t).pend &&& (evMask (s.th t) rs1 imm ||| 2 ^ 7) = 0 then .wait else .run }
  have hy : y.st ≠ .idle := by unfold y; dsimp only; split <;> decide
  obtain ⟨u, hu, honly, hth⟩ : ∃ u, exec (.wait t 0 rs1 imm) s = .next u ∧ _ ∧ u.th t = y.nextPc.afterStep := by
    refine State.instr_only h ?_ hy rfl rfl rfl
    by_cases hmeet : (s.th t).pend &&& (evMask (s.th t) rs1 imm ||| 2 ^ 7) = 0
    · simp only [y, evCtrl, hmeet, ne_eq, not_true_eq_false, if_true, if_false]
      rfl
    · simp only [y, evCtrl, hmeet, ne_eq, not_true_eq_false, not_false_eq_true, if_true, if_false, State.done]
      rw [← State.ready_run h]
  refine ⟨u, hu, honly, ?_, ?_, fun hstep => ?_⟩
  · simp [hth, y, Thread.nextPc]
  · simp [hth, y, Thread.nextPc]
  · rw [hth, Thread.st_afterStep y.nextPc hstep]; rfl

theorem eclr_effect : ∃ u, exec (.eclr t 0 rs1 imm) s = .next u
    ∧ (u = s.setTh t (u.th t) ∧ (u.th t).b = (s.th t).b ∧ (u.th t).pc = ((s.th t).pc + 1) % 8192 ∧ ∀ r, (u.th t).r r = (s.th t).r r)
    ∧ (u.th t).wmask = (s.th t).wmask ∧ (u.th t).pend = (s.th t).pend - ((s.th t).pend &&& evMask (s.th t) rs1 imm) := by
  let y : Thread := { s.th t with pend := (s.th t).pend - ((s.th t).pend &&& evMask (s.th t) rs1 imm) }
  obtain ⟨u, hu, honly, hth⟩ : ∃ u, exec (.eclr t 0 rs1 imm) s = .next u ∧ _ ∧ u.th t = y.nextPc.afterStep :=
    State.instr_only h (by simp [y, State.done]) (State.ready_ne_idle h) rfl rfl rfl
  exact ⟨u, hu, honly, by simp [hth, y, Thread.nextPc], by simp [hth, y, Thread.nextPc]⟩

theorem tset_effect (v : Nat) (hv : v = min (((s.th t).r rs1).toNat % 2 ^ 32 + imm.val) (2 ^ 32 - 1)) : ∃ u, exec (.tset t 0 rs1 imm) s = .next u
    ∧ (u = s.setTh t (u.th t) ∧ (u.th t).b = (s.th t).b ∧ (u.th t).pc = ((s.th t).pc + 1) % 8192 ∧ ∀ r, (u.th t).r r = (s.th t).r r)
    ∧ s.timerLeft t (u.th t) = v ∧ ((u.th t).timer = 0 ↔ v = 0) := by
  let y : Thread := { s.th t with timer := if v = 0 then 0 else s.round (t / 8) + v }
  obtain ⟨u, hu, honly, hth⟩ : ∃ u, exec (.tset t 0 rs1 imm) s = .next u ∧ _ ∧ u.th t = y.nextPc.afterStep :=
    State.instr_only h (by simp [y, hv, State.done]) (State.ready_ne_idle h) rfl rfl rfl
  have htimer : (u.th t).timer = if v = 0 then 0 else s.round (t / 8) + v := by simp [hth, y, Thread.nextPc]
  refine ⟨u, hu, honly, ?_, ?_⟩
  · unfold State.timerLeft
    rw [htimer]
    split <;> split <;> omega
  · rw [htimer]
    split <;> omega

/-- SIG (05 R196): the target takes its event, in the thread's own cluster at once, in another after the answer. -/
theorem sig_effect (n : Fin 16) (tgt : Nat) (htgt : tgt = ((s.th t).r rs1).toNat % 8192) (hok : s.sigOk t tgt n = true) :
    ∃ u, exec (.sig t 0 rs1 ⟨n, Nat.lt_trans n.isLt (by decide)⟩) s = .next u ∧ bitAt (u.th tgt).pend (16 + n.val) = true ∧ (u.th t).pc = ((s.th t).pc + 1) % 8192
      ∧ (u.th t).b = (s.th t).b ∧ (∀ r, (u.th t).r r = (s.th t).r r) ∧ (∀ j, j ≠ t.val → j ≠ tgt → u.th j = s.th j)
      ∧ ((u.th t).st = .memwait ↔ tgt / 128 ≠ t.val / 128) ∧ u = { s with dy := { s.dy with threads := u.dy.threads } } := by
  have hn : ¬ 16 ≤ n.val := by omega
  have hexec : ∀ v, (if tgt / 128 = t.val / 128 then Except.ok ((s.setTh t (s.th t).nextPc).raise tgt (16 + n))
      else (s.raise tgt (16 + n)).memwait t (s.th t) (.done [] none)) = .ok v →
      exec (.sig t 0 rs1 ⟨n, Nat.lt_trans n.isLt (by decide)⟩) s = .next (v.endInstr t) := by
    intro v hv
    refine congrArg Host.Outcome.next ((State.issue_ready h _).trans ?_)
    rw [htgt] at hok hv
    simp only [hok, hn, hv, ne_eq, not_true_eq_false, or_self, Bool.not_true, Bool.false_eq_true, if_false]
    rfl
  by_cases hown : tgt / 128 = t.val / 128
  · have hlocal := hexec _ (if_pos hown)
    refine ⟨_, hlocal, ?_, ?_, ?_, fun r => ?_, fun j hj hjt => ?_, ?_, (((State.onlyThreads.refl s).setTh ..).raise ..).endInstr _⟩
    · simp only [State.th_endInstr, State.th_raise, if_true]
      split <;> simp
    · simp [State.th_endInstr, State.th_raise, Thread.nextPc]
    · simp [State.th_endInstr, State.th_raise, Thread.nextPc]
    · rw [State.th_endInstr, if_pos rfl, Thread.r_afterStep, State.th_raise, State.th_setTh_same]; rfl
    · rw [State.th_endInstr, if_neg hj, State.th_raise, if_neg hjt, State.th_setTh_other _ _ hj]
    · rw [State.th_endInstr, if_pos rfl, Thread.afterStep_memwait, State.th_raise, State.th_setTh_same]
      simp [Thread.nextPc, State.ready_run h, hown]
  · have hne : tgt ≠ t.val := fun he => hown (by rw [he])
    have hremote := hexec _ (if_neg hown)
    refine ⟨_, hremote, ?_, ?_, ?_, fun r => ?_, fun j hj hjt => ?_, ?_, (((State.onlyThreads.refl s).raise ..).setTh ..).endInstr _⟩
    · rw [State.th_endInstr, if_neg hne, State.th_setTh_other _ _ hne, State.th_raise, if_pos rfl, bitAt_setBits_one]
    · simp [State.th_endInstr, Thread.nextPc]
    · simp [State.th_endInstr, Thread.nextPc]
    · rw [State.th_endInstr, if_pos rfl, Thread.r_afterStep, State.th_setTh_same]; rfl
    · rw [State.th_endInstr, if_neg hj, State.th_setTh_other _ _ hj, State.th_raise, if_neg hjt]
    · rw [State.th_endInstr, if_pos rfl, Thread.afterStep_memwait, State.th_setTh_same]
      simp [hown]

end

/-- The thread timer reaches zero (05 R197). -/
theorem threadTimerExpire_effect (s : State) (t : Fin 8192) (htimer : (s.th t).timer ≠ 0) (hleft : s.timerLeft t (s.th t) = 0) :
    ∃ u, exec (.threadTimerExpire t) s = .next u ∧ (u.th t).timer = 0 ∧ bitAt (u.th t).pend 0 = true ∧ (u.th t).st = (s.th t).st
      ∧ (∀ r, (u.th t).r r = (s.th t).r r) ∧ u = { s with dy := { s.dy with threads := u.dy.threads } } ∧ ∀ j, j ≠ t.val → u.th j = s.th j := by
  have hexec : exec (.threadTimerExpire t) s = .next ((s.setTh t { s.th t with timer := 0 }).raise t evTimer) := if_pos ⟨htimer, hleft⟩
  have hth : ((s.setTh t { s.th t with timer := 0 }).raise t evTimer).th t = { s.th t with timer := 0, pend := setBits (s.th t).pend evTimer 1 1 } := by
    rw [State.th_raise, State.th_setTh_same, if_pos rfl]
  refine ⟨_, hexec, ?_, ?_, ?_, fun r => ?_, rfl, fun j hj => ?_⟩
  · rw [hth]
  · rw [hth]; exact bitAt_setBits_one ..
  · rw [hth]
  · rw [hth]; rfl
  · rw [State.th_raise, State.th_setTh_other _ _ hj, if_neg hj]

/-! ### Waking -/

section
variable {s : State} {t : Fin 8192} (hrun : s.run = true) (hwait : (s.th t).st = .wait)
include hrun hwait

/-- A thread whose wait an event meets runs again (04 R135). -/
theorem threadWake_event (hpark : (s.th t).park = none) (hmeet : (s.th t).pend &&& (s.th t).wmask ≠ 0) : ∃ u, exec (.threadWake t) s = .next u
    ∧ (u.th t).st = (if (s.th t).haltReq then .halt else .run) ∧ (u.th t).pend = (s.th t).pend ∧ (u.th t).pc = (s.th t).pc
    ∧ (∀ r, (u.th t).r r = (s.th t).r r) ∧ (u.th t).b = (s.th t).b := by
  have hexec : exec (.threadWake t) s = .next ((s.leaveWait t).setTh t (s.th t).resume) := by
    show execThreadWake t s = _
    simp only [execThreadWake, hwait, hrun, hpark, hmeet, ne_eq, not_true_eq_false, not_false_eq_true, Bool.not_true, Bool.false_eq_true, or_self, true_or, if_true, if_false]
  exact ⟨_, hexec, by rw [State.th_setTh_same]; exact ⟨rfl, rfl, rfl, fun _ => rfl, rfl⟩⟩

/-- A thread parked on a lock that has been granted runs again with B clear, and its LOCK bit consumed (05 R191). -/
theorem threadWake_granted {n : Nat} (hpark : (s.th t).park = some (.lock n)) (hgrant : (s.lockOf (t.val / 128) n).saucer.contains (t.val % 128) = false) :
    ∃ u, exec (.threadWake t) s = .next u ∧ (u.th t).st = (if (s.th t).haltReq then .halt else .run) ∧ (u.th t).park = none ∧ (u.th t).b = false
      ∧ bitAt (u.th t).pend 5 = false ∧ (u.th t).pc = (s.th t).pc := by
  have hexec : exec (.threadWake t) s
      = .next ((s.leaveWait t).setTh t { ((s.th t).resume).setB false with park := none, pend := setBits (s.th t).pend evLock 1 0 }) := by
    show execThreadWake t s = _
    simp only [execThreadWake, State.parked, hwait, hrun, hpark, hgrant, ne_eq, not_true_eq_false, Bool.not_true, Bool.false_eq_true, or_self, Bool.false_and,
      if_false]
  refine ⟨_, hexec, ?_⟩
  rw [State.th_setTh_same]
  exact ⟨rfl, rfl, rfl, bitAt_setBits_zero .., rfl⟩

end

/-- Settles O21: one lemma for each command. -/
theorem eventsAndWaiting : Obligations.EventsAndWaiting := by
  unfold Obligations.EventsAndWaiting
  intro s t rs1 imm x k ev only
  refine ⟨fun h => wait_effect h rs1 imm, fun h => eclr_effect h rs1 imm, fun n h hgroup hcluster hfatal => ?_, fun h => tset_effect h rs1 imm _ rfl,
    threadTimerExpire_effect s t, fun hrun hwait _ _ => ⟨threadWake_event hrun hwait, fun n => threadWake_granted hrun hwait⟩⟩
  refine sig_effect h rs1 n _ rfl ?_
  simpa [State.sigOk, hcluster, hfatal, and_assoc] using hgroup

end Sys2Proof.Machine

namespace Sys2Proof.Machine
open Sys2Proof

/-! ### RESET of a thread -/

theorem Thread.afterStep_idle (x : Thread) (h : x.st = .idle) : x.afterStep.st = .idle := by
  simp only [Thread.afterStep, h]
  split <;> simp

theorem Thread.g_afterReset (x : Thread) : x.afterReset.g = x.g := rfl

/-- RESET keeps every thread's registers (04 R130). -/
theorem State.regs_resetThread (s : State) (t j : Nat) : ((s.resetThread t).th j).g = (s.th j).g := by
  have hstart : ((s.resetStart t).th j).g = (s.th j).g := by
    unfold State.resetStart
    have h0 : s.lockKept ((if (s.th t).st = .wait then s.leaveWait t else s).finishStore t) := by
      refine State.lockKept.trans ?_ (.finishStore ..)
      split
      · exact .leaveWait ..
      · exact .refl s
    rw [(State.lockKept.endRsv ..).regs, ← h0.regs]
    unfold State.unpark
    split <;> rfl
  have hgive : (((s.resetStart t).giveLocks t).th j).g = ((s.resetStart t).th j).g := by
    unfold State.giveLocks
    generalize s.resetStart t = u
    generalize (u.th t).locks = l
    induction l generalizing u with
    | nil => rfl
    | cons n l ih => exact (ih _).trans (State.regs_passLock ..)
  rw [State.resetThread_eq]
  refine (State.regs_setTh _ ?_ j).trans ?_
  · exact Thread.g_afterReset _
  · rw [(State.lockKept.resetEnd ..).regs, hgive, hstart]

/-- RESET clears the fault record (04 R130). -/
theorem State.valid_resetThread (s : State) (t : Nat) : (s.resetThread t).rd (DYE_TFLT.VALID (t / 8) (t % 8)) = 0 := by
  rw [State.resetThread_eq, State.rd_setTh]
  unfold State.resetEnd
  extract_lets u v
  have hv : v.rd (DYE_TFLT.VALID (t / 8) (t % 8)) = 0 := by
    simp (disch := (dsimp only; omega)) only [v, State.clearFault, State.rd_wr_other, State.rd_wr_same, Nat.zero_mod]
  clear_value v
  exact hv

/-- The thread that RESET leaves (04 R130). -/
theorem State.th_resetThread (s : State) (t : Nat) : ∃ y : Thread, y.g = (s.th t).g ∧ (s.resetThread t).th t = y.afterReset := by
  have hregs := State.regs_resetThread s t t
  rw [State.resetThread_eq] at hregs ⊢
  generalize ((s.resetStart t).giveLocks t).resetEnd t = u at *
  rw [State.th_setTh_same] at *
  exact ⟨u.th t, hregs, rfl⟩

/-! ### Who may write a thread control -/

section
variable {s : State} {t : Fin 8192} (hcluster : s.hasCluster (t.val / 128) = true)
include hcluster

/-- Roaster and JTAG write a thread control of a present cluster (04 R128). -/
theorem State.guarded_owner {who : Requester} (hwho : who = .roaster ∨ who = .jtag) (a : Nat) (f : State → State) : s.guarded t a who f = f s := by
  obtain rfl | rfl := hwho <;> simp [State.guarded, hcluster]

/-- The supervisor writes a thread control of its cluster by a store that it issues (04 R128). -/
theorem State.guarded_supv {w : Fin 8192} (hown : w.val / 128 = t.val / 128) (hready : s.ready w) (hsupv : w.val = s.supv (t.val / 128)) (a : Nat) (f : State → State) :
    s.guarded t a (.thread w) f = (f (s.setTh w (s.th w).nextPc)).endInstr w := by
  simp only [State.guarded, hcluster, hown, State.issue_ready hready, hsupv.symm, if_true, ne_eq, not_true_eq_false, if_false, Bool.not_true, Bool.false_eq_true]
  rfl

end

/-! ### Thread control -/

/-- The thread as START leaves it (04 R128). -/
def State.started (s : State) (t : Nat) : Thread :=
  { s.th t with st := .run, pc := s.rd (DYE_TCTL.ENTRY_PC (t / 8) (t % 8)) % 8192, passBrk := false }

theorem State.startThread_eq {s : State} {t : Nat} (h : (s.th t).st = .idle ∨ (s.th t).st = .fault) : s.startThread t = s.setTh t (s.started t) := if_pos h

section
variable {s : State} {t : Fin 8192}

theorem dyeStart_owner (hcluster : s.hasCluster (t.val / 128) = true) (hst : (s.th t).st = .idle ∨ (s.th t).st = .fault) {who : Requester}
    (hwho : who = .roaster ∨ who = .jtag) : exec (.dyeStart t who) s = .next (s.setTh t (s.started t)) := by
  show Host.Outcome.next _ = _
  rw [State.guarded_owner hcluster hwho, State.startThread_eq hst]

theorem dyeStart_supv (hcluster : s.hasCluster (t.val / 128) = true) (hst : (s.th t).st = .idle ∨ (s.th t).st = .fault) {w : Fin 8192}
    (hown : w.val / 128 = t.val / 128) (hready : s.ready w) (hsupv : w.val = s.supv (t.val / 128)) :
    ∃ u, exec (.dyeStart t (.thread w)) s = .next u ∧ u.th t = s.started t ∧ (u.th w).pc = ((s.th w).pc + 1) % 8192
      ∧ (u.th w).st = (s.th w).after ∧ (u.th w).g = (s.th w).g ∧ u = { s with dy := { s.dy with threads := u.dy.threads } }
      ∧ ∀ j, j ≠ t.val → j ≠ w.val → u.th j = s.th j := by
  have hrun := State.ready_run hready
  have hne : t.val ≠ w.val := fun he => by rw [he, hrun] at hst; simp at hst
  have hth : (s.setTh w (s.th w).nextPc).th t = s.th t := State.th_setTh_other _ _ hne
  have hexec : exec (.dyeStart t (.thread w)) s = .next (((s.setTh w (s.th w).nextPc).setTh t (s.started t)).endInstr w) := by
    show Host.Outcome.next _ = _
    rw [State.guarded_supv hcluster hown hready hsupv, State.startThread_eq (by rwa [hth])]
    unfold State.started
    rw [hth, State.rd_setTh]
  have hw : (((s.setTh w (s.th w).nextPc).setTh t (s.started t)).endInstr w).th w = (s.th w).nextPc.afterStep := by
    rw [State.th_endInstr, if_pos rfl, State.th_setTh_other _ _ hne.symm, State.th_setTh_same]
  obtain ⟨hst', hg, -, hpc, -⟩ := Thread.afterStep_run (s.th w).nextPc hrun
  refine ⟨_, hexec, ?_, ?_, ?_, ?_, (((State.onlyThreads.refl s).setTh ..).setTh ..).endInstr _, fun j hjt hjw => ?_⟩
  · rw [State.th_endInstr, if_neg hne, State.th_setTh_same]
  · rw [hw, hpc]; rfl
  · rw [hw, hst']; rfl
  · rw [hw, hg]; rfl
  · rw [State.th_endInstr, if_neg hjw, State.th_setTh_other _ _ hjt, State.th_setTh_other _ _ hjw]

/-- A thread's state, locks, reservation and events as RESET leaves them, and its fault record; its registers keep their values (04 R130). -/
def State.resetDone (s u : State) (t : Nat) : Prop :=
  (u.th t).st = .idle ∧ (u.th t).locks = [] ∧ (u.th t).rsv = none ∧ (u.th t).stage = [] ∧ (u.th t).pend = 0 ∧ (u.th t).timer = 0
    ∧ u.rd (DYE_TFLT.VALID (t / 8) (t % 8)) = 0 ∧ ∀ r, (u.th t).r r = (s.th t).r r

theorem State.resetDone_resetThread (s : State) (t : Nat) : s.resetDone (s.resetThread t) t := by
  obtain ⟨y, hg, hth⟩ := s.th_resetThread t
  unfold State.resetDone
  rw [hth]
  exact ⟨rfl, rfl, rfl, rfl, rfl, rfl, s.valid_resetThread t, Thread.r_congr hg⟩

theorem State.resetDone.of_regs {s u v : State} {t : Nat} (h : v.resetDone u t) (hg : (v.th t).g = (s.th t).g) : s.resetDone u t := by
  obtain ⟨hst, hlocks, hrsv, hstage, hpend, htimer, hvalid, hr⟩ := h
  exact ⟨hst, hlocks, hrsv, hstage, hpend, htimer, hvalid, fun r => (hr r).trans (Thread.r_congr hg r)⟩

/-- The end of the store by which a supervisor resets a thread, itself perhaps, leaves the reset. -/
theorem State.resetDone.endInstr {s u : State} {t : Nat} (h : s.resetDone u t) (w : Nat) : s.resetDone (u.endInstr w) t := by
  obtain ⟨hst, hlocks, hrsv, hstage, hpend, htimer, hvalid, hr⟩ := h
  unfold State.resetDone
  rw [State.th_endInstr]
  split
  · obtain ⟨-, -, -, -, hpend', htimer', hlocks', hrsv', hstage'⟩ := (u.th t).afterStep_fields
    exact ⟨((u.th t).afterStep_idle hst), hlocks'.trans hlocks, hrsv'.trans hrsv, hstage'.trans hstage, hpend'.trans hpend, htimer'.trans htimer, hvalid,
      fun r => ((u.th t).r_afterStep r).trans (hr r)⟩
  · exact ⟨hst, hlocks, hrsv, hstage, hpend, htimer, hvalid, hr⟩

theorem dyeReset_effect (hcluster : s.hasCluster (t.val / 128) = true) {who : Requester}
    (hwho : who = .roaster ∨ who = .jtag ∨ ∃ w : Fin 8192, who = .thread w ∧ w.val / 128 = t.val / 128 ∧ s.ready w ∧ w.val = s.supv (t.val / 128)) :
    ∃ u, exec (.dyeReset t who) s = .next u ∧ s.resetDone u t := by
  obtain h | h | ⟨w, rfl, hown, hready, hsupv⟩ := hwho
  · exact ⟨_, congrArg Host.Outcome.next (State.guarded_owner hcluster (.inl h) ..), s.resetDone_resetThread t⟩
  · exact ⟨_, congrArg Host.Outcome.next (State.guarded_owner hcluster (.inr h) ..), s.resetDone_resetThread t⟩
  · have hexec : exec (.dyeReset t (.thread w)) s = .next (((s.setTh w (s.th w).nextPc).resetThread t).endInstr w) :=
      congrArg Host.Outcome.next (State.guarded_supv hcluster hown hready hsupv ..)
    have hdone := State.resetDone_resetThread (s.setTh w (s.th w).nextPc) t
    exact ⟨_, hexec, (hdone.of_regs (State.regs_setTh s (y := (s.th w).nextPc) rfl t)).endInstr w⟩

end

/-! ### Debug control -/

section
variable {s : State} {t : Fin 8192} {who : Requester} (hok : s.debugOk t who = true)
include hok

theorem State.debugging_eq (f : State → State) : s.debugging t who f = f s := if_pos hok

theorem dyeHalt_run (hst : (s.th t).st = .run) :
    exec (.dyeHalt t who) s = .next (s.setTh t { s.th t with st := .halt, haltedInWait := false, stepping := false }) := by
  refine congrArg Host.Outcome.next ((State.debugging_eq hok _).trans ?_)
  simp only [State.haltThread, hst]

theorem dyeHalt_memwait (hst : (s.th t).st = .memwait) : exec (.dyeHalt t who) s = .next (s.setTh t { s.th t with haltReq := true }) := by
  refine congrArg Host.Outcome.next ((State.debugging_eq hok _).trans ?_)
  simp only [State.haltThread, hst]

theorem dyeHalt_wait (hst : (s.th t).st = .wait) : ∃ u, exec (.dyeHalt t who) s = .next u ∧ (u.th t).st = .halt ∧ (u.th t).haltedInWait = true
    ∧ (u.th t).pend = (s.th t).pend := by
  refine ⟨(s.leaveWait t).setTh t { s.th t with st := .halt, haltedInWait := true, stepping := false, haltReq := false },
    congrArg Host.Outcome.next ((State.debugging_eq hok _).trans ?_), ?_⟩
  · simp only [State.haltThread, hst]
  · rw [State.th_setTh_same]; exact ⟨rfl, rfl, rfl⟩

end

/-- RESUME and STEP of a halted thread (04 R161, R162). -/
theorem State.resumeThread_halt {s : State} {t : Nat} (hst : (s.th t).st = .halt) (step : Bool) : s.resumeThread t step
    = s.setTh t { s.th t with st := if (s.th t).haltedInWait then .wait else .run, haltedInWait := false, passBrk := true, stepping := step } :=
  if_neg (not_not.mpr hst)

/-- Settles O24: one lemma for each control and requester. -/
theorem threadControl : Obligations.ThreadControl := by
  unfold Obligations.ThreadControl
  intro s t who hcluster x started supv
  refine ⟨fun hst => ⟨fun hwho => ⟨_, dyeStart_owner hcluster hst hwho, rfl⟩, fun w ⟨hown, hready, hsupv⟩ => dyeStart_supv hcluster hst hown hready hsupv⟩,
    dyeReset_effect hcluster, fun hdbg hwho => ?_⟩
  have hok : s.debugOk t who = true := by
    unfold State.debugOk
    rw [hcluster, hdbg]
    obtain rfl | rfl | rfl := hwho <;> rfl
  refine ⟨fun hst => ⟨_, dyeHalt_run hok hst, rfl⟩, fun hst => ⟨_, dyeHalt_memwait hok hst, rfl⟩, dyeHalt_wait hok, fun hst st hst' => ?_⟩
  subst hst'
  exact ⟨⟨_, congrArg Host.Outcome.next ((State.debugging_eq hok _).trans (State.resumeThread_halt hst false)), rfl⟩,
    ⟨_, congrArg Host.Outcome.next ((State.debugging_eq hok _).trans (State.resumeThread_halt hst true)), rfl⟩⟩

end Sys2Proof.Machine

namespace Sys2Proof.Machine
open Sys2Proof

/-! ### A fault of a thread that is no supervisor -/

/-- Thread `t` has faulted in `s`, which gives `u`: the thread stops and keeps what it holds, the fault record takes the cause, the PC and the table's values, CTRL is
pending for the supervisor, and nothing else changes (04 R157). -/
def State.faultsAs (s u : State) (t cause : Nat) (addr info : Option Nat) : Prop :=
  (u.th t).st = .fault ∧ (u.th t).g = (s.th t).g ∧ (u.th t).b = (s.th t).b ∧ (u.th t).pc = (s.th t).pc ∧ (u.th t).locks = (s.th t).locks
    ∧ (u.th t).rsv = (s.th t).rsv ∧ (u.th t).stage = (s.th t).stage ∧ u.rd (DYE_TFLT.CAUSE (t / 8) (t % 8)) = cause
    ∧ u.rd (DYE_TFLT.VALID (t / 8) (t % 8)) = 1 ∧ u.rd (DYE_TFLT.PC (t / 8) (t % 8)) = (s.th t).pc % 8192
    ∧ (∀ v, addr = some v → u.rd (DYE_TFADDR.ADDR (t / 8) (t % 8)) = v % 2 ^ 48) ∧ (∀ v, info = some v → u.rd (DYE_TFADDR.INFO (t / 8) (t % 8)) = v % 2 ^ 16)
    ∧ bitAt (u.th (s.supv (t / 128))).pend 7 = true ∧ u = { s with regs := u.regs, free := u.free, dy := { s.dy with threads := u.dy.threads } }
    ∧ ∀ j, j ≠ t → j ≠ s.supv (t / 128) → u.th j = s.th j

/-- HALT_ON_FAULT halts the threads of engine `g` at a fault (04 DYE_DBG). -/
def State.haltsOnFault (s : State) (g : Nat) : Bool := s.flag (DYE_DBG.DBG_EN g) && s.flag (DYE_DBG.HALT_ON_FAULT g)

theorem State.rd_faultField_other (s : State) {f g : Fld} (v : Option Nat) (h : g.key ≠ f.key) : (s.faultField f v).rd g = s.rd g := by
  unfold State.faultField
  split
  · exact State.rd_wr_other s _ h
  · exact State.rd_wr_other s _ h

theorem State.rd_faultField_some (s : State) (f : Fld) (v : Nat) : (s.faultField f (some v)).rd f = v % 2 ^ f.width := State.rd_wr_same ..

/-- The fault record of thread `t` written (04 R157). -/
def State.faultRecord (s : State) (t : Nat) (e : Flt) : State :=
  ((((s.wr (DYE_TFLT.CAUSE (t / 8) (t % 8)) e.cause).wr (DYE_TFLT.VALID (t / 8) (t % 8)) 1).wr (DYE_TFLT.PC (t / 8) (t % 8)) (s.th t).pc).faultField
    (DYE_TFADDR.ADDR (t / 8) (t % 8)) e.addr).faultField (DYE_TFADDR.INFO (t / 8) (t % 8)) e.info

/-- From `s` to `u` register fields and the count of free values changed alone. -/
def State.onlyRegs (s u : State) : Prop := u = { s with regs := u.regs, free := u.free }

theorem State.onlyRegs.trans {s u v : State} (h : s.onlyRegs u) (h' : u.onlyRegs v) : s.onlyRegs v := by
  unfold State.onlyRegs at *
  rw [h] at h'
  exact h'

theorem State.onlyRegs.wr {s u : State} (h : s.onlyRegs u) (f : Fld) (v : Nat) : s.onlyRegs (u.wr f v) := h.trans rfl

theorem State.onlyRegs.faultField {s u : State} (h : s.onlyRegs u) (f : Fld) (v : Option Nat) : s.onlyRegs (u.faultField f v) := by
  refine h.trans ?_
  unfold State.faultField
  split <;> rfl

theorem State.onlyRegs.th {s u : State} (h : s.onlyRegs u) (j : Nat) : u.th j = s.th j := by rw [h]; rfl

theorem State.onlyRegs.refl (s : State) : s.onlyRegs s := rfl

theorem State.onlyRegs.faultRecord (s : State) (t : Nat) (e : Flt) : s.onlyRegs (s.faultRecord t e) :=
  (((((State.onlyRegs.refl s).wr ..).wr ..).wr ..).faultField ..).faultField ..

theorem State.rd_faultRecord (s : State) (t : Nat) (e : Flt) :
    (s.faultRecord t e).rd (DYE_TFLT.CAUSE (t / 8) (t % 8)) = e.cause % 2 ^ 8 ∧ (s.faultRecord t e).rd (DYE_TFLT.VALID (t / 8) (t % 8)) = 1
      ∧ (s.faultRecord t e).rd (DYE_TFLT.PC (t / 8) (t % 8)) = (s.th t).pc % 2 ^ 13
      ∧ (∀ v, e.addr = some v → (s.faultRecord t e).rd (DYE_TFADDR.ADDR (t / 8) (t % 8)) = v % 2 ^ 48)
      ∧ (∀ v, e.info = some v → (s.faultRecord t e).rd (DYE_TFADDR.INFO (t / 8) (t % 8)) = v % 2 ^ 16)
      ∧ (s.faultRecord t e).supv (t / 128) = s.supv (t / 128) ∧ (s.faultRecord t e).haltsOnFault (t / 8) = s.haltsOnFault (t / 8) := by
  unfold State.faultRecord
  refine ⟨?_, ?_, ?_, fun v hv => ?_, fun v hv => ?_, ?_, ?_⟩
  · simp (disch := (dsimp only; omega)) only [State.rd_faultField_other, State.rd_wr_other, State.rd_wr_same]
  · simp (disch := (dsimp only; omega)) only [State.rd_faultField_other, State.rd_wr_other, State.rd_wr_same]
    rfl
  · simp (disch := (dsimp only; omega)) only [State.rd_faultField_other, State.rd_wr_same]
  · rw [State.rd_faultField_other _ _ (by dsimp only; omega), hv, State.rd_faultField_some]
  · rw [hv, State.rd_faultField_some]
  · unfold State.supv
    simp (disch := (dsimp only; omega)) only [State.rd_faultField_other, State.rd_wr_other]
  · unfold State.haltsOnFault State.flag
    simp (disch := (dsimp only; omega)) only [State.rd_faultField_other, State.rd_wr_other]

/-- The thread as a fault leaves it. -/
def Thread.faulted (x : Thread) : Thread :=
  { x with st := .fault, stepping := false, haltReq := false, acc := none, haltedInWait := false, passBrk := false }

section
variable {s : State} {t : Nat}

theorem State.fault_eq (hsupv : t ≠ s.supv (t / 128)) (hhalt : s.haltsOnFault (t / 8) = false) (e : Flt) :
    s.fault t e = ((s.faultRecord t e).setTh t (s.th t).faulted).raise (s.supv (t / 128)) evCtrl := by
  obtain ⟨-, -, -, -, -, hsupv', hhalt'⟩ := s.rd_faultRecord t e
  unfold State.fault
  extract_lets g i x s1 s2 st s3
  have h2 : s2 = s.faultRecord t e := rfl
  have hst : st = .fault := by
    have : (s2.flag (DYE_DBG.DBG_EN g) && s2.flag (DYE_DBG.HALT_ON_FAULT g)) = false := h2 ▸ hhalt'.trans hhalt
    unfold st; rw [this]; rfl
  have h3 : s3.supv (t / 128) = s.supv (t / 128) := hsupv'
  rw [h3, if_neg hsupv]
  unfold s3
  rw [hst, h2]
  rfl

theorem State.fault_effect (hsupv : t ≠ s.supv (t / 128)) (hhalt : s.haltsOnFault (t / 8) = false) (e : Flt) (hcause : e.cause < 256) :
    s.faultsAs (s.fault t e) t e.cause e.addr e.info := by
  obtain ⟨hc, hvalid, hpc, haddr, hinfo, -, -⟩ := s.rd_faultRecord t e
  have honly := State.onlyRegs.faultRecord s t e
  have hx : (s.fault t e).th t = (s.th t).faulted := by
    rw [State.fault_eq hsupv hhalt, State.th_raise, State.th_setTh_same, if_neg hsupv]
  have hrd : ∀ f, (s.fault t e).rd f = (s.faultRecord t e).rd f := fun f => by
    rw [State.fault_eq hsupv hhalt, State.raise, State.rd_setTh, State.rd_setTh]
  unfold State.faultsAs
  simp only [hx, hrd]
  refine ⟨rfl, rfl, rfl, rfl, rfl, rfl, rfl, hc.trans (Nat.mod_eq_of_lt hcause), hvalid, hpc, haddr, hinfo, ?_, ?_, fun j hj hjs => ?_⟩
  · rw [State.fault_eq hsupv hhalt, State.th_raise, if_pos rfl]
    exact bitAt_setBits_one ..
  · rw [State.fault_eq hsupv hhalt]
    generalize s.faultRecord t e = v at honly
    unfold State.onlyRegs at honly
    rw [honly]
    rfl
  · rw [State.fault_eq hsupv hhalt, State.th_raise, if_neg hjs, State.th_setTh_other _ _ hj, honly.th]

/-- A fault after register fields were written is a fault of the state before, when they say nothing of the supervisor. -/
theorem State.faultsAs.of_regs {u v : State} {cause : Nat} {addr info : Option Nat} (h : v.faultsAs u t cause addr info) (hv : s.onlyRegs v)
    (hsupv : v.supv (t / 128) = s.supv (t / 128)) : s.faultsAs u t cause addr info := by
  unfold State.faultsAs at *
  simp only [hv.th, hsupv] at h
  obtain ⟨hst, hg, hb, hpc, hlocks, hrsv, hstage, hcause, hvalid, hrpc, haddr, hinfo, hpend, honly, hother⟩ := h
  refine ⟨hst, hg, hb, hpc, hlocks, hrsv, hstage, hcause, hvalid, hrpc, haddr, hinfo, hpend, ?_, hother⟩
  unfold State.onlyRegs at hv
  rw [hv] at honly
  exact honly

end

end Sys2Proof.Machine

namespace Sys2Proof.Machine
open Sys2Proof

/-! ### The faults of the instructions -/

/-- The address g[base] + sign-extended off12 (05 R177). -/
theorem Thread.addr_eq (x : Thread) (base : Nat) (off : Fin 4096) : x.addr base off = (x.r base + (BitVec.ofNat 12 off).signExtend 64).toNat := by
  have h := toInt_toNat (BitVec.ofNat 12 off)
  rw [BitVec.toNat_ofNat, Nat.mod_mod, Nat.mod_eq_of_lt (b := 2 ^ 12) off.isLt] at h
  rw [Thread.addr, h]
  rfl

section
variable {s : State} {t : Fin 8192} (h : s.ready t) (hsupv : t.val ≠ s.supv (t.val / 128)) (hhalt : s.haltsOnFault (t.val / 8) = false)
include h hsupv hhalt

/-- An instruction that may not act faults and has no other effect (04 R157). -/
theorem State.instr_faults {f : State → Thread → Except Flt State} {e : Flt} (hf : f s (s.th t) = .error e) (hecc : e.ecc = none) (hcause : e.cause < 256) :
    ∃ u, s.instr t f = .next u ∧ s.faultsAs u t e.cause e.addr e.info := by
  refine ⟨s.fault t e, ?_, State.fault_effect hsupv hhalt e hcause⟩
  rw [State.instr, State.issue_ready h, hf]
  simp [State.faultAt, hecc]

theorem bswap_faults (rd rs1 rs2 : Fin 32) (hrs2 : rs2 ≠ 0) : ∃ u, exec (.bswap t rd rs1 rs2) s = .next u ∧ s.faultsAs u t 1 none none :=
  State.instr_faults h hsupv hhalt (e := { cause := 1 }) (if_pos (decide_eq_true hrs2)) rfl (by decide)

theorem br_faults (rs1 rs2 : Fin 32) (cond : Fin 16) (off : Fin 4096) (hcond : 8 ≤ cond.val) :
    ∃ u, exec (.br t rs1 rs2 cond off) s = .next u ∧ s.faultsAs u t 1 none none := by
  have hholds : branchHolds (s.th t) cond rs1 rs2 = none := by
    unfold branchHolds
    split
    case h_9 => rfl
    all_goals omega
  refine State.instr_faults h hsupv hhalt (e := { cause := 1 }) ?_ rfl (by decide)
  simp only [hholds]
  rfl

theorem ld_align_faults (rd rs1 : Fin 32) (size : Fin 4) (sx be : Bool) (off : Fin 4096) (halign : (s.th t).addr rs1 off % 2 ^ size.val ≠ 0) :
    ∃ u, exec (.ld t rd rs1 size sx be off) s = .next u ∧ s.faultsAs u t 2 (some ((s.th t).addr rs1 off)) none := by
  refine State.instr_faults h hsupv hhalt (e := { cause := 2, addr := some ((s.th t).addr rs1 off) }) ?_ rfl (by dsimp only; omega)
  simp only [State.access, halign, ne_eq, not_false_eq_true, if_true]

theorem ld_access_faults (rd rs1 : Fin 32) (size : Fin 4) (sx be : Bool) (off : Fin 4096) (halign : (s.th t).addr rs1 off % 2 ^ size.val = 0)
    (hnone : memRegion t ((s.th t).addr rs1 off) (2 ^ size.val) = .none) :
    ∃ u, exec (.ld t rd rs1 size sx be off) s = .next u ∧ s.faultsAs u t 3 (some ((s.th t).addr rs1 off)) none := by
  refine State.instr_faults h hsupv hhalt (e := { cause := 3, addr := some ((s.th t).addr rs1 off) }) ?_ rfl (by dsimp only; omega)
  simp only [State.access, halign, hnone, State.mayRead, ne_eq, not_true_eq_false, if_false, Bool.false_eq_true]

theorem st_access_faults (rd rs1 : Fin 32) (size : Fin 4) (be : Bool) (off : Fin 4096) (halign : (s.th t).addr rs1 off % 2 ^ size.val = 0)
    (hnone : memRegion t ((s.th t).addr rs1 off) (2 ^ size.val) = .none) :
    ∃ u, exec (.st t rd rs1 size false be off) s = .next u ∧ s.faultsAs u t 3 (some ((s.th t).addr rs1 off)) none := by
  refine State.instr_faults h hsupv hhalt (e := { cause := 3, addr := some ((s.th t).addr rs1 off) }) ?_ rfl (by dsimp only; omega)
  simp only [stAddr, State.access, halign, hnone, State.mayWrite, ne_eq, not_true_eq_false, if_true, if_false, Bool.false_eq_true]

/-! Lock instructions -/

omit hsupv hhalt in
theorem State.atIssue_of_ready : s.atIssue t = true := by
  obtain ⟨hissue, hlease, hdma, hbrk, hfetch⟩ := h
  simp [State.atIssue, hissue, hlease, hdma, hbrk, hfetch]

/-- A lock instruction that breaks a rule of rank writes CLU_LOCK_ERR and faults (04 R144). -/
theorem State.lockInstr_faults (n c : Nat) {bad : Thread → Option Nat} (f : State → Thread → State) (hbad : bad (s.th t) = some c) (hc : c < 256) :
    s.faultsAs (s.lockInstr t (0 : Fin 32) (0 : Fin 8) n bad f) t c none (some n) := by
  have hlock : s.lockInstr t (0 : Fin 32) (0 : Fin 8) n bad f = s.lockErr t c n := by
    simp [State.lockInstr, hbad, State.atIssue_of_ready h]
  rw [hlock]
  unfold State.lockErr
  extract_lets k pc s1 s2
  have hregs : s.onlyRegs s2 := (((((State.onlyRegs.refl s).wr ..).wr ..).wr ..).wr ..).wr ..
  have hsupv2 : s2.supv (t.val / 128) = s.supv (t.val / 128) := by
    unfold State.supv
    simp (disch := (dsimp only; omega)) only [s2, s1, k, State.rd_wr_other]
  have hhalt2 : s2.haltsOnFault (t.val / 8) = s.haltsOnFault (t.val / 8) := by
    unfold State.haltsOnFault State.flag
    simp (disch := (dsimp only; omega)) only [s2, s1, k, State.rd_wr_other]
  exact (State.fault_effect (by rwa [hsupv2]) (by rwa [hhalt2]) { cause := c, info := some n } hc).of_regs hregs hsupv2

theorem lck_order_faults (rs1 : Fin 32) (imm : Fin 512) (horder : ∃ m ∈ (s.th t).locks, (s.th t).lockNo rs1 imm ≤ m) :
    (∃ u, exec (.lck t 0 rs1 0 imm) s = .next u ∧ s.faultsAs u t 6 none (some ((s.th t).lockNo rs1 imm)))
      ∧ ∃ u, exec (.ltry t 0 rs1 0 imm) s = .next u ∧ s.faultsAs u t 6 none (some ((s.th t).lockNo rs1 imm)) := by
  have hbad : acquireBad (s.th t) ((s.th t).lockNo rs1 imm) = some 6 := if_pos (by simpa using horder)
  exact ⟨⟨_, rfl, State.lockInstr_faults h hsupv hhalt _ 6 _ hbad (by decide)⟩, ⟨_, rfl, State.lockInstr_faults h hsupv hhalt _ 6 _ hbad (by decide)⟩⟩

theorem lck_depth_faults (rs1 : Fin 32) (imm : Fin 512) (horder : ∀ m ∈ (s.th t).locks, m < (s.th t).lockNo rs1 imm) (hdepth : 8 ≤ (s.th t).locks.length) :
    ∃ u, exec (.lck t 0 rs1 0 imm) s = .next u ∧ s.faultsAs u t 7 none (some ((s.th t).lockNo rs1 imm)) := by
  have hbad : acquireBad (s.th t) ((s.th t).lockNo rs1 imm) = some 7 := (if_neg (by simpa using horder)).trans (if_pos hdepth)
  exact ⟨_, rfl, State.lockInstr_faults h hsupv hhalt _ 7 _ hbad (by decide)⟩

theorem lrel_faults (rs1 : Fin 32) (imm : Fin 512) (hfree : (s.th t).locks.contains ((s.th t).lockNo rs1 imm) = false) :
    ∃ u, exec (.lrel t 0 rs1 0 imm) s = .next u ∧ s.faultsAs u t 8 none (some ((s.th t).lockNo rs1 imm)) :=
  ⟨_, rfl, State.lockInstr_faults h hsupv hhalt _ 8 _ (if_neg (by rw [hfree]; decide)) (by decide)⟩

/-! Channels, signals, tables, frames and the end of a thread -/

theorem snd_faults (rs1 : Fin 32) (imm : Fin 512) (hrsv : (s.th t).rsv ≠ some (.loc ((s.th t).chanNo rs1 imm)))
    (hlease : ∀ c, (s.th t).rsv = some (.loc c) → s.leaseOver (t.val / 128) c = false) :
    ∃ u, exec (.snd t 0 rs1 0 imm) s = .next u ∧ s.faultsAs u t 9 none (some ((s.th t).chanNo rs1 imm)) := by
  show ∃ u, execSnd t 0 rs1 0 imm s = .next u ∧ _
  unfold execSnd
  extract_lets s1
  have h1 : s1 = s := by
    unfold s1; split
    next c hc => rw [hlease c hc, Bool.and_false]; rfl
    · rfl
  rw [h1]
  refine State.instr_faults h hsupv hhalt (e := { cause := 9, info := some ((s.th t).chanNo rs1 imm) }) ?_ rfl (by dsimp only; omega)
  simp only [hrsv, ne_eq, not_true_eq_false, not_false_eq_true, or_self, true_or, if_true, if_false]
  rfl

theorem sig_faults (rs1 : Fin 32) (j : Fin 8) (hgroup : s.wgrp (((s.th t).r rs1).toNat % 8192) ≠ s.wgrp t) :
    ∃ u, exec (.sig t 0 rs1 ⟨j, Nat.lt_trans j.isLt (by decide)⟩) s = .next u ∧ s.faultsAs u t 0x20 (some (((s.th t).r rs1).toNat % 8192)) none := by
  have hok : s.sigOk t (((s.th t).r rs1).toNat % 8192) j = false := by
    have hj : ¬ 8 ≤ j.val := by omega
    simp [State.sigOk, hgroup, hj]
  have hj : ¬ 16 ≤ j.val := by omega
  refine State.instr_faults h hsupv hhalt (e := { cause := 0x20, addr := some (((s.th t).r rs1).toNat % 8192) }) ?_ rfl (by dsimp only; omega)
  simp only [hok, hj, ne_eq, not_true_eq_false, or_self, Bool.not_false, if_true, if_false]

theorem tlk_faults (rd rs1 : Fin 32) (tbl : Fin 16) (w : Fin 8) (hrd : rd.val + 2 ^ s.rd (CLU_TBL.ENTRY (t.val / 128) tbl) ≤ 32)
    (hcount : s.rd (CLU_TBL.COUNT (t.val / 128) tbl) ≤ ((s.th t).r rs1).toNat) :
    ∃ u, exec (.tlk t rd rs1 tbl w 0) s = .next u ∧ s.faultsAs u t 0x21 (some (((s.th t).r rs1).toNat % 2 ^ 48)) (some tbl) := by
  have hsize : s.entrySize (t.val / 128) tbl / 8 = 2 ^ s.rd (CLU_TBL.ENTRY (t.val / 128) tbl) := Nat.mul_div_cancel_left _ (by decide)
  have hform : ¬ 31 < rd.val + 2 ^ s.rd (CLU_TBL.ENTRY (t.val / 128) tbl) - 1 := by omega
  have hentry : s.entry (t.val / 128) tbl ((s.th t).r rs1).toNat = none := if_pos (.inr hcount)
  refine State.instr_faults h hsupv hhalt (e := { cause := 0x21, addr := some (((s.th t).r rs1).toNat % 2 ^ 48), info := some tbl.val }) ?_ rfl (by dsimp only; omega)
  simp only [hsize, hform, hentry, ne_eq, not_true_eq_false, or_self, if_false]
  rfl

theorem fget_faults (rd : Fin 32) (b : Fin 8) (hen : s.flag (DYE_FRM.EN (t.val / 8) b) = false) :
    ∃ u, exec (.fget t rd 0 ⟨b, Nat.lt_trans b.isLt (by decide)⟩) s = .next u ∧ s.faultsAs u t 0x22 none (some b) := by
  have hb : ¬ 7 < b.val := by omega
  refine State.instr_faults h hsupv hhalt (e := { cause := 0x22, info := some b.val }) ?_ rfl (by dsimp only; omega)
  simp only [hb, hen, ne_eq, not_true_eq_false, or_self, Bool.not_false, true_or, if_true, if_false]

theorem stop_faults (hlocks : (s.th t).locks ≠ []) : ∃ u, exec (.stop t 0) s = .next u ∧ s.faultsAs u t 0x23 none none := by
  have hheld : (s.th t).held = true := by simp [Thread.held, hlocks]
  refine State.instr_faults h hsupv hhalt (e := { cause := 0x23 }) ?_ rfl (by decide)
  simp only [hheld, ne_eq, not_true_eq_false, if_true, if_false]

end

end Sys2Proof.Machine

namespace Sys2Proof.Machine
open Sys2Proof

/-! ### A fault at an uncorrectable word -/

/-- From `s` to `u` every thread, every memory of a cluster and every register field of a cluster block is kept. -/
def State.clusterKept (s u : State) : Prop :=
  (∀ j, u.th j = s.th j) ∧ u.dy.imem = s.dy.imem ∧ u.dy.dmem = s.dy.dmem ∧ u.dy.sram = s.dy.sram ∧ ∀ f : Fld, 0x8000000 ≤ f.key → u.rd f = s.rd f

theorem State.clusterKept.of_logKept {s u : State} (h : s.logKept True u) : s.clusterKept u :=
  ⟨fun _ => by rw [State.th, h.dy]; rfl, by rw [h.dy], by rw [h.dy], by rw [h.dy], h.2 trivial⟩

theorem logOf_unitOf_cluster (k code sub : Nat) : logOf (unitOf (48 + k) code sub) < 4096 := by
  by_cases hk : k < 64
  · have hunit : unitOf (48 + k) code sub = .cluster (48 + k - 48) := by
      simp (disch := omega) only [unitOf, if_neg, if_pos]
    rw [hunit]; dsimp only [logOf]; omega
  · have hunit : unitOf (48 + k) code sub = .nothing := by
      simp (disch := omega) only [unitOf, if_neg]
    rw [hunit]; decide

/-- A memory error of cluster `k` in its log leaves the cluster blocks (14 Table 14-4). -/
theorem State.logKept.memUncorr (s : State) {k : Nat} (hk : k < 64) (i a : Nat) : s.logKept True (s.logError (48 + k) 0x00F1 3 i a) := by
  refine State.logKept.logError s (fun _ => by omega) _ _ _ _ _ (fun _ => ?_) fun _ => logOf_unitOf_cluster ..
  rw [unitOfRecord, if_neg (by omega)]
  exact logOf_unitOf_cluster ..

theorem State.clusterKept.meetBad (s : State) {p : Nat × Nat × Nat} (hp : p.1 < 64) : s.clusterKept (s.meetBad (some p)) := by
  obtain ⟨k, i, a⟩ := p
  unfold State.meetBad
  dsimp -zeta only
  extract_lets hit fresh s1
  have h1 : s.clusterKept s1 := by
    unfold s1; split
    · exact .of_logKept (.refl s)
    · exact .of_logKept (.memUncorr s hp i a)
  exact h1

theorem State.clusterKept.ackMem (s : State) (l : List Nat) (hl : ∀ n ∈ l, n < 4096) : s.clusterKept (s.ackMem l) := by
  refine .of_logKept (.foldl l (fun s n hn => ?_) s)
  split
  · exact .clearFirst s fun _ => hl n hn
  · exact .refl s

/-- An uncorrectable word of a thread's own memories lies in its cluster. -/
theorem State.badWord_cluster {s : State} {t n : Nat} {r : Region} {p : Nat × Nat × Nat} (hown : r.variable = false) (hbad : s.badWord t r n = some p) :
    p.1 = t / 128 := by
  have hplace : ∀ q, r.place t = some q → q.1 = t / 128 := by
    intro q hq
    cases r <;> simp only [Region.place, Region.variable, Option.some.injEq, reduceCtorEq] at hq hown
    all_goals rw [← hq]
  unfold State.badWord at hbad
  split at hbad
  · cases hbad
  next k i a hp =>
    obtain ⟨b, -, rfl⟩ := Option.map_eq_some_iff.1 hbad
    exact hplace (k, i, a) hp

section
variable {s : State} {t : Fin 8192} (h : s.ready t) (hsupv : t.val ≠ s.supv (t.val / 128)) (hhalt : s.haltsOnFault (t.val / 8) = false)
include h hsupv hhalt

/-- A load that meets an uncorrectable word of the thread's own memories faults with MEM_ECC, and the error's record leaves the fault as it is (04 Table 04-7). -/
theorem ld_ecc_faults (rd rs1 : Fin 32) (size : Fin 4) (sx be : Bool) (off : Fin 4096) {p : Nat × Nat × Nat} {a : Nat} (ha : (s.th t).addr rs1 off = a)
    (halign : a % 2 ^ size.val = 0) (hread : s.mayRead t (memRegion t a (2 ^ size.val)) (2 ^ size.val) = true)
    (hown : (memRegion t a (2 ^ size.val)).variable = false) (hbad : s.badWord t (memRegion t a (2 ^ size.val)) (2 ^ size.val) = some p) :
    ∃ v u w, exec (.ld t rd rs1 size sx be off) s = .next w ∧ s.clusterKept v ∧ v.faultsAs u t 4 (some a) none ∧ u.clusterKept w
      ∧ v.supv (t.val / 128) = s.supv (t.val / 128) := by
  have hp : p.1 = t.val / 128 := State.badWord_cluster hown hbad
  have hv : s.clusterKept (s.meetBad (some p)) := .meetBad s (by omega)
  obtain ⟨-, -, -, -, hrd⟩ := hv
  have hsupv' : (s.meetBad (some p)).supv (t.val / 128) = s.supv (t.val / 128) := by
    unfold State.supv
    rw [hrd _ (by dsimp only; omega), hrd _ (by dsimp only; omega)]
  have hhalt' : (s.meetBad (some p)).haltsOnFault (t.val / 8) = false := by
    rw [← hhalt]
    unfold State.haltsOnFault State.flag
    rw [hrd _ (by dsimp only; omega), hrd _ (by dsimp only; omega)]
  let e : Flt := { cause := 4, addr := some a, ecc := some p }
  refine ⟨s.meetBad (some p), (s.meetBad (some p)).fault t e, _, ?_, .meetBad s (by omega), State.fault_effect (by rwa [hsupv']) hhalt' e (by dsimp only [e]; omega),
    .ackMem _ ([48 + t.val / 128, 10] ++ [48 + p.1]) ?_, hsupv'⟩
  · show s.instr t _ = _
    rw [State.instr, State.issue_ready h]
    simp only [ha, State.access, halign, hread, hown, State.eccFault, hbad, ne_eq, not_true_eq_false, if_true, if_false, Bool.false_eq_true, Option.map_some]
    rfl
  · simp only [List.cons_append, List.nil_append, List.mem_cons, List.not_mem_nil, or_false]
    omega

end

/-- Settles O26: each instruction's faulting case by its own lemma over `State.fault_effect`; a word that cannot be corrected adds error records, which keep
the cluster. -/
theorem faultStopsTheThread : Obligations.FaultStopsTheThread := by
  unfold Obligations.FaultStopsTheThread
  intro s t rd rs1 rs2 imm off h hsupv hhalt x g i k n c a faults
  have ha : x.addr rs1 off = a := Thread.addr_eq x rs1 off
  refine ⟨bswap_faults h hsupv hhalt rd rs1 rs2, fun cond => br_faults h hsupv hhalt rs1 rs2 cond off, fun size sx be => ?_, fun size sx be halign hnone => ?_,
    lck_order_faults h hsupv hhalt rs1 imm, lck_depth_faults h hsupv hhalt rs1 imm, lrel_faults h hsupv hhalt rs1 imm, snd_faults h hsupv hhalt rs1 imm,
    fun hgroup j => sig_faults h hsupv hhalt rs1 j hgroup, tlk_faults h hsupv hhalt rd rs1, fget_faults h hsupv hhalt rd, stop_faults h hsupv hhalt,
    fun size sx be p halign hread hown hbad => ?_⟩
  · exact ha ▸ ld_align_faults h hsupv hhalt rd rs1 size sx be off
  · rw [← ha] at halign hnone ⊢
    exact ⟨ld_access_faults h hsupv hhalt rd rs1 size sx be off halign hnone, st_access_faults h hsupv hhalt rd rs1 size be off halign hnone⟩
  · obtain ⟨v, u, w, hexec, ⟨hth, him, hdm, hsr, -⟩, hfault, ⟨hth', him', hdm', hsr', hrd'⟩, hsupv'⟩ :=
      ld_ecc_faults h hsupv hhalt rd rs1 size sx be off ha halign hread hown hbad
    obtain ⟨hst, hg, hb, hpc, -, -, -, hcause, hvalid, hrpc, haddr, -, hpend, honly, -⟩ := hfault
    rw [hth] at hg hb hpc hrpc
    rw [hsupv'] at hpend
    refine ⟨w, hexec, ?_, ?_, ?_, ?_, ?_, ?_, ?_, ?_, ?_, ?_, ?_, ?_⟩
    · rwa [hth']
    · rwa [hth']
    · rwa [hth']
    · rwa [hth']
    · rwa [hrd' _ (by dsimp only; omega)]
    · rwa [hrd' _ (by dsimp only; omega)]
    · rwa [hrd' _ (by dsimp only; omega)]
    · rw [hrd' _ (by dsimp only; omega)]
      exact haddr a rfl
    · rwa [hth']
    · rw [him', ← him, honly]
    · rw [hdm', ← hdm, honly]
    · rw [hsr', ← hsr, honly]

end Sys2Proof.Machine

namespace Sys2Proof.Machine
open Sys2Proof

/-! ### Legal threads -/

theorem Thread.legal_iff (x : Thread) :
    x.legal = true ↔ FMap.wf 0 x.g = true ∧ x.g.all (fun e => decide (1 ≤ e.1) && decide (e.1 ≤ 31)) = true ∧ x.pc < 8192 := by
  simp only [Thread.legal, Bool.and_eq_true, decide_eq_true_eq, and_assoc]

theorem Thread.legal_of_same {x y : Thread} (h : x.legal = true) (hg : y.g = x.g) (hpc : y.pc = x.pc) : y.legal = true := by
  unfold Thread.legal at *; rwa [hg, hpc]

section
variable {x : Thread} (h : x.legal = true)
include h

/-- A write of g0 to g31 keeps the registers' table in form, and lists no g0 (05 R167). -/
theorem Thread.legal_w {n : Nat} (hn : n ≤ 31) (v : Word) : (x.w n v).legal = true := by
  unfold Thread.w
  split
  · exact h
  next h0 =>
    obtain ⟨hwf, hall, hpc⟩ := (Thread.legal_iff x).mp h
    exact (Thread.legal_iff _).mpr ⟨FMap.wf_set n v hwf, FMap.all_set (fun _ => by simp; omega) hall, hpc⟩

/-- The PC may take any word index (05 R166). -/
theorem Thread.legal_setPc {y : Thread} (hg : y.g = x.g) (hpc : y.pc < 8192) : y.legal = true := by
  obtain ⟨hwf, hall, -⟩ := (Thread.legal_iff x).mp h
  exact (Thread.legal_iff _).mpr (by rw [hg]; exact ⟨hwf, hall, hpc⟩)

theorem Thread.legal_nextPc : x.nextPc.legal = true := Thread.legal_setPc h rfl (Nat.mod_lt _ (by decide))

theorem Thread.legal_branch (w off : Nat) : (x.branch w off).legal = true := by
  refine Thread.legal_setPc h rfl ?_
  simp only [Thread.branch]
  omega

theorem Thread.legal_afterStep : x.afterStep.legal = true := by
  obtain ⟨-, hpc, hg, -⟩ := x.afterStep_fields
  exact Thread.legal_of_same h hg hpc

end

/-- From `s` to `u` no command came or went, and every legal thread stayed legal. -/
structure State.legalKept (s u : State) : Prop where
  pending : u.pending = s.pending
  legal : ∀ j, (s.th j).legal = true → (u.th j).legal = true

section
variable {s u v : State} {t : Nat}

theorem State.legalKept.refl (s : State) : s.legalKept s := ⟨rfl, fun _ h => h⟩

theorem State.legalKept.trans (h : s.legalKept u) (h' : u.legalKept v) : s.legalKept v :=
  ⟨h'.pending.trans h.pending, fun j hj => h'.legal j (h.legal j hj)⟩

theorem State.legalKept.of_threads (hp : u.pending = s.pending) (hd : u.dy.threads = s.dy.threads) : s.legalKept u :=
  ⟨hp, fun j hj => by unfold State.th at *; rwa [hd]⟩

theorem State.legalKept.of_logKept {low : Prop} (h : s.logKept low u) : s.legalKept u := .of_threads h.pending (by rw [h.dy])

theorem State.legalKept.foldl {α : Type} {f : State → α → State} (hf : ∀ (s : State) a, s.legalKept (f s a)) (l : List α) (s : State) : s.legalKept (l.foldl f s) := by
  induction l generalizing s with
  | nil => exact .refl s
  | cons a l ih => exact (hf s a).trans (ih _)

/-- Thread `t` may be written back as any thread that is legal where it was. -/
theorem State.legalKept.setTh (h : s.legalKept u) {y : Thread} (hy : (s.th t).legal = true → y.legal = true) : s.legalKept (u.setTh t y) :=
  ⟨h.pending, fun j hj => by
    rw [State.th_setTh]
    split
    next he => exact hy (he ▸ hj)
    · exact h.legal j hj⟩

/-- A thread keeps its registers and PC. -/
theorem State.legalKept.setTh_same (s : State) {y : Thread} (hg : y.g = (s.th t).g) (hpc : y.pc = (s.th t).pc) : s.legalKept (s.setTh t y) :=
  (State.legalKept.refl s).setTh fun h => Thread.legal_of_same h hg hpc

end

/-! ### What keeps threads legal -/

theorem State.legalKept.wr (s : State) (f : Fld) (x : Nat) : s.legalKept (s.wr f x) := .of_threads rfl rfl
theorem State.legalKept.raise (s : State) (t bit : Nat) : s.legalKept (s.raise t bit) := .setTh_same s rfl rfl
theorem State.legalKept.leaveWait (s : State) (t : Nat) : s.legalKept (s.leaveWait t) := .of_threads rfl rfl
theorem State.legalKept.setLock (s : State) (k n : Nat) (l : Lock) : s.legalKept (s.setLock k n l) := .of_threads rfl rfl
theorem State.legalKept.setChan (s : State) (k c : Nat) (x : Chan) : s.legalKept (s.setChan k c x) := .of_threads rfl rfl

theorem State.legalKept.passLock (s : State) (k n : Nat) : s.legalKept (s.passLock k n) := by
  unfold State.passLock
  extract_lets l
  split
  · exact .setLock ..
  · extract_lets s1 t x
    have h1 : s.legalKept s1 := .setLock ..
    refine (h1.trans (State.legalKept.setTh_same s1 ?_ ?_)).trans (.raise _ t _)
    · rfl
    · rfl

theorem State.legalKept.grantChan (s : State) (k c : Nat) : s.legalKept (s.grantChan k c) := by
  unfold State.grantChan
  extract_lets x
  split
  · split
    · exact .refl s
    · extract_lets s1 t
      have h1 : s.legalKept s1 := .setChan ..
      refine (h1.trans (State.legalKept.setTh_same s1 ?_ ?_)).trans (.raise _ t _)
      · rfl
      · rfl
  · exact .refl s

theorem State.legalKept.endRsv (s : State) (t : Nat) : s.legalKept (s.endRsv t) := by
  unfold State.endRsv
  extract_lets x s1
  have h1 : s.legalKept s1 := .setTh_same s rfl rfl
  split
  · exact (h1.trans (.setChan ..)).trans (.grantChan ..)
  · exact (h1.trans (.setChan ..)).trans (.grantChan ..)
  · exact h1

theorem State.legalKept.unpark (s : State) (t : Nat) : s.legalKept (s.unpark t) := by
  unfold State.unpark
  split
  · exact .setLock ..
  · exact .setChan ..
  · exact .refl s

theorem State.legalKept.finishStore (s : State) (t : Nat) : s.legalKept (s.finishStore t) := by
  unfold State.finishStore
  split
  · unfold State.writeRegion
    split
    · exact .of_threads rfl rfl
    · exact .of_threads rfl rfl
    · exact .of_threads rfl rfl
    · exact .refl s
  · exact .of_threads rfl rfl
  · exact .refl s

theorem State.legalKept.freeBinding (s : State) (g port : Nat) (stamp : Stamp) : s.legalKept (s.freeBinding g port stamp) := by
  refine .foldl (fun s k => ?_) _ s
  extract_lets b
  split
  · exact .of_threads rfl rfl
  · exact .refl s

theorem State.legalKept.faultField (s : State) (f : Fld) (v : Option Nat) : s.legalKept (s.faultField f v) := by
  unfold State.faultField
  split
  · exact .wr ..
  · exact .of_threads rfl rfl

theorem State.legalKept.clearFirst (s : State) (n : Nat) : s.legalKept (s.clearFirst n) := .of_logKept (State.logKept.clearFirst (low := False) s nofun)

theorem State.legalKept.logError (s : State) (n code cls sub info : Nat) (inj : Bool) : s.legalKept (s.logError n code cls sub info inj) :=
  .of_logKept (State.logKept.logError (low := False) s nofun code cls sub info inj nofun nofun)

theorem State.legalKept.declareFatal (s : State) (u : FatalUnit) : s.legalKept (s.declareFatal u) := .of_logKept (State.logKept.declareFatal (low := False) s nofun)

theorem State.legalKept.meetBad (s : State) (p : Option (Nat × Nat × Nat)) : s.legalKept (s.meetBad p) := by
  unfold State.meetBad
  split
  · exact .refl s
  · extract_lets hit fresh s1
    have h1 : s.legalKept s1 := by
      unfold s1; split
      · exact .refl s
      · exact .logError ..
    exact h1.trans (.of_threads rfl rfl)

theorem State.legalKept.ackMem (s : State) (l : List Nat) : s.legalKept (s.ackMem l) := by
  refine .foldl (fun s n => ?_) l s
  split
  · exact .clearFirst s n
  · exact .refl s

/-- RESET keeps every thread's registers and PC (04 R130). -/
theorem State.legalKept.resetThread (s : State) (t : Nat) : s.legalKept (s.resetThread t) := by
  have hstart : s.legalKept (s.resetStart t) := by
    unfold State.resetStart
    refine ((State.legalKept.trans ?_ (.finishStore ..)).trans (.unpark ..)).trans (.endRsv ..)
    split
    · exact .leaveWait ..
    · exact .refl s
  have hgive : (s.resetStart t).legalKept ((s.resetStart t).giveLocks t) := .foldl (fun s n => .passLock ..) _ _
  have hend : ∀ u : State, u.legalKept (u.resetEnd t) := fun u => by
    unfold State.resetEnd
    extract_lets s1 s2
    have h1 : u.legalKept s1 := .foldl (fun s d => .freeBinding ..) _ _
    exact h1.trans (.of_threads rfl rfl)
  rw [State.resetThread_eq]
  have h := (hstart.trans hgive).trans (hend _)
  generalize ((s.resetStart t).giveLocks t).resetEnd t = u at h
  have hsame : u.legalKept (u.setTh t (u.th t).afterReset) := .setTh_same u rfl rfl
  exact h.trans hsame

/-- START takes the PC from ENTRY_PC, modulo 8,192 (04 R128). -/
theorem State.legalKept.startThread (s : State) (t : Nat) : s.legalKept (s.startThread t) := by
  unfold State.startThread
  extract_lets x
  split
  · exact (State.legalKept.refl s).setTh fun h => Thread.legal_setPc h rfl (Nat.mod_lt _ (by decide))
  · exact .refl s

theorem State.legalKept.supvFault (s : State) (t : Nat) : s.legalKept (s.supvFault t) := by
  unfold State.supvFault
  extract_lets k rec_ before s1 d s2 s3
  have h1 : s.legalKept s1 := .logError ..
  have h2 : s.legalKept s2 := h1.trans (.of_threads rfl rfl)
  split
  · exact h2.trans (.declareFatal ..)
  · have h3 : s.legalKept s3 := (h2.trans (.resetThread ..)).trans (.startThread ..)
    split
    · exact h3.trans (.clearFirst ..)
    · exact h3

theorem State.legalKept.fault (s : State) (t : Nat) (e : Flt) : s.legalKept (s.fault t e) := by
  unfold State.fault
  extract_lets g i x s1 s2 st s3
  have h2 : s.legalKept s2 := ((((State.legalKept.wr s _ _).trans (.wr _ _ _)).trans (.wr _ _ _)).trans (.faultField _ _ _)).trans (.faultField _ _ _)
  have h3 : s.legalKept s3 := h2.setTh fun h => Thread.legal_of_same h rfl rfl
  split
  · exact h3.trans (.supvFault ..)
  · exact h3.trans (.raise ..)

theorem State.legalKept.faultAt (s : State) (t : Nat) (e : Flt) : s.legalKept (s.faultAt t e) := by
  unfold State.faultAt
  split
  · exact ((State.legalKept.meetBad ..).trans (.fault ..)).trans (.ackMem ..)
  · exact .fault ..

/-- An instruction keeps threads legal whether it faults or not, when its effect does (05 R206). -/
theorem State.legalKept.issue {s : State} (t : Nat) {f : State → Thread → Except Flt State} (hf : ∀ u, f s (s.th t) = .ok u → s.legalKept u) :
    s.legalKept (s.issue t f) := by
  unfold State.issue
  extract_lets x
  split
  · exact .refl s
  split
  · refine (State.legalKept.setTh_same s ?_ ?_).trans (.fault _ t _)
    · rfl
    · rfl
  · refine (State.legalKept.setTh_same s ?_ ?_).trans (.fault _ t _)
    · rfl
    · rfl
  split
  · exact .setTh_same s rfl rfl
  split
  · exact .faultAt ..
  split
  · exact .faultAt ..
  next u hu =>
    have hend : u.legalKept (u.setTh t (u.th t).afterStep) := (State.legalKept.refl u).setTh fun h => Thread.legal_afterStep h
    exact (hf u hu).trans hend

end Sys2Proof.Machine

namespace Sys2Proof.Machine
open Sys2Proof

/-! ### The plain instructions keep threads legal -/

/-- The state that an outcome gives keeps threads legal. -/
def LegalNext (s : State) (o : Host.Outcome State Fault Refusal) : Prop := ∀ u, o = .next u → s.legalKept u

/-- An instruction that is well formed keeps threads legal. -/
def LegalOk (s : State) (e : Except Flt State) : Prop := ∀ u, e = .ok u → s.legalKept u

section
variable {s u : State}

theorem LegalNext.next (h : s.legalKept u) : LegalNext s (.next u) := fun _ hu => by cases hu; exact h

theorem LegalOk.error (e : Flt) : LegalOk s (.error e) := fun _ h => by cases h

theorem LegalOk.of (h : s.legalKept u) : LegalOk s (.ok u) := fun _ hu => by cases hu; exact h

theorem LegalOk.setTh {t : Nat} {y : Thread} (h : s.legalKept u) (hy : (s.th t).legal = true → y.legal = true) : LegalOk s (.ok (u.setTh t y)) :=
  .of (h.setTh hy)

theorem LegalOk.done {t : Nat} {y : Thread} (h : s.legalKept u) (hy : (s.th t).legal = true → y.legal = true) : LegalOk s (u.done t y) :=
  .setTh h fun hx => Thread.legal_nextPc (hy hx)

/-- The thread goes on at the next PC, with its registers as they were. -/
theorem LegalOk.next {t : Nat} {y : Thread} (h : s.legalKept u) (hg : y.g = (s.th t).g) (hpc : y.pc = (s.th t).nextPc.pc) : LegalOk s (.ok (u.setTh t y)) :=
  .setTh h fun hx => Thread.legal_of_same (Thread.legal_nextPc hx) hg hpc

end

section
variable (s : State) (t : Fin 8192) (rd rs1 rs2 : Fin 32)

theorem legal_instr {f : State → Thread → Except Flt State} (hf : LegalOk s (f s (s.th t))) : LegalNext s (s.instr t f) := .next (.issue t hf)

theorem legal_alu (f : Thread → Word) : LegalNext s (s.alu t rd f) := legal_instr s t (.done (.refl s) fun h => Thread.legal_w h (by omega) _)

theorem legal_aluB (f : Thread → Word × Bool) : LegalNext s (s.aluB t rd f) :=
  legal_instr s t (.done (.refl s) fun h => Thread.legal_of_same (Thread.legal_w h (show rd.val ≤ 31 by omega) _) rfl rfl)

theorem legal_aluIf (bad : Bool) (f : Thread → Word) : LegalNext s (s.aluIf t rd bad f) := by
  refine legal_instr s t ?_
  split
  · exact .error _
  · exact .done (.refl s) fun h => Thread.legal_w h (by omega) _

theorem legal_br (cond : Fin 16) (off : Fin 4096) : LegalNext s (execBr t rs1 rs2 cond off s) := by
  refine legal_instr s t ?_
  split
  · exact .error _
  · exact .setTh (.refl s) fun h => Thread.legal_branch h ..
  · exact .done (.refl s) id

theorem legal_jal (z : Fin 256) (off : Fin 8192) : LegalNext s (execJal t rd z off s) := by
  refine legal_instr s t ?_
  split
  · exact .error _
  · exact .setTh (.refl s) fun h => Thread.legal_branch (Thread.legal_w h (by omega) _) ..

theorem legal_jr (funct : Fin 2048) : LegalNext s (execJr t rd rs1 rs2 funct s) := by
  refine legal_instr s t ?_
  split
  · exact .error _
  · exact .setTh (.refl s) fun h => Thread.legal_setPc (Thread.legal_w h (show rd.val ≤ 31 by omega) _) rfl (Nat.mod_lt _ (by decide))

/-- FXTB writes registers up to g31 (05 R176). -/
theorem State.fxtbGo_legal (m : Memory) (d : Nat) (es : List Nat) (n : Nat) (s : State) (x : Thread) (hn : n + es.length ≤ 32) :
    s.legalKept (s.fxtbGo m d n es x).1 ∧ (x.legal = true → (s.fxtbGo m d n es x).2.legal = true) := by
  induction es generalizing n s x with
  | nil => exact ⟨.refl s, id⟩
  | cons e es ih =>
    rw [List.length_cons] at hn
    unfold State.fxtbGo
    obtain ⟨v, b⟩ := fxtbField m d e
    dsimp only
    have hx : x.legal = true → (if b = true then x.setB true else x).legal = true := fun h => by
      split
      · exact Thread.legal_of_same h rfl rfl
      · exact h
    split
    · obtain ⟨hk, hl⟩ := ih (n + 1) s _ (by omega)
      exact ⟨hk, fun h => hl (Thread.legal_w (hx h) (by omega) _)⟩
    · obtain ⟨hk, hl⟩ := ih (n + 1) s.drew _ (by omega)
      have hdrew : s.legalKept s.drew := .of_threads rfl rfl
      exact ⟨hdrew.trans hk, fun h => hl (Thread.legal_w (hx h) (by omega) _)⟩

theorem legal_fxtb (funct : Fin 2048) : LegalNext s (execFxtb t rd rs1 rs2 funct s) := by
  refine legal_instr s t ?_
  extract_lets a
  split
  · exact .error _
  split
  · exact .error _
  split
  next o _ =>
    split
    · exact .error _
    extract_lets es
    split
    · exact .error _
    split
    · exact .error _
    obtain ⟨hkept, hlegal⟩ := State.fxtbGo_legal (State.memOf s.dy.dmem ((t : Nat) / 8)) ((s.th t).r rs1).toNat es 24 s ((s.th t).setB false) (by simp [es])
    exact .done hkept fun h => hlegal (Thread.legal_of_same h rfl rfl)
  · exact .error _

theorem legal_wait (imm : Fin 65536) : LegalNext s (execWait t rd rs1 imm s) := by
  refine legal_instr s t ?_
  extract_lets m
  split
  · exact .error _
  split
  · exact .next (.refl s) rfl rfl
  · exact .next (.refl s) rfl rfl

theorem legal_eclr (imm : Fin 65536) : LegalNext s (execEclr t rd rs1 imm s) := by
  refine legal_instr s t ?_
  split
  · exact .error _
  · exact .next (.refl s) rfl rfl

theorem legal_sig (imm : Fin 65536) : LegalNext s (execSig t rd rs1 imm s) := by
  refine legal_instr s t ?_
  extract_lets target n
  split
  · exact .error _
  split
  · exact .error _
  split
  · exact .of (((State.legalKept.refl s).setTh Thread.legal_nextPc).trans (.raise ..))
  · exact .next (.raise ..) rfl rfl

theorem legal_tset (imm : Fin 65536) : LegalNext s (execTset t rd rs1 imm s) := by
  refine legal_instr s t ?_
  extract_lets v
  split
  · exact .error _
  · exact .next (.refl s) rfl rfl

/-- STAMP takes an even register and the one after it (05 R198). -/
theorem legal_stamp (imm : Fin 65536) : LegalNext s (execStamp t rd rs1 imm s) := by
  refine legal_instr s t ?_
  split
  · exact .error _
  next hform => exact .done (.refl s) fun h => Thread.legal_w (Thread.legal_w h (by omega) _) (by omega) _

theorem legal_mfs (imm : Fin 65536) : LegalNext s (execMfs t rd rs1 imm s) := by
  refine legal_instr s t ?_
  split
  · exact .error _
  split
  · exact .error _
  · exact .done (.refl s) fun h => Thread.legal_w h (by omega) _

theorem legal_stop (z : Fin 67108864) : LegalNext s (execStop t z s) := by
  refine legal_instr s t ?_
  split
  · exact .error _
  split
  · exact .error _
  · exact .next (.refl s) rfl rfl

theorem legal_bkpt (z : Fin 67108864) : LegalNext s (execBkpt t z s) := by
  refine legal_instr s t ?_
  split
  · exact .error _
  split
  · exact .next (.refl s) rfl rfl
  · exact .next (.refl s) rfl rfl

/-! ### Lock instructions and waking -/

theorem State.legalKept.lockInstr (rt z n : Nat) {bad : Thread → Option Nat} {f : State → Thread → State} (hf : s.legalKept (f s (s.th t))) :
    s.legalKept (s.lockInstr t rt z n bad f) := by
  unfold State.lockInstr
  extract_lets x
  split
  · refine .issue t ?_
    split
    · exact LegalOk.error _
    · exact LegalOk.of hf
  · split
    · unfold State.lockErr
      extract_lets k pc s1 s2
      have h2 : s.legalKept s2 := (((State.legalKept.wr s _ _).trans (.wr _ _ _)).trans (.wr _ _ _)).trans ((State.legalKept.wr _ _ _).trans (.wr _ _ _))
      exact h2.trans (.fault ..)
    · exact .issue t (LegalOk.error _)

theorem State.legalKept.takeLock (n : Nat) : s.legalKept (s.takeLock t n (s.th t)) :=
  (State.legalKept.setLock ..).setTh fun h => Thread.legal_of_same (Thread.legal_nextPc h) rfl rfl

theorem legal_lck (z : Fin 8) (imm : Fin 512) : LegalNext s (execLck t rd rs1 z imm s) := by
  refine .next (.lockInstr s t _ _ _ ?_)
  extract_lets l s1
  split
  · exact .takeLock ..
  split
  · exact (State.legalKept.refl s).setTh fun h => Thread.legal_of_same (Thread.legal_nextPc h) rfl rfl
  · exact (State.legalKept.setLock ..).setTh fun h => Thread.legal_of_same (Thread.legal_nextPc h) rfl rfl

theorem legal_ltry (z : Fin 8) (imm : Fin 512) : LegalNext s (execLtry t rd rs1 z imm s) := by
  refine .next (.lockInstr s t _ _ _ ?_)
  split
  · exact .takeLock ..
  · exact (State.legalKept.refl s).setTh fun h => Thread.legal_of_same (Thread.legal_nextPc h) rfl rfl

theorem legal_lrel (z : Fin 8) (imm : Fin 512) : LegalNext s (execLrel t rd rs1 z imm s) := by
  refine .next (.lockInstr s t _ _ _ (State.legalKept.trans ?_ (.passLock ..)))
  exact (State.legalKept.refl s).setTh fun h => Thread.legal_of_same (Thread.legal_nextPc h) rfl rfl

theorem legal_threadWake : LegalNext s (execThreadWake t s) := by
  unfold execThreadWake
  extract_lets x due
  split
  · exact .next (.refl s)
  split
  next p _ =>
    obtain ⟨inSaucer, bit⟩ := s.parked t p
    dsimp only
    split
    · exact .next (.refl s)
    · have hun : s.legalKept (if inSaucer = true then s.unpark t else s) := by
        split
        · exact .unpark ..
        · exact .refl s
      exact .next ((hun.trans (.leaveWait ..)).setTh fun h => Thread.legal_of_same h rfl rfl)
  · split
    · exact .next ((State.legalKept.leaveWait ..).setTh fun h => Thread.legal_of_same h rfl rfl)
    · exact .next (.refl s)

end

/-- A plain command keeps threads legal. -/
theorem legal_exec (s : State) (c : Instr) (hc : plainInstr c = true) : LegalNext s (exec c s) := by
  cases c with
  | add t | sub t | and t | or t | xor t | shl t | shr t | sar t | mul t | mulhu t | min t | max t => exact legal_alu s t _ _
  | addi t | andi t | ori t | xori t => exact legal_alu s t _ _
  | addsu t | subsu t => exact legal_aluB s t _ _
  | bswap t | popc t | shli t | shri t | sari t | movz t | movk t => exact legal_aluIf s t _ _ _
  | fxt t | fxts t | fins t | rchk t => exact legal_aluIf s t _ _ _
  | br t => exact legal_br s t _ _ _ _
  | jal t => exact legal_jal s t _ _ _
  | jr t => exact legal_jr s t _ _ _ _
  | fxtb t => exact legal_fxtb s t _ _ _ _
  | lck t => exact legal_lck s t _ _ _ _
  | ltry t => exact legal_ltry s t _ _ _ _
  | lrel t => exact legal_lrel s t _ _ _ _
  | wait t => exact legal_wait s t _ _ _
  | eclr t => exact legal_eclr s t _ _ _
  | sig t => exact legal_sig s t _ _ _
  | tset t => exact legal_tset s t _ _ _
  | stamp t => exact legal_stamp s t _ _ _
  | mfs t => exact legal_mfs s t _ _ _
  | stop t => exact legal_stop s t _
  | bkpt t => exact legal_bkpt s t _
  | threadWake t => exact legal_threadWake s t
  | _ => cases hc

/-- Settles O28: every plain instruction, fault and wake keeps legal threads legal, and a step takes one of them. -/
theorem threadsStayLegal : Obligations.ThreadsStayLegal := by
  unfold Obligations.ThreadsStayLegal
  rintro s u ⟨hplain, hlegal⟩ hstep
  cases hpending : s.pending with
  | nil =>
    unfold step at hstep
    rw [hpending] at hstep
    cases hstep
    exact ⟨hplain, hlegal⟩
  | cons c cs =>
    rw [step_cons s c cs hpending] at hstep
    rw [hpending, List.all_cons, Bool.and_eq_true] at hplain
    obtain ⟨hpend, hkept⟩ := legal_exec { s with pending := cs } c hplain.1 u hstep
    exact ⟨by rw [hpend]; exact hplain.2, fun j => hkept j (hlegal j)⟩

end Sys2Proof.Machine

namespace Sys2Proof.Machine
open Sys2Proof

/-! ### An FXTB that meets an uncorrectable word changes more than its thread -/

/-- Thread 9 runs, and the word at 0x1000 of engine 1's data memory is uncorrectable, its detection recorded: an FXTB whose template address is g0 reads it. -/
def badTemplate : State :=
  let s := (State.reset.wr RST_STATUS.STATE 1).setTh 9 { st := .run }
  { s with dy := { s.dy with bad := [{ mem := 17, word := 512 }] } }

/-- The fault at an FXTB's template word takes the record of the error's detection, so that the next access that meets the word makes a record of its own
(14 Table 14-4). -/
theorem fxtb_badTemplate : ∃ u, exec (.fxtb 9 0 0 0 0) badTemplate = .next u ∧ u.dy.bad = [{ mem := 17, word := 512, logged := false }] := by
  let e : Flt := { cause := 4, addr := some 0, ecc := some (0, 17, 4096) }
  have hready : badTemplate.ready 9 := by decide +kernel
  have hexec : exec (.fxtb 9 0 0 0 0) badTemplate = .next (badTemplate.faultAt 9 e) := congrArg Host.Outcome.next ((State.issue_ready hready _).trans rfl)
  have hmeet : (badTemplate.meetBad e.ecc).dy.bad = [{ mem := 17, word := 512, logged := false }] := rfl
  obtain ⟨-, -, -, -, -, -, -, -, -, -, -, -, -, hframe, -⟩ :=
    State.fault_effect (s := badTemplate.meetBad e.ecc) (t := 9) (by decide +kernel) (by decide +kernel) e (by decide)
  have hack : ∀ (s : State) (l : List Nat), (s.ackMem l).dy = s.dy := fun s l => by
    refine (State.logKept.foldl (low := False) l (fun s n _ => ?_) s).dy
    split
    · exact .clearFirst s nofun
    · exact .refl s
  refine ⟨_, hexec, ?_⟩
  show (((badTemplate.meetBad e.ecc).fault 9 e).ackMemOf 9 e.ecc).dy.bad = _
  rw [State.ackMemOf, hack, hframe]
  exact hmeet

/-- Refutes O27: FXTB reads its template and its fields from engine data memory, and the fault at an uncorrectable word there takes the record of the error's detection,
which is neither the thread's, the supervisor's nor a register field. -/
theorem not_instructionFrame : ¬ Obligations.InstructionFrame := by
  unfold Obligations.InstructionFrame
  intro h
  obtain ⟨u, hu, hbad⟩ := fxtb_badTemplate
  obtain ⟨hframe, -⟩ := h badTemplate u 9 0 0 0 0 0 0 0 0 0 0 0 0 0 _ (by simp) (by decide +kernel) (by decide +kernel) hu
  have hsame : u.dy.bad = badTemplate.dy.bad := by rw [hframe]
  exact absurd (hbad.symm.trans hsame) (by decide +kernel)

/-! ### One step -/

/-- Settles O58: a step takes the front of the queue, where a word that spells a command puts it. -/
theorem stepTakesTheFrontCommand : Obligations.StepTakesTheFrontCommand := by
  unfold Obligations.StepTakesTheFrontCommand
  refine ⟨step_cons, fun s h => ?_, fun s nbits w => ⟨fun c h => ?_, fun h => ?_⟩⟩
  · unfold step
    rw [h]
  · have hfetch : s.withFetchWord nbits w = { s with pending := c :: s.pending } := by
      unfold State.withFetchWord
      rw [h]
    rw [hfetch, step_cons _ c s.pending rfl]
  · unfold State.withFetchWord
    rw [h]

end Sys2Proof.Machine

namespace Sys2Proof.Machine
open Sys2Proof

/-! ### The word that spells an instruction -/

/-- A 32-bit word of the R form: major opcode, rd, rs1, rs2, funct (05 Table 05-1). -/
def wordR (op rd r1 r2 fn : Nat) : Nat := op * 2 ^ 26 + rd * 2 ^ 21 + r1 * 2 ^ 16 + r2 * 2 ^ 11 + fn

/-- A 32-bit word of the I form: major opcode, rd, rs1, imm16 (05 Table 05-1). -/
def wordI (op rd r1 im : Nat) : Nat := op * 2 ^ 26 + rd * 2 ^ 21 + r1 * 2 ^ 16 + im

/-- The 32-bit word that spells a thread instruction (05 Tables 05-1 to 05-15); 0 for any other command. -/
def dyarisWord : Instr → Nat
  | .add _ rd r1 r2 => wordR 0 rd r1 r2 0 | .sub _ rd r1 r2 => wordR 0 rd r1 r2 1 | .and _ rd r1 r2 => wordR 0 rd r1 r2 2 | .or _ rd r1 r2 => wordR 0 rd r1 r2 3
  | .xor _ rd r1 r2 => wordR 0 rd r1 r2 4 | .shl _ rd r1 r2 => wordR 0 rd r1 r2 5 | .shr _ rd r1 r2 => wordR 0 rd r1 r2 6 | .sar _ rd r1 r2 => wordR 0 rd r1 r2 7
  | .mul _ rd r1 r2 => wordR 0 rd r1 r2 8 | .mulhu _ rd r1 r2 => wordR 0 rd r1 r2 9 | .addsu _ rd r1 r2 => wordR 0 rd r1 r2 10 | .subsu _ rd r1 r2 => wordR 0 rd r1 r2 11
  | .min _ rd r1 r2 => wordR 0 rd r1 r2 12 | .max _ rd r1 r2 => wordR 0 rd r1 r2 13 | .bswap _ rd r1 r2 => wordR 0 rd r1 r2 14 | .popc _ rd r1 r2 => wordR 0 rd r1 r2 15
  | .addi _ rd r1 im => wordI 1 rd r1 im | .andi _ rd r1 im => wordI 2 rd r1 im | .ori _ rd r1 im => wordI 3 rd r1 im | .xori _ rd r1 im => wordI 4 rd r1 im
  | .shli _ rd r1 im => wordI 5 rd r1 im | .shri _ rd r1 im => wordI 6 rd r1 im | .sari _ rd r1 im => wordI 7 rd r1 im
  | .movz _ rd hw z im => wordI 8 rd (hw * 2 ^ 3 + z) im | .movk _ rd hw z im => wordI 9 rd (hw * 2 ^ 3 + z) im
  | .br _ r1 r2 cond off => wordI 0x0C r1 r2 (cond * 2 ^ 12 + off)
  | .jal _ rd z off => 0x0D * 2 ^ 26 + rd * 2 ^ 21 + z * 2 ^ 13 + off
  | .jr _ rd r1 r2 fn => wordR 0x0E rd r1 r2 fn
  | .fxt _ rd r1 pos len => wordI 0x0F rd r1 (pos * 2 ^ 10 + len * 2 ^ 4 + 0) | .fxts _ rd r1 pos len => wordI 0x0F rd r1 (pos * 2 ^ 10 + len * 2 ^ 4 + 1)
  | .fins _ rd r1 pos len => wordI 0x0F rd r1 (pos * 2 ^ 10 + len * 2 ^ 4 + 2)
  | .ld _ rt base size sx be off => wordI 0x10 rt base (size * 2 ^ 14 + b2n sx * 2 ^ 13 + b2n be * 2 ^ 12 + off)
  | .st _ rt base size sx be off => wordI 0x11 rt base (size * 2 ^ 14 + b2n sx * 2 ^ 13 + b2n be * 2 ^ 12 + off)
  | .aadd _ rd r1 r2 fn => wordR 0x12 rd r1 r2 fn | .fxtb _ rd r1 r2 fn => wordR 0x13 rd r1 r2 fn
  | .tlk _ rt rs tbl w z => wordI 0x14 rt rs (tbl * 2 ^ 12 + w * 2 ^ 9 + z) | .tst _ rt rs tbl w z => wordI 0x15 rt rs (tbl * 2 ^ 12 + w * 2 ^ 9 + z)
  | .rchk _ rd r1 r2 fn => wordR 0x16 rd r1 r2 fn
  | .lck _ rt r1 z i => wordI 0x18 rt r1 (0 * 2 ^ 12 + z * 2 ^ 9 + i) | .ltry _ rt r1 z i => wordI 0x18 rt r1 (1 * 2 ^ 12 + z * 2 ^ 9 + i)
  | .lrel _ rt r1 z i => wordI 0x18 rt r1 (2 * 2 ^ 12 + z * 2 ^ 9 + i)
  | .rsv _ rt r1 z i => wordI 0x19 rt r1 (0 * 2 ^ 12 + z * 2 ^ 9 + i) | .rsvt _ rt r1 z i => wordI 0x19 rt r1 (1 * 2 ^ 12 + z * 2 ^ 9 + i)
  | .stg _ rt r1 z i => wordI 0x19 rt r1 (2 * 2 ^ 12 + z * 2 ^ 9 + i) | .snd _ rt r1 z i => wordI 0x19 rt r1 (3 * 2 ^ 12 + z * 2 ^ 9 + i)
  | .rcv _ rt r1 z i => wordI 0x19 rt r1 (4 * 2 ^ 12 + z * 2 ^ 9 + i) | .rsvr _ rt r1 z i => wordI 0x19 rt r1 (5 * 2 ^ 12 + z * 2 ^ 9 + i)
  | .sndr _ rt r1 z i => wordI 0x19 rt r1 (6 * 2 ^ 12 + z * 2 ^ 9 + i)
  | .wait _ rd r1 im => wordI 0x1A rd r1 im | .eclr _ rd r1 im => wordI 0x1B rd r1 im | .sig _ rd r1 im => wordI 0x1C rd r1 im | .tset _ rd r1 im => wordI 0x1D rd r1 im
  | .stamp _ rd r1 im => wordI 0x1E rd r1 im | .mfs _ rd r1 im => wordI 0x1F rd r1 im | .fget _ rd r1 im => wordI 0x20 rd r1 im
  | .mfill _ rd r1 r2 fn => wordR 0x21 rd r1 r2 fn | .mdrop _ rd r1 r2 fn => wordR 0x22 rd r1 r2 fn | .hand _ rd r1 r2 fn => wordR 0x23 rd r1 r2 fn
  | .rget _ rd r1 r2 fn => wordR 0x24 rd r1 r2 fn | .dma _ rd r1 r2 fn => wordR 0x25 rd r1 r2 fn
  | .stop _ z => 0x26 * 2 ^ 26 + z | .bkpt _ z => 0x27 * 2 ^ 26 + z
  | _ => 0

/-- The 64-bit microword that spells a micro-operation: UOP, A, B, W (07 Table 07-5); 0 for any other command. -/
def dripWord : Instr → Nat
  | .dripNop _ _ a b v => microword 0x00 a b v | .dripCmd _ _ a b v => microword 0x01 a b v | .dripAddr _ _ a b v => microword 0x02 a b v
  | .dripLit _ _ a b v => microword 0x03 a b v | .dripTbl _ _ a b v => microword 0x04 a b v | .dripBset _ _ a b v => microword 0x05 a b v
  | .dripDout _ _ a b v => microword 0x06 a b v | .dripDin _ _ a b v => microword 0x07 a b v | .dripWaitc _ _ a b v => microword 0x08 a b v
  | .dripDelay _ _ a b v => microword 0x09 a b v | .dripBr _ _ a b v => microword 0x0A a b v | .dripCall _ _ a b v => microword 0x0B a b v
  | .dripRet _ _ a b v => microword 0x0C a b v | .dripLdc _ _ a b v => microword 0x0D a b v | .dripBusrel _ _ a b v => microword 0x0E a b v
  | .dripSrd _ _ a b v _ => microword 0x0F a b v | .dripEnd _ _ a b v => microword 0x10 a b v
  | _ => 0
where
  microword (uop a b : Nat) (v : BitVec 32) : Nat := uop * 2 ^ 58 + a * 2 ^ 48 + b * 2 ^ 32 + v.toNat

theorem b2n_beq_one {x : Nat} (h : x < 2) : b2n (x == 1) = x := by
  obtain rfl | rfl : x = 0 ∨ x = 1 := by omega
  · rfl
  · rfl

section
variable {w op sub fn im : Nat}

theorem wordR_fields (hw : w < 2 ^ 32) (hop : w / 2 ^ 26 % 2 ^ (31 - 26 + 1) = op) (hfn : fn = w % 2 ^ 11) :
    wordR op (w / 2 ^ 21 % 2 ^ (25 - 21 + 1) % 32) (w / 2 ^ 16 % 2 ^ (20 - 16 + 1) % 32) (w / 2 ^ 11 % 2 ^ (15 - 11 + 1) % 32) fn = w := by
  unfold wordR; omega

theorem wordI_fields (hw : w < 2 ^ 32) (hop : w / 2 ^ 26 % 2 ^ (31 - 26 + 1) = op) (him : im = w % 2 ^ 16) :
    wordI op (w / 2 ^ 21 % 2 ^ (25 - 21 + 1) % 32) (w / 2 ^ 16 % 2 ^ (20 - 16 + 1) % 32) im = w := by
  unfold wordI; omega

/-! The funct that picks an instruction of the ALU group, and that is an operand. -/

theorem funct_alu (h : w / 2 ^ 0 % 2 ^ (10 - 0 + 1) = fn) : fn = w % 2 ^ 11 := by omega

theorem funct_whole (w : Nat) : w / 2 ^ 0 % 2 ^ (10 - 0 + 1) % 2048 = w % 2 ^ 11 := by omega

/-! The fields of imm16: whole; of BR; of the field instructions; of LD and ST; of TLK and TST; of the lock and channel instructions. -/

theorem imm_whole (w : Nat) : w / 2 ^ 0 % 2 ^ (15 - 0 + 1) % 65536 = w % 2 ^ 16 := by omega

theorem imm_br (w : Nat) : w / 2 ^ 12 % 2 ^ (15 - 12 + 1) % 16 * 2 ^ 12 + w / 2 ^ 0 % 2 ^ (11 - 0 + 1) % 4096 = w % 2 ^ 16 := by omega

theorem imm_field (h : w / 2 ^ 0 % 2 ^ (3 - 0 + 1) = sub) :
    w / 2 ^ 10 % 2 ^ (15 - 10 + 1) % 64 * 2 ^ 10 + w / 2 ^ 4 % 2 ^ (9 - 4 + 1) % 64 * 2 ^ 4 + sub = w % 2 ^ 16 := by omega

theorem imm_access (w : Nat) : w / 2 ^ 14 % 2 ^ (15 - 14 + 1) % 4 * 2 ^ 14 + b2n (w / 2 ^ 13 % 2 ^ (13 - 13 + 1) == 1) * 2 ^ 13
    + b2n (w / 2 ^ 12 % 2 ^ (12 - 12 + 1) == 1) * 2 ^ 12 + w / 2 ^ 0 % 2 ^ (11 - 0 + 1) % 4096 = w % 2 ^ 16 := by
  rw [b2n_beq_one (by omega), b2n_beq_one (by omega)]; omega

theorem imm_table (w : Nat) : w / 2 ^ 12 % 2 ^ (15 - 12 + 1) % 16 * 2 ^ 12 + w / 2 ^ 9 % 2 ^ (11 - 9 + 1) % 8 * 2 ^ 9 + w / 2 ^ 0 % 2 ^ (8 - 0 + 1) % 512 = w % 2 ^ 16 := by
  omega

theorem imm_sync (h : w / 2 ^ 12 % 2 ^ (15 - 12 + 1) = sub) :
    sub * 2 ^ 12 + w / 2 ^ 9 % 2 ^ (11 - 9 + 1) % 8 * 2 ^ 9 + w / 2 ^ 0 % 2 ^ (8 - 0 + 1) % 512 = w % 2 ^ 16 := by omega

theorem wordI_mov (hw : w < 2 ^ 32) (hop : w / 2 ^ 26 % 2 ^ (31 - 26 + 1) = op) :
    wordI op (w / 2 ^ 21 % 2 ^ (25 - 21 + 1) % 32) (w / 2 ^ 19 % 2 ^ (20 - 19 + 1) % 4 * 2 ^ 3 + w / 2 ^ 16 % 2 ^ (18 - 16 + 1) % 8)
      (w / 2 ^ 0 % 2 ^ (15 - 0 + 1) % 65536) = w := by
  unfold wordI; omega

theorem word_jal (hw : w < 2 ^ 32) (hop : w / 2 ^ 26 % 2 ^ (31 - 26 + 1) = op) :
    op * 2 ^ 26 + w / 2 ^ 21 % 2 ^ (25 - 21 + 1) % 32 * 2 ^ 21 + w / 2 ^ 13 % 2 ^ (20 - 13 + 1) % 256 * 2 ^ 13 + w / 2 ^ 0 % 2 ^ (12 - 0 + 1) % 8192 = w := by omega

theorem word_whole (hw : w < 2 ^ 32) (hop : w / 2 ^ 26 % 2 ^ (31 - 26 + 1) = op) : op * 2 ^ 26 + w / 2 ^ 0 % 2 ^ (25 - 0 + 1) % 67108864 = w := by omega

end

/-- A word that spells a thread instruction is the word of that instruction. -/
theorem dyarisWord_decode {t : Fin 8192} {w : Nat} {i : Instr} (hw : w < 2 ^ 32) (h : decodeDyaris t w = some i) : dyarisWord i = w := by
  unfold decodeDyaris at h
  extract_lets f rd r1 r2 fn im z n at h
  split at h
  case h_1 hop => -- the ALU group, by funct
    split at h
    case h_17 => cases h
    all_goals
      next hfn =>
      cases h
      exact wordR_fields hw hop (funct_alu hfn)
  case h_9 hop | h_10 hop => cases h; exact wordI_mov hw hop
  case h_11 hop => cases h; exact wordI_fields hw hop (imm_br w)
  case h_12 hop => cases h; exact word_jal hw hop
  case h_14 hop => -- the field group
    split at h
    case h_4 => cases h
    all_goals
      next hsub =>
      cases h
      exact wordI_fields hw hop (imm_field hsub)
  case h_15 hop | h_16 hop => cases h; exact wordI_fields hw hop (imm_access w)
  case h_19 hop | h_20 hop => cases h; exact wordI_fields hw hop (imm_table w)
  case h_22 hop => -- the lock group
    split at h
    case h_4 => cases h
    all_goals
      next hsub =>
      cases h
      exact wordI_fields hw hop (imm_sync hsub)
  case h_23 hop => -- the channel group
    split at h
    case h_8 => cases h
    all_goals
      next hsub =>
      cases h
      exact wordI_fields hw hop (imm_sync hsub)
  case h_13 hop | h_17 hop | h_18 hop | h_21 hop | h_31 hop | h_32 hop | h_33 hop | h_34 hop | h_35 hop => cases h; exact wordR_fields hw hop (funct_whole w)
  case h_36 hop | h_37 hop => cases h; exact word_whole hw hop
  case h_38 => cases h
  all_goals
    next hop =>
    cases h
    exact wordI_fields hw hop (imm_whole w)

/-- A microword that spells a micro-operation is the word of that micro-operation. -/
theorem dripWord_decode {c : Fin 32} {l : Fin 16} {sr : BitVec 8} {w : Nat} {i : Instr} (hw : w < 2 ^ 64) (h : decodeDrip c l sr w = some i) : dripWord i = w := by
  unfold decodeDrip at h
  extract_lets a b v at h
  split at h
  all_goals
    cases h
  all_goals
    simp only [dripWord, dripWord.microword, a, b, v, Fin.val_ofNat, BitVec.toNat_ofNat] at *
    omega

/-- Settles O60: the word is computed back from the instruction that it spells. -/
theorem wordsKeepTheirBits : Obligations.WordsKeepTheirBits := by
  unfold Obligations.WordsKeepTheirBits
  exact ⟨fun t w v i hw hv h h' => (dyarisWord_decode hw h).symm.trans (dyarisWord_decode hv h'),
    fun c l sr w v i hw hv h h' => (dripWord_decode hw h).symm.trans (dripWord_decode hv h')⟩

end Sys2Proof.Machine

namespace Sys2Proof.Machine
open Sys2Proof

/-! ### Words: minimum and maximum, saturation, byte order, bits -/

theorem slt_min (a b : Word) : (if BitVec.slt b a then b else a) = BitVec.ofInt 64 (min a.toInt b.toInt) := by
  by_cases h : b.toInt < a.toInt
  · rw [if_pos (BitVec.slt_iff_toInt_lt.mpr h), min_eq_right h.le, BitVec.ofInt_toInt]
  · rw [if_neg (mt BitVec.slt_iff_toInt_lt.mp h), min_eq_left (not_lt.mp h), BitVec.ofInt_toInt]

theorem slt_max (a b : Word) : (if BitVec.slt a b then b else a) = BitVec.ofInt 64 (max a.toInt b.toInt) := by
  by_cases h : a.toInt < b.toInt
  · rw [if_pos (BitVec.slt_iff_toInt_lt.mpr h), max_eq_right h.le, BitVec.ofInt_toInt]
  · rw [if_neg (mt BitVec.slt_iff_toInt_lt.mp h), max_eq_left (not_lt.mp h), BitVec.ofInt_toInt]

theorem add_saturated (a b : Word) : (if addSaturates a b then BitVec.ofNat 64 (2 ^ 64 - 1) else a + b) = BitVec.ofNat 64 (min (a.toNat + b.toNat) (2 ^ 64 - 1)) := by
  unfold addSaturates
  by_cases h : 2 ^ 64 ≤ a.toNat + b.toNat
  · rw [if_pos (decide_eq_true h), min_eq_right (by omega)]
  · rw [if_neg (by simpa using h), min_eq_left (by omega)]
    bv_omega

theorem sub_saturated (a b : Word) : (if subSaturates a b then 0 else a - b) = BitVec.ofNat 64 (a.toNat - b.toNat) := by
  unfold subSaturates
  by_cases h : a.toNat < b.toNat
  · rw [if_pos (decide_eq_true h), Nat.sub_eq_zero_of_le h.le]
    rfl
  · rw [if_neg (by simpa using h)]
    bv_omega

theorem popcount_eq (v : Word) : popcount v = (List.range 64).countP (fun i => v.getLsbD i) := by
  have hfold : ∀ (l : List Nat) n, l.foldl (fun a i => a + v.toNat / 2 ^ i % 2) n = n + l.countP (fun i => v.getLsbD i) := by
    intro l
    induction l with
    | nil => exact fun n => rfl
    | cons i l ih =>
      intro n
      have hbit : v.toNat / 2 ^ i % 2 = if v.getLsbD i = true then 1 else 0 := by
        rw [BitVec.getLsbD, Nat.testBit_eq_decide_div_mod_eq]
        simp only [decide_eq_true_eq]
        split <;> omega
      rw [List.foldl_cons, ih, List.countP_cons, hbit]
      omega
  rw [popcount, hfold, Nat.zero_add]

/-- A bit of a number whose bits `lo` to `lo + w - 1` have been replaced. -/
theorem testBit_setBits (v lo w x i : Nat) : (setBits v lo w x).testBit i = if lo ≤ i ∧ i < lo + w then x.testBit (i - lo) else v.testBit i := by
  have hform : setBits v lo w x = 2 ^ lo * (2 ^ w * (v / 2 ^ (lo + w)) + x % 2 ^ w) + v % 2 ^ lo := by
    rw [setBits, Nat.pow_add]; ring
  rw [hform, Nat.testBit_two_pow_mul_add _ (Nat.mod_lt _ (Nat.two_pow_pos lo)), Nat.testBit_two_pow_mul_add _ (Nat.mod_lt _ (Nat.two_pow_pos w)), Nat.testBit_mod_two_pow,
    Nat.testBit_mod_two_pow, Nat.testBit_div_two_pow]
  by_cases hlo : i < lo
  · simp [hlo, show ¬ lo ≤ i by omega]
  · by_cases hw : i < lo + w
    · simp [hlo, hw, show i - lo < w by omega, show lo ≤ i by omega]
    · simp [hlo, hw, show ¬ i - lo < w by omega, show i - lo - w + (lo + w) = i by omega]

/-- The two's complement value of a field is that of a bit vector of its width. -/
theorem toInt_ofNat {w n : Nat} (h : n < 2 ^ w) : toInt w n = (BitVec.ofNat w n).toInt := by
  have hx := toInt_toNat (BitVec.ofNat w n)
  rwa [BitVec.toNat_ofNat, Nat.mod_mod, Nat.mod_eq_of_lt h] at hx

/-! ### Immediates -/

theorem sextImm_eq (imm : Fin 65536) : sextImm imm = (BitVec.ofNat 16 imm).signExtend 64 := by
  rw [sextImm, toInt_ofNat imm.isLt]
  rfl

theorem zextImm_eq (imm : Fin 65536) : zextImm imm = (BitVec.ofNat 16 imm).setWidth 64 := by
  apply BitVec.eq_of_toNat_eq
  rw [zextImm, BitVec.toNat_setWidth, BitVec.toNat_ofNat, BitVec.toNat_ofNat, Nat.mod_eq_of_lt (b := 2 ^ 16) imm.isLt]

theorem movz_eq (imm : Fin 65536) (hw : Fin 4) : BitVec.ofNat 64 (imm * 2 ^ (16 * hw.val)) = (BitVec.ofNat 16 imm).setWidth 64 <<< (16 * hw.val) := by
  rw [← zextImm_eq, zextImm]
  apply BitVec.eq_of_toNat_eq
  rw [BitVec.toNat_shiftLeft, BitVec.toNat_ofNat, BitVec.toNat_ofNat, Nat.shiftLeft_eq, Nat.mod_mul_mod]

theorem movk_eq (v : Word) (imm : Fin 65536) (hw : Fin 4) : BitVec.ofNat 64 (setBits v.toNat (16 * hw.val) 16 imm)
    = (v &&& ~~~(0xFFFF#64 <<< (16 * hw.val))) ||| ((BitVec.ofNat 16 imm).setWidth 64 <<< (16 * hw.val)) := by
  rw [← zextImm_eq, zextImm]
  ext i hi
  have hones : (0xFFFF#64).getLsbD (i - 16 * hw.val) = decide (i - 16 * hw.val < 16) := by
    rw [BitVec.getLsbD_ofNat, show (0xFFFF : Nat) = 2 ^ 16 - 1 from rfl, Nat.testBit_two_pow_sub_one, Bool.and_eq_right_iff_imp]
    simp; omega
  have himm : imm.val.testBit (i - 16 * hw.val) = true → i - 16 * hw.val < 16 := fun h => by
    by_contra hge
    rw [Nat.testBit_eq_false_of_lt (imm.isLt.trans_le (Nat.pow_le_pow_right Nat.two_pos (not_lt.mp hge)))] at h
    cases h
  rw [← BitVec.getLsbD_eq_getElem, ← BitVec.getLsbD_eq_getElem, BitVec.getLsbD_or, BitVec.getLsbD_and, BitVec.getLsbD_not, BitVec.getLsbD_shiftLeft, BitVec.getLsbD_shiftLeft,
    hones, BitVec.getLsbD_ofNat, BitVec.getLsbD_ofNat, testBit_setBits]
  by_cases hlo : i < 16 * hw.val
  · simp [hi, hlo, show ¬ 16 * hw.val ≤ i by omega]
    rfl
  · by_cases hin : i - 16 * hw.val < 16
    · simp [hi, hlo, hin, show 16 * hw.val ≤ i by omega, show i < 16 * hw.val + 16 by omega]
      omega
    · have hzero : imm.val.testBit (i - 16 * hw.val) = false := by simpa using mt himm hin
      simp [hi, hlo, hin, hzero, show ¬ i < 16 * hw.val + 16 by omega]
      rfl

/-! ### The instructions of the ALU group, immediates and moves -/

section
variable {s : State} {t : Fin 8192} (h : s.ready t) (rd : Fin 32)
include h

/-- An ALU instruction whose value is `v` (05 R173). -/
theorem State.alu_writes {f : Thread → Word} {v : Word} (hv : f (s.th t) = v) :
    ∃ u, s.alu t rd f = .next u ∧ RegStep s u t rd v (s.th t).b (((s.th t).pc + 1) % 8192) := hv ▸ State.alu_step rd h f

/-- The same for one with a condition on its encoding, which holds (05 R168). -/
theorem State.aluIf_writes {bad : Bool} {f : Thread → Word} {v : Word} (hbad : bad = false) (hv : f (s.th t) = v) :
    ∃ u, s.aluIf t rd bad f = .next u ∧ RegStep s u t rd v (s.th t).b (((s.th t).pc + 1) % 8192) := by
  subst hbad; exact State.alu_writes h rd hv

theorem State.aluB_writes {f : Thread → Word × Bool} {v : Word} {b : Bool} (hv : (f (s.th t)).1 = v) (hb : (f (s.th t)).2 = b) :
    ∃ u, s.aluB t rd f = .next u ∧ RegStep s u t rd v b (((s.th t).pc + 1) % 8192) := hv ▸ hb ▸ State.aluB_step rd h f

end

/-- Settles O10: each instruction is an ALU instruction with the table's value. -/
theorem registerArithmetic : Obligations.RegisterArithmetic := by
  unfold Obligations.RegisterArithmetic
  intro s t rd rs1 rs2 h x a b does
  have hmul : a * b = BitVec.ofNat 64 (a.toNat * b.toNat) := BitVec.eq_of_toNat_eq (by rw [BitVec.toNat_mul, BitVec.toNat_ofNat])
  exact ⟨State.alu_writes h rd rfl, State.alu_writes h rd rfl, State.alu_writes h rd rfl, State.alu_writes h rd rfl, State.alu_writes h rd rfl, State.alu_writes h rd rfl,
    State.alu_writes h rd rfl, State.alu_writes h rd rfl, State.alu_writes h rd hmul, State.alu_writes h rd rfl, State.alu_writes h rd (slt_min a b),
    State.alu_writes h rd (slt_max a b)⟩

/-- Settles O11: the saturated values and the count of bits are those of numbers. -/
theorem saturationAndBitCounts : Obligations.SaturationAndBitCounts := by
  unfold Obligations.SaturationAndBitCounts
  intro s t rd rs1 rs2 h x a b
  exact ⟨State.aluB_writes h rd (add_saturated a b) rfl, State.aluB_writes h rd (sub_saturated a b) rfl, State.aluIf_writes h rd rfl rfl,
    State.aluIf_writes h rd rfl (congrArg (BitVec.ofNat 64) (popcount_eq a))⟩

/-- Settles O12: immediates as bit vectors, and the place of MOVZ's and MOVK's. -/
theorem immediatesAndMoves : Obligations.ImmediatesAndMoves := by
  unfold Obligations.ImmediatesAndMoves
  intro s t rd rs1 imm sh hw h x a i16 amt does
  have hamt : badShift amt = false := decide_eq_false (by show ¬ 64 ≤ sh.val; omega)
  refine ⟨State.alu_writes h rd ?_, State.alu_writes h rd ?_, State.alu_writes h rd ?_, State.alu_writes h rd ?_, State.aluIf_writes h rd hamt rfl,
    State.aluIf_writes h rd hamt rfl, State.aluIf_writes h rd hamt rfl, State.aluIf_writes h rd rfl (movz_eq imm hw), State.aluIf_writes h rd rfl (movk_eq (x.r rd) imm hw)⟩
  · exact congrArg (a + ·) (sextImm_eq imm)
  · exact congrArg (a &&& ·) (zextImm_eq imm)
  · exact congrArg (a ||| ·) (zextImm_eq imm)
  · exact congrArg (a ^^^ ·) (zextImm_eq imm)

/-! ### Branches -/

section
variable {s : State} {t : Fin 8192} (h : s.ready t) (rs1 rs2 : Fin 32)
include h

/-- A branch instruction goes to `pc` and writes the link value, or nothing (05 R174). -/
theorem State.goes {f : State → Thread → Except Flt State} (rd : Fin 32) (v : Word) (pc : Nat) (hf : f s (s.th t) = .ok (s.setTh t { (s.th t).w rd v with pc := pc })) :
    ∃ u, s.instr t f = .next u ∧ RegStep s u t rd v (s.th t).b pc := by
  refine State.regStep h (hf.trans ?_)
  rw [Thread.w_only]
  rfl

/-- BR with a defined condition (05 R174). -/
theorem br_effect (cond : Fin 16) (off : Fin 4096) {c : Bool} (hc : branchHolds (s.th t) cond rs1 rs2 = some c) :
    ∃ u, exec (.br t rs1 rs2 cond off) s = .next u ∧ RegStep s u t 0 0 (s.th t).b
      (if c then ((((s.th t).pc : Int) + (BitVec.ofNat 12 off).toInt) % 8192).toNat else ((s.th t).pc + 1) % 8192) := by
  refine State.goes h 0 0 _ ?_
  simp only [hc]
  cases c with
  | true => rw [if_pos rfl, ← toInt_ofNat off.isLt]; rfl
  | false => rfl

omit h in
/-- The conditions that compare two registers (05 Table 05-6). -/
theorem branchHolds_compare (x : Thread) (cond : Fin 6) : branchHolds x cond rs1 rs2 = some (match cond.val with
    | 0 => x.r rs1 == x.r rs2 | 1 => x.r rs1 != x.r rs2
    | 2 => decide ((x.r rs1).toInt < (x.r rs2).toInt) | 3 => decide ((x.r rs2).toInt ≤ (x.r rs1).toInt)
    | 4 => decide ((x.r rs1).toNat < (x.r rs2).toNat) | _ => decide ((x.r rs2).toNat ≤ (x.r rs1).toNat)) := by
  match cond with
  | 0 | 1 | 2 | 4 => rfl
  | 3 => simp only [branchHolds, BitVec.slt, ← decide_not, not_lt]; rfl
  | 5 => simp only [branchHolds, BitVec.ult, ← decide_not, not_lt]; rfl

end

/-- Settles O13: the conditions of BR by the branch condition's own values, and the offsets as bit vectors. -/
theorem branches : Obligations.Branches := by
  unfold Obligations.Branches
  intro s t rd rs1 rs2 cond neg off off13 h x holds there
  refine ⟨?_, ?_, State.goes h rd (BitVec.ofNat 64 (x.pc + 1)) _ ?_, State.goes h rd (BitVec.ofNat 64 (x.pc + 1)) _ ?_⟩
  · exact br_effect h rs1 rs2 ⟨cond, _⟩ off (branchHolds_compare rs1 rs2 x cond)
  · refine br_effect h 0 0 _ off ?_
    cases neg with
    | true => simp [branchHolds, x]
    | false => simp [branchHolds, x]
  · rw [← toInt_ofNat off13.isLt]
    simp [Thread.branch, Thread.link, x]
  · rfl

end Sys2Proof.Machine

namespace Sys2Proof.Machine
open Sys2Proof

/-! ### The end of an instruction that changes one thread -/

section
variable {s v : State} {t : Nat} (h : s.ready t) {f : State → Thread → Except Flt State}
include h

/-- A thread that issues an instruction with the effect `v` (04 R162). -/
theorem State.instr_ok (hf : f s (s.th t) = .ok v) : s.instr t f = .next (v.endInstr t) := by
  rw [State.instr, State.issue_ready h, hf]
  rfl

/-- The same, where the effect is that thread alone. -/
theorem State.instr_thread {y : Thread} (hf : f s (s.th t) = .ok (s.setTh t y)) (hst : y.st ≠ .idle) :
    ∃ u, s.instr t f = .next u ∧ u = s.setTh t (u.th t) ∧ u.th t = y.afterStep := by
  have hne : y ≠ {} := fun he => hst (congrArg Thread.st he)
  refine ⟨s.setTh t y.afterStep, ?_, ?_, State.th_setTh_same ..⟩
  · rw [State.instr_ok h hf, State.endInstr, State.th_setTh_same, State.setTh_setTh _ _ _ _ hne]
  · rw [State.th_setTh_same]

end

theorem Thread.b_afterStep (x : Thread) : x.afterStep.b = x.b := x.afterStep_fields.1
theorem Thread.pc_afterStep (x : Thread) : x.afterStep.pc = x.pc := x.afterStep_fields.2.1

theorem Thread.afterStep_halt (x : Thread) (hst : x.st = .halt) : x.afterStep.st = .halt ∧ x.afterStep.haltedInWait = x.haltedInWait := by
  simp only [Thread.afterStep, hst]
  split
  · exact ⟨rfl, rfl⟩
  · exact ⟨rfl, rfl⟩

/-! ### Special reads and the end of a thread -/

section
variable {s : State} {t : Fin 8192} (h : s.ready t) (rd : Fin 32)
include h

/-- STAMP (05 R198). -/
theorem stamp_effect (heven : rd.val % 2 = 0) (hrd : rd ≠ 0) : ∃ u, exec (.stamp t rd 0 0) s = .next u ∧ u = s.setTh t (u.th t) ∧ (u.th t).b = (s.th t).b
    ∧ (u.th t).pc = ((s.th t).pc + 1) % 8192
    ∧ ∀ r, (u.th t).r r = if r = rd.val then BitVec.ofNat 64 s.nowStamp else if r = rd.val + 1 then BitVec.ofNat 64 (s.nowStamp / 2 ^ 64) else (s.th t).r r := by
  let y := (((s.th t).w rd (BitVec.ofNat 64 s.nowStamp)).w (rd + 1) (BitVec.ofNat 64 (s.nowStamp / 2 ^ 64))).nextPc
  have hrd0 : rd.val ≠ 0 := fun h0 => hrd (Fin.ext h0)
  obtain ⟨u, hu, hframe, hth⟩ : ∃ u, exec (.stamp t rd 0 0) s = .next u ∧ u = s.setTh t (u.th t) ∧ u.th t = y.afterStep := by
    refine State.instr_thread h ?_ ?_
    · simp only [heven, hrd0, ne_eq, not_true_eq_false, or_self, if_false]
      rfl
    · simp [y, Thread.nextPc, State.ready_run h]
  refine ⟨u, hu, hframe, ?_, ?_, fun r => ?_⟩
  · simp [hth, y, Thread.nextPc]
  · simp [hth, y, Thread.nextPc]
  · rw [hth, Thread.r_afterStep, Thread.r_nextPc, Thread.r_w, Thread.r_w]
    by_cases hr : r = rd.val
    · simp [hr, hrd0]
    · simp [hr, hrd0]

/-- MFS of a selector that is defined (05 R199). -/
theorem mfs_effect (imm : Fin 65536) {v : Nat} (hv : s.mfsValue t (s.th t) imm = some v) :
    ∃ u, exec (.mfs t rd 0 imm) s = .next u ∧ RegStep s u t rd (BitVec.ofNat 64 v) (s.th t).b (((s.th t).pc + 1) % 8192) := by
  refine State.goes h rd _ _ ?_
  simp only [hv, ne_eq, not_true_eq_false, if_false, State.done, Thread.nextPc, Thread.w_fields]

/-- STOP of a thread that holds nothing (05 R203). -/
theorem stop_effect (hheld : (s.th t).held = false) : ∃ u, exec (.stop t 0) s = .next u ∧ (u.th t).st = .idle ∧ (u.th t).pc = ((s.th t).pc + 1) % 8192
    ∧ (u.th t).b = (s.th t).b ∧ (∀ r, (u.th t).r r = (s.th t).r r) ∧ u = { s with dy := { s.dy with threads := u.dy.threads } } ∧ ∀ j, j ≠ t.val → u.th j = s.th j := by
  let y : Thread := { (s.th t).nextPc with st := .idle }
  have hexec : exec (.stop t 0) s = .next ((s.setTh t y).endInstr t) := by
    refine State.instr_ok h ?_
    simp only [hheld, ne_eq, not_true_eq_false, if_false, Bool.false_eq_true]
    rfl
  have hth : ((s.setTh t y).endInstr t).th t = y.afterStep := by rw [State.th_endInstr, if_pos rfl, State.th_setTh_same]
  refine ⟨_, hexec, ?_, ?_, ?_, fun r => ?_, ((State.onlyThreads.refl s).setTh ..).endInstr _, fun j hj => ?_⟩
  · rw [hth]; exact y.afterStep_idle rfl
  · rw [hth, Thread.pc_afterStep]; rfl
  · rw [hth, Thread.b_afterStep]; rfl
  · rw [hth, Thread.r_afterStep]; rfl
  · rw [State.th_endInstr, if_neg hj, State.th_setTh_other _ _ hj]

/-- BKPT where debug control is not permitted (05 R204). -/
theorem bkpt_passes (hdbg : s.flag (DYE_DBG.DBG_EN (t.val / 8)) = false) :
    ∃ u, exec (.bkpt t 0) s = .next u ∧ RegStep s u t 0 0 (s.th t).b (((s.th t).pc + 1) % 8192) := by
  refine State.goes h 0 0 _ ?_
  simp only [hdbg, ne_eq, not_true_eq_false, if_false, Bool.false_eq_true]
  rfl

/-- BKPT where it is permitted. -/
theorem bkpt_halts (hdbg : s.flag (DYE_DBG.DBG_EN (t.val / 8)) = true) : ∃ u, exec (.bkpt t 0) s = .next u ∧ u = s.setTh t (u.th t) ∧ (u.th t).st = .halt
    ∧ (u.th t).haltedInWait = false ∧ (u.th t).pc = ((s.th t).pc + 1) % 8192 ∧ (u.th t).b = (s.th t).b ∧ ∀ r, (u.th t).r r = (s.th t).r r := by
  let y : Thread := { (s.th t).nextPc with st := .halt, haltedInWait := false }
  obtain ⟨u, hu, hframe, hth⟩ : ∃ u, exec (.bkpt t 0) s = .next u ∧ u = s.setTh t (u.th t) ∧ u.th t = y.afterStep := by
    refine State.instr_thread h ?_ (by simp [y])
    simp only [hdbg, ne_eq, not_true_eq_false, if_true, if_false]
    rfl
  obtain ⟨hst, hwait⟩ := y.afterStep_halt rfl
  refine ⟨u, hu, hframe, ?_, ?_, ?_, ?_, fun r => ?_⟩
  · rw [hth, hst]
  · rw [hth, hwait]
  · rw [hth, Thread.pc_afterStep]; rfl
  · rw [hth, Thread.b_afterStep]; rfl
  · rw [hth, Thread.r_afterStep]; rfl

end

/-- Settles O22: one lemma for each instruction; a defined selector's value is the table's. -/
theorem specialReadsAndThreadEnd : Obligations.SpecialReadsAndThreadEnd := by
  unfold Obligations.SpecialReadsAndThreadEnd
  intro s t rd h x
  have hsel : ∀ sel : Fin 11, s.mfsValue t x sel
      = some ([t.val % 128, t.val, t.val / 128, s.cycle (t.val / 8), x.pend, x.wmask, b2n x.b, x.rcvLen, x.dmas.length, s.timerLeft t x, x.locks.length].getD sel 0) := by
    intro sel
    match sel with
    | 0 | 1 | 2 | 3 | 4 | 5 | 6 | 7 | 8 | 9 | 10 => rfl
  refine ⟨stamp_effect h rd, fun sel => mfs_effect h rd _ (hsel sel), fun hlocks hrsv hdmas hdescs => stop_effect h ?_, bkpt_passes h, bkpt_halts h⟩
  simp only [x] at hlocks hrsv hdmas hdescs
  simp [Thread.held, hlocks, hrsv, hdmas, hdescs]

end Sys2Proof.Machine

namespace Sys2Proof.Machine
open Sys2Proof

/-! ### Fields of words as bit vectors -/

theorem toNat_extractLsb' {w : Nat} (x : BitVec w) (lo k : Nat) : (x.extractLsb' lo k).toNat = bits x.toNat lo k := by
  rw [BitVec.extractLsb'_toNat, Nat.shiftRight_eq_div_pow, bits]

theorem getLsbD_eq_bitAt {w : Nat} (x : BitVec w) (i : Nat) : x.getLsbD i = bitAt x.toNat i := by
  rw [BitVec.getLsbD, Nat.testBit_eq_decide_div_mod_eq, bitAt]
  rfl

/-- A single bit set is one bit joined. -/
theorem setBits_one (v : Word) (k : Nat) : BitVec.ofNat 64 (setBits v.toNat k 1 1) = v ||| (1#64 <<< k) := by
  ext i hi
  rw [← BitVec.getLsbD_eq_getElem, ← BitVec.getLsbD_eq_getElem, BitVec.getLsbD_or, BitVec.getLsbD_shiftLeft, BitVec.getLsbD_ofNat, testBit_setBits]
  by_cases hk : i = k
  · subst hk; simp [hi]
  · by_cases hlt : i < k
    · simp [hi, hlt, show ¬ k ≤ i by omega]; rfl
    · simp [hi, hlt, show ¬ i < k + 1 by omega, show ¬ i - k = 0 by omega]; rfl

/-! ### Field instructions -/

section
variable {s : State} {t : Fin 8192} (h : s.ready t) (rd rs1 rs2 : Fin 32)
include h

theorem field_effects (pos len1 : Fin 64) (hfit : pos.val + (len1.val + 1) ≤ 64) :
    let a := (s.th t).r rs1
    let n := len1.val + 1
    let f := a.toNat / 2 ^ pos.val % 2 ^ n
    (∃ u, exec (.fxt t rd rs1 pos len1) s = .next u ∧ RegStep s u t rd (BitVec.ofNat 64 f) (s.th t).b (((s.th t).pc + 1) % 8192))
    ∧ (∃ u, exec (.fxts t rd rs1 pos len1) s = .next u ∧ RegStep s u t rd ((BitVec.ofNat n f).signExtend 64) (s.th t).b (((s.th t).pc + 1) % 8192))
    ∧ ∃ u v, exec (.fins t rd rs1 pos len1) s = .next u ∧ RegStep s u t rd v (s.th t).b (((s.th t).pc + 1) % 8192)
        ∧ ∀ i, i < 64 → v.getLsbD i = if pos.val ≤ i ∧ i < pos.val + n then a.getLsbD (i - pos.val) else ((s.th t).r rd).getLsbD i := by
  intro a n f
  have hok : badField pos len1 = false := decide_eq_false (by omega)
  refine ⟨State.aluIf_writes h rd hok rfl, State.aluIf_writes h rd hok ?_, ?_⟩
  · have hf : f < 2 ^ n := Nat.mod_lt _ (Nat.two_pow_pos n)
    show BitVec.ofInt 64 (toInt n f) = _
    rw [toInt_ofNat hf]
    rfl
  · obtain ⟨u, hu, hstep⟩ : ∃ u, exec (.fins t rd rs1 pos len1) s = .next u ∧ _ := State.aluIf_writes h rd hok rfl
    refine ⟨u, _, hu, hstep, fun i hi => ?_⟩
    rw [BitVec.getLsbD_ofNat, decide_eq_true hi, Bool.true_and, testBit_setBits]
    rfl

/-- RCHK (05 R189). -/
theorem rchk_effect (mode : Fin 4) (k : Fin 16) :
    let a := (s.th t).r rs1
    let b := (s.th t).r rs2
    let holds : Bool := match mode.val with
      | 0 => decide (b.toNat < a.toNat) | 1 => decide (b.toInt < a.toInt) | 2 => decide (a.toInt < b.toInt) | _ => a != b
    ∃ u, exec (.rchk t rd rs1 rs2 ⟨mode.val * 16 + k.val, by omega⟩) s = .next u
      ∧ RegStep s u t rd (if holds then (s.th t).r rd ||| (1#64 <<< k.val) else (s.th t).r rd) (s.th t).b (((s.th t).pc + 1) % 8192) := by
  intro a b holds
  have hmode : bits (mode.val * 16 + k.val) 4 2 = mode.val := by unfold bits; omega
  have hbit : bits (mode.val * 16 + k.val) 0 4 = k.val := by unfold bits; omega
  have hholds : rchkHolds mode.val a b = holds := by
    unfold holds
    match mode with
    | 0 | 1 | 2 | 3 => rfl
  refine State.aluIf_writes h rd (decide_eq_false (by dsimp only; omega)) ?_
  dsimp only
  rw [hmode, hbit, setBits_one]
  exact congrArg (fun c : Bool => if c = true then _ else _) hholds

end

/-! ### FXTB -/

/-- The thread after one entry of FXTB's template. -/
def Thread.fxtbStep (x : Thread) (n : Nat) (v : Word) (b : Bool) : Thread := (if b then x.setB true else x).w n v

/-- One entry of FXTB's template: its value, or a free one where the field lies past engine data memory. -/
theorem State.fxtbGo_cons (s : State) (m : Memory) (d n e : Nat) (es : List Nat) (x : Thread) :
    s.fxtbGo m d n (e :: es) x = (if (fxtbField m d e).1.isNone then s.drew else s).fxtbGo m d (n + 1) es
      (x.fxtbStep n (BitVec.ofNat 64 ((fxtbField m d e).1.getD s.freeVal)) (fxtbField m d e).2) := by
  rw [State.fxtbGo]
  obtain ⟨v, b⟩ := fxtbField m d e
  cases v <;> rfl

theorem Thread.fxtbStep_only (x : Thread) (n : Nat) (v : Word) (b : Bool) :
    x.fxtbStep n v b = { x with g := (x.fxtbStep n v b).g, b := x.b || b } := by
  unfold Thread.fxtbStep
  rw [Thread.w_only]
  cases b
  · simp
  · simp [Thread.setB]

theorem Thread.r_fxtbStep (x : Thread) (n : Nat) (v : Word) (b : Bool) (k : Nat) : (x.fxtbStep n v b).r k = if k = n ∧ n ≠ 0 then v else x.r k := by
  unfold Thread.fxtbStep
  rw [Thread.r_w]
  cases b <;> rfl

/-- FXTB's registers from `n` on: each takes its entry's value, no other register changes, B says what an entry says, and of the machine only the count of free values
changes (05 R176). -/
theorem State.fxtbGo_effect (m : Memory) (d : Nat) (es : List Nat) (n : Nat) (hn : 0 < n) (s : State) (x : Thread) :
    let s' := (s.fxtbGo m d n es x).1
    let y := (s.fxtbGo m d n es x).2
    s' = { s with free := s'.free } ∧ y = { x with g := y.g, b := x.b || es.any (fun e => (fxtbField m d e).2) }
      ∧ (∀ k, (k < n ∨ n + es.length ≤ k) → y.r k = x.r k)
      ∧ ∀ j e v, es[j]? = some e → (fxtbField m d e).1 = some v → y.r (n + j) = BitVec.ofNat 64 v := by
  induction es generalizing n s x with
  | nil =>
    refine ⟨rfl, ?_, fun k _ => rfl, fun j e v hj => by cases hj⟩
    simp [State.fxtbGo]
  | cons e es ih =>
    rw [State.fxtbGo_cons]
    generalize hval : BitVec.ofNat 64 ((fxtbField m d e).1.getD s.freeVal) = v
    generalize hs1 : (if (fxtbField m d e).1.isNone = true then s.drew else s) = s1
    obtain ⟨hs, hx, hother, hnew⟩ := ih (n + 1) (by omega) s1 (x.fxtbStep n v (fxtbField m d e).2)
    have hfree : s1 = { s with free := s1.free } := by
      rw [← hs1]; split <;> rfl
    generalize (s1.fxtbGo m d (n + 1) es (x.fxtbStep n v (fxtbField m d e).2)).1 = s' at *
    generalize (s1.fxtbGo m d (n + 1) es (x.fxtbStep n v (fxtbField m d e).2)).2 = y at *
    refine ⟨by rw [hfree] at hs; exact hs, ?_, fun k hk => ?_, fun j e' v' hj hv' => ?_⟩
    · rw [hx, Thread.fxtbStep_only]
      simp [Bool.or_assoc]
    · rw [List.length_cons] at hk
      rw [hother k (by omega), Thread.r_fxtbStep, if_neg (by omega)]
    · cases j with
      | zero =>
        obtain rfl : e = e' := by simpa using hj
        rw [Nat.add_zero, hother n (by omega), Thread.r_fxtbStep, if_pos ⟨rfl, by omega⟩, ← hval, hv']
        rfl
      | succ j => rw [show n + (j + 1) = n + 1 + j by omega]; exact hnew j e' v' hj hv'

end Sys2Proof.Machine

namespace Sys2Proof.Machine
open Sys2Proof

/-! ### Bytes of a memory as a number -/

@[simp] theorem Memory.length_readBytes (m : Memory) (a n : Nat) : (m.readBytes a n).length = n := by
  induction n generalizing a with
  | zero => rfl
  | succ n ih => rw [Memory.readBytes, List.length_cons, ih]

theorem leNat_lt (bs : List Byte) : leNat bs < 2 ^ (8 * bs.length) := by
  induction bs with
  | nil => decide
  | cons b bs ih =>
    have hb := b.isLt
    rw [leNat, List.length_cons, Nat.mul_add, Nat.pow_add]
    omega

/-! ### The entries of FXTB's template -/

/-- An entry in use whose field runs past the frame (05 R176). -/
def fxtbPast (d e : Nat) : Bool := bitAt e 19 && decide (bits d 16 14 < bits e 0 14 + (bits e 14 3 + 1))

/-- An entry whose field is read: the descriptor is VALID, the entry in use, and the field in the frame. -/
def fxtbReads (d e : Nat) : Bool := bitAt d 63 && bitAt e 19 && !fxtbPast d e

section
variable {m : Memory} {d e : Nat}

theorem fxtbField_flag (m : Memory) (d e : Nat) : (fxtbField m d e).2 = (!bitAt d 63 || fxtbPast d e) := by
  unfold fxtbField fxtbPast
  extract_lets off n a
  cases bitAt d 63
  · rfl
  cases bitAt e 19
  · rfl
  by_cases hpast : bits d 16 14 < off + n
  · simp [hpast, off, n] at *
  · by_cases hend : 0x10000 < a + n
    · simp [hpast, hend, off, n] at *
    · simp [hpast, hend, off, n] at *

theorem fxtbField_zero (h : fxtbReads d e = false) : (fxtbField m d e).1 = some 0 := by
  unfold fxtbReads fxtbPast at h
  unfold fxtbField
  extract_lets off n a
  split
  · rfl
  next hd =>
    split
    · rfl
    next he =>
      rw [if_pos]
      simp only [Bool.not_eq_true, Bool.not_eq_false'] at hd he
      simpa [hd, he] using h

theorem fxtbField_value (h : fxtbReads d e = true) (hend : bits d 0 16 + bits e 0 14 + (bits e 14 3 + 1) ≤ 0x10000) :
    (fxtbField m d e).1 = some (accValue (m.readBytes (bits d 0 16 + bits e 0 14) (bits e 14 3 + 1)) (bitAt e 18) (bitAt e 17)) := by
  simp only [fxtbReads, fxtbPast, Bool.and_eq_true, Bool.not_eq_true', Bool.and_eq_false_iff, decide_eq_false_iff_not] at h
  obtain ⟨⟨hd, he⟩, hpast⟩ := h
  have hin : ¬ bits d 16 14 < bits e 0 14 + (bits e 14 3 + 1) := hpast.resolve_left (by rw [he]; decide)
  simp only [fxtbField, hd, he, hin, if_false, Bool.not_true, Bool.false_eq_true]
  rw [if_neg (by omega)]

theorem State.fxtbBad_none {s : State} {t : Nat} (h : fxtbReads d e = true → bits d 0 16 + bits e 0 14 + (bits e 14 3 + 1) ≤ 0x10000 →
    s.badWord t (.dmem (bits d 0 16 + bits e 0 14)) (bits e 14 3 + 1) = none) : s.fxtbBad t d e = none := by
  unfold State.fxtbBad
  extract_lets a n
  split
  · rfl
  next hreads =>
    simp only [Bool.or_eq_true, Bool.not_eq_true', decide_eq_true_eq, not_or, not_lt, Bool.not_eq_false] at hreads
    obtain ⟨⟨⟨hd, he⟩, hin⟩, hend⟩ := hreads
    have hpast : fxtbPast d e = false := by
      unfold fxtbPast
      rw [decide_eq_false (not_lt.mpr hin), Bool.and_false]
    rw [State.eccFault, h (by simp [fxtbReads, hd, he, hpast]) hend]
    rfl

end

section
variable {s : State} {t : Fin 8192} (h : s.ready t) (rs1 rs2 : Fin 32)
include h

/-- FXTB of a template that is well formed and meets no uncorrectable word (05 R176). -/
theorem fxtb_effect {o d : Nat} (hd : ((s.th t).r rs1).toNat = d) {E : Nat → Nat} (hE : ∀ j, leNat ((State.memOf s.dy.dmem (t.val / 8)).readBytes (o + 4 * j) 4) = E j)
    (halign : ((s.th t).r rs2).toNat % 32 = 0) (hregion : memRegion t ((s.th t).r rs2).toNat 32 = .dmem o) (hform : ∀ j, j < 8 → E j < 2 ^ 20)
    (hbad : s.badWord t (.dmem o) 32 = none) (hbads : ∀ j, j < 8 → s.fxtbBad t d (E j) = none) :
    ∃ u, exec (.fxtb t 0 rs1 rs2 0) s = .next u ∧ u = { s with free := u.free }.setTh t (u.th t) ∧ (u.th t).pc = ((s.th t).pc + 1) % 8192
      ∧ (u.th t).b = (!bitAt d 63 || (List.range 8).any (fun j => fxtbPast d (E j)))
      ∧ (∀ k, (k < 24 ∨ 31 < k) → (u.th t).r k = (s.th t).r k)
      ∧ ∀ j v, j < 8 → (fxtbField (State.memOf s.dy.dmem (t.val / 8)) d (E j)).1 = some v → (u.th t).r (24 + j) = BitVec.ofNat 64 v := by
  let m := State.memOf s.dy.dmem (t.val / 8)
  let es := (List.range 8).map E
  obtain ⟨hs, hy, hother, hnew⟩ := State.fxtbGo_effect m d es 24 (by decide) s ((s.th t).setB false)
  have hwell : es.any (fun e => decide (2 ^ 20 ≤ e)) = false := by
    rw [List.any_eq_false]
    intro e he
    obtain ⟨j, hj, rfl⟩ := List.mem_map.mp he
    simpa using hform j (List.mem_range.mp hj)
  have hfine : es.findSome? (s.fxtbBad t d) = none := by
    rw [List.findSome?_eq_none_iff]
    intro e he
    obtain ⟨j, hj, rfl⟩ := List.mem_map.mp he
    exact hbads j (List.mem_range.mp hj)
  generalize hv : (s.fxtbGo m d 24 es ((s.th t).setB false)).1 = v at *
  generalize hyv : (s.fxtbGo m d 24 es ((s.th t).setB false)).2 = y at *
  have hrun : y.nextPc.st = .run := by rw [hy]; exact State.ready_run h
  have hexec : exec (.fxtb t 0 rs1 rs2 0) s = .next ((v.setTh t y.nextPc).endInstr t) := by
    refine State.instr_ok h ?_
    simp only [halign, hregion, State.eccFault, hbad, hd, hE, ne_eq, not_true_eq_false, or_self, if_false, Option.map_none]
    rw [if_neg (by rw [hwell]; decide), hfine]
    dsimp only
    rw [hv, hyv]
    rfl
  have hth : ((v.setTh t y.nextPc).endInstr t).th t = y.nextPc.afterStep := by rw [State.th_endInstr, if_pos rfl, State.th_setTh_same]
  refine ⟨_, hexec, ?_, ?_, ?_, fun k hk => ?_, fun j w hj hw => ?_⟩
  · have hne : y.nextPc ≠ {} := fun he => by rw [he] at hrun; cases hrun
    rw [hth, State.endInstr, State.th_setTh_same, State.setTh_setTh _ _ _ _ hne, hs]
    rfl
  · rw [hth, Thread.pc_afterStep, hy]; rfl
  · rw [hth, Thread.b_afterStep]
    have hb : y.b = es.any (fun e => !bitAt d 63 || fxtbPast d e) := by
      rw [hy]; simp only [fxtbField_flag]; rfl
    show y.b = _
    rw [hb, List.any_map]
    cases bitAt d 63
    · rfl
    · rfl
  · rw [hth, Thread.r_afterStep, Thread.r_nextPc, hother k (by simp only [es, List.length_map, List.length_range]; omega)]
    rfl
  · rw [hth, Thread.r_afterStep, Thread.r_nextPc]
    exact hnew j (E j) w (by simp [es, hj]) hw

end

/-- Settles O14: FXT, FXTS and FINS together, RCHK, and FXTB, whose template's fields are those of bit vectors. -/
theorem fieldInstructions : Obligations.FieldInstructions := by
  unfold Obligations.FieldInstructions
  intro s t rd rs1 rs2 h x a
  refine ⟨field_effects h rd rs1, rchk_effect h rd rs1 rs2, ?_⟩
  intro o halign hregion m e n off past reads addr hzero hbad hbads
  let E := fun j => leNat (m.readBytes (o + 4 * j) 4)
  have hE : ∀ j, (e j).toNat = E j := fun j => by
    have := leNat_lt (m.readBytes (o + 4 * j) 4)
    rw [Memory.length_readBytes] at this
    rw [BitVec.toNat_ofNat, Nat.mod_eq_of_lt (b := 2 ^ 32) this]
  have hpast : ∀ j, past j = fxtbPast a.toNat (E j) := fun j => by
    simp only [past, n, off, toNat_extractLsb', getLsbD_eq_bitAt, hE, fxtbPast]
  have hreads : ∀ j, reads j = fxtbReads a.toNat (E j) := fun j => by
    simp only [reads, hpast, getLsbD_eq_bitAt, hE, fxtbReads]
  have haddr : ∀ j, addr j = bits a.toNat 0 16 + bits (E j) 0 14 ∧ n j = bits (E j) 14 3 + 1 := fun j => by
    simp only [addr, n, off, toNat_extractLsb', hE, true_and]
  have hform : ∀ j, j < 8 → E j < 2 ^ 20 := fun j hj => by
    have hlt : E j < 2 ^ 32 := hE j ▸ (e j).isLt
    have hz : bits (E j) 20 12 = 0 := by rw [← hE, ← toNat_extractLsb', hzero j hj]; rfl
    unfold bits at hz
    omega
  obtain ⟨u, hu, hframe, hpc, hb, hother, hnew⟩ := fxtb_effect h rs1 rs2 (d := a.toNat) (E := E) rfl (fun _ => rfl) halign hregion hform hbad fun j hj =>
    State.fxtbBad_none fun hr hend => by
      have := hbads j hj ((hreads j).trans hr)
      rw [(haddr j).1, (haddr j).2] at this
      exact this hend
  refine ⟨u, hu, hframe, hpc, ?_, hother, fun j hj hr => ?_, fun j hj hr hend => ?_⟩
  · rw [hb, getLsbD_eq_bitAt, show past = fun j => fxtbPast a.toNat (E j) from funext hpast]
  · exact hnew j 0 hj (fxtbField_zero ((hreads j).symm.trans hr))
  · rw [(haddr j).1, (haddr j).2] at *
    rw [getLsbD_eq_bitAt, getLsbD_eq_bitAt, hE]
    exact hnew j _ hj (fxtbField_value ((hreads j).symm.trans hr) hend)

end Sys2Proof.Machine

namespace Sys2Proof.Machine
open Sys2Proof

/-! ### The end of an instruction in a state whose memories it has changed -/

/-- The end of an instruction of thread `t` that writes one register and B (05 R173). -/
theorem RegStep.endInstr {w : State} {t rd : Nat} (h : w.ready t) (v : Word) (b : Bool) (pc : Nat) :
    RegStep w ((w.setTh t { ((w.th t).w rd v).setB b with pc := pc }).endInstr t) t rd v b pc := by
  let f : State → Thread → Except Flt State := fun _ _ => .ok (w.setTh t { ((w.th t).w rd v).setB b with pc := pc })
  obtain ⟨u, hu, hstep⟩ := State.regStep (f := f) h rfl
  rw [State.instr_ok h (f := f) rfl] at hu
  cases hu
  exact hstep

/-- The end of an instruction of thread `t` that goes on at the next PC with one register written. -/
theorem RegStep.endInstr_w {w : State} {t : Nat} (h : w.ready t) (rd : Nat) (v : Word) :
    RegStep w ((w.setTh t ((w.th t).w rd v).nextPc).endInstr t) t rd v (w.th t).b (((w.th t).pc + 1) % 8192) := by
  have hstep := RegStep.endInstr h (rd := rd) v (w.th t).b (((w.th t).pc + 1) % 8192)
  have hy : ({ ((w.th t).w rd v).setB (w.th t).b with pc := ((w.th t).pc + 1) % 8192 } : Thread) = ((w.th t).w rd v).nextPc := by
    rw [Thread.nextPc, Thread.w_only]; rfl
  rwa [hy] at hstep

/-! ### A thread that waits for an answer (04 R122) -/

/-- A thread that waits for access `a` at the next PC. -/
def Thread.waitsFor (y : Thread) (a : Access) : Thread := Thread.afterStep { y.nextPc with st := .memwait, acc := some a }

theorem Thread.waitsFor_fields (y : Thread) (a : Access) : (y.waitsFor a).st = .memwait ∧ (y.waitsFor a).acc = some a ∧ (y.waitsFor a).pc = (y.pc + 1) % 8192
    ∧ (y.waitsFor a).b = y.b ∧ (y.waitsFor a).g = y.g ∧ (y.waitsFor a).rsv = y.rsv ∧ (y.waitsFor a).stage = y.stage := by
  unfold Thread.waitsFor
  refine ⟨(Thread.afterStep_memwait _).mpr rfl, ?_, Thread.pc_afterStep _, Thread.b_afterStep _, ?_, ?_, ?_⟩
  · rw [Thread.afterStep_only]
  · rw [Thread.afterStep_only]; rfl
  · rw [Thread.afterStep_only]; rfl
  · rw [Thread.afterStep_only]; rfl

/-- An instruction that waits in state `v`, its thread otherwise `y`. -/
theorem State.instr_waits {s v : State} {t : Nat} (h : s.ready t) {f : State → Thread → Except Flt State} {y : Thread} {a : Access}
    (hf : f s (s.th t) = v.memwait t y a) : s.instr t f = .next (v.setTh t (y.waitsFor a)) := by
  have hne : ({ y.nextPc with st := .memwait, acc := some a } : Thread) ≠ {} := fun he => by have := congrArg Thread.st he; cases this
  rw [State.instr_ok h (hf.trans rfl), State.endInstr, State.th_setTh_same, State.setTh_setTh _ _ _ _ hne]
  rfl

/-- The same where the thread keeps what it holds, and nothing else changes. -/
theorem State.instr_waits_only {s : State} {t : Nat} (h : s.ready t) {f : State → Thread → Except Flt State} {a : Access}
    (hf : f s (s.th t) = s.memwait t (s.th t) a) : ∃ u, s.instr t f = .next u ∧ u = s.setTh t (u.th t) ∧ (u.th t).st = .memwait ∧ (u.th t).acc = some a
      ∧ (u.th t).pc = ((s.th t).pc + 1) % 8192 ∧ (u.th t).b = (s.th t).b ∧ ∀ k, (u.th t).r k = (s.th t).r k := by
  obtain ⟨hst, hacc, hpc, hb, hg, -, -⟩ := (s.th t).waitsFor_fields a
  refine ⟨_, State.instr_waits h hf, ?_⟩
  rw [State.th_setTh_same]
  exact ⟨rfl, hst, hacc, hpc, hb, Thread.r_congr hg⟩

/-! ### Register reads -/

theorem State.onlyRegs.foldl_wr {α : Type} (l : List α) {g : State → α → State} (hg : ∀ (s : State) a, s.onlyRegs (g s a)) (s : State) : s.onlyRegs (l.foldl g s) := by
  induction l generalizing s with
  | nil => exact .refl s
  | cons a l ih => exact (hg s a).trans (ih _)

/-- A read of a register clears register fields at most (00 R15). -/
theorem State.onlyRegs.read32 (s : State) (off : Nat) : s.onlyRegs (s.read32 off).2 := by
  unfold State.read32
  split
  · exact .refl s
  split
  · exact .refl s
  · refine State.onlyRegs.foldl_wr _ (fun s f => ?_) s
    split
    · exact (State.onlyRegs.refl s).wr ..
    · exact .refl s

theorem State.readReg_snd (s : State) (off n : Nat) :
    (s.readReg off n).2 = if n ≤ 4 then (s.read32 off).2 else ((s.read32 off).2.read32 (off + 4)).2 := by
  simp only [State.readReg]
  split_ifs
  · exact Eq.refl _
  · exact Eq.refl _

theorem State.onlyRegs.readReg (s : State) (off n : Nat) : s.onlyRegs (s.readReg off n).2 := by
  rw [State.readReg_snd]
  split_ifs
  · exact .read32 s off
  · exact (State.onlyRegs.read32 s off).trans (.read32 _ (off + 4))

/-! ### LD -/

section
variable {s : State} {t : Fin 8192} (h : s.ready t) (rt base : Fin 32) (size : Fin 4) (sx be : Bool) (off : Fin 4096) {a n : Nat} {r : Region}
  (ha : (s.th t).addr base off = a) (hn : 2 ^ size.val = n) (hr : memRegion t a n = r) (halign : a % n = 0)
include h ha hn hr halign

/-- A load of the fixed class, which meets no uncorrectable word (05 R177). -/
theorem ld_reads (hread : s.mayRead t r n = true) (hvar : r.variable = false) (hbad : s.badWord t r n = none) {bs : List Byte} {v : State}
    (hbs : s.readRegion t r n = some (bs, v)) :
    exec (.ld t rt base size sx be off) s = .next ((v.setTh t ((s.th t).w rt (BitVec.ofNat 64 (accValue bs sx be))).nextPc).endInstr t) := by
  refine State.instr_ok h ?_
  simp only [ha, hn, hr, State.access, halign, hread, hvar, State.eccFault, hbad, hbs, ne_eq, not_true_eq_false, if_false, if_true, Bool.false_eq_true, Option.map_none]
  rfl

/-- A load of the variable class (04 R122). -/
theorem ld_waits (hread : s.mayRead t r n = true) (hvar : r.variable = true) :
    ∃ u, exec (.ld t rt base size sx be off) s = .next u ∧ u = s.setTh t (u.th t) ∧ (u.th t).st = .memwait ∧ (u.th t).acc = some (.load rt a n sx be)
      ∧ (u.th t).pc = ((s.th t).pc + 1) % 8192 ∧ (u.th t).b = (s.th t).b ∧ ∀ k, (u.th t).r k = (s.th t).r k := by
  refine State.instr_waits_only h ?_
  simp only [ha, hn, hr, State.access, halign, hread, hvar, ne_eq, not_true_eq_false, if_false, if_true, Bool.false_eq_true]

/-- A load from a memory of the thread's own engine or cluster. -/
theorem ld_memory {m : Memory} {o : Nat} (hm : (r = .dmem o ∧ m = State.memOf s.dy.dmem (t.val / 8)) ∨ (r = .imem o ∧ m = State.memOf s.dy.imem (t.val / 8))
      ∨ (r = .sram o ∧ m = State.memOf s.dy.sram (t.val / 128))) (hbad : s.badWord t r n = none) :
    ∃ u, exec (.ld t rt base size sx be off) s = .next u
      ∧ RegStep s u t rt (BitVec.ofNat 64 (accValue (m.readBytes o n) sx be)) (s.th t).b (((s.th t).pc + 1) % 8192) := by
  obtain ⟨hread, hvar, hbs⟩ : s.mayRead t r n = true ∧ r.variable = false ∧ s.readRegion t r n = some (m.readBytes o n, s) := by
    unfold State.readRegion
    rw [hbad]
    obtain ⟨rfl, rfl⟩ | ⟨rfl, rfl⟩ | ⟨rfl, rfl⟩ := hm
    · exact ⟨rfl, rfl, rfl⟩
    · exact ⟨rfl, rfl, rfl⟩
    · exact ⟨rfl, rfl, rfl⟩
  exact ⟨_, ld_reads h rt base size sx be off ha hn hr halign hread hvar hbad hbs, RegStep.endInstr_w h rt _⟩

/-- A load from the own cluster block reads the register (04 R131). -/
theorem ld_block {o : Nat} (ho : r = .block o) (h4 : 4 ≤ n) :
    let q := s.readReg (0x1000000 + 0x20000 * (t.val / 128) + o) n
    ∃ u, exec (.ld t rt base size sx be off) s = .next u ∧ u = q.2.setTh t (u.th t) ∧ (u.th t).pc = ((s.th t).pc + 1) % 8192
      ∧ ∀ k, (u.th t).r k = if k = rt.val ∧ rt ≠ 0 then BitVec.ofNat 64 (accValue (leBytes n q.1) sx be) else (q.2.th t).r k := by
  intro q
  subst ho
  have hexec := ld_reads h rt base size sx be off ha hn hr halign (decide_eq_true h4) rfl rfl (bs := leBytes n q.1) (v := q.2) rfl
  have hq : q.2.th t = s.th t := (State.onlyRegs.readReg s _ n).th t
  let y := ((s.th t).w rt (BitVec.ofNat 64 (accValue (leBytes n q.1) sx be))).nextPc
  have hrun : y.st = .run := by simp [y, Thread.nextPc, State.ready_run h]
  have hne : y ≠ {} := fun he => by rw [he] at hrun; cases hrun
  refine ⟨_, hexec, ?_⟩
  rw [State.endInstr, State.th_setTh_same, State.setTh_setTh _ _ _ _ hne, State.th_setTh_same]
  refine ⟨rfl, ?_, fun k => ?_⟩
  · rw [Thread.pc_afterStep]; simp [Thread.nextPc]
  · rw [Thread.r_afterStep, Thread.r_nextPc, Thread.r_w, hq]
    simp only [ne_eq, Fin.ext_iff, Fin.val_zero]

end

/-- The data of a load from GDDR7 returns (04 R122). -/
theorem accessComplete_load {s : State} {t : Fin 8192} (rt : Fin 32) {addr n o : Nat} {sx be : Bool} (hrun : s.run = true) (hst : (s.th t).st = .memwait)
    (hacc : (s.th t).acc = some (.load rt addr n sx be)) (hr : memRegion t addr n = .gddr o) :
    ∃ u, exec (.accessComplete t false) s = .next u ∧ u = s.setTh t (u.th t) ∧ (u.th t).acc = none
      ∧ (u.th t).st = (if (s.th t).haltReq then .halt else .run) ∧ (u.th t).b = (s.th t).b ∧ (u.th t).pc = (s.th t).pc
      ∧ ∀ k, (u.th t).r k = if k = rt.val ∧ rt ≠ 0 then BitVec.ofNat 64 (accValue (s.gddr.readBytes o n) sx be) else (s.th t).r k := by
  have hexec : exec (.accessComplete t false) s = .next (s.setTh t ((s.th t).resume.w rt (BitVec.ofNat 64 (accValue (s.gddr.readBytes o n) sx be)))) := by
    show execAccessComplete t false s = _
    simp only [execAccessComplete, hst, hrun, hacc, hr, ne_eq, not_true_eq_false, Bool.not_true, Bool.false_eq_true, or_self, if_false]
    rfl
  refine ⟨_, hexec, ?_⟩
  rw [State.th_setTh_same]
  refine ⟨rfl, ?_, ?_, ?_, ?_, fun k => ?_⟩
  · rw [Thread.w_only]; rfl
  · rw [Thread.w_only]; rfl
  · rw [Thread.w_only]; rfl
  · rw [Thread.w_only]; rfl
  · rw [Thread.r_w]
    simp only [ne_eq, Fin.ext_iff, Fin.val_zero]
    rfl

/-- Settles O15: a load by its region, and the return of its data. -/
theorem loadsCompleteByRegion : Obligations.LoadsCompleteByRegion := by
  unfold Obligations.LoadsCompleteByRegion
  intro s t rt base size sx be off x a n
  have ha : x.addr base off = a := Thread.addr_eq x base off
  exact ⟨fun h halign => ⟨fun o m hm hbad => ld_memory h rt base size sx be off ha rfl rfl halign hm hbad,
      fun o ho h4 => ld_block h rt base size sx be off ha rfl rfl halign ho h4,
      fun hvar hread => ld_waits h rt base size sx be off ha rfl rfl halign hread hvar⟩,
    fun o addr hrun hst hacc hr => accessComplete_load rt hrun hst hacc hr⟩

end Sys2Proof.Machine

namespace Sys2Proof.Machine
open Sys2Proof

/-! ### Bytes stored in one memory of a table of memories -/

@[simp] theorem length_leBytes (n v : Nat) : (leBytes n v).length = n := by
  induction n generalizing v with
  | zero => rfl
  | succ n ih => rw [leBytes, List.length_cons, ih]

@[simp] theorem length_accBytes (n v : Nat) (be : Bool) : (accBytes n v be).length = n := by
  cases be <;> simp [accBytes, beBytes]

/-- Bytes of a number are those of its remainder. -/
theorem leBytes_mod (n v : Nat) : leBytes n (v % 2 ^ (8 * n)) = leBytes n v := by
  induction n generalizing v with
  | zero => rfl
  | succ n ih =>
    have hpow : 2 ^ (8 * (n + 1)) = 256 * 2 ^ (8 * n) := by rw [Nat.mul_add, Nat.pow_add, Nat.mul_comm]
    have hbyte : BitVec.ofNat 8 (v % 2 ^ (8 * (n + 1))) = BitVec.ofNat 8 v := by
      refine BitVec.eq_of_toNat_eq ?_
      rw [BitVec.toNat_ofNat, BitVec.toNat_ofNat, hpow]
      exact Nat.mod_mod_of_dvd v (Nat.dvd_mul_right _ _)
    rw [leBytes, leBytes, hbyte, hpow, Nat.mod_mul_right_div_self, ih]

/-- Bytes stored at `o` of memory `i` read back, and every other byte of every memory is as before. -/
theorem State.memOf_stored (m : FMap Memory) (i o : Nat) {bs : List Byte} {n : Nat} (hlen : bs.length = n) :
    (State.memOf (FMap.set [] m i ((State.memOf m i).writeBytes o bs)) i).readBytes o n = bs
      ∧ ∀ g c, ¬(g = i ∧ o ≤ c ∧ c < o + n) →
        (State.memOf (FMap.set [] m i ((State.memOf m i).writeBytes o bs)) g).read c = (State.memOf m g).read c := by
  subst hlen
  unfold State.memOf
  refine ⟨by rw [FMap.get_set_same, Memory.readBytes_writeBytes], fun g c hc => ?_⟩
  by_cases hg : g = i
  · subst hg
    rw [FMap.get_set_same, Memory.read_writeBytes_other _ _ _ (by omega)]
  · rw [FMap.get_set_other _ _ _ _ hg]

/-- An instruction that writes no register leaves its thread at the next PC. -/
theorem RegStep.endInstr_none {w : State} {t : Nat} (h : w.ready t) :
    RegStep w ((w.setTh t (w.th t).nextPc).endInstr t) t 0 0 (w.th t).b (((w.th t).pc + 1) % 8192) := RegStep.endInstr_w h 0 0

/-! ### ST and AADD -/

section
variable {s : State} {t : Fin 8192} (h : s.ready t) (rt base : Fin 32) (size : Fin 4) (be : Bool) (off : Fin 4096) {a n val : Nat} {r : Region}
  (ha : stAddr (s.th t) base off = a) (hn : 2 ^ size.val = n) (hval : ((s.th t).r rt).toNat % 2 ^ (8 * n) = val) (hr : memRegion t a n = r)
  (halign : a % n = 0) (hwrite : s.mayWrite t r n = true)
include h ha hn hval hr halign hwrite

/-- A store of the fixed class (05 R177). -/
theorem st_now {v : State} (hvar : r.variable = false) (hv : (s.setTh t (s.th t).nextPc).storeNow t a n val be r = .ok v) :
    exec (.st t rt base size false be off) s = .next (v.endInstr t) := by
  refine State.instr_ok h ?_
  simp only [ha, hn, hval, hr, State.access, halign, hwrite, hvar, ne_eq, not_true_eq_false, if_false, if_true, Bool.false_eq_true]
  exact hv

/-- A store of the variable class (04 R122). -/
theorem st_waits (hvar : r.variable = true) :
    ∃ u, exec (.st t rt base size false be off) s = .next u ∧ u = s.setTh t (u.th t) ∧ (u.th t).st = .memwait
      ∧ (u.th t).pc = ((s.th t).pc + 1) % 8192 ∧ (u.th t).acc = some (.store a n val be) ∧ (u.th t).b = (s.th t).b ∧ ∀ k, (u.th t).r k = (s.th t).r k := by
  refine (State.instr_waits_only h ?_).imp fun u ⟨hu, honly, hst, hacc, hpc, hkeeps⟩ => ⟨hu, honly, hst, hpc, hacc, hkeeps⟩
  simp only [ha, hn, hval, hr, State.access, halign, hwrite, hvar, ne_eq, not_true_eq_false, if_false, if_true, Bool.false_eq_true]

/-- A store to engine data memory. -/
theorem st_dmem {o : Nat} (ho : r = .dmem o) :
    ∃ u, exec (.st t rt base size false be off) s = .next u
      ∧ RegStep { s with dy := { s.dy with dmem := u.dy.dmem } } u t 0 0 (s.th t).b (((s.th t).pc + 1) % 8192)
      ∧ (State.memOf u.dy.dmem (t.val / 8)).readBytes o n = accBytes n val be
      ∧ ∀ g c, ¬(g = t.val / 8 ∧ o ≤ c ∧ c < o + n) → (State.memOf u.dy.dmem g).read c = (State.memOf s.dy.dmem g).read c := by
  subst ho
  refine ⟨_, st_now h rt base size be off ha hn hval hr halign hwrite rfl rfl, ?_, ?_⟩
  · exact RegStep.endInstr_none (w := s.writeRegion t (.dmem o) (accBytes n val be)) h
  · exact State.memOf_stored s.dy.dmem (t.val / 8) o (length_accBytes n val be)

/-- A store to the own cluster's SRAM. -/
theorem st_sram {o : Nat} (ho : r = .sram o) :
    ∃ u, exec (.st t rt base size false be off) s = .next u
      ∧ RegStep { s with dy := { s.dy with sram := u.dy.sram } } u t 0 0 (s.th t).b (((s.th t).pc + 1) % 8192)
      ∧ (State.memOf u.dy.sram (t.val / 128)).readBytes o n = accBytes n val be
      ∧ ∀ k c, ¬(k = t.val / 128 ∧ o ≤ c ∧ c < o + n) → (State.memOf u.dy.sram k).read c = (State.memOf s.dy.sram k).read c := by
  subst ho
  refine ⟨_, st_now h rt base size be off ha hn hval hr halign hwrite rfl rfl, ?_, ?_⟩
  · exact RegStep.endInstr_none (w := s.writeRegion t (.sram o) (accBytes n val be)) h
  · exact State.memOf_stored s.dy.sram (t.val / 128) o (length_accBytes n val be)

/-- A store to the own cluster block writes the register (04 R128). -/
theorem st_block {o : Nat} {v : State} (ho : r = .block o)
    (hv : (s.setTh t (s.th t).nextPc).storeBlock t o n (leNat (accBytes n val be)) = some v) :
    ∃ u, exec (.st t rt base size false be off) s = .next u ∧ u = v.setTh t (v.th t).afterStep := by
  subst ho
  exact ⟨_, st_now h rt base size be off ha hn hval hr halign hwrite rfl (by rw [State.storeNow, hv]), rfl⟩

end

/-- The acknowledgment of a store to GDDR7 returns (04 R122). -/
theorem accessComplete_store {s : State} {t : Fin 8192} {addr n v o : Nat} {be : Bool} (hrun : s.run = true) (hst : (s.th t).st = .memwait)
    (hacc : (s.th t).acc = some (.store addr n v be)) (hr : memRegion t addr n = .gddr o) :
    ∃ u, exec (.accessComplete t false) s = .next u ∧ u = { s with gddr := u.gddr }.setTh t (u.th t) ∧ u.gddr.readBytes o n = accBytes n v be
      ∧ (∀ c, (c < o ∨ o + n ≤ c) → u.gddr.read c = s.gddr.read c) ∧ (u.th t).st = (if (s.th t).haltReq then .halt else .run)
      ∧ (u.th t).acc = none ∧ ∀ k, (u.th t).r k = (s.th t).r k := by
  have hexec : exec (.accessComplete t false) s = .next ({ s with gddr := s.gddr.writeBytes o (accBytes n v be) }.setTh t (s.th t).resume) := by
    show execAccessComplete t false s = _
    simp only [execAccessComplete, hst, hrun, hacc, hr, ne_eq, not_true_eq_false, Bool.not_true, Bool.false_eq_true, or_self, if_false]
    rfl
  refine ⟨_, hexec, ?_⟩
  rw [State.th_setTh_same]
  have hbytes := Memory.readBytes_writeBytes s.gddr o (accBytes n v be)
  rw [length_accBytes] at hbytes
  exact ⟨rfl, hbytes, fun c hc => Memory.read_writeBytes_other _ _ _ (by rwa [length_accBytes]), rfl, rfl, fun _ => rfl⟩

/-- AADD on the own cluster's SRAM (05 R178). -/
theorem aadd_effect {s : State} {t : Fin 8192} (h : s.ready t) (rd rs1 rs2 : Fin 32) {o a : Nat} {old : Word} (ha : ((s.th t).r rs1).toNat = a)
    (halign : a % 8 = 0) (hr : memRegion t a 8 = .sram o) (hbad : s.badWord t (.sram o) 8 = none)
    (hold : BitVec.ofNat 64 (leNat ((State.memOf s.dy.sram (t.val / 128)).readBytes o 8)) = old) :
    ∃ u, exec (.aadd t rd rs1 rs2 0) s = .next u
      ∧ RegStep { s with dy := { s.dy with sram := u.dy.sram } } u t rd old (s.th t).b (((s.th t).pc + 1) % 8192)
      ∧ (State.memOf u.dy.sram (t.val / 128)).readBytes o 8 = leBytes 8 (old + (s.th t).r rs2).toNat
      ∧ ∀ k c, ¬(k = t.val / 128 ∧ o ≤ c ∧ c < o + 8) → (State.memOf u.dy.sram k).read c = (State.memOf s.dy.sram k).read c := by
  let sum := leNat ((State.memOf s.dy.sram (t.val / 128)).readBytes o 8) + ((s.th t).r rs2).toNat
  let w := s.writeRegion t (.sram o) (leBytes 8 sum)
  have hexec : exec (.aadd t rd rs1 rs2 0) s = .next ((w.setTh t ((s.th t).w rd old).nextPc).endInstr t) := by
    refine State.instr_ok h ?_
    simp only [ha, halign, hr, State.eccFault, hbad, hold, ne_eq, not_true_eq_false, if_false, Option.map_none]
    rfl
  have hsum : leBytes 8 (old + (s.th t).r rs2).toNat = leBytes 8 sum := by
    rw [← leBytes_mod 8 sum, BitVec.toNat_add, ← hold, BitVec.toNat_ofNat, Nat.mod_add_mod]
  rw [hsum]
  exact ⟨_, hexec, RegStep.endInstr_w (w := w) h rd old, State.memOf_stored s.dy.sram (t.val / 128) o (length_leBytes 8 sum)⟩

/-- Settles O16: the bytes that ST, the return of a store, and AADD write. -/
theorem storesWriteTheirBytes : Obligations.StoresWriteTheirBytes := by
  unfold Obligations.StoresWriteTheirBytes
  intro s t rt rd rs1 rs2 base size be off x a n bs
  exact ⟨fun h halign hwrite => ⟨fun o ho => st_dmem h rt base size be off rfl rfl rfl rfl halign hwrite ho,
      fun o ho => st_sram h rt base size be off rfl rfl rfl rfl halign hwrite ho,
      fun o s' ho hv => st_block h rt base size be off rfl rfl rfl rfl halign hwrite ho hv,
      fun hvar => st_waits h rt base size be off rfl rfl rfl rfl halign hwrite hvar⟩,
    fun o addr v hrun hst hacc hr => accessComplete_store hrun hst hacc hr,
    fun o h halign hr hbad => aadd_effect h rd rs1 rs2 rfl halign hr hbad rfl⟩

end Sys2Proof.Machine

namespace Sys2Proof.Machine
open Sys2Proof

/-! ### Registers written one after another -/

theorem Thread.r_ws (x : Thread) (n : Nat) (vs : List Word) (k : Nat) :
    (x.ws n vs).r k = if k ≠ 0 ∧ n ≤ k ∧ k < n + vs.length then vs.getD (k - n) 0 else x.r k := by
  induction vs generalizing x n with
  | nil => rw [if_neg (by simp)]; rfl
  | cons v vs ih =>
    rw [Thread.ws, ih, Thread.r_w, List.length_cons]
    by_cases hk : k = n
    · subst hk
      by_cases h0 : k = 0
      · simp [h0]
      · simp [h0]
    · by_cases hin : k ≠ 0 ∧ n + 1 ≤ k ∧ k < n + 1 + vs.length
      · rw [if_pos hin, if_pos (by omega), show k - n = (k - (n + 1)) + 1 by omega, List.getD_cons_succ]
      · rw [if_neg hin, if_neg (fun h => hk h.1), if_neg (by omega)]

theorem Thread.ws_only (x : Thread) (n : Nat) (vs : List Word) : x.ws n vs = { x with g := (x.ws n vs).g } := by
  induction vs generalizing x n with
  | nil => rfl
  | cons v vs ih => rw [Thread.ws, ih, Thread.w_only]

@[simp] theorem length_readWords (m : Memory) (a n : Nat) : (readWords m a n).length = n := by
  induction n generalizing a with
  | zero => rfl
  | succ n ih => rw [readWords, List.length_cons, ih]

theorem getD_readWords (m : Memory) (a : Nat) {n j : Nat} (h : j < n) :
    (readWords m a n).getD j 0 = BitVec.ofNat 64 (leNat (m.readBytes (a + 8 * j) 8)) := by
  induction n generalizing a j with
  | zero => omega
  | succ n ih =>
    cases j with
    | zero => rfl
    | succ j => rw [readWords, List.getD_cons_succ, ih (a + 8) (by omega), show a + 8 + 8 * j = a + 8 * (j + 1) by omega]

/-! ### An instruction that writes B alone -/

/-- An instruction that does nothing but set B (05 R173). -/
theorem State.sets_b {s : State} {t : Nat} (h : s.ready t) {f : State → Thread → Except Flt State} {b : Bool}
    (hf : f s (s.th t) = s.done t ((s.th t).setB b)) : ∃ u, s.instr t f = .next u ∧ RegStep s u t 0 0 b (((s.th t).pc + 1) % 8192) :=
  State.regStep h hf

/-! ### TLK and TST (05 R187, R188) -/

section
variable {s : State} {t : Fin 8192} (h : s.ready t) (rt rs : Fin 32) (tbl : Fin 16) (w : Fin 8) {k n i : Nat} (hk : t.val / 128 = k)
  (hn : 2 ^ s.rd (CLU_TBL.ENTRY k tbl) = n) (hi : ((s.th t).r rs).toNat = i)

include hn in
theorem State.entrySize_div : s.entrySize k tbl / 8 = n := by
  rw [State.entrySize, hn]
  exact Nat.mul_div_cancel_left n (by decide)

section
variable (hen : s.flag (CLU_TBL.EN k tbl) = true) (hcount : i < s.rd (CLU_TBL.COUNT k tbl))
include hn hen hcount

theorem State.entry_resident (hres : i < s.rd (CLU_TBLS.RES k tbl)) :
    s.entry k tbl i = some (.resident (s.rd (CLU_TBL.BASE_64 k tbl) * 64 + i * (8 * n))) := by
  simp only [State.entry, hen, Nat.not_le.mpr hcount, hres, State.entrySize, hn, Bool.not_true, Bool.false_eq_true, or_self, if_false, if_true]

theorem State.entry_spilled (hres : s.rd (CLU_TBLS.RES k tbl) ≤ i) :
    s.entry k tbl i = some (.spilled (s.rd (CLU_TBLS.SPILL_4K k tbl) * 4096 + (i - s.rd (CLU_TBLS.RES k tbl)) * (8 * n))) := by
  simp only [State.entry, hen, Nat.not_le.mpr hcount, Nat.not_lt.mpr hres, State.entrySize, hn, Bool.not_true, Bool.false_eq_true, or_self, if_false]

end

section
variable {a : Nat}
include h hk hn hi

/-- TLK of a resident entry. -/
theorem tlk_resident (hfit : rt.val + n ≤ 32) (hentry : s.entry k tbl i = some (.resident a)) (hbad : s.badWord t (.sram a) (8 * n) = none) :
    ∃ u, exec (.tlk t rt rs tbl w 0) s = .next u ∧ u = s.setTh t (u.th t) ∧ (u.th t).pc = ((s.th t).pc + 1) % 8192 ∧ (u.th t).b = (s.th t).b
      ∧ ∀ r, (u.th t).r r = if r ≠ 0 ∧ rt.val ≤ r ∧ r < rt.val + n
          then BitVec.ofNat 64 (leNat ((State.memOf s.dy.sram k).readBytes (a + 8 * (r - rt.val)) 8)) else (s.th t).r r := by
  let y := ((s.th t).ws rt (readWords (State.memOf s.dy.sram k) a n)).nextPc
  have hrun : y.st ≠ .idle := by
    have : y.st = (s.th t).st := by simp only [y]; rw [Thread.ws_only]; rfl
    rw [this]
    exact State.ready_ne_idle h
  obtain ⟨u, hu, honly, hy⟩ := State.instr_thread h (y := y) (f := fun s x => s.done t (x.ws rt (readWords (State.memOf s.dy.sram k) a n))) rfl hrun
  refine ⟨u, ?_, honly, ?_, ?_, fun r => ?_⟩
  · rw [← hu]
    refine (State.instr_ok h ?_).trans (State.instr_ok h (v := s.setTh t y) rfl).symm
    simp only [hk, hi, State.entrySize_div tbl hn, hentry, State.eccFault, hbad, Option.map_none, show ¬(31 < rt.val + n - 1) by omega, ne_eq,
      not_true_eq_false, or_self, if_false]
    rfl
  · rw [hy, Thread.pc_afterStep]; simp only [y]; rw [Thread.ws_only]; rfl
  · rw [hy, Thread.b_afterStep]; simp only [y]; rw [Thread.ws_only]; rfl
  · rw [hy, Thread.r_afterStep, Thread.r_nextPc, Thread.r_ws, length_readWords]
    split
    next hr => exact getD_readWords _ _ (by omega)
    · rfl

/-- TLK of a spilled entry waits for it. -/
theorem tlk_spilled (hfit : rt.val + n ≤ 32) (hentry : s.entry k tbl i = some (.spilled a)) :
    ∃ u, exec (.tlk t rt rs tbl w 0) s = .next u ∧ u = s.setTh t (u.th t) ∧ (u.th t).st = .memwait ∧ (u.th t).acc = some (.lookup rt a n)
      ∧ (u.th t).pc = ((s.th t).pc + 1) % 8192 ∧ (u.th t).b = (s.th t).b ∧ ∀ r, (u.th t).r r = (s.th t).r r := by
  refine State.instr_waits_only h ?_
  simp only [hk, hi, State.entrySize_div tbl hn, hentry, show ¬(31 < rt.val + n - 1) by omega, ne_eq, not_true_eq_false, or_self, if_false]

/-- TST of a resident entry. -/
theorem tst_resident (hw : w.val < n) (hentry : s.entry k tbl i = some (.resident a)) :
    ∃ u, exec (.tst t rt rs tbl w 0) s = .next u
      ∧ RegStep { s with dy := { s.dy with sram := u.dy.sram } } u t 0 0 (s.th t).b (((s.th t).pc + 1) % 8192)
      ∧ (State.memOf u.dy.sram k).readBytes (a + 8 * w.val) 8 = leBytes 8 ((s.th t).r rt).toNat
      ∧ ∀ j c, ¬(j = k ∧ a + 8 * w.val ≤ c ∧ c < a + 8 * w.val + 8) → (State.memOf u.dy.sram j).read c = (State.memOf s.dy.sram j).read c := by
  let v := s.writeRegion t (.sram (a + 8 * w.val)) (leBytes 8 ((s.th t).r rt).toNat)
  have hexec : exec (.tst t rt rs tbl w 0) s = .next ((v.setTh t (v.th t).nextPc).endInstr t) := by
    refine State.instr_ok h ?_
    simp only [hk, hi, State.entrySize_div tbl hn, hentry, Nat.not_le.mpr hw, ne_eq, not_true_eq_false, if_false]
    rfl
  subst hk
  exact ⟨_, hexec, RegStep.endInstr_none (w := v) h, State.memOf_stored s.dy.sram (t.val / 128) (a + 8 * w.val) (length_leBytes 8 _)⟩

/-- TST of a spilled entry waits for its store. -/
theorem tst_spilled (hw : w.val < n) (hentry : s.entry k tbl i = some (.spilled a)) :
    ∃ u, exec (.tst t rt rs tbl w 0) s = .next u ∧ u = s.setTh t (u.th t) ∧ (u.th t).st = .memwait
      ∧ (u.th t).acc = some (.spill (a + 8 * w.val) ((s.th t).r rt).toNat)
      ∧ (u.th t).pc = ((s.th t).pc + 1) % 8192 ∧ (u.th t).b = (s.th t).b ∧ ∀ r, (u.th t).r r = (s.th t).r r := by
  refine State.instr_waits_only h ?_
  simp only [hk, hi, State.entrySize_div tbl hn, hentry, Nat.not_le.mpr hw, ne_eq, not_true_eq_false, if_false]

end

end

/-! ### DMA (05 R200) -/

section
variable {s : State} {t : Fin 8192} (h : s.ready t) (rs1 : Fin 32)
include h

/-- With four copies outstanding DMA sets B and takes nothing. -/
theorem dma_full (hfull : 4 ≤ (s.th t).dmas.length) :
    ∃ u, exec (.dma t 0 rs1 0 0) s = .next u ∧ RegStep s u t 0 0 true (((s.th t).pc + 1) % 8192) := by
  refine State.sets_b h ?_
  simp only [hfull, ne_eq, not_true_eq_false, or_self, if_false, if_true]

/-- DMA takes the copy that its descriptor `d` asks for. -/
theorem dma_takes {o : Nat} {d : List Byte} (hroom : (s.th t).dmas.length < 4) (halign : ((s.th t).r rs1).toNat % 8 = 0)
    (hr : memRegion t ((s.th t).r rs1).toNat 32 = .dmem o) (hbad : s.badWord t (.dmem o) 32 = none)
    (hd : (State.memOf s.dy.dmem (t.val / 8)).readBytes o 32 = d)
    (hcheck : s.dmaCheck t ((s.th t).r rs1).toNat (field d 0 8) (field d 8 8) (field d 16 4) = none) :
    ∃ u, exec (.dma t 0 rs1 0 0) s = .next u ∧ u = s.setTh t (u.th t) ∧ (u.th t).b = false ∧ (u.th t).pc = ((s.th t).pc + 1) % 8192
      ∧ (u.th t).dmas = (s.th t).dmas ++ [{ src := field d 0 8, dst := field d 8 8, len := field d 16 4, tag := field d 24 8 }]
      ∧ ∀ r, (u.th t).r r = (s.th t).r r := by
  let y : Thread := { s.th t with
    b := false, dmas := (s.th t).dmas ++ [{ src := field d 0 8, dst := field d 8 8, len := field d 16 4, tag := field d 24 8 }] }
  have hexec : ∃ u, exec (.dma t 0 rs1 0 0) s = .next u ∧ u = s.setTh t (u.th t) ∧ u.th t = y.nextPc.afterStep := by
    refine State.instr_thread h ?_ (State.ready_ne_idle h)
    simp only [Nat.not_le.mpr hroom, halign, hr, State.eccFault, hbad, hd, hcheck, Option.map_none, ne_eq, not_true_eq_false, or_self, if_false]
    rfl
  obtain ⟨u, hu, honly, hy⟩ := hexec
  refine ⟨u, hu, honly, ?_⟩
  rw [hy]
  exact ⟨Thread.b_afterStep _, Thread.pc_afterStep _, by rw [Thread.afterStep_only]; rfl, fun r => Thread.r_afterStep ..⟩

end

/-! ### A copy's bytes (05 R201) -/

theorem Memory.readBytes_add (m : Memory) (a n k : Nat) : m.readBytes a (n + k) = m.readBytes a n ++ m.readBytes (a + n) k := by
  induction n generalizing a with
  | zero => simp [Memory.readBytes]
  | succ n ih =>
    rw [Nat.add_right_comm, Memory.readBytes, ih, Memory.readBytes, List.cons_append, show a + 1 + n = a + (n + 1) by omega]

theorem Memory.writeBytes_append (m : Memory) (a : Nat) (bs cs : List Byte) : m.writeBytes a (bs ++ cs) = (m.writeBytes a bs).writeBytes (a + bs.length) cs := by
  induction bs generalizing m a with
  | nil => rfl
  | cons b bs ih => rw [List.cons_append, Memory.writeBytes, ih, Memory.writeBytes, List.length_cons, show a + 1 + bs.length = a + (bs.length + 1) by omega]

theorem memRegion_gddr {t o n : Nat} (h : o + n ≤ 60 * 2 ^ 30) (hn : 0 < n) : memRegion t (0x10000000000 + o) n = .gddr o := by
  unfold memRegion
  rw [if_neg (by omega), if_neg (by omega), if_neg (by omega), if_neg (by omega), if_neg (by omega), if_neg (by omega), if_pos (by omega)]
  simp

/-- A copy whose source is GDDR7 reads its bytes. -/
theorem State.dmaRead_gddr (s : State) (t : Nat) {o m : Nat} (h : o + 8 * m ≤ 60 * 2 ^ 30) :
    s.dmaRead t (0x10000000000 + o) m = some (s.gddr.readBytes o (8 * m), s) := by
  induction m generalizing o with
  | zero => rfl
  | succ m ih =>
    have hhead : s.readRegion t (memRegion t (0x10000000000 + o) 8) 8 = some (s.gddr.readBytes o 8, s) := by
      rw [memRegion_gddr (by omega) (by decide)]
      rfl
    rw [State.dmaRead, hhead]
    simp only [Nat.add_assoc, ih (o := o + 8) (by omega)]
    rw [show 8 * (m + 1) = 8 + 8 * m by omega, Memory.readBytes_add]

/-- A copy whose destination is the thread's engine data memory writes its bytes there. -/
theorem State.dmaWrite_dmem (s : State) (t : Nat) {dst p m : Nat} {bs : List Byte} (hlen : bs.length = 8 * m)
    (hr : ∀ j, j < m → memRegion t (dst + 8 * j) 8 = .dmem (p + 8 * j)) :
    ∃ v, s.dmaWrite t dst bs m = some v ∧ v = { s with dy := { s.dy with dmem := v.dy.dmem } }
      ∧ State.memOf v.dy.dmem (t / 8) = (State.memOf s.dy.dmem (t / 8)).writeBytes p bs
      ∧ ∀ g, g ≠ t / 8 → State.memOf v.dy.dmem g = State.memOf s.dy.dmem g := by
  induction m generalizing s dst p bs with
  | zero =>
    have hnil : bs = [] := List.length_eq_zero_iff.mp hlen
    exact ⟨s, rfl, rfl, by rw [hnil]; rfl, fun _ _ => rfl⟩
  | succ m ih =>
    have hdrop : (bs.drop 8).length = 8 * m := by rw [List.length_drop]; omega
    have htake : (bs.take 8).length = 8 := by rw [List.length_take]; omega
    have hnext : ∀ j, j < m → memRegion t (dst + 8 + 8 * j) 8 = .dmem (p + 8 + 8 * j) := fun j hj => by
      have := hr (j + 1) (by omega)
      rwa [Nat.mul_add, Nat.add_comm (8 * j), ← Nat.add_assoc, ← Nat.add_assoc] at this
    obtain ⟨v, hv, honly, hmem, hother⟩ := ih (s.writeRegion t (.dmem p) (bs.take 8)) hdrop hnext
    refine ⟨v, ?_, honly, ?_, fun g hg => ?_⟩
    · rw [State.dmaWrite, show memRegion t dst 8 = .dmem p from hr 0 (Nat.succ_pos m)]
      exact hv
    · have happ := Memory.writeBytes_append (State.memOf s.dy.dmem (t / 8)) p (bs.take 8) (bs.drop 8)
      rw [List.take_append_drop, htake] at happ
      rw [hmem, happ]
      exact congrArg (Memory.writeBytes · _ _) (FMap.get_set_same ..)
    · rw [hother g hg]
      exact FMap.get_set_other _ _ _ _ hg

/-- The oldest copy, from GDDR7 to the thread's engine data memory, completes. -/
theorem dmaComplete_copies {s : State} {t : Fin 8192} {d : Dma} {rest : List Dma} {o p : Nat} (hrun : s.run = true) (hd : (s.th t).dmas = d :: rest)
    (hlen : d.len % 8 = 0) (hfit : o + d.len ≤ 60 * 2 ^ 30) (hsrc : d.src = 0x10000000000 + o)
    (hdst : ∀ j, j < d.len / 8 → memRegion t (d.dst + 8 * j) 8 = .dmem (p + 8 * j)) :
    ∃ u, exec (.dmaComplete t false) s = .next u ∧ u = { s with dy := { s.dy with dmem := u.dy.dmem, threads := u.dy.threads } }
      ∧ (∀ i, i ≠ t.val → u.th i = s.th i) ∧ (u.th t).dmas = rest ∧ bitAt (u.th t).pend 2 = true
      ∧ (State.memOf u.dy.dmem (t.val / 8)).readBytes p d.len = s.gddr.readBytes o d.len
      ∧ ∀ g c, ¬(g = t.val / 8 ∧ p ≤ c ∧ c < p + d.len) → (State.memOf u.dy.dmem g).read c = (State.memOf s.dy.dmem g).read c := by
  have hwords : 8 * (d.len / 8) = d.len := by omega
  have hbytes : (s.gddr.readBytes o d.len).length = d.len := Memory.length_readBytes ..
  let s1 := s.setTh t { s.th t with dmas := rest }
  have hread : s1.dmaRead t d.src (d.len / 8) = some (s.gddr.readBytes o d.len, s1) := by
    rw [hsrc, State.dmaRead_gddr s1 t (by omega), hwords]
    rfl
  obtain ⟨v, hv, honly, hmem, hother⟩ := State.dmaWrite_dmem s1 t (hbytes.trans hwords.symm) hdst
  have hth : ∀ i, v.th i = s1.th i := fun i => by rw [honly]; rfl
  have hexec : exec (.dmaComplete t false) s = .next (v.raise t evDma) := by
    show execDmaComplete t false s = _
    simp only [execDmaComplete, hd, hrun, Bool.not_true, Bool.false_eq_true, if_false]
    rw [show (s.setTh t { s.th t with dmas := rest }).dmaRead t d.src (d.len / 8) = _ from hread]
    simp only [hv]
  refine ⟨_, hexec, ?_, fun i hi => ?_, ?_, ?_, ?_, fun g c hc => ?_⟩
  · rw [honly]; rfl
  · rw [State.th_raise, if_neg hi, hth, State.th_setTh_other _ _ hi]
  · rw [State.th_raise, hth, State.th_setTh_same]
  · rw [State.th_raise, if_pos rfl]; exact bitAt_setBits_one _ _
  · show (State.memOf v.dy.dmem (t.val / 8)).readBytes p d.len = _
    have := Memory.readBytes_writeBytes (State.memOf s.dy.dmem (t.val / 8)) p (s.gddr.readBytes o d.len)
    rw [hbytes] at this
    rw [hmem]
    exact this
  · show (State.memOf v.dy.dmem g).read c = _
    by_cases hg : g = t.val / 8
    · subst hg
      rw [hmem]
      exact Memory.read_writeBytes_other _ _ _ (by rw [hbytes]; omega)
    · rw [hother g hg]
      rfl

/-- Settles O17: table lookups and stores, and copies from their issue to their completion. -/
theorem tablesAndCopies : Obligations.TablesAndCopies := by
  unfold Obligations.TablesAndCopies
  intro s t rt rs rs1 tbl w x k n i res m at_ far waits
  refine ⟨fun h hen hcount hfit => ⟨fun hres hbad => ?_, fun hres => ?_⟩, fun h hen hcount hw => ⟨fun hres => ?_, fun hres => ?_⟩,
    fun h hfull => dma_full h rs1 hfull, fun o h hroom halign hr hbad => ?_,
    fun d rest o p hrun hd hlen hfit hsrc hdst => dmaComplete_copies hrun hd hlen hfit hsrc hdst⟩
  · exact tlk_resident h rt rs tbl w rfl rfl rfl hfit (State.entry_resident tbl rfl hen hcount hres) hbad
  · exact tlk_spilled h rt rs tbl w rfl rfl rfl hfit (State.entry_spilled tbl rfl hen hcount hres)
  · exact tst_resident h rt rs tbl w rfl rfl rfl hw (State.entry_resident tbl rfl hen hcount hres)
  · exact tst_spilled h rt rs tbl w rfl rfl rfl hw (State.entry_spilled tbl rfl hen hcount hres)
  · intro d hcheck
    exact dma_takes h rs1 hroom halign hr hbad rfl hcheck

end Sys2Proof.Machine

namespace Sys2Proof.Machine
open Sys2Proof

/-! ### Parked threads, and what the end of an instruction leaves -/

/-- A parked thread waits, even one that steps (04 R162). -/
theorem Thread.afterStep_park (x : Thread) (hst : x.st = .wait) {p : Park} (hpark : x.park = some p) : x.afterStep.st = .wait := by
  simp only [Thread.afterStep, hst, hpark, Option.isSome_some, if_true]
  split
  · rfl
  · rfl

/-- A running thread whose request is withdrawn at once (05 R191). -/
theorem Thread.parkAbort_fields (x : Thread) (bit : Nat) (hrun : x.st = .run) :
    (x.parkAbort bit).afterStep.st = x.after ∧ (x.parkAbort bit).afterStep.b = true ∧ (x.parkAbort bit).afterStep.pend = setBits x.pend bit 1 0
      ∧ (x.parkAbort bit).afterStep.pc = (x.pc + 1) % 8192 ∧ (x.parkAbort bit).afterStep.locks = x.locks ∧ (x.parkAbort bit).afterStep.rsv = x.rsv
      ∧ ∀ r, (x.parkAbort bit).afterStep.r r = x.r r := by
  obtain ⟨hb, hpc, -, -, hpend, -, hlocks, hrsv, -⟩ := (x.parkAbort bit).afterStep_fields
  exact ⟨((x.parkAbort bit).afterStep_run hrun).1, hb, hpend, hpc, hlocks, hrsv, fun r => Thread.r_afterStep ..⟩

/-- The end of an instruction that has changed its thread alone, to `y`. -/
theorem State.endInstr_setTh (s : State) (t : Nat) {y : Thread} (hst : y.st ≠ .idle) :
    (s.setTh t y).endInstr t = s.setTh t (((s.setTh t y).endInstr t).th t) ∧ ((s.setTh t y).endInstr t).th t = y.afterStep := by
  have hne : y ≠ {} := fun he => hst (congrArg Thread.st he)
  have hth : ((s.setTh t y).endInstr t).th t = y.afterStep := by rw [State.th_endInstr, if_pos rfl, State.th_setTh_same]
  refine ⟨?_, hth⟩
  rw [hth, State.endInstr, State.th_setTh_same, State.setTh_setTh _ _ _ _ hne]

/-! ### LCK, LTRY and LREL (05 R190, R191; 04 R143 to R146) -/

theorem acquireBad_none {x : Thread} {n : Nat} (hrank : ∀ m ∈ x.locks, m < n) (hlen : x.locks.length < 8) : acquireBad x n = none := by
  have hany : x.locks.any (fun m => decide (n ≤ m)) = false := by simpa using hrank
  simp only [acquireBad, hany, Nat.not_le.mpr hlen, Bool.false_eq_true, if_false]

/-- A lock instruction that would break no lock rule. -/
theorem State.lockInstr_ok {s : State} {t : Nat} (h : s.ready t) (n : Nat) {bad : Thread → Option Nat} (f : State → Thread → State) (hbad : bad (s.th t) = none) :
    s.lockInstr t (0 : Fin 32) (0 : Fin 8) n bad f = (f s (s.th t)).endInstr t := by
  simp only [State.lockInstr, hbad, Fin.val_zero, ne_eq, not_true_eq_false, or_self, if_false]
  exact State.issue_ready h _

/-- From `s` to `u` lock `n` of cluster `k` and threads changed alone, and thread `t` keeps its registers and goes on at the next PC. -/
def State.lockFrame (s u : State) (t k n : Nat) : Prop :=
  u = { s with dy := { s.dy with threads := u.dy.threads, locks := u.dy.locks } }
    ∧ (∀ j, j ≠ k * 512 + n → FMap.get {} u.dy.locks j = FMap.get {} s.dy.locks j) ∧ (u.th t).pc = ((s.th t).pc + 1) % 8192
    ∧ ∀ r, (u.th t).r r = (s.th t).r r

/-- An instruction that ends with lock `n` as `l` and its thread as `y`. -/
theorem State.lockFrame_setLock {s : State} {t k n : Nat} {l : Lock} {y : Thread} (hpc : y.pc = ((s.th t).pc + 1) % 8192) (hg : y.g = (s.th t).g) :
    s.lockFrame (((s.setLock k n l).setTh t y).endInstr t) t k n
      ∧ (∀ j, j ≠ t → (((s.setLock k n l).setTh t y).endInstr t).th j = s.th j)
      ∧ (((s.setLock k n l).setTh t y).endInstr t).lockOf k n = l
      ∧ (((s.setLock k n l).setTh t y).endInstr t).th t = y.afterStep := by
  have hth : (((s.setLock k n l).setTh t y).endInstr t).th t = y.afterStep := by rw [State.th_endInstr, if_pos rfl, State.th_setTh_same]
  refine ⟨⟨rfl, fun j hj => FMap.get_set_other _ _ _ _ hj, ?_, fun r => ?_⟩, fun j hj => ?_, FMap.get_set_same .., hth⟩
  · rw [hth, Thread.pc_afterStep, hpc]
  · rw [hth, Thread.r_afterStep, Thread.r_congr hg]
  · rw [State.th_endInstr, if_neg hj, State.th_setTh_other _ _ hj]
    rfl

section
variable {s : State} {t : Fin 8192} (h : s.ready t) (rs1 : Fin 32) (imm : Fin 512) {k n : Nat} {l : Lock} (hk : t.val / 128 = k)
  (hn : (((s.th t).r rs1).toNat + imm.val) % 512 = n) (hl : s.lockOf k n = l)
include h hk hn hl

section
variable (hrank : ∀ m ∈ (s.th t).locks, m < n) (hlen : (s.th t).locks.length < 8)
include hrank hlen

/-- LCK, which would break no lock rule. -/
theorem lck_eq : exec (.lck t 0 rs1 0 imm) s = .next ((if l.owner.isNone then s.takeLock t n (s.th t)
    else if (s.th t).parkAborts evLock then s.setTh t ((s.th t).parkAbort evLock)
    else (s.setLock k n { l with saucer := l.saucer ++ [t.val % 128] }).setTh t ((s.th t).parkOn (.lock n) evLock)).endInstr t) := by
  subst hk hl
  have hlock : (s.th t).lockNo rs1 imm = n := hn
  refine congrArg Host.Outcome.next ?_
  rw [hlock]
  exact State.lockInstr_ok h n _ (acquireBad_none hrank hlen)

/-- LTRY, which would break no lock rule. -/
theorem ltry_eq : exec (.ltry t 0 rs1 0 imm) s
    = .next ((if l.owner.isNone then s.takeLock t n (s.th t) else s.setTh t { (s.th t).nextPc with b := true }).endInstr t) := by
  subst hk hl
  have hlock : (s.th t).lockNo rs1 imm = n := hn
  refine congrArg Host.Outcome.next ?_
  rw [hlock]
  exact State.lockInstr_ok h n _ (acquireBad_none hrank hlen)

/-- LCK and LTRY take a free lock. -/
theorem lock_taken (hfree : l.owner = none) {ins : Instr} (hins : ins = .lck t 0 rs1 0 imm ∨ ins = .ltry t 0 rs1 0 imm) :
    ∃ u, exec ins s = .next u ∧ s.lockFrame u t k n ∧ (∀ j, j ≠ t.val → u.th j = s.th j) ∧ u.lockOf k n = { l with owner := some (t.val % 128) }
      ∧ (u.th t).locks = (s.th t).locks ++ [n] ∧ (u.th t).b = false := by
  have hexec : exec ins s = .next ((s.takeLock t n (s.th t)).endInstr t) := by
    obtain rfl | rfl := hins
    · rw [lck_eq h rs1 imm hk hn hl hrank hlen, hfree]; rfl
    · rw [ltry_eq h rs1 imm hk hn hl hrank hlen, hfree]; rfl
  subst hk hl
  obtain ⟨hframe, hmine, hlock, hth⟩ := State.lockFrame_setLock (s := s) (t := t) (k := t.val / 128) (n := n)
    (l := { s.lockOf (t.val / 128) n with owner := some (t.val % 128) }) (y := { (s.th t).nextPc with locks := (s.th t).locks ++ [n], b := false }) rfl rfl
  refine ⟨_, hexec, hframe, hmine, hlock, ?_⟩
  obtain ⟨hb, -, -, -, -, -, hlocks, -⟩ := Thread.afterStep_fields { (s.th t).nextPc with locks := (s.th t).locks ++ [n], b := false }
  exact ⟨(congrArg Thread.locks hth).trans hlocks, (congrArg Thread.b hth).trans hb⟩

variable (hheld : l.owner ≠ none)
include hheld

/-- LCK of a held lock joins its Saucer. -/
theorem lck_parks (hpend : (s.th t).pend &&& (2 ^ 5 + 2 ^ 7) = 0) :
    ∃ u, exec (.lck t 0 rs1 0 imm) s = .next u ∧ s.lockFrame u t k n ∧ (∀ j, j ≠ t.val → u.th j = s.th j)
      ∧ u.lockOf k n = { l with saucer := l.saucer ++ [t.val % 128] } ∧ (u.th t).st = .wait ∧ (u.th t).park = some (.lock n)
      ∧ (u.th t).wmask = 2 ^ 5 + 2 ^ 7 ∧ (u.th t).b = (s.th t).b ∧ (u.th t).locks = (s.th t).locks := by
  have habort : (s.th t).parkAborts evLock = false := bne_eq_false_iff_eq.mpr hpend
  have hexec := lck_eq h rs1 imm hk hn hl hrank hlen
  rw [habort, if_neg (by simpa using hheld), if_neg (by decide)] at hexec
  obtain ⟨hframe, hmine, hlock, hth⟩ := State.lockFrame_setLock (s := s) (t := t) (k := k) (n := n)
    (l := { l with saucer := l.saucer ++ [t.val % 128] }) (y := (s.th t).parkOn (.lock n) evLock) rfl rfl
  refine ⟨_, hexec, hframe, hmine, hlock, ?_⟩
  rw [hth]
  obtain ⟨hb, -, -, hmask, -, -, hlocks, -⟩ := Thread.afterStep_fields ((s.th t).parkOn (.lock n) evLock)
  refine ⟨Thread.afterStep_park _ rfl rfl, ?_, hmask, hb, hlocks⟩
  rw [Thread.afterStep_only]
  rfl

/-- LCK of a held lock while LOCK or CTRL is pending completes at once (05 R191). -/
theorem lck_aborts (hpend : (s.th t).pend &&& (2 ^ 5 + 2 ^ 7) ≠ 0) :
    ∃ u, exec (.lck t 0 rs1 0 imm) s = .next u ∧ u = s.setTh t (u.th t) ∧ (u.th t).b = true ∧ (u.th t).st = (s.th t).after
      ∧ (u.th t).pend = setBits (s.th t).pend 5 1 0 ∧ (u.th t).locks = (s.th t).locks ∧ (u.th t).pc = ((s.th t).pc + 1) % 8192
      ∧ ∀ r, (u.th t).r r = (s.th t).r r := by
  have habort : (s.th t).parkAborts evLock = true := bne_iff_ne.mpr hpend
  have hexec := lck_eq h rs1 imm hk hn hl hrank hlen
  rw [habort, if_neg (by simpa using hheld), if_pos rfl] at hexec
  obtain ⟨honly, hth⟩ := State.endInstr_setTh s t (y := (s.th t).parkAbort evLock) (by simpa [Thread.parkAbort, Thread.nextPc] using State.ready_ne_idle h)
  obtain ⟨hst, hb, hpend', hpc, hlocks, -, hr⟩ := (s.th t).parkAbort_fields evLock (State.ready_run h)
  refine ⟨_, hexec, honly, ?_⟩
  rw [hth]
  exact ⟨hb, hst, hpend', hlocks, hpc, hr⟩

/-- LTRY of a held lock sets B. -/
theorem ltry_held : ∃ u, exec (.ltry t 0 rs1 0 imm) s = .next u ∧ RegStep s u t 0 0 true (((s.th t).pc + 1) % 8192) := by
  refine ⟨_, ?_, RegStep.endInstr h 0 true _⟩
  rw [ltry_eq h rs1 imm hk hn hl hrank hlen, if_neg (by simpa using hheld)]
  rfl

end

variable (hmine : (s.th t).locks.contains n = true)
include hmine

/-- LREL of a lock that the thread holds. -/
theorem lrel_eq : exec (.lrel t 0 rs1 0 imm) s
    = .next (((s.setTh t { (s.th t).nextPc with locks := (s.th t).locks.filter (· != n) }).passLock k n).endInstr t) := by
  subst hk
  have hlock : (s.th t).lockNo rs1 imm = n := hn
  refine congrArg Host.Outcome.next ?_
  rw [hlock]
  exact State.lockInstr_ok h n _ (if_pos hmine)

/-- LREL frees a lock that no thread waits for. -/
theorem lrel_frees (hsaucer : l.saucer = []) :
    ∃ u, exec (.lrel t 0 rs1 0 imm) s = .next u ∧ s.lockFrame u t k n ∧ (∀ j, j ≠ t.val → u.th j = s.th j) ∧ (u.lockOf k n).owner = none
      ∧ (u.th t).locks = (s.th t).locks.filter (· != n) ∧ (u.th t).b = (s.th t).b := by
  have hexec := lrel_eq h rs1 imm hk hn hl hmine
  rw [State.passLock_nil (s := s.setTh t _) ((congrArg Lock.saucer hl).trans hsaucer)] at hexec
  obtain ⟨hframe, hother, hlock, hth⟩ := State.lockFrame_setLock (s := s) (t := t) (k := k) (n := n) (l := { owner := none, saucer := [] })
    (y := { (s.th t).nextPc with locks := (s.th t).locks.filter (· != n) }) rfl rfl
  refine ⟨_, hexec, hframe, hother, congrArg Lock.owner hlock, ?_⟩
  obtain ⟨hb, -, -, -, -, -, hlocks, -⟩ := Thread.afterStep_fields { (s.th t).nextPc with locks := (s.th t).locks.filter (· != n) }
  exact ⟨(congrArg Thread.locks hth).trans hlocks, (congrArg Thread.b hth).trans hb⟩

/-- LREL passes the lock to the oldest request of its Saucer. -/
theorem lrel_passes {j : Nat} {rest : List Nat} (hsaucer : l.saucer = j :: rest) (hother : k * 128 + j ≠ t.val) :
    ∃ u, exec (.lrel t 0 rs1 0 imm) s = .next u ∧ s.lockFrame u t k n ∧ u.lockOf k n = { owner := some j, saucer := rest }
      ∧ (u.th t).locks = (s.th t).locks.filter (· != n) ∧ (u.th t).b = (s.th t).b ∧ (u.th (k * 128 + j)).locks = (s.th (k * 128 + j)).locks ++ [n]
      ∧ bitAt (u.th (k * 128 + j)).pend 5 = true := by
  let y : Thread := { (s.th t).nextPc with locks := (s.th t).locks.filter (· != n) }
  let z : Thread := { s.th (k * 128 + j) with locks := (s.th (k * 128 + j)).locks ++ [n] }
  let w := (s.setTh t y).setLock k n { owner := some j, saucer := rest }
  let u := ((w.setTh (k * 128 + j) z).raise (k * 128 + j) evLock).endInstr t
  have hexec : exec (.lrel t 0 rs1 0 imm) s = .next u := by
    rw [lrel_eq h rs1 imm hk hn hl hmine, State.passLock]
    simp only [show ((s.setTh t { (s.th t).nextPc with locks := (s.th t).locks.filter (· != n) }).lockOf k n).saucer = j :: rest
      from (congrArg Lock.saucer hl).trans hsaucer]
    rw [show ((s.setTh t { (s.th t).nextPc with locks := (s.th t).locks.filter (· != n) }).setLock k n { owner := some j, saucer := rest }).th (k * 128 + j)
      = s.th (k * 128 + j) from State.th_setTh_other _ _ hother]
  have ht : u.th t = y.afterStep := by
    simp only [u]
    rw [State.th_endInstr, if_pos rfl, State.th_raise, if_neg hother.symm, State.th_setTh_other _ _ hother.symm]
    exact congrArg Thread.afterStep (State.th_setTh_same s t y)
  have hj : u.th (k * 128 + j) = { z with pend := setBits z.pend evLock 1 1 } := by
    simp only [u]
    rw [State.th_endInstr, if_neg hother, State.th_raise, if_pos rfl, State.th_setTh_same]
  have honly : w.onlyThreads u := (((State.onlyThreads.refl w).setTh ..).raise ..).endInstr _
  obtain ⟨hb, hpc, hg, -, -, -, hlocks, -⟩ := y.afterStep_fields
  have htable : u.dy.locks = FMap.set {} s.dy.locks (k * 512 + n) { owner := some j, saucer := rest } := congrArg (fun v : State => v.dy.locks) honly
  refine ⟨u, hexec, ⟨honly, fun i hi => ?_, ?_, fun r => ?_⟩, ?_, ?_, ?_, ?_, ?_⟩
  · rw [htable]; exact FMap.get_set_other _ _ _ _ hi
  · rw [ht, hpc]; rfl
  · rw [ht, Thread.r_congr hg]; rfl
  · rw [State.lockOf, htable]; exact FMap.get_set_same ..
  · rw [ht, hlocks]
  · rw [ht, hb]; rfl
  · rw [hj]
  · rw [hj]; exact bitAt_setBits_one _ _

end

/-- Settles O18: one lemma for each lock instruction and state of the lock. -/
theorem locksPassInOrder : Obligations.LocksPassInOrder := by
  unfold Obligations.LocksPassInOrder
  intro s t rs1 imm h x k i n l frame mine
  refine ⟨fun hrank hlen => ⟨fun hfree => ⟨?_, ?_⟩, fun hheld => ⟨?_, ?_, ?_⟩⟩, fun hmine => ⟨?_, ?_⟩⟩
  · exact lock_taken h rs1 imm rfl rfl rfl hrank hlen hfree (.inl rfl)
  · exact lock_taken h rs1 imm rfl rfl rfl hrank hlen hfree (.inr rfl)
  · exact lck_parks h rs1 imm rfl rfl rfl hrank hlen hheld
  · exact lck_aborts h rs1 imm rfl rfl rfl hrank hlen hheld
  · exact ltry_held h rs1 imm rfl rfl rfl hrank hlen hheld
  · exact lrel_frees h rs1 imm rfl rfl rfl hmine
  · exact fun j rest => lrel_passes h rs1 imm rfl rfl rfl hmine

end Sys2Proof.Machine

namespace Sys2Proof.Machine
open Sys2Proof

/-! ### Pending bits -/

theorem bitAt_eq_testBit (v i : Nat) : bitAt v i = v.testBit i := by
  rw [Nat.testBit_eq_decide_div_mod_eq, bitAt]
  rfl

/-- Raising one event clears none. -/
theorem bitAt_setBits_one_of {v b : Nat} (i : Nat) (h : bitAt v b = true) : bitAt (setBits v i 1 1) b = true := by
  rw [bitAt_eq_testBit, testBit_setBits]
  split
  next hb => rw [show b - i = 0 by omega]; rfl
  · rwa [← bitAt_eq_testBit]

theorem State.pend_endInstr (s : State) (t j : Nat) : ((s.endInstr t).th j).pend = (s.th j).pend := by
  rw [State.th_endInstr]
  split
  · rw [Thread.afterStep_only]
  · rfl

/-! ### Operations on one channel -/

/-- From `s` to `u` threads and channel `c` of cluster `k` changed alone. -/
def State.onlyChan (s u : State) (k c : Nat) : Prop :=
  u = { s with dy := { s.dy with threads := u.dy.threads, chans := u.dy.chans } } ∧ ∀ j, j ≠ k * 256 + c → FMap.get {} u.dy.chans j = FMap.get {} s.dy.chans j

section
variable {s u v : State} {k c : Nat}

theorem State.onlyChan.refl (s : State) (k c : Nat) : s.onlyChan s k c := ⟨rfl, fun _ _ => rfl⟩

theorem State.onlyChan.trans (h : s.onlyChan u k c) (h' : u.onlyChan v k c) : s.onlyChan v k c := by
  obtain ⟨honly, hchans⟩ := h
  obtain ⟨honly', hchans'⟩ := h'
  refine ⟨?_, fun j hj => (hchans' j hj).trans (hchans j hj)⟩
  rw [honly] at honly'
  exact honly'

theorem State.onlyChan.setTh (h : s.onlyChan u k c) (t : Nat) (x : Thread) : s.onlyChan (u.setTh t x) k c := h.trans ⟨rfl, fun _ _ => rfl⟩
theorem State.onlyChan.raise (h : s.onlyChan u k c) (t bit : Nat) : s.onlyChan (u.raise t bit) k c := h.setTh ..
theorem State.onlyChan.chanRx (h : s.onlyChan u k c) (k' c' : Nat) : s.onlyChan (u.chanRx k' c') k c := h.raise ..
theorem State.onlyChan.endInstr (h : s.onlyChan u k c) (t : Nat) : s.onlyChan (u.endInstr t) k c := h.setTh ..
theorem State.onlyChan.setChan (h : s.onlyChan u k c) (x : Chan) : s.onlyChan (u.setChan k c x) k c :=
  h.trans ⟨rfl, fun _ hj => FMap.get_set_other _ _ _ _ hj⟩

end

/-- A reservation is granted to the oldest request, or nothing happens (04 R149). -/
theorem State.grantChan_cases (s : State) (k c : Nat) : s.grantChan k c = s ∨ ∃ i rest, (s.chan k c).saucer = i :: rest ∧ s.grantChan k c
    = ((s.setChan k c { s.chan k c with holder := some i, saucer := rest, granted := s.ticks }).setTh (k * 128 + i)
        { s.th (k * 128 + i) with rsv := some (.loc c) }).raise (k * 128 + i) evChanTx := by
  unfold State.grantChan
  extract_lets x
  split
  next i rest _ hsaucer =>
    split
    · exact .inl rfl
    · exact .inr ⟨i, rest, hsaucer, rfl⟩
  · exact .inl rfl

/-- With no request waiting nothing is granted. -/
theorem State.grantChan_nil {s : State} {k c : Nat} (h : (s.chan k c).saucer = []) : s.grantChan k c = s := by
  obtain heq | ⟨i, rest, hsaucer, -⟩ := s.grantChan_cases k c
  · exact heq
  · rw [h] at hsaucer; cases hsaucer

theorem State.onlyChan.grantChan {s u : State} {k c : Nat} (h : s.onlyChan u k c) : s.onlyChan (u.grantChan k c) k c := by
  obtain heq | ⟨i, rest, -, heq⟩ := u.grantChan_cases k c
  · rwa [heq]
  · rw [heq]
    exact ((h.setChan _).setTh ..).raise ..

theorem State.msgs_grantChan (s : State) (k c : Nat) : ((s.grantChan k c).chan k c).msgs = (s.chan k c).msgs := by
  obtain heq | ⟨i, rest, -, heq⟩ := s.grantChan_cases k c
  · rw [heq]
  · rw [heq]
    have hmsgs := congrArg Chan.msgs (State.chan_setChan_same s k c { s.chan k c with holder := some i, saucer := rest, granted := s.ticks })
    exact hmsgs

/-- A grant changes a thread's reservation alone, and makes an event pending. -/
def Thread.upToGrant (x y : Thread) : Prop := y = { x with rsv := y.rsv, pend := y.pend } ∧ ∀ b, bitAt x.pend b = true → bitAt y.pend b = true

theorem State.th_grantChan (s : State) (k c j : Nat) : (s.th j).upToGrant ((s.grantChan k c).th j) := by
  obtain heq | ⟨i, rest, -, heq⟩ := s.grantChan_cases k c
  · rw [heq]; exact ⟨rfl, fun _ h => h⟩
  · rw [heq, State.th_raise, State.th_setTh]
    by_cases hj : j = k * 128 + i
    · rw [if_pos hj, if_pos hj, hj]
      exact ⟨rfl, fun _ h => bitAt_setBits_one_of _ h⟩
    · rw [if_neg hj, if_neg hj]
      exact ⟨rfl, fun _ h => h⟩

/-- The thread of an instruction that ends with a grant. -/
theorem State.th_grantChan_endInstr (s : State) (k c t : Nat) : (((s.grantChan k c).endInstr t).th t).b = (s.th t).b
    ∧ (((s.grantChan k c).endInstr t).th t).pc = (s.th t).pc ∧ (((s.grantChan k c).endInstr t).th t).rcvLen = (s.th t).rcvLen
    ∧ ∀ r, (((s.grantChan k c).endInstr t).th t).r r = (s.th t).r r := by
  rw [State.th_endInstr, if_pos rfl, Thread.afterStep_only, (s.th_grantChan k c t).1]
  exact ⟨rfl, rfl, rfl, fun _ => rfl⟩

/-- An instruction that ends with channel `c` as `ch` and its thread as `y`. -/
theorem State.onlyChan_setChan (s : State) (t k c : Nat) (ch : Chan) (y : Thread) : s.onlyChan (((s.setChan k c ch).setTh t y).endInstr t) k c
    ∧ (((s.setChan k c ch).setTh t y).endInstr t).chan k c = ch ∧ (((s.setChan k c ch).setTh t y).endInstr t).th t = y.afterStep := by
  refine ⟨(((State.onlyChan.refl s k c).setChan ch).setTh t y).endInstr t, State.chan_setChan_same s k c ch, ?_⟩
  rw [State.th_endInstr, if_pos rfl, State.th_setTh_same]

/-! ### RSV and RSVT (04 R149; 05 R193) -/

section
variable {s : State} {t : Fin 8192} (h : s.ready t) (rs1 : Fin 32) (imm : Fin 512) {k c : Nat} {ch : Chan} (hk : t.val / 128 = k)
  (hc : (((s.th t).r rs1).toNat + imm.val) % 256 = c) (hch : s.chan k c = ch)
include h hk hc hch

section
variable (hen : s.flag (CLU_CHAN_CFG.EN k c) = true) (hrsv : (s.th t).rsv = none) (hmask : bitAt (s.rd (CLU_CHAN_CFG.WGRP_MASK k c)) (s.wgrp t) = true)

omit h hc hch in
include hen hrsv hmask in
theorem State.mayReserve_of : s.mayReserve t c (s.th t) = true := by
  simp only [State.mayReserve, State.mayWriteChan, hk, hen, hrsv, hmask, Option.isNone_none, Bool.and_self]

omit h hk hc in
/-- The model's test of a free reservation. -/
theorem State.rsvFree_eq {free : Bool}
    (hfree : (ch.holder.isNone && decide (ch.msgs.length + ch.inflight.length + ch.credits < s.rd (CLU_CHAN_CFG.DEPTH k c))) = free) : s.rsvFree k c = free := by
  rw [← hfree, State.rsvFree, State.chanFree, hch]
  cases ch.holder with
  | none => exact congrArg (true && ·) (decide_eq_decide.mpr (by simp [b2n]))
  | some i => rfl

include hen hrsv hmask

/-- RSV and RSVT take a free reservation. -/
theorem rsv_taken (hfree : s.rsvFree k c = true) {ins : Instr} (hins : ins = .rsv t 0 rs1 0 imm ∨ ins = .rsvt t 0 rs1 0 imm) :
    ∃ u, exec ins s = .next u ∧ s.onlyChan u k c ∧ (u.th t).pc = ((s.th t).pc + 1) % 8192
      ∧ u.chan k c = { ch with holder := some (t.val % 128), granted := s.ticks } ∧ (u.th t).rsv = some (.loc c) ∧ (u.th t).b = false
      ∧ ∀ r, (u.th t).r r = (s.th t).r r := by
  have hno : (s.th t).chanNo rs1 imm = c := hc
  have hmay := State.mayReserve_of hk hen hrsv hmask
  have hexec : exec ins s = .next ((s.takeChan t c (s.th t)).endInstr t) := by
    obtain rfl | rfl := hins
    · refine State.instr_ok h ?_
      simp only [hno, hmay, hk, hfree, ne_eq, not_true_eq_false, or_self, Bool.not_true, Bool.false_eq_true, if_false, if_true]
    · refine State.instr_ok h ?_
      simp only [hno, hmay, hk, hfree, ne_eq, not_true_eq_false, or_self, Bool.not_true, Bool.false_eq_true, if_false, if_true]
  subst hk hch
  obtain ⟨honly, hchan, hth⟩ := s.onlyChan_setChan t (t.val / 128) c { s.chan (t.val / 128) c with holder := some (t.val % 128), granted := s.ticks }
    { (s.th t).nextPc with rsv := some (.loc c), b := false }
  obtain ⟨hb, hpc, hg, -, -, -, -, hrsv', -⟩ := Thread.afterStep_fields { (s.th t).nextPc with rsv := some (.loc c), b := false }
  refine ⟨_, hexec, honly, (congrArg Thread.pc hth).trans hpc, hchan, (congrArg Thread.rsv hth).trans hrsv', (congrArg Thread.b hth).trans hb, ?_⟩
  exact Thread.r_congr ((congrArg Thread.g hth).trans hg)

variable (hfree : s.rsvFree k c = false)
include hfree

/-- RSV of a reservation that is not free parks on the channel. -/
theorem rsv_parks (hpend : (s.th t).pend &&& (2 ^ 4 + 2 ^ 7) = 0) :
    ∃ u, exec (.rsv t 0 rs1 0 imm) s = .next u ∧ s.onlyChan u k c ∧ (u.th t).pc = ((s.th t).pc + 1) % 8192
      ∧ u.chan k c = { ch with saucer := ch.saucer ++ [t.val % 128] } ∧ (u.th t).st = .wait ∧ (u.th t).park = some (.chan c)
      ∧ (u.th t).wmask = 2 ^ 4 + 2 ^ 7 ∧ (u.th t).b = (s.th t).b ∧ ∀ r, (u.th t).r r = (s.th t).r r := by
  have hno : (s.th t).chanNo rs1 imm = c := hc
  have hmay := State.mayReserve_of hk hen hrsv hmask
  have habort : (s.th t).parkAborts evChanTx = false := bne_eq_false_iff_eq.mpr hpend
  have hexec : exec (.rsv t 0 rs1 0 imm) s
      = .next (((s.setChan k c { ch with saucer := ch.saucer ++ [t.val % 128] }).setTh t ((s.th t).parkOn (.chan c) evChanTx)).endInstr t) := by
    refine State.instr_ok h ?_
    simp only [hno, hmay, hk, hch, hfree, habort, ne_eq, not_true_eq_false, or_self, Bool.not_true, Bool.false_eq_true, if_false]
  obtain ⟨honly, hchan, hth⟩ := s.onlyChan_setChan t k c { ch with saucer := ch.saucer ++ [t.val % 128] } ((s.th t).parkOn (.chan c) evChanTx)
  refine ⟨_, hexec, honly, ?_, hchan, ?_⟩
  · rw [hth, Thread.pc_afterStep]; rfl
  · rw [hth]
    obtain ⟨hb, -, hg, hmask', -⟩ := Thread.afterStep_fields ((s.th t).parkOn (.chan c) evChanTx)
    exact ⟨Thread.afterStep_park _ rfl rfl, by rw [Thread.afterStep_only]; rfl, hmask', hb, Thread.r_congr hg⟩

omit hch in
/-- RSV of a reservation that is not free while CHAN_TX or CTRL is pending completes at once (05 R191). -/
theorem rsv_aborts (hpend : (s.th t).pend &&& (2 ^ 4 + 2 ^ 7) ≠ 0) :
    ∃ u, exec (.rsv t 0 rs1 0 imm) s = .next u ∧ u = s.setTh t (u.th t) ∧ (u.th t).b = true ∧ (u.th t).st = (s.th t).after
      ∧ (u.th t).pend = setBits (s.th t).pend 4 1 0 ∧ (u.th t).rsv = none ∧ ∀ r, (u.th t).r r = (s.th t).r r := by
  have hno : (s.th t).chanNo rs1 imm = c := hc
  have hmay := State.mayReserve_of hk hen hrsv hmask
  have habort : (s.th t).parkAborts evChanTx = true := bne_iff_ne.mpr hpend
  have hexec : exec (.rsv t 0 rs1 0 imm) s = .next ((s.setTh t ((s.th t).parkAbort evChanTx)).endInstr t) := by
    refine State.instr_ok h ?_
    simp only [hno, hmay, hk, hfree, habort, ne_eq, not_true_eq_false, or_self, Bool.not_true, Bool.false_eq_true, if_false, if_true]
  obtain ⟨honly, hth⟩ := s.endInstr_setTh t (y := (s.th t).parkAbort evChanTx) (by simpa [Thread.parkAbort, Thread.nextPc] using State.ready_ne_idle h)
  obtain ⟨hst, hb, hpend', -, -, hrsv', hr⟩ := (s.th t).parkAbort_fields evChanTx (State.ready_run h)
  refine ⟨_, hexec, honly, ?_⟩
  rw [hth]
  exact ⟨hb, hst, hpend', hrsv'.trans hrsv, hr⟩

omit hch in
/-- RSVT of a reservation that is not free sets B. -/
theorem rsvt_held : ∃ u, exec (.rsvt t 0 rs1 0 imm) s = .next u ∧ RegStep s u t 0 0 true (((s.th t).pc + 1) % 8192) := by
  have hno : (s.th t).chanNo rs1 imm = c := hc
  have hmay := State.mayReserve_of hk hen hrsv hmask
  refine State.sets_b h ?_
  simp only [hno, hmay, hk, hfree, ne_eq, not_true_eq_false, or_self, Bool.not_true, Bool.false_eq_true, if_false]
  rfl

end

/-! ### STG, SND and RCV (04 R150, R151; 05 R192, R193) -/

omit hch in
/-- STG stages a word under the reservation. -/
theorem stg_stages (rt : Fin 32) (hrsv : (s.th t).rsv = some (.loc c)) (hen : s.flag (CLU_CHAN_CFG.EN k c) = true) (hlen : (s.th t).stage.length < 8) :
    ∃ u, exec (.stg t rt rs1 0 imm) s = .next u ∧ u = s.setTh t (u.th t) ∧ (u.th t).stage = (s.th t).stage ++ [(s.th t).r rt] ∧ (u.th t).b = (s.th t).b
      ∧ (u.th t).pc = ((s.th t).pc + 1) % 8192 ∧ ∀ r, (u.th t).r r = (s.th t).r r := by
  let y : Thread := { s.th t with stage := (s.th t).stage ++ [(s.th t).r rt] }
  have hno : (s.th t).chanNo rs1 imm = c := hc
  have hmay : s.mayStage t c (s.th t) = true := by
    simp only [State.mayStage, hrsv, hk, hen, beq_self_eq_true, Bool.and_self]
  have hexec : ∃ u, exec (.stg t rt rs1 0 imm) s = .next u ∧ u = s.setTh t (u.th t) ∧ u.th t = y.nextPc.afterStep := by
    refine State.instr_thread h ?_ (State.ready_ne_idle h)
    simp only [hno, hmay, decide_eq_false (Nat.not_le.mpr hlen), ne_eq, not_true_eq_false, Bool.not_true, Bool.or_self, Bool.false_eq_true, if_false]
    rfl
  obtain ⟨u, hu, honly, hy⟩ := hexec
  obtain ⟨hb, hpc, hg, -, -, -, -, -, hstage⟩ := y.nextPc.afterStep_fields
  refine ⟨u, hu, honly, ?_⟩
  rw [hy]
  exact ⟨hstage, hb, hpc, Thread.r_congr hg⟩

/-- SND before the end of the lease. -/
theorem snd_sends (hrsv : (s.th t).rsv = some (.loc c)) (hstage : (s.th t).stage ≠ []) (hlease : s.leaseOver k c = false) :
    ∃ u, exec (.snd t 0 rs1 0 imm) s = .next u ∧ s.onlyChan u k c ∧ (u.th t).pc = ((s.th t).pc + 1) % 8192
      ∧ (u.chan k c).msgs = ch.msgs ++ [(s.th t).stage] ∧ (u.th t).b = (s.th t).b ∧ (∀ r, (u.th t).r r = (s.th t).r r)
      ∧ bitAt (u.th (k * 128 + s.rd (CLU_CHAN_CFG.READER k c))).pend 3 = true
      ∧ (ch.saucer = [] → (u.chan k c).holder = none ∧ (u.th t).rsv = none ∧ (u.th t).stage = []) := by
  let y : Thread := { (s.th t).nextPc with rsv := none, stage := [] }
  let w := ((s.setTh t y).setChan k c { ch with holder := none, msgs := ch.msgs ++ [(s.th t).stage] }).chanRx k c
  have hno : (s.th t).chanNo rs1 imm = c := hc
  have hempty : (s.th t).stage.isEmpty = false := by simpa using hstage
  have hexec : exec (.snd t 0 rs1 0 imm) s = .next ((w.grantChan k c).endInstr t) := by
    show execSnd t 0 rs1 0 imm s = _
    unfold execSnd
    simp only [hrsv, hk, hlease, Bool.and_false, Bool.false_eq_true, if_false]
    refine State.instr_ok h ?_
    simp only [hno, hrsv, hempty, ne_eq, not_true_eq_false, or_self, Bool.false_eq_true, if_false]
    subst hch
    rfl
  have hchan : w.chan k c = { ch with holder := none, msgs := ch.msgs ++ [(s.th t).stage] } := State.chan_setChan_same (s.setTh t y) k c _
  have hw : ∀ j, w.th j = { if j = t.val then y else s.th j with
      pend := if j = k * 128 + s.rd (CLU_CHAN_CFG.READER k c) then setBits (if j = t.val then y else s.th j).pend 3 1 1 else (if j = t.val then y else s.th j).pend } :=
    fun j => by rw [← State.th_setTh]; exact State.th_raise ..
  have hwt : w.th t = { y with pend := (w.th t).pend } := by rw [hw, if_pos rfl]
  obtain ⟨hb, hpc, -, hr⟩ := w.th_grantChan_endInstr k c t
  refine ⟨_, hexec, ((((((State.onlyChan.refl s k c).setTh t y).setChan _).chanRx k c)).grantChan).endInstr t, ?_, ?_, ?_, fun r => ?_, ?_, fun hsaucer => ?_⟩
  · rw [hpc, hwt]; rfl
  · exact (w.msgs_grantChan k c).trans (congrArg Chan.msgs hchan)
  · rw [hb, hwt]; rfl
  · rw [hr, hwt]; rfl
  · rw [State.pend_endInstr]
    refine (w.th_grantChan k c _).2 3 ?_
    rw [hw, if_pos rfl]
    exact bitAt_setBits_one _ _
  · rw [State.grantChan_nil ((congrArg Chan.saucer hchan).trans hsaucer), State.th_endInstr, if_pos rfl]
    obtain ⟨-, -, -, -, -, -, -, hrsv', hstage'⟩ := (w.th t).afterStep_fields
    rw [hrsv', hstage', hwt]
    exact ⟨congrArg Chan.holder hchan, rfl, rfl⟩

variable (rt : Fin 32) (hreader : s.rd (CLU_CHAN_CFG.READER k c) = t.val % 128) (hrt : rt.val ≤ 24)
include hreader hrt

/-- RCV with no message sets B. -/
theorem rcv_empty (hmsgs : ch.msgs = []) : ∃ u, exec (.rcv t rt rs1 0 imm) s = .next u ∧ RegStep s u t 0 0 true (((s.th t).pc + 1) % 8192) := by
  have hno : (s.th t).chanNo rs1 imm = c := hc
  refine State.sets_b h ?_
  simp only [hno, hk, hch, hreader, hmsgs, Nat.not_lt.mpr hrt, ne_eq, not_true_eq_false, or_self, if_false]

/-- RCV takes the oldest message. -/
theorem rcv_takes {m : List Word} {ms : List (List Word)} (hmsgs : ch.msgs = m :: ms) :
    ∃ u, exec (.rcv t rt rs1 0 imm) s = .next u ∧ s.onlyChan u k c ∧ (u.th t).pc = ((s.th t).pc + 1) % 8192 ∧ (u.chan k c).msgs = ms ∧ (u.th t).b = false
      ∧ (u.th t).rcvLen = m.length
      ∧ ∀ r, (u.th t).r r = if r ≠ 0 ∧ rt.val ≤ r ∧ r < rt.val + 8 then m.getD (r - rt.val) 0 else (s.th t).r r := by
  let vs := (m ++ List.replicate 8 0).take 8
  let y : Thread := { ((s.th t).ws rt vs).setB false with rcvLen := m.length }
  let w := (s.setTh t y.nextPc).setChan k c { ch with msgs := ms }
  have hno : (s.th t).chanNo rs1 imm = c := hc
  have hexec : exec (.rcv t rt rs1 0 imm) s = .next ((w.grantChan k c).endInstr t) := by
    refine State.instr_ok h ?_
    simp only [hno, hk, hch, hreader, hmsgs, Nat.not_lt.mpr hrt, ne_eq, not_true_eq_false, or_self, if_false]
    rfl
  have hwt : w.th t = y.nextPc := State.th_setTh_same s t _
  have hlen : vs.length = 8 := by simp [vs]
  obtain ⟨hb, hpc, hrcv, hr⟩ := w.th_grantChan_endInstr k c t
  refine ⟨_, hexec, ((((State.onlyChan.refl s k c).setTh t y.nextPc).setChan _).grantChan).endInstr t, ?_, ?_, ?_, ?_, fun r => ?_⟩
  · rw [hpc, hwt]
    simp only [Thread.nextPc, y, Thread.setB]
    rw [Thread.ws_only]
  · exact (w.msgs_grantChan k c).trans (congrArg Chan.msgs (State.chan_setChan_same (s.setTh t y.nextPc) k c _))
  · rw [hb, hwt]; rfl
  · rw [hrcv, hwt]; rfl
  · rw [hr, hwt]
    refine (Thread.r_ws (s.th t) rt vs r).trans ?_
    rw [hlen]
    split
    next hin =>
      simp only [vs, List.getD_eq_getElem?_getD, List.getElem?_take, List.getElem?_append, List.getElem?_replicate]
      rw [if_pos (by omega)]
      split
      · rfl
      next hpast => rw [if_pos (by omega), List.getElem?_eq_none (by omega)]; rfl
    · rfl

end

/-- Settles O19: one lemma for each channel instruction and state of the channel. -/
theorem channelsCarryMessages : Obligations.ChannelsCarryMessages := by
  unfold Obligations.ChannelsCarryMessages
  intro s t rt rs1 imm h x k i c ch free frame
  refine ⟨fun hen hrsv hmask => ⟨fun hfree ins hins => ?_, fun hfree => ⟨fun hpend => ?_, fun hpend => ?_, ?_⟩⟩, fun hrsv hen hlen => ?_,
    fun hrsv hstage hlease => ?_, fun hreader hrt => ⟨fun hmsgs => ?_, fun m ms hmsgs => ?_⟩⟩
  · obtain ⟨u, hu, ⟨honly, hother⟩, hpc, heffect⟩ := rsv_taken h rs1 imm rfl rfl rfl hen hrsv hmask (State.rsvFree_eq rfl hfree) hins
    exact ⟨u, hu, ⟨honly, hother, hpc⟩, heffect⟩
  · obtain ⟨u, hu, ⟨honly, hother⟩, hpc, heffect⟩ := rsv_parks h rs1 imm rfl rfl rfl hen hrsv hmask (State.rsvFree_eq rfl hfree) hpend
    exact ⟨u, hu, ⟨honly, hother, hpc⟩, heffect⟩
  · exact rsv_aborts h rs1 imm rfl rfl hen hrsv hmask (State.rsvFree_eq rfl hfree) hpend
  · exact rsvt_held h rs1 imm rfl rfl hen hrsv hmask (State.rsvFree_eq rfl hfree)
  · exact stg_stages h rs1 imm rfl rfl rt hrsv hen hlen
  · obtain ⟨u, hu, ⟨honly, hother⟩, hpc, heffect⟩ := snd_sends h rs1 imm rfl rfl rfl hrsv hstage hlease
    exact ⟨u, hu, ⟨honly, hother, hpc⟩, heffect⟩
  · exact rcv_empty h rs1 imm rfl rfl rfl rt hreader hrt hmsgs
  · obtain ⟨u, hu, ⟨honly, hother⟩, hpc, heffect⟩ := rcv_takes h rs1 imm rfl rfl rfl rt hreader hrt hmsgs
    exact ⟨u, hu, ⟨honly, hother, hpc⟩, heffect⟩

end Sys2Proof.Machine

namespace Sys2Proof.Machine
open Sys2Proof

/-! ### RSVR and SNDR (04 R153; 05 R193, R194) -/

/-- Thread `t` waits in `u` for an answer that writes no register, and from `s` to `u` nothing but it and channels changed. -/
def State.awaits (s u : State) (t : Nat) (b : Option Bool) : Prop :=
  (u.th t).st = .memwait ∧ (u.th t).acc = some (.done [] b) ∧ (u.th t).pc = ((s.th t).pc + 1) % 8192 ∧ (∀ r, (u.th t).r r = (s.th t).r r)
    ∧ u = { s with dy := { s.dy with threads := u.dy.threads, chans := u.dy.chans } } ∧ ∀ j, j ≠ t → u.th j = s.th j

theorem State.awaits_waitsFor {s v : State} {t : Nat} {y : Thread} {b : Option Bool} (hv : v = { s with dy := { s.dy with chans := v.dy.chans } })
    (hpc : y.pc = (s.th t).pc) (hg : y.g = (s.th t).g) : s.awaits (v.setTh t (y.waitsFor (.done [] b))) t b := by
  have hth : ∀ j, v.th j = s.th j := fun j => by rw [hv]; rfl
  obtain ⟨hst, hacc, hpc', -, hg', -, -⟩ := y.waitsFor_fields (.done [] b)
  unfold State.awaits
  rw [State.th_setTh_same]
  refine ⟨hst, hacc, hpc'.trans (by rw [hpc]), Thread.r_congr (hg'.trans hg), ?_, fun j hj => (State.th_setTh_other _ _ hj).trans (hth j)⟩
  rw [hv]
  rfl

theorem Thread.remoteNo_eq (x : Thread) (rs1 imm : Nat) : x.remoteNo rs1 imm = ((x.r rs1).toNat / 2 ^ 8 % 64, ((x.r rs1).toNat % 2 ^ 8 + imm) % 256) := by
  simp only [Thread.remoteNo, bits, Nat.pow_zero, Nat.div_one]
  rfl

section
variable {s : State} {t : Fin 8192} (h : s.ready t) (rs1 : Fin 32) (imm : Fin 512) {k c : Nat} (hkc : (s.th t).remoteNo rs1 imm = (k, c))
  (hok : s.remoteOk k c = true)
include h hkc hok

/-- RSVR takes a credit when an entry of the channel is free. -/
theorem rsvr_granted (hrsv : (s.th t).rsv = none) (hfree : 0 < s.chanFree k c) :
    ∃ u, exec (.rsvr t 0 rs1 0 imm) s = .next u ∧ s.awaits u t (some false) ∧ u.chan k c = { s.chan k c with credits := (s.chan k c).credits + 1 }
      ∧ (u.th t).rsv = some (.remote k c) := by
  let v := s.setChan k c { s.chan k c with credits := (s.chan k c).credits + 1 }
  let y : Thread := { s.th t with rsv := some (.remote k c) }
  have hexec : exec (.rsvr t 0 rs1 0 imm) s = .next (v.setTh t (y.waitsFor (.done [] (some false)))) := by
    refine State.instr_waits h ?_
    simp only [hkc, hrsv, hok, hfree.ne', ne_eq, not_true_eq_false, or_self, Option.isSome_none, Bool.not_true, Bool.false_eq_true, if_false]
    rfl
  obtain ⟨-, -, -, -, -, hrsv', -⟩ := y.waitsFor_fields (.done [] (some false))
  refine ⟨_, hexec, State.awaits_waitsFor (v := v) rfl rfl rfl, State.chan_setChan_same s k c _, ?_⟩
  rw [State.th_setTh_same, hrsv']

/-- RSVR of a full channel is answered with B set. -/
theorem rsvr_full (hrsv : (s.th t).rsv = none) (hfull : s.chanFree k c = 0) :
    ∃ u, exec (.rsvr t 0 rs1 0 imm) s = .next u ∧ s.awaits u t (some true) ∧ u.dy.chans = s.dy.chans ∧ (u.th t).rsv = none := by
  have hexec : exec (.rsvr t 0 rs1 0 imm) s = .next (s.setTh t ((s.th t).waitsFor (.done [] (some true)))) := by
    refine State.instr_waits h ?_
    simp only [hkc, hrsv, hok, hfull, ne_eq, not_true_eq_false, or_self, Option.isSome_none, Bool.not_true, Bool.false_eq_true, if_false, if_true]
  obtain ⟨-, -, -, -, -, hrsv', -⟩ := (s.th t).waitsFor_fields (.done [] (some true))
  refine ⟨_, hexec, State.awaits_waitsFor (v := s) rfl rfl rfl, rfl, ?_⟩
  rw [State.th_setTh_same, hrsv', hrsv]

/-- SNDR with a credit for the channel sends the staged message. -/
theorem sndr_sends (hrsv : (s.th t).rsv = some (.remote k c)) (hstage : (s.th t).stage ≠ []) :
    ∃ u, exec (.sndr t 0 rs1 0 imm) s = .next u ∧ s.awaits u t none
      ∧ u.chan k c = { s.chan k c with inflight := (s.chan k c).inflight ++ [(s.th t).stage], credits := (s.chan k c).credits - 1 }
      ∧ (u.th t).rsv = none ∧ (u.th t).stage = [] := by
  let v := s.sendRemote k c (s.th t).stage
  let y : Thread := { s.th t with rsv := none, stage := [] }
  have hempty : (s.th t).stage.isEmpty = false := by simpa using hstage
  have hexec : exec (.sndr t 0 rs1 0 imm) s = .next (v.setTh t (y.waitsFor (.done [] none))) := by
    refine State.instr_waits h ?_
    simp only [hkc, hrsv, hok, hempty, ne_eq, not_true_eq_false, or_self, Bool.not_true, Bool.false_eq_true, if_false]
    rfl
  obtain ⟨-, -, -, -, -, hrsv', hstage'⟩ := y.waitsFor_fields (.done [] none)
  refine ⟨_, hexec, State.awaits_waitsFor (v := v) rfl rfl rfl, State.chan_setChan_same s k c _, ?_⟩
  rw [State.th_setTh_same, hrsv', hstage']
  exact ⟨rfl, rfl⟩

end

/-! ### Answers, arrivals and leases -/

theorem Thread.wAll_only (x : Thread) (ws : List (Nat × Nat)) : x.wAll ws = { x with g := (x.wAll ws).g } := by
  induction ws generalizing x with
  | nil => rfl
  | cons p ws ih => obtain ⟨n, v⟩ := p; rw [Thread.wAll, ih, Thread.w_only]

/-- What an answer writes depends on the registers alone. -/
theorem Thread.g_wAll {x y : Thread} (hg : y.g = x.g) (ws : List (Nat × Nat)) : (y.wAll ws).g = (x.wAll ws).g := by
  induction ws generalizing x y with
  | nil => exact hg
  | cons p ws ih =>
    obtain ⟨n, v⟩ := p
    refine ih ?_
    unfold Thread.w
    rw [apply_ite Thread.g, apply_ite Thread.g, hg]

/-- An answer returns to its thread (04 R122). -/
theorem accessComplete_done {s : State} {t : Fin 8192} {ws : List (Nat × Nat)} {b : Bool} (hrun : s.run = true) (hst : (s.th t).st = .memwait)
    (hacc : (s.th t).acc = some (.done ws (some b))) :
    ∃ u, exec (.accessComplete t false) s = .next u ∧ u = s.setTh t (u.th t) ∧ (u.th t).b = b ∧ (u.th t).acc = none
      ∧ (u.th t).st = (if (s.th t).haltReq then .halt else .run) ∧ (u.th t).g = ((s.th t).wAll ws).g := by
  have hexec : exec (.accessComplete t false) s = .next (s.setTh t (((s.th t).resume.wAll ws).setB b)) := by
    show execAccessComplete t false s = _
    simp only [execAccessComplete, hst, hrun, hacc, ne_eq, not_true_eq_false, Bool.not_true, Bool.false_eq_true, or_self, if_false]
  have hg : ((s.th t).resume.wAll ws).g = ((s.th t).wAll ws).g := Thread.g_wAll (x := s.th t) (y := (s.th t).resume) rfl ws
  refine ⟨_, hexec, ?_⟩
  rw [State.th_setTh_same, Thread.wAll_only, hg]
  exact ⟨rfl, rfl, rfl, rfl, rfl⟩

/-- The oldest message at the spine port becomes visible (04 R151). -/
theorem chanRemoteArrive_effect {s : State} {k : Fin 64} {c : Fin 256} {m : List Word} {ms : List (List Word)} (hmsg : (s.chan k c).inflight = m :: ms) :
    ∃ u, exec (.chanRemoteArrive k c) s = .next u ∧ u.chan k c = { s.chan k c with inflight := ms, msgs := (s.chan k c).msgs ++ [m] }
      ∧ bitAt (u.th (k * 128 + s.rd (CLU_CHAN_CFG.READER k c))).pend 3 = true
      ∧ u = { s with dy := { s.dy with threads := u.dy.threads, chans := u.dy.chans } } := by
  let v := s.setChan k c { s.chan k c with inflight := ms, msgs := (s.chan k c).msgs ++ [m] }
  have hexec : exec (.chanRemoteArrive k c) s = .next (v.chanRx k c) := by
    show execChanRemoteArrive k c s = _
    simp only [execChanRemoteArrive, hmsg]
    rfl
  refine ⟨_, hexec, State.chan_setChan_same s k c _, ?_, rfl⟩
  have hth := v.th_raise (k * 128 + s.rd (CLU_CHAN_CFG.READER k c)) evChanRx (k * 128 + s.rd (CLU_CHAN_CFG.READER k c))
  rw [if_pos rfl] at hth
  exact (congrArg (fun y : Thread => bitAt y.pend 3) hth).trans (bitAt_setBits_one _ _)

/-- The lease of a reservation runs out, with no request waiting for the channel and its holder not in FAULT (04 R152). -/
theorem chanLeaseExpire_effect {s : State} {k : Fin 64} {c : Fin 256} {i : Nat} (hholder : (s.chan k c).holder = some i)
    (hsaucer : (s.chan k c).saucer = []) (hst : (s.th (k * 128 + i)).st ≠ .fault)
    (hover : (s.chan k c).granted + s.rd (CLU_CFG.LEASE_US k) * 1250 ≤ s.ticks) :
    ∃ u, exec (.chanLeaseExpire k c) s = .next u ∧ u.chan k c = { s.chan k c with holder := none } ∧ (u.th (k * 128 + i)).rsv = none
      ∧ (u.th (k * 128 + i)).stage = [] ∧ (u.th (k * 128 + i)).leaseLost = some c.val
      ∧ u.rd (CLU_CHAN_STAT.LEASES_REVOKED k c) = min (s.rd (CLU_CHAN_STAT.LEASES_REVOKED k c) + 1) (2 ^ (CLU_CHAN_STAT.LEASES_REVOKED k c).width - 1)
      ∧ u = { s with dy := { s.dy with threads := u.dy.threads, chans := u.dy.chans }, regs := u.regs } := by
  let y : Thread := { s.th (k * 128 + i) with rsv := none, stage := [] }
  let w := (s.setChan k c { s.chan k c with holder := none }).setTh (k * 128 + i) y
  let v := w.count (CLU_CHAN_STAT.LEASES_REVOKED k c)
  have hgrant : w.grantChan k c = w :=
    State.grantChan_nil ((congrArg Chan.saucer (State.chan_setChan_same s k c { s.chan k c with holder := none })).trans hsaucer)
  have hth : v.th (k * 128 + i) = y := State.th_setTh_same _ _ y
  have hlease : s.leaseOver k c = true := by
    simp only [State.leaseOver, hholder, hover, Option.isSome_some, decide_true, Bool.and_self]
  have hend : s.endLease k c i = v.setTh (k * 128 + i) { y with leaseLost := some c.val } := by
    have hgrant' : ((s.setChan k c { s.chan k c with holder := none }).setTh (k * 128 + i) { (s.setChan k c { s.chan k c with holder := none }).th (k * 128 + i) with
      rsv := none, stage := [] }).grantChan k c = w := hgrant
    unfold State.endLease
    simp only [hgrant']
    rw [show (w.count (CLU_CHAN_STAT.LEASES_REVOKED k c)).th (k * 128 + i) = y from hth, if_neg hst]
  have hexec : exec (.chanLeaseExpire k c) s = .next (v.setTh (k * 128 + i) { y with leaseLost := some c.val }) := by
    show execChanLeaseExpire k c s = _
    simp only [execChanLeaseExpire, hholder, hlease, if_true, hend]
  refine ⟨_, hexec, State.chan_setChan_same s k c _, ?_⟩
  rw [State.th_setTh_same]
  exact ⟨rfl, rfl, rfl, w.rd_count _, rfl⟩

/-- Settles O20: one lemma for each command. -/
theorem remoteChannelsAndLeases : Obligations.RemoteChannelsAndLeases := by
  unfold Obligations.RemoteChannelsAndLeases
  intro s t rs1 imm x k c ch waits
  have hkc : x.remoteNo rs1 imm = (k, c) := x.remoteNo_eq rs1 imm
  exact ⟨fun h hok hrsv => ⟨rsvr_granted h rs1 imm hkc hok hrsv, rsvr_full h rs1 imm hkc hok hrsv⟩,
    fun h hok hrsv hstage => sndr_sends h rs1 imm hkc hok hrsv hstage, fun ws b => accessComplete_done, fun k c m ms => chanRemoteArrive_effect,
    fun k c i => chanLeaseExpire_effect⟩

end Sys2Proof.Machine

namespace Sys2Proof.Machine
open Sys2Proof

/-! ### The first element of a list that a test names -/

/-- The element that `find?` finds is in the list with `f` applied. -/
theorem mem_mapFirst_of_find? {α : Type} {p : α → Bool} (f : α → α) {l : List α} {a : α} (h : l.find? p = some a) : f a ∈ mapFirst p f l := by
  induction l with
  | nil => cases h
  | cons b l ih =>
    rw [List.find?_cons] at h
    rw [mapFirst]
    split at h
    next hb =>
      cases h
      rw [if_pos hb]
      exact List.mem_cons_self
    next hb =>
      rw [hb, if_neg (by decide)]
      exact List.mem_cons_of_mem _ (ih h)

/-! ### A thread that waits for an answer, whatever else its instruction changed -/

/-- Thread `t` of `s` waits in `u` for access `a`, with its registers as they are. -/
def State.waitsIn (s u : State) (t : Nat) (a : Access) : Prop :=
  (u.th t).st = .memwait ∧ (u.th t).acc = some a ∧ (u.th t).pc = ((s.th t).pc + 1) % 8192 ∧ ∀ r, (u.th t).r r = (s.th t).r r

theorem State.waitsIn_waitsFor (s v : State) (t : Nat) (a : Access) : s.waitsIn (v.setTh t ((s.th t).waitsFor a)) t a := by
  obtain ⟨hst, hacc, hpc, -, hg, -, -⟩ := (s.th t).waitsFor_fields a
  unfold State.waitsIn
  rw [State.th_setTh_same]
  exact ⟨hst, hacc, hpc, Thread.r_congr hg⟩

/-! ### FRAME_TO_BINDING and FGET (05 R179, R180) -/

/-- The port's oldest waiting frame enters its next free binding. -/
theorem frameToBinding_effect {s : State} {p : Fin 64} {f : Slot} {j : Nat} (hrun : s.run = true) (hslot : (s.slotsOf p).find? (fun f => !f.copied) = some f)
    (hbind : s.nextBind p = some j) :
    ∃ u, exec (.frameToBinding p) s = .next u ∧ u.bind j = { full := true, taken := false, port := p, stamp := f.stamp, len := f.data.length }
      ∧ (State.memOf u.dy.dmem (j / 8)).readBytes (s.rd (DYE_FRM.BASE (j / 8) (j % 8))) f.data.length = f.data
      ∧ bitAt (u.th (j / 8 * 8 + s.rd (DYE_FRM.SLOT (j / 8) (j % 8)))).pend 6 = true
      ∧ u = { s with dy := { s.dy with threads := u.dy.threads, dmem := u.dy.dmem, binds := u.dy.binds },
                     merge := { s.merge with slots := u.merge.slots, rotation := u.merge.rotation } } := by
  let s1 := s.setSlots p (mapFirst (fun t => !t.copied) (fun t => { t with copied := true }) (s.slotsOf p))
  let s2 : State := { s1 with merge := { s1.merge with rotation := FMap.set 0 s1.merge.rotation p (j + 1) } }
  let s3 : State := { s2 with
    dy := { s2.dy with dmem := FMap.set [] s2.dy.dmem (j / 8) ((State.memOf s2.dy.dmem (j / 8)).writeBytes (s.rd (DYE_FRM.BASE (j / 8) (j % 8))) f.data) } }
  let s4 := s3.setBind j { full := true, taken := false, port := p, stamp := f.stamp, len := f.data.length }
  have hexec : exec (.frameToBinding p) s = .next (s4.raise (j / 8 * 8 + s.rd (DYE_FRM.SLOT (j / 8) (j % 8))) evFrame) := by
    show execFrameToBinding p s = _
    simp only [execFrameToBinding, hrun, hslot, hbind, Bool.not_true, Bool.false_eq_true, if_false]
    rfl
  have hraise : bitAt ((s4.raise (j / 8 * 8 + s.rd (DYE_FRM.SLOT (j / 8) (j % 8))) evFrame).th (j / 8 * 8 + s.rd (DYE_FRM.SLOT (j / 8) (j % 8)))).pend 6 = true := by
    rw [State.th_raise, if_pos rfl]
    exact bitAt_setBits_one _ _
  have hfull : s4.bind j = { full := true, taken := false, port := p, stamp := f.stamp, len := f.data.length } := s3.bind_setBind_same j _
  exact ⟨_, hexec, hfull, (State.memOf_stored s.dy.dmem (j / 8) (s.rd (DYE_FRM.BASE (j / 8) (j % 8))) rfl).1, hraise, rfl⟩

section
variable {s : State} {t : Fin 8192} (h : s.ready t) (rd : Fin 32) {k : Fin 8} (hen : s.flag (DYE_FRM.EN (t.val / 8) k) = true)
  (hslot : s.rd (DYE_FRM.SLOT (t.val / 8) k) = t.val % 8)
include h hen hslot

/-- FGET of a binding that holds no frame to take writes 0 and sets B. -/
theorem fget_none (hb : (s.bind (t.val / 8 * 8 + k.val)).full = false ∨ (s.bind (t.val / 8 * 8 + k.val)).taken = true) :
    ∃ u, exec (.fget t rd 0 ⟨k, Nat.lt_trans k.isLt (by decide)⟩) s = .next u ∧ RegStep s u t rd 0 true (((s.th t).pc + 1) % 8192) := by
  have hempty : (!(s.bind (t.val / 8 * 8 + k.val)).full || (s.bind (t.val / 8 * 8 + k.val)).taken) = true := by
    obtain hfull | htaken := hb
    · rw [hfull]; rfl
    · rw [htaken, Bool.or_true]
  have hexec : exec (.fget t rd 0 ⟨k, Nat.lt_trans k.isLt (by decide)⟩) s = .next ((s.setTh t (((s.th t).w rd 0).setB true).nextPc).endInstr t) := by
    refine State.instr_ok h ?_
    simp only [hen, hslot, hempty, Nat.not_lt.mpr (Nat.le_of_lt_succ k.isLt), ne_eq, not_true_eq_false, Bool.not_true, Bool.false_eq_true, or_self, if_false,
      if_true]
    rfl
  have hpc : (((s.th t).w rd 0).setB true).nextPc = { ((s.th t).w rd 0).setB true with pc := ((s.th t).pc + 1) % 8192 } := by
    rw [Thread.w_only]; rfl
  rw [hpc] at hexec
  exact ⟨_, hexec, RegStep.endInstr h 0 true _⟩

/-- FGET takes the frame of its binding. -/
theorem fget_takes {b : Binding} (hb : s.bind (t.val / 8 * 8 + k.val) = b) (hfull : b.full = true) (htaken : b.taken = false) {d : Nat}
    (hd : descWord (s.rd (DYE_FRM.BASE (t.val / 8) k)) b.len s.freeVal b.port = d) :
    ∃ u, exec (.fget t rd 0 ⟨k, Nat.lt_trans k.isLt (by decide)⟩) s = .next u ∧ u.bind (t.val / 8 * 8 + k.val) = { b with taken := true }
      ∧ (u.th t).b = false ∧ (u.th t).descs = (s.th t).descs ++ [{ word := d, port := b.port, stamp := b.stamp }]
      ∧ (∀ r, (u.th t).r r = if r = rd.val ∧ rd ≠ 0 then BitVec.ofNat 64 d else (s.th t).r r)
      ∧ u = { s with free := s.free + 1, dy := { s.dy with threads := u.dy.threads, binds := u.dy.binds } } := by
  let v := s.drew.setBind (t.val / 8 * 8 + k.val) { b with taken := true }
  let y : Thread := { ((s.th t).w rd (BitVec.ofNat 64 d)).setB false with descs := (s.th t).descs ++ [{ word := d, port := b.port, stamp := b.stamp }] }
  have hwaiting : (!b.full || b.taken) = false := by rw [hfull, htaken]; rfl
  have hexec : exec (.fget t rd 0 ⟨k, Nat.lt_trans k.isLt (by decide)⟩) s = .next ((v.setTh t y.nextPc).endInstr t) := by
    refine State.instr_ok h ?_
    simp only [hen, hslot, hb, hwaiting, hd, Nat.not_lt.mpr (Nat.le_of_lt_succ k.isLt), ne_eq, not_true_eq_false, Bool.not_true, Bool.false_eq_true, or_self,
      if_false]
    rfl
  have hth : ((v.setTh t y.nextPc).endInstr t).th t = y.nextPc.afterStep := by rw [State.th_endInstr, if_pos rfl, State.th_setTh_same]
  refine ⟨_, hexec, s.drew.bind_setBind_same .., ?_, ?_, fun r => ?_, rfl⟩
  · rw [hth, Thread.b_afterStep]; rfl
  · rw [hth, Thread.afterStep_only]; rfl
  · rw [hth, Thread.r_afterStep]
    refine (Thread.r_w (s.th t) rd (BitVec.ofNat 64 d) r).trans ?_
    simp only [ne_eq, Fin.ext_iff, Fin.val_zero]

end

/-! ### MFILL and MDROP (05 R181, R184) -/

/-- A taken frame of slot `stamp` of source `port` is in binding `b`. -/
def Binding.holds (b : Binding) (port : Nat) (stamp : Stamp) : Prop := b.full = true ∧ b.taken = true ∧ b.port = port ∧ b.stamp = stamp

/-- Binding `k` of engine `g` freed if it holds the frame of a slot. -/
def State.freeOne (g port : Nat) (stamp : Stamp) (s : State) (k : Nat) : State :=
  let b := FMap.get {} s.dy.binds (g * 8 + k)
  if b.full && b.taken && b.port == port && b.stamp == stamp then
    { s with dy := { s.dy with binds := FMap.set {} s.dy.binds (g * 8 + k) {} } } else s

theorem State.freeBinding_eq (s : State) (g port : Nat) (stamp : Stamp) : s.freeBinding g port stamp = (List.range 8).foldl (State.freeOne g port stamp) s := rfl

section
variable (s : State) (g port : Nat) (stamp : Stamp)

theorem State.freeOne_only (k : Nat) : State.freeOne g port stamp s k = { s with dy := { s.dy with binds := (State.freeOne g port stamp s k).dy.binds } } := by
  unfold State.freeOne
  extract_lets b
  split
  · rfl
  · rfl

theorem State.bind_freeOne_same (k : Nat) : ¬((State.freeOne g port stamp s k).bind (g * 8 + k)).holds port stamp := by
  unfold State.freeOne
  extract_lets b
  split
  · have hfree : ({ s with dy := { s.dy with binds := FMap.set {} s.dy.binds (g * 8 + k) {} } } : State).bind (g * 8 + k) = {} :=
      FMap.get_set_same {} s.dy.binds (g * 8 + k) {}
    rw [hfree]
    exact fun hholds => by cases hholds.1
  next hno => exact fun ⟨hfull, htaken, hport, hstamp⟩ => hno (by
      simp only [Bool.and_eq_true, beq_iff_eq]
      exact ⟨⟨⟨hfull, htaken⟩, hport⟩, hstamp⟩)

theorem State.bind_freeOne_other {k j : Nat} (hj : j ≠ g * 8 + k) : (State.freeOne g port stamp s k).bind j = s.bind j := by
  unfold State.freeOne
  extract_lets b
  split
  · exact FMap.get_set_other {} {} s.dy.binds {} hj
  · rfl

/-- The bindings below `n` of an engine freed of a slot's frame. -/
theorem State.foldl_freeOne (n : Nat) : (List.range n).foldl (State.freeOne g port stamp) s
      = { s with dy := { s.dy with binds := ((List.range n).foldl (State.freeOne g port stamp) s).dy.binds } }
    ∧ ∀ k, k < n → ¬(((List.range n).foldl (State.freeOne g port stamp) s).bind (g * 8 + k)).holds port stamp := by
  induction n with
  | zero => exact ⟨rfl, fun k hk => absurd hk (Nat.not_lt_zero k)⟩
  | succ n ih =>
    obtain ⟨honly, hfreed⟩ := ih
    rw [List.range_succ, List.foldl_append, List.foldl_cons, List.foldl_nil]
    generalize (List.range n).foldl (State.freeOne g port stamp) s = u at *
    refine ⟨?_, fun k hk => ?_⟩
    · have hstep := u.freeOne_only g port stamp n
      rw [honly] at hstep ⊢
      exact hstep
    · by_cases hkn : k = n
      · rw [hkn]
        exact u.bind_freeOne_same g port stamp n
      · rw [u.bind_freeOne_other g port stamp (by omega)]
        exact hfreed k (by omega)

end

/-- MFILL and MDROP of a descriptor that the thread holds: the binding is free again and the request on its way. -/
theorem State.fill_effect {s : State} {t : Fin 8192} (h : s.ready t) (rd rs1 : Fin 32) {drop : Bool} {control : Nat} {d : Desc}
    {f : State → Thread → Except Flt State} (hf : f s (s.th t) = s.fill t rd rs1 drop control (s.th t))
    (hd : (s.th t).descs.find? (fun d => d.word == ((s.th t).r rs1).toNat) = some d) :
    ∃ u, s.instr t f = .next u ∧ s.waitsIn u t (.status rd)
      ∧ u.merge = { s.merge with fills := s.merge.fills ++ [{ thread := t, port := d.port, stamp := d.stamp, drop := drop, control := control }] }
      ∧ ∀ k, k < 8 → ¬(u.bind (t.val / 8 * 8 + k)).holds d.port d.stamp := by
  obtain ⟨honly, hfreed⟩ := s.foldl_freeOne (t.val / 8) d.port d.stamp 8
  rw [← State.freeBinding_eq] at honly hfreed
  let req : FillReq := { thread := t, port := d.port, stamp := d.stamp, drop := drop, control := control }
  have hfill : s.fill t rd rs1 drop control (s.th t) = State.memwait { s.freeBinding (t.val / 8) d.port d.stamp with
      merge := { (s.freeBinding (t.val / 8) d.port d.stamp).merge with fills := (s.freeBinding (t.val / 8) d.port d.stamp).merge.fills ++ [req] } }
      t (s.th t) (.status rd) := by
    simp only [State.fill, hd]
    rfl
  generalize s.freeBinding (t.val / 8) d.port d.stamp = w at *
  let v : State := { w with merge := { w.merge with fills := w.merge.fills ++ [req] } }
  have hmerge : w.merge = s.merge := by rw [honly]
  have hmerge' : v.merge = { s.merge with fills := s.merge.fills ++ [req] } := by rw [← hmerge]
  exact ⟨_, State.instr_waits h (v := v) (hf.trans hfill), s.waitsIn_waitsFor v t _, hmerge', hfreed⟩

/-! ### SLOT_FILL_ARRIVE (05 R183, R184) -/

/-- The candidate record that a fill makes of the frame of slot `f` (05 R182). -/
def FillReq.candidate (r : FillReq) (f : Slot) : Rec :=
  { stamp := f.stamp, port := r.port, typ := bits r.control 0 8, session := bits r.control 8 32, payload := fillPayload f.data r.control }

/-- A fill or drop that the merge store takes for slot `f`. -/
theorem State.fillAt_takes {s : State} {r : FillReq} {f : Slot} (hslot : (s.slotsOf r.port).find? (fun f => f.stamp == r.stamp && f.st == .pending) = some f)
    (hover : s.parseOver f.stamp = false) (hok : r.drop = true ∨ (0x70 ≤ bits r.control 0 8 ∧ bits r.control 59 5 = 0)) :
    (s.fillAt r).1 = 0 ∧ (∀ j, (s.fillAt r).2.th j = s.th j) ∧ (s.fillAt r).2.merge.fills = s.merge.fills
      ∧ ∃ f' ∈ (s.fillAt r).2.slotsOf r.port, f'.stamp = f.stamp ∧ f'.st = (if r.drop then .dropped else .ready)
        ∧ (r.drop = false → f'.cand = r.candidate f) := by
  cases hdrop : r.drop with
  | true =>
    simp only [State.fillAt, hslot, hover, hdrop, Bool.false_eq_true, if_false, if_true]
    refine ⟨trivial, fun _ => rfl, rfl, { f with st := .dropped }, ?_, rfl, rfl, fun hcontra => by cases hcontra⟩
    show _ ∈ (s.setSlots r.port _).slotsOf r.port
    rw [State.slotsOf_setSlots_same]
    exact mem_mapFirst_of_find? _ hslot
  | false =>
    rw [hdrop] at hok
    obtain ⟨htyp, hzero⟩ := hok.resolve_left (by decide)
    have hgood : badControl r.control = false := by
      simp only [badControl, Nat.not_lt.mpr htyp, hzero, ne_eq, not_true_eq_false, decide_false, Bool.or_self]
    simp only [State.fillAt, hslot, hover, hdrop, hgood, Bool.false_eq_true, if_false]
    refine ⟨trivial, fun _ => rfl, rfl, { f with st := .ready, cand := r.candidate f }, ?_, ?_⟩
    · rw [State.slotsOf_setSlots_same]
      exact mem_mapFirst_of_find? _ hslot
    · exact ⟨rfl, rfl, fun _ => rfl⟩

/-- A status returns to a thread that waits for it. -/
theorem State.statusBack_waiting {s : State} {t rd : Nat} (st : Nat) (h : (s.th t).acc = some (.status rd)) :
    s.statusBack t st = s.setTh t { s.th t with acc := some (.done [(rd, st)] (some (statusB st))) } := by
  unfold State.statusBack
  simp only [h]

/-- The thread's oldest fill or drop reaches the merge store in time. -/
theorem slotFillArrive_effect {s : State} {t : Fin 8192} {rd : Fin 32} {r : FillReq} {f : Slot}
    (hreq : s.merge.fills.find? (fun r => r.thread == t.val) = some r) (hdead : r.dead = false)
    (hslot : (s.slotsOf r.port).find? (fun f => f.stamp == r.stamp && f.st == .pending) = some f) (hover : s.parseOver f.stamp = false)
    (hacc : (s.th t).acc = some (.status rd)) (hok : r.drop = true ∨ (0x70 ≤ bits r.control 0 8 ∧ bits r.control 59 5 = 0)) :
    ∃ u, exec (.slotFillArrive t) s = .next u ∧ (u.th t).acc = some (.done [(rd.val, 0)] (some false))
      ∧ u.merge.fills = dropFirst (fun r => r.thread == t.val) s.merge.fills
      ∧ ∃ f' ∈ u.slotsOf r.port, f'.stamp = f.stamp ∧ f'.st = (if r.drop then .dropped else .ready)
        ∧ (r.drop = false → f'.cand = r.candidate f) := by
  let s1 : State := { s with merge := { s.merge with fills := dropFirst (fun r => r.thread == t.val) s.merge.fills } }
  obtain ⟨hst, hth, hfills, hslots⟩ := State.fillAt_takes (s := s1) hslot hover hok
  let y : Thread := { s.th t with descs := dropFirst (fun d => d.port == r.port && d.stamp == r.stamp) (s.th t).descs }
  have hback : ((s1.fillAt r).2.setTh t y).statusBack t 0
      = ((s1.fillAt r).2.setTh t y).setTh t { y with acc := some (.done [(rd.val, 0)] (some (statusB 0))) } := by
    rw [State.statusBack_waiting 0 (rd := rd), State.th_setTh_same]
    rw [State.th_setTh_same]
    exact hacc
  have hexec : exec (.slotFillArrive t) s = .next (((s1.fillAt r).2.setTh t y).setTh t { y with acc := some (.done [(rd.val, 0)] (some (statusB 0))) }) := by
    show execSlotFillArrive t s = _
    simp only [execSlotFillArrive, hreq, hdead, Bool.false_eq_true, if_false]
    rw [← hback]
    have hth' := hth t
    generalize s1.fillAt r = q at *
    obtain ⟨st, v⟩ := q
    simp only at hst hth'
    subst hst
    simp only [hth']
    rfl
  refine ⟨_, hexec, ?_, hfills, hslots⟩
  rw [State.th_setTh_same]
  rfl

/-! ### HAND and its arrival (05 R186) -/

/-- The HAND request of thread `t`, whose registers name the record and the verdict. -/
def Thread.handReq (x : Thread) (t rs1 rs2 : Nat) : HandReq := { thread := t, seq := (x.r rs1).toNat, verdict := (x.r rs2).toNat % 2 ^ 16 }

theorem hand_effect {s : State} {t : Fin 8192} (h : s.ready t) (rd rs1 rs2 : Fin 32) :
    ∃ u, exec (.hand t rd rs1 rs2 0) s = .next u ∧ s.waitsIn u t (.status rd)
      ∧ u = { s with dy := { s.dy with threads := u.dy.threads, hands := s.dy.hands ++ [(s.th t).handReq t rs1 rs2] } } := by
  let v : State := { s with dy := { s.dy with hands := s.dy.hands ++ [(s.th t).handReq t rs1 rs2] } }
  have hexec : exec (.hand t rd rs1 rs2 0) s = .next (v.setTh t ((s.th t).waitsFor (.status rd))) := State.instr_waits h rfl
  exact ⟨_, hexec, s.waitsIn_waitsFor v t _, rfl⟩

/-- The thread's oldest HAND reaches Carafe in time and fixes the verdict. -/
theorem handArrive_effect {s : State} {t : Fin 8192} {rd : Fin 32} {r : HandReq} {i : Issued} (hreq : s.dy.hands.find? (fun h => h.thread == t.val) = some r)
    (hdead : r.dead = false) (hissued : s.crf.issued.find? (fun i => i.r.seq == r.seq) = some i) (hmapped : i.r.mapped = some (r.thread / 128))
    (hverdict : i.verdict = none) (hdeadline : s.deadline i = false) (hacc : (s.th t).acc = some (.status rd)) :
    ∃ u, exec (.handArrive t) s = .next u ∧ (u.th t).acc = some (.done [(rd.val, 0)] (some false))
      ∧ ∃ i' ∈ u.crf.issued, i'.r = i.r ∧ i'.verdict = some r.verdict := by
  let s1 : State := { s with dy := { s.dy with hands := dropFirst (fun h => h.thread == t.val) s.dy.hands } }
  let v := s1.setIssued r.seq (fun i => { i with verdict := some r.verdict })
  have hat : s1.handAt r = (0, v) := by
    unfold State.handAt
    rw [show s1.crf.issued.find? (fun i => i.r.seq == r.seq) = some i from hissued]
    simp only [hmapped, hverdict, show s1.deadline i = false from hdeadline, ne_eq, not_true_eq_false, Option.isSome_none, Bool.false_eq_true, if_false]
    rfl
  have hexec : exec (.handArrive t) s = .next (v.setTh t { v.th t with acc := some (.done [(rd.val, 0)] (some (statusB 0))) }) := by
    show execHandArrive t s = _
    unfold execHandArrive
    rw [hreq]
    simp only [show State.handAt { s with dy := { s.dy with hands := dropFirst (fun h => h.thread == t.val) s.dy.hands } } r = (0, v) from hat, hdead,
      Bool.false_eq_true, if_false]
    rw [State.statusBack_waiting 0 (s := v) hacc]
  refine ⟨_, hexec, ?_, { i with verdict := some r.verdict }, mem_mapFirst_of_find? (fun i => { i with verdict := some r.verdict }) hissued, rfl, rfl⟩
  rw [State.th_setTh_same]
  rfl

/-! ### RGET (05 R202) -/

/-- From `s` to `u` nothing but what the device sends changed. -/
def State.onlyOut (s u : State) : Prop := u = { s with out := u.out }

theorem State.onlyOut.refl (s : State) : s.onlyOut s := rfl

theorem State.onlyOut.trans {s u v : State} (h : s.onlyOut u) (h' : u.onlyOut v) : s.onlyOut v := by
  unfold State.onlyOut at *
  rw [h] at h'
  exact h'

theorem State.onlyOut.foldl {α : Type} {g : State → α → State} (hg : ∀ (s : State) a, s.onlyOut (g s a)) (l : List α) (s : State) : s.onlyOut (l.foldl g s) := by
  induction l generalizing s with
  | nil => exact .refl s
  | cons a l ih => exact (hg s a).trans (ih _)

theorem State.onlyOut.hostWrite (s : State) (sl addr : Nat) (data : List Byte) (ro hinted : Bool) : s.onlyOut (s.hostWrite sl addr data ro hinted) := by
  unfold State.hostWrite
  split
  · exact .refl s
  · refine State.onlyOut.foldl (fun s t => ?_) _ s
    exact rfl

theorem State.onlyOut.returnEntry (s : State) (r index : Nat) (e : List Byte) : s.onlyOut (s.returnEntry r index e) := .hostWrite ..

theorem drop_length_takeWhile {α : Type} (p : α → Bool) (l : List α) : l.drop (l.takeWhile p).length = l.dropWhile p := by
  induction l with
  | nil => rfl
  | cons a l ih =>
    rw [List.takeWhile_cons, List.dropWhile_cons]
    split
    · exact ih
    · rfl

/-- What is owed at a ring's head is returned, up to the next entry that is the thread's. -/
theorem State.returnOwed_effect (s : State) (r : Nat) :
    ((s.returnOwed r).sub r).ready = (s.sub r).ready.dropWhile (fun e => !threadEntry e.1) ∧ (s.returnOwed r).dy = s.dy := by
  have hstep : ∀ (s : State) (e : List Byte × Nat), s.onlyOut (s.returnEntry r e.2 e.1) := fun s e => State.onlyOut.returnEntry s r e.2 e.1
  have hout : ∀ (l : List (List Byte × Nat)) (s : State), s.onlyOut (l.foldl (fun s e => s.returnEntry r e.2 e.1) s) := State.onlyOut.foldl hstep
  unfold State.returnOwed
  extract_lets x owed
  rw [hout owed _]
  refine ⟨?_, rfl⟩
  show ((s.setSub r _).sub r).ready = _
  rw [State.sub_setSub_same]
  exact drop_length_takeWhile _ _

section
variable {s : State} {t : Fin 8192} (h : s.ready t) (rd rs1 rs2 : Fin 32) {r a : Nat} (hr : ((s.th t).r rs1).toNat = r) (ha : ((s.th t).r rs2).toNat = a)
  (hring : r < 32768) (hen : (s.sdesc r).en = true) (hcls : (s.sdesc r).cls = 2) (hbound : (s.sdesc r).thread = t.val) (halign : a % 32 = 0)
include h hr ha hring hen hcls hbound halign

/-- RGET of an empty ring. -/
theorem rget_empty (hready : (s.sub r).ready = []) (hplace : ∃ o, memRegion t a 32 = .dmem o ∧ s.mayWrite t (.dmem o) 32 = true) :
    ∃ u, exec (.rget t rd rs1 rs2 0) s = .next u ∧ s.waitsIn u t (.done [(rd.val, 0)] (some true)) := by
  obtain ⟨o, hregion, hwrite⟩ := hplace
  have hexec : exec (.rget t rd rs1 rs2 0) s = .next (s.setTh t ((s.th t).waitsFor (.done [(rd.val, 0)] (some true)))) := by
    refine State.instr_waits h ?_
    simp only [hr, ha, hring, hen, hcls, hbound, halign, hready, hregion, hwrite, ne_eq, not_true_eq_false, and_self, Bool.not_true, Bool.false_eq_true,
      if_true, if_false]
  exact ⟨_, hexec, s.waitsIn_waitsFor s t _⟩

/-- RGET takes the entry at the ring's head. -/
theorem rget_takes {e : List Byte} {i : Nat} {rest : List (List Byte × Nat)} {o : Nat} (hready : (s.sub r).ready = (e, i) :: rest)
    (hregion : memRegion t a e.length = .dmem o) (hwrite : s.mayWrite t (.dmem o) e.length = true) :
    ∃ u, exec (.rget t rd rs1 rs2 0) s = .next u ∧ s.waitsIn u t (.done [(rd.val, field e 0 8)] (some false))
      ∧ (State.memOf u.dy.dmem (t.val / 8)).readBytes o e.length = e ∧ (u.sub r).ready = rest.dropWhile (fun e => !threadEntry e.1) := by
  let w := s.writeRegion t (.dmem o) e
  let w1 := w.setSub r { w.sub r with ready := rest }
  let w2 := w1.returnEntry r i e
  have hexec : exec (.rget t rd rs1 rs2 0) s = .next ((w2.returnOwed r).setTh t ((s.th t).waitsFor (.done [(rd.val, field e 0 8)] (some false)))) := by
    refine State.instr_waits h ?_
    simp only [hr, ha, hring, hen, hcls, hbound, halign, hready, hregion, hwrite, ne_eq, not_true_eq_false, and_self, Bool.not_true, Bool.false_eq_true,
      if_true, if_false]
    rfl
  obtain ⟨howed, hdy⟩ := w2.returnOwed_effect r
  have hout : w2 = { w1 with out := w2.out } := State.onlyOut.returnEntry w1 r i e
  have hdmem : w2.dy = w.dy := by rw [hout]; rfl
  have hsub : (w2.sub r).ready = rest := by
    rw [hout]
    exact congrArg SubRing.ready (w.sub_setSub_same r { w.sub r with ready := rest })
  rw [hsub] at howed
  refine ⟨_, hexec, s.waitsIn_waitsFor _ t _, ?_, howed⟩
  show (State.memOf (w2.returnOwed r).dy.dmem _).readBytes _ _ = _
  rw [hdy, hdmem]
  exact (State.memOf_stored s.dy.dmem (t.val / 8) o rfl).1

end

/-- Settles O23: one lemma for each command. -/
theorem framesAndVerdicts : Obligations.FramesAndVerdicts := by
  unfold Obligations.FramesAndVerdicts
  intro s t rd rs1 rs2 x g waits
  refine ⟨fun p f j hrun hslot hbind => frameToBinding_effect hrun hslot hbind, fun k h hen hslot => ?_, fun d h hd => ⟨?_, ?_⟩,
    fun r f hreq hdead hslot hover hacc hok => slotFillArrive_effect hreq hdead hslot hover hacc hok, fun h => hand_effect h rd rs1 rs2,
    fun r i hreq hdead hissued hmapped hverdict hdeadline hacc => handArrive_effect hreq hdead hissued hmapped hverdict hdeadline hacc, ?_⟩
  · intro b fget
    refine ⟨fun hb => fget_none h rd hen hslot hb, fun hfull htaken => ?_⟩
    obtain ⟨u, hu, heffect⟩ := fget_takes h rd hen hslot rfl hfull htaken rfl
    exact ⟨u, s.freeVal, hu, heffect⟩
  · exact State.fill_effect h rd rs1 rfl hd
  · obtain ⟨u, hu, hwaits, hmerge, -⟩ := State.fill_effect (f := fun s x => s.fill t rd rs1 true 0 x) h rd rs1 rfl hd
    exact ⟨u, hu, hwaits, hmerge⟩
  · intro r h hring hen hcls hbound
    exact ⟨fun hready halign hplace => rget_empty h rd rs1 rs2 rfl rfl hring hen hcls hbound halign hready hplace,
      fun e i rest o hready halign hregion hwrite => rget_takes h rd rs1 rs2 rfl rfl hring hen hcls hbound halign hready hregion hwrite⟩

end Sys2Proof.Machine

namespace Sys2Proof.Machine
open Sys2Proof

/-! ### The gate's decisions -/

theorem State.fences_only (s : State) (r n : Nat) : s.fences r n = { s with hq := (s.fences r n).hq } := by
  induction n generalizing s with
  | zero => rfl
  | succ n ih =>
    unfold State.fences
    extract_lets x
    split
    · split
      · exact ih _
      · rfl
    · rfl

/-- A completion on a submission ring changes the host queues alone (09 R366). -/
theorem State.complete_only (s : State) (r entry : Nat) (g : Group) : s.complete r entry g = { s with hq := (s.complete r entry g).hq } := by
  unfold State.complete
  extract_lets x
  split
  · exact State.fences_only ..
  · rfl

/-- The keys of the registers other than the gate's counts. -/
def gateKey (k : Nat) : Prop := k < PRG_CNT.SENT.key ∨ PRG_CNT.HOLD_TIMEOUT.key < k

/-- What the gate's decisions read is the same but for the ports themselves: the time, the closed epochs, and every register but the gate's counts (06 R236). -/
structure State.gateKept (s u : State) : Prop where
  ticks : u.ticks = s.ticks
  closed : u.closed = s.closed
  regs : ∀ f : Fld, gateKey f.key → u.rd f = s.rd f

/-- From `s` to `u` port `p` becomes `x`; no other port changes, nor anything else that the gate's decisions read. -/
structure State.atPort (s u : State) (p : Nat) (x : EPort) : Prop where
  kept : s.gateKept u
  same : u.eport p = x
  other : ∀ q, q ≠ p → u.eport q = s.eport q

section
variable {s u v : State} {p : Nat} {x : EPort}

theorem State.gateKept.refl (s : State) : s.gateKept s := ⟨rfl, rfl, fun _ _ => rfl⟩

theorem State.gateKept.trans (h : s.gateKept u) (h' : u.gateKept v) : s.gateKept v :=
  ⟨h'.ticks.trans h.ticks, h'.closed.trans h.closed, fun f hf => (h'.regs f hf).trans (h.regs f hf)⟩

theorem State.gateKept.flag (h : s.gateKept u) (f : Fld) (hf : gateKey f.key) : u.flag f = s.flag f := by rw [State.flag, h.regs f hf, State.flag]

theorem State.gateKept.gate (h : s.gateKept u) (f : EFrame) : u.gate f = s.gate f := by
  simp only [State.gate, h.closed, h.regs PRG_WM.SEQ (.inl (by decide)), h.flag CRF_STATUS.WM_VALID (.inl (by decide))]

theorem State.atPort.refl (s : State) (p : Nat) : s.atPort s p (s.eport p) := ⟨.refl s, rfl, fun _ _ => rfl⟩

theorem State.atPort.put (h : s.atPort u p x) (y : EPort) : s.atPort (u.setEport p y) p y where
  kept := ⟨h.kept.ticks, h.kept.closed, h.kept.regs⟩
  same := State.eport_setEport_same ..
  other q hq := (State.eport_setEport_other _ _ hq).trans (h.other q hq)

theorem State.atPort.count (h : s.atPort u p x) {c : Fld} (hc : ¬gateKey c.key) : s.atPort (u.count c) p x where
  kept := h.kept.trans ⟨rfl, rfl, fun _ hf => State.rd_wr_other u _ fun he => hc (he ▸ hf)⟩
  same := h.same
  other := h.other

/-- A frame that leaves the gate without being queued is counted and completes. -/
theorem State.atPort.ends (h : s.atPort u p x) {c : Fld} (hc : ¬gateKey c.key) (f : EFrame) (st : Nat) : s.atPort ((u.count c).egressDone p f st) p x := by
  unfold State.egressDone
  rw [State.complete_only]
  have hcount := h.count hc
  exact ⟨⟨hcount.kept.ticks, hcount.kept.closed, hcount.kept.regs⟩, hcount.same, hcount.other⟩

end

/-- The port's head is gone, and the next frame is its head from now on. -/
def State.popped (s : State) (p : Nat) : EPort := { s.eport p with held := (s.eport p).held.tail, since := s.ticks }

/-- What one sequencer cycle of the gate makes of port `p` (06 R236, R237). -/
def State.decided (s : State) (p : Nat) : EPort :=
  match (s.eport p).held with
  | [] => s.eport p
  | f :: _ => match s.gate f with
    | .hold => s.eport p
    | .release => if s.flag (SEQ_PST.LINK p) then { s.popped p with gatedQ := (s.eport p).gatedQ ++ [f] } else s.popped p
    | _ => s.popped p

section
variable {s : State} {p : Nat} {f : EFrame} {rest : List EFrame} (hheld : (s.eport p).held = f :: rest)
include hheld

theorem State.popped_cons : s.popped p = { s.eport p with held := rest, since := s.ticks } := by rw [State.popped, hheld, List.tail_cons]

theorem State.decided_release (hgate : s.gate f = .release) :
    s.decided p = if s.flag (SEQ_PST.LINK p) then { s.popped p with gatedQ := (s.eport p).gatedQ ++ [f] } else s.popped p := by
  simp only [State.decided, hheld, hgate]

theorem State.decided_refused (hgate : s.gate f = .invalid ∨ s.gate f = .unknown ∨ s.gate f = .void) : s.decided p = s.popped p := by
  rcases hgate with hgate | hgate | hgate <;> simp only [State.decided, hheld, hgate]

theorem State.decided_hold (hgate : s.gate f = .hold) : s.decided p = s.eport p := by simp only [State.decided, hheld, hgate]

end

theorem State.atPort.popHead (s : State) (p : Nat) : s.atPort (s.popHead p) p (s.popped p) := .put (.refl s p) _

theorem State.atPort.release (s : State) (p : Nat) (f : EFrame) :
    s.atPort (s.release p f) p (if s.flag (SEQ_PST.LINK p) then { s.popped p with gatedQ := (s.eport p).gatedQ ++ [f] } else s.popped p) := by
  have hpop := State.atPort.popHead s p
  have hflag : (s.popHead p).flag (SEQ_PST.LINK p) = s.flag (SEQ_PST.LINK p) := rfl
  unfold State.release
  extract_lets u x
  simp only [u, hflag]
  split
  · have hx : x = s.popped p := hpop.same
    rw [hx]
    exact (hpop.put _).count (by unfold gateKey; decide)
  · exact hpop.ends (by unfold gateKey; decide) f 4

theorem State.atPort.decide1 (s : State) (p : Nat) : s.atPort (s.decide1 p) p (s.decided p) := by
  have hpop := State.atPort.popHead s p
  unfold State.decide1 State.decided
  cases (s.eport p).held with
  | nil => exact .refl s p
  | cons f rest =>
    dsimp only
    cases s.gate f
    case invalid => exact hpop.ends (by unfold gateKey; decide) f 2
    case unknown => exact hpop.ends (by unfold gateKey; decide) f 3
    case void => exact hpop.ends (by unfold gateKey; decide) f 1
    case release => exact .release s p f
    case hold => exact .refl s p

/-- The key of a port's LINK lies below the gate's. -/
theorem gateKey_link {p : Nat} (hp : p < 64) : gateKey (SEQ_PST.LINK p).key := .inl (by dsimp only; omega)

theorem State.gateKept.decided {s u : State} (h : s.gateKept u) {p : Nat} (hp : p < 64) (he : u.eport p = s.eport p) : u.decided p = s.decided p := by
  simp only [State.decided, State.popped, he, h.gate, h.flag _ (gateKey_link hp), h.ticks]

/-- One pass over ports, each step of which changes its own port as `D` says and leaves what `D` reads of the others, changes every port of the pass so. -/
theorem State.gateKept.foldl {g : State → Nat → State} {D : State → Nat → EPort} (hg : ∀ (s : State) p, s.atPort (g s p) p (D s p)) {l : List Nat} (hnodup : l.Nodup)
    (hD : ∀ (s u : State) p, p ∈ l → s.gateKept u → u.eport p = s.eport p → D u p = D s p) (s : State) :
    s.gateKept (l.foldl g s) ∧ ∀ p, (l.foldl g s).eport p = if p ∈ l then D s p else s.eport p := by
  induction l generalizing s with
  | nil => exact ⟨.refl s, fun p => by simp⟩
  | cons a l ih =>
    obtain ⟨ha, hl⟩ := List.nodup_cons.mp hnodup
    have hstep := hg s a
    obtain ⟨hkept, hports⟩ := ih hl (fun s u p hp => hD s u p (List.mem_cons_of_mem _ hp)) (g s a)
    refine ⟨hstep.kept.trans hkept, fun p => (hports p).trans ?_⟩
    by_cases hpa : p = a
    · subst hpa
      simp [ha, hstep.same]
    · by_cases hpl : p ∈ l
      · simp [hpa, hpl, hD s (g s a) p (List.mem_cons_of_mem _ hpl) hstep.kept (hstep.other p hpa)]
      · simp [hpa, hpl, hstep.other p hpa]

theorem exec_pourDecide (s : State) (hon : s.gateOn = true) : exec .pourDecide s = .next ((List.range 64).foldl State.decide1 s) := if_pos hon

/-- One sequencer cycle of the gate decides every port by the state at its start (06 R236). -/
theorem pourDecide_eport {s u : State} (hon : s.gateOn = true) (hu : exec .pourDecide s = .next u) {p : Nat} (hp : p < 64) : u.eport p = s.decided p := by
  obtain rfl := Host.Outcome.next.inj ((exec_pourDecide s hon).symm.trans hu)
  obtain ⟨-, hports⟩ := State.gateKept.foldl State.atPort.decide1 List.nodup_range (fun s u p hp h he => h.decided (List.mem_range.mp hp) he) s
  rw [hports p, if_pos (List.mem_range.mpr hp)]

/-- A frame is released only when W covers its dependency, and its own number is above it (06 R236). -/
theorem State.gate_release {s : State} {f : EFrame} (h : s.gate f = .release) : s.flag CRF_STATUS.WM_VALID = true ∧ f.dep ≤ s.rd PRG_WM.SEQ ∧ f.dep < f.seq := by
  unfold State.gate at h
  extract_lets d e c above at h
  split at h
  · cases h
  next hvalid =>
    split at h
    · cases h
    · split at h
      · cases h
      · split at h
        next hdurable =>
          obtain ⟨hwm, hdep⟩ := hdurable
          exact ⟨hwm, hdep, not_le.mp (not_or.mp hvalid).1⟩
        · cases h

/-- What the gate's cycle adds to a port's MAC queue is at most its head, released; the port's other frames past the gate stay as they are. -/
theorem State.decided_queues (s : State) (p : Nat) :
    (∃ new, (s.decided p).gatedQ = (s.eport p).gatedQ ++ new ∧ new.length ≤ 1 ∧ ∀ f ∈ new, s.gate f = .release ∧ (s.eport p).held.head? = some f)
      ∧ (s.decided p).ungatedQ = (s.eport p).ungatedQ ∧ (s.decided p).tx = (s.eport p).tx := by
  have hnone : ∀ x : EPort, x.gatedQ = (s.eport p).gatedQ → x.ungatedQ = (s.eport p).ungatedQ → x.tx = (s.eport p).tx →
      (∃ new, x.gatedQ = (s.eport p).gatedQ ++ new ∧ new.length ≤ 1 ∧ ∀ f ∈ new, s.gate f = .release ∧ (s.eport p).held.head? = some f)
        ∧ x.ungatedQ = (s.eport p).ungatedQ ∧ x.tx = (s.eport p).tx :=
    fun x hq hu ht => ⟨⟨[], by simpa using hq, by simp, by simp⟩, hu, ht⟩
  unfold State.decided
  split
  · exact hnone _ rfl rfl rfl
  next f rest hheld =>
    split
    · exact hnone _ rfl rfl rfl
    next hrelease =>
      split
      · exact ⟨⟨[f], rfl, by simp, by simp [hrelease, hheld]⟩, rfl, rfl⟩
      · exact hnone _ rfl rfl rfl
    · exact hnone _ rfl rfl rfl

/-- Settles O34: the gate's cycle decides each port once, and releases a frame only under a W that covers its dependency. -/
theorem gateHoldsUntilDurable : Obligations.GateHoldsUntilDurable := by
  unfold Obligations.GateHoldsUntilDurable
  intro s u hu p hp
  by_cases hon : s.gateOn = true
  · rw [pourDecide_eport hon hu hp]
    obtain ⟨⟨new, hq, hlen, hnew⟩, hrest⟩ := s.decided_queues p
    refine ⟨⟨new, hq, hlen, fun f hf => ?_⟩, hrest⟩
    obtain ⟨hrelease, hhead⟩ := hnew f hf
    obtain ⟨hwm, hdep, hseq⟩ := State.gate_release hrelease
    exact ⟨hwm, hdep, hseq, hhead⟩
  · have hsame : u = s := by
      have hoff : exec .pourDecide s = .next s := if_neg hon
      rw [hoff] at hu
      cases hu
      rfl
    rw [hsame]
    exact ⟨⟨[], by simp, by simp, by simp⟩, rfl, rfl⟩

/-! ### The ports' transmission -/

/-- A head held for the limit leaves the gate (06 R237). -/
def State.limitOut (s : State) (p : Nat) : State :=
  match s.holdOver p with
  | some f => ((s.popHead p).count PRG_CNT.HOLD_TIMEOUT).egressDone p f 5
  | none => s

/-- What HOLD_TIMEOUT makes of port `p`. -/
def State.limited (s : State) (p : Nat) : EPort := if (s.holdOver p).isSome then s.popped p else s.eport p

theorem State.gateKept.holdOver {s u : State} (h : s.gateKept u) {p : Nat} (he : u.eport p = s.eport p) : u.holdOver p = s.holdOver p := by
  simp only [State.holdOver, he, h.gate, h.ticks, h.regs PRG_CFG.HOLD_LIMIT_US (.inl (by decide))]

theorem State.atPort.limitOut (s : State) (p : Nat) : s.atPort (s.limitOut p) p (s.limited p) := by
  unfold State.limitOut State.limited
  cases s.holdOver p with
  | none => exact .refl s p
  | some f => exact (State.atPort.popHead s p).ends (by unfold gateKey; decide) f 5

theorem State.gateKept.limited {s u : State} (h : s.gateKept u) {p : Nat} (he : u.eport p = s.eport p) : u.limited p = s.limited p := by
  simp only [State.limited, State.popped, h.holdOver he, he, h.ticks]

theorem State.rd_limitOut (s : State) (p : Nat) :
    (s.limitOut p).rd PRG_CNT.HOLD_TIMEOUT = if (s.holdOver p).isSome then min (s.rd PRG_CNT.HOLD_TIMEOUT + 1) 255 else s.rd PRG_CNT.HOLD_TIMEOUT := by
  unfold State.limitOut
  cases s.holdOver p with
  | none => rfl
  | some f =>
    dsimp only [State.egressDone]
    rw [State.complete_only]
    exact State.rd_count (s.popHead p) PRG_CNT.HOLD_TIMEOUT

/-- HOLD_TIMEOUT counts every head that it removes. -/
theorem State.rd_foldl_limitOut {l : List Nat} (hnodup : l.Nodup) {s : State} (hmax : s.rd PRG_CNT.HOLD_TIMEOUT ≤ 255) :
    (l.foldl State.limitOut s).rd PRG_CNT.HOLD_TIMEOUT = min (s.rd PRG_CNT.HOLD_TIMEOUT + l.countP (fun p => (s.holdOver p).isSome)) 255 := by
  induction l generalizing s with
  | nil => simp [hmax]
  | cons a l ih =>
    obtain ⟨ha, hl⟩ := List.nodup_cons.mp hnodup
    have hstep := State.atPort.limitOut s a
    have hrd := s.rd_limitOut a
    have hcount : l.countP (fun p => ((s.limitOut a).holdOver p).isSome) = l.countP (fun p => (s.holdOver p).isSome) :=
      List.countP_congr fun p hp => by rw [hstep.kept.holdOver (hstep.other p fun he => ha (he ▸ hp))]
    have hmax' : (s.limitOut a).rd PRG_CNT.HOLD_TIMEOUT ≤ 255 := by rw [hrd]; split <;> omega
    rw [List.foldl_cons, ih hl hmax', hcount, List.countP_cons, hrd]
    split <;> omega

theorem holdTimeout_effect {s : State} (hon : s.gateOn = true) {p : Nat} (hp : p < 64) {f : EFrame} (hover : s.holdOver p = some f) :
    ∃ u, exec .holdTimeout s = .next u ∧ u.eport p = s.popped p
      ∧ (s.rd PRG_CNT.HOLD_TIMEOUT < 255 → s.rd PRG_CNT.HOLD_TIMEOUT < u.rd PRG_CNT.HOLD_TIMEOUT) := by
  have hexec : exec .holdTimeout s = .next ((List.range 64).foldl State.limitOut s) := if_neg (by simp [hon])
  obtain ⟨-, hports⟩ := State.gateKept.foldl State.atPort.limitOut List.nodup_range (fun s u p _ h he => h.limited he) s
  refine ⟨_, hexec, ?_, fun hlt => ?_⟩
  · rw [hports p, if_pos (List.mem_range.mpr hp), State.limited, hover]
    rfl
  · have hpos : 0 < (List.range 64).countP (fun p => (s.holdOver p).isSome) := List.countP_pos_iff.mpr ⟨p, List.mem_range.mpr hp, by simp [hover]⟩
    rw [State.rd_foldl_limitOut List.nodup_range (by omega)]
    omega

theorem egressTransmit_effect {s : State} {p : Fin 64} {f : EFrame} {y : EPort} (hrun : s.run = true) (htx : (s.eport p).tx = none)
    (hnext : (s.eport p).next = some (f, y)) (hlink : s.flag (SEQ_PST.LINK p) = true) :
    exec (.egressTransmit p) s = .next ((s.setEport p { y with tx := some f }).emit (.frame p f.data)) := by
  show execEgressTransmit p s = _
  simp only [execEgressTransmit, htx, hnext, hrun, hlink, Bool.not_true, Bool.false_eq_true, if_false, if_true]

theorem egressDone_effect {s : State} {p : Fin 64} {f : EFrame} (hrun : s.run = true) (htx : (s.eport p).tx = some f) :
    exec (.egressDone p) s = .next ((s.setEport p { s.eport p with tx := none }).egressDone p f 0) := by
  show execEgressDone p s = _
  simp only [execEgressDone, htx, hrun, if_true]

/-- Settles O33: the gate's two passes by what they make of one port, and the MAC's two commands. -/
theorem portsTransmit : Obligations.PortsTransmit := by
  unfold Obligations.PortsTransmit
  intro s p x
  refine ⟨fun hon f rest hheld => ?_, fun hon f hover => holdTimeout_effect hon p.isLt hover, fun f y hrun htx hnext hlink => ?_, fun f hrun htx => ?_⟩
  · have hu := exec_pourDecide s hon
    have hp := pourDecide_eport hon hu p.isLt
    refine ⟨_, hu, fun hgate hlink => ?_, fun hgate hlink => ?_, fun hgate => ?_, fun hgate => ?_⟩
    · rw [hp, State.decided_release hheld hgate, if_pos hlink, State.popped_cons hheld]
    · rw [hp, State.decided_release hheld hgate, if_neg (by simp [hlink]), State.popped_cons hheld]
    · rw [hp, State.decided_refused hheld hgate, State.popped_cons hheld]
    · rw [hp, State.decided_hold hheld hgate]
  · exact ⟨_, egressTransmit_effect hrun htx hnext hlink, rfl, State.eport_setEport_same .., fun q hq => State.eport_setEport_other _ _ hq⟩
  · refine ⟨_, egressDone_effect hrun htx, ?_⟩
    unfold State.egressDone
    rw [State.complete_only]
    exact ⟨State.eport_setEport_same .., fun q hq => State.eport_setEport_other _ _ hq, rfl⟩

end Sys2Proof.Machine

namespace Sys2Proof.Machine
open Sys2Proof

/-! ### A page serial past its register's width -/

/-- The open stripe of `serialPastWidth`: four channels, no page closed yet. -/
def emptyStripe : Stripe :=
  { no := 0, plan := { mask := 15, width := 4 }, home := [{ kind := .home, ch := 0, lun := 0, blk := 2, page := 0 }],
    parity := { kind := .home, ch := 3, lun := 0, blk := 2, page := 0 } }

/-- A SOLO member whose flush point is due, and whose open page holds a record; CRF_SERIAL.NEXT holds 2^64, which is past its 64 bits. -/
def serialPastWidth : State :=
  let s := (State.reset.wr RST_STATUS.STATE 1).wr (NDC_STAT.READY 0) 1
  { s with regs := FMap.ins s.regs CRF_SERIAL.NEXT.key (2 ^ 64), ticks := 10 ^ 9, crf := { cur := { recs := [{}] }, stripes := [emptyStripe] } }

/-- The flush point closes the page as one of an earlier journal, which is what a serial from 2^64 on names (06 R243), and there is none. -/
theorem flushPoint_serialPastWidth {u : State} (hu : exec (.flushPoint false) serialPastWidth = .next u) : u.crf.pages = [] := by
  have h : (match exec (.flushPoint false) serialPastWidth with | .next u => u.crf.pages.isEmpty | _ => true) = true := by decide +kernel
  rw [hu] at h
  exact List.isEmpty_iff.mp h

/-- Refutes O31: the clause of FLUSH_POINT speaks of every state, and in one whose CRF_SERIAL.NEXT is past its width the page that is closed is no page of this journal. -/
theorem not_recordsAppendInOrder : ¬ Obligations.RecordsAppendInOrder := by
  unfold Obligations.RecordsAppendInOrder
  intro h
  obtain ⟨-, -, hflush⟩ := h serialPastWidth (by decide +kernel) (by decide +kernel)
  obtain ⟨u, hu, -, -, -, -, p, hp, -⟩ :=
    hflush emptyStripe {} [] (by decide +kernel) (by decide +kernel) rfl (by decide +kernel) rfl (by decide) rfl
  rw [flushPoint_serialPastWidth hu] at hp
  cases hp

end Sys2Proof.Machine

namespace Sys2Proof.Machine
open Sys2Proof

/-! ### Operations that wait for their contexts -/

/-- From `s` to `u` only operations were queued on NAND contexts. -/
def State.queueKept (s u : State) : Prop := u = { s with nand := { s.nand with ctx := u.nand.ctx, todo := u.nand.todo } }

section
variable {s u v : State}

theorem State.queueKept.refl (s : State) : s.queueKept s := rfl

theorem State.queueKept.trans (h : s.queueKept u) (h' : u.queueKept v) : s.queueKept v := by
  unfold State.queueKept at *
  rw [h] at h'
  exact h'

theorem State.queueKept.foldl {α : Type} {f : State → α → State} (hf : ∀ (s : State) a, s.queueKept (f s a)) (l : List α) (s : State) : s.queueKept (l.foldl f s) :=
  List.foldlRecOn l f (.refl s) fun u h a _ => h.trans (hf u a)

theorem State.queueKept.crf (h : s.queueKept u) : u.crf = s.crf := by rw [h]
theorem State.queueKept.regs (h : s.queueKept u) : u.regs = s.regs := by rw [h]
theorem State.queueKept.merge (h : s.queueKept u) : u.merge = s.merge := by rw [h]
theorem State.queueKept.done (h : s.queueKept u) : u.nand.done = s.nand.done := by rw [h]

end

theorem State.queueKept.fillQueues (s : State) : s.queueKept s.fillQueues := by
  unfold State.fillQueues
  split
  · exact .refl s
  · refine State.queueKept.trans (u := { s with nand := { s.nand with todo := [] } }) rfl (.foldl (fun s t => ?_) _ _)
    split
    dsimp only
    split <;> rfl

theorem State.queueKept.submit (s : State) (c l : Nat) (o : NandOp) : s.queueKept (s.submit c l o) :=
  State.queueKept.trans (u := { s with nand := { s.nand with todo := s.nand.todo ++ [(c, l, o)] } }) rfl (.fillQueues _)

theorem State.queueKept.readPage (s : State) (c l : Nat) (tag : OpTag) (blk page cls : Nat) : s.queueKept (s.readPage c l tag blk page cls) := .submit ..

theorem State.queueKept.eraseHotBlks (s : State) (blks : List (Nat × Nat × Nat)) : s.queueKept (s.eraseHotBlks blks) := by
  unfold State.eraseHotBlks
  refine .foldl (fun s t => ?_) blks s
  split
  dsimp only
  split
  · exact .refl s
  · exact .submit ..

theorem State.queueKept.eraseArch (s : State) (blks : List (Nat × Nat × Nat)) : s.queueKept (s.eraseArch blks) := by
  unfold State.eraseArch
  refine .foldl (fun s t => ?_) blks s
  split
  dsimp only
  split
  · exact .refl s
  · exact .submit ..

/-! ### What keeps the journal's pages -/

/-- The keys of the registers that no settling of W writes: REPLAYING, and the counts of pages and twins. -/
abbrev journalKey (k : Nat) : Prop := k ∈ [CRF_STATUS.REPLAYING.key, CRF_CNT0.PAGES.key, CRF_CNT0.TWINS.key]

/-- The pages, the results of NAND operations, and what shows whether replay goes on, are kept. -/
structure State.journalKept (s u : State) : Prop where
  pages : u.crf.pages = s.crf.pages
  read : u.crf.read = s.crf.read
  done : u.nand.done = s.nand.done
  merge : State.mergeKept journalKey s u

section
variable {s u v : State}

theorem State.journalKept.refl (s : State) : s.journalKept s := ⟨rfl, rfl, rfl, .refl s⟩

theorem State.journalKept.trans (h : s.journalKept u) (h' : u.journalKept v) : s.journalKept v :=
  ⟨h'.pages.trans h.pages, h'.read.trans h.read, h'.done.trans h.done, h.merge.trans h'.merge⟩

/-- An update of none of what is kept. -/
theorem State.journalKept.same (h : s.journalKept u) (hp : v.crf.pages = u.crf.pages := by rfl) (hread : v.crf.read = u.crf.read := by rfl)
    (hdone : v.nand.done = u.nand.done := by rfl) (hm : v.merge = u.merge := by rfl) (hr : v.regs = u.regs := by rfl) : s.journalKept v :=
  h.trans ⟨hp, hread, hdone, .of_regs hm hr⟩

theorem State.journalKept.foldl {α : Type} (h : s.journalKept u) {f : State → α → State} (hf : ∀ (v : State) a, s.journalKept v → s.journalKept (f v a))
    (l : List α) : s.journalKept (l.foldl f u) :=
  List.foldlRecOn l f h fun v hv a _ => hf v a hv

theorem State.journalKept.wr (h : s.journalKept u) {f : Fld} {x : Nat} (hf : ¬journalKey f.key) : s.journalKept (u.wr f x) :=
  h.trans ⟨rfl, rfl, rfl, .wr u f x hf⟩

/-- A write of a register above Carafe's. -/
theorem State.journalKept.wr_above (h : s.journalKept u) {f : Fld} {x : Nat} (hf : PRG_CFG.HOLD_LIMIT_US.key ≤ f.key) : s.journalKept (u.wr f x) :=
  h.wr (by simp only [journalKey, List.mem_cons, List.not_mem_nil, or_false]; dsimp only at *; omega)

theorem State.journalKept.queue (h : s.journalKept u) (hq : u.queueKept v) : s.journalKept v :=
  h.trans ⟨by rw [hq.crf], by rw [hq.crf], hq.done, .of_regs hq.merge hq.regs⟩

theorem State.journalKept.submit (h : s.journalKept u) (c l : Nat) (o : NandOp) : s.journalKept (u.submit c l o) := h.queue (.submit ..)

theorem State.journalKept.logError (h : s.journalKept u) (n code cls sub info : Nat) (inj : Bool) : s.journalKept (u.logError n code cls sub info inj) := by
  have hlog : u.logKept False (u.logError n code cls sub info inj) := .logError u nofun code cls sub info inj nofun nofun
  obtain ⟨hmerge, hregs⟩ := State.mergeKept.logError u n code cls sub info inj
  exact h.trans ⟨by rw [hlog.1], by rw [hlog.1], by rw [hlog.1], hmerge, fun f hf => hregs f (by
    simp only [journalKey, List.mem_cons, List.not_mem_nil, or_false] at hf
    unfold belowLogs
    dsimp only at *
    omega)⟩

/-! ### Frames on the links -/

theorem State.journalKept.drainLink (h : s.journalKept u) (k n : Nat) : s.journalKept (u.drainLink k n) := by
  induction n generalizing u with
  | zero => exact h
  | succ n ih =>
    unfold State.drainLink
    extract_lets x c
    split
    · exact h
    · split
      · exact h
      · have hcredit : s.journalKept (u.wr (EZN_LINK_STAT.CREDITS k) (c - 1)) := h.wr_above (by dsimp only; omega)
        exact ih hcredit.same

theorem State.journalKept.sendOn (h : s.journalKept u) (k : Nat) (f : LinkFrame) : s.journalKept (u.sendOn k f) := by
  unfold State.sendOn
  split
  · exact .drainLink h.same ..
  · exact h

theorem State.journalKept.sendState (h : s.journalKept u) : s.journalKept u.sendState := by
  refine .foldl (u := { u with ezn := { u.ezn with hbAt := u.ticks } }) h.same (fun v k hv => ?_) _
  split
  · exact hv.sendOn ..
  · exact hv

theorem State.journalKept.sendWm (h : s.journalKept u) (w : Seq) : s.journalKept (u.sendWm w) := by
  unfold State.sendWm
  split
  · exact h
  · refine h.foldl (fun v m hv => ?_) _
    split
    · exact hv
    · dsimp only
      split
      · exact .sendOn hv.same ..
      · exact hv.same

theorem State.journalKept.sendConfirm (h : s.journalKept u) : s.journalKept u.sendConfirm := by
  unfold State.sendConfirm
  split
  · exact h
  · split
    · exact h
    · dsimp only
      split
      · exact .sendOn h.same ..
      · exact h.same

/-! ### W and the delivery epochs -/

theorem State.journalKept.levelsInForce (h : s.journalKept u) (w : Seq) : s.journalKept (u.levelsInForce w) := by
  unfold State.levelsInForce
  extract_lets due e u1
  split
  · exact h
  · have h1 : s.journalKept u1 := h.same
    exact (h1.foldl (fun v l hv => hv.wr_above (by decide)) due).wr_above (by decide)

theorem State.journalKept.setW (h : s.journalKept u) (w : Seq) : s.journalKept (u.setW w) :=
  (((h.wr (by decide)).wr_above (f := PRG_WM.SEQ) (by decide)).wr (by decide)).levelsInForce w

theorem State.journalKept.noW (h : s.journalKept u) : s.journalKept u.noW :=
  ((h.wr (by decide)).wr_above (f := PRG_WM.SEQ) (by decide)).wr (by decide)

theorem State.journalKept.advanceW (h : s.journalKept u) : s.journalKept u.advanceW := by
  unfold State.advanceW
  extract_lets u1 b u2
  have h1 : s.journalKept u1 := h.wr (f := CRF_STATUS.SHORT_FOLLOWERS) (by decide)
  split
  · exact h
  · split
    · exact h1
    · split
      next w ends _ =>
        extract_lets u3
        have h3 : s.journalKept u3 := by
          unfold u3; split
          · exact (h1.wr (f := CRF_STATUS.BOUNDARY_PENDING) (by decide)).wr (by decide)
          · exact h1
        split
        · exact h3
        · split
          · exact (h3.setW _).sendWm _
          · exact h3

theorem State.journalKept.advanceEpoch (h : s.journalKept u) (n : Nat) (point : Option Seq) : s.journalKept (u.advanceEpoch n point) := by
  have hcount : s.journalKept (u.count (SLC_STAT.DELIVERY_EPOCH n)) := h.wr_above (by dsimp only; omega)
  have hrings : s.journalKept ((u.count (SLC_STAT.DELIVERY_EPOCH n)).stopRings n point) :=
    (hcount.foldl (fun v r hv => hv.same (v := v.stopSub r)) _).foldl (fun v q hv => hv.same (v := v.stopDlv q point)) _
  exact hrings.same

theorem State.journalKept.advanceAllEpochs (h : s.journalKept u) (point : Option Seq) : s.journalKept (u.advanceAllEpochs point) := by
  refine h.foldl (fun v n hv => ?_) _
  split
  · exact hv.advanceEpoch ..
  · exact hv.wr_above (by dsimp only; omega)

theorem State.journalKept.markerOk (h : s.journalKept u) : s.journalKept u.markerOk := by
  unfold State.markerOk
  split
  · exact h
  next n c primary _ =>
    have h1 : s.journalKept ({ u with ezn := { u.ezn with closing := none } }.closeEpoch c) := h.same
    split_ifs
    · exact h
    · exact ((h1.setW _).sendWm _).advanceAllEpochs _
    · exact h1.sendConfirm

theorem State.journalKept.advanceL (h : s.journalKept u) (n : Nat) : s.journalKept (u.advanceL n) := by
  induction n generalizing u with
  | zero => exact h
  | succ n ih =>
    unfold State.advanceL
    split
    · exact h
    next k p _ =>
      split
      · exact h
      · extract_lets isRec e u1 u2
        have h1 : s.journalKept u1 := h.same
        have h2 : s.journalKept u2 := by
          unfold u2; split
          · exact h1.wr (by decide)
          · exact h1
        exact ih (h2.wr_above (by decide))

/-! ### The anchor -/

theorem State.journalKept.putAnchor (h : s.journalKept u) (serial c : Nat) (data : List Byte) : s.journalKept (u.putAnchor serial c data) := by
  unfold State.putAnchor
  split
  · exact h
  next l _ =>
    extract_lets x full b p u1 a e u2
    have h1 : s.journalKept u1 := by
      unfold u1; split
      · exact h.submit ..
      · exact h
    have h2 : s.journalKept (u2.setLun c l { u2.lun c l with anchorBlk := b, anchorPg := p + 1 }) := h1.same
    exact h2.submit ..

theorem State.journalKept.writeAnchor (h : s.journalKept u) : s.journalKept u.writeAnchor := by
  have hanchor : ∀ (v : State) (k : Ckpt), s.journalKept v → s.journalKept (v.anchorFor k) := fun v k hv =>
    .foldl (u := { v with crf := { v.crf with island := some (v.nextAnchor, (v.anchorBytes v.nextAnchor k).take 64) } }) hv.same (fun v c hv => hv.putAnchor ..) _
  unfold State.writeAnchor
  extract_lets due e u1
  split
  · exact h
  · exact .foldl (u := u1) h.same hanchor due

end

/-- L, staging, the anchor, the confirmation and W, once no record of the member's own waits and no marker page is due. -/
def State.settleW (s t : State) : State :=
  let t := (t.advanceL t.crf.pages.length).freeStaging.markerOk.writeAnchor
  (if t.rd CRF_LOCAL.SEQ ≠ s.rd CRF_LOCAL.SEQ ∨ t.crf.hasL ≠ s.crf.hasL then t.sendConfirm else t).advanceW

theorem State.settle_eq (s : State) : s.settle = s.settleW (s.tryMark.tryLocals s.tryMark.crf.locals.length) := rfl

theorem State.journalKept.settleW (s t : State) : t.journalKept (s.settleW t) := by
  have h : t.journalKept (t.advanceL t.crf.pages.length).freeStaging := ((State.journalKept.refl t).advanceL _).same
  unfold State.settleW
  extract_lets t1
  have h1 : t.journalKept t1 := h.markerOk.writeAnchor
  refine .advanceW ?_
  split
  · exact h1.sendConfirm
  · exact h1

theorem State.tryMark_none {s : State} (h : s.ezn.mark = none) : s.tryMark = s := by
  unfold State.tryMark
  rw [h]

theorem State.journalKept.settle {s : State} (hmark : s.ezn.mark = none) (hlocals : s.crf.locals = []) : s.journalKept s.settle := by
  rw [State.settle_eq, State.tryMark_none hmark, hlocals]
  exact .settleW s s

end Sys2Proof.Machine

namespace Sys2Proof.Machine
open Sys2Proof

/-! ### PAGE_PROGRAM_DONE -/

theorem State.page_of_lt (s : State) {n : Nat} (hn : n < 2 ^ 64) : s.page n = FMap.look s.crf.pages n := if_pos hn

theorem State.setPage_of_lt (s : State) {n : Nat} (hn : n < 2 ^ 64) (p : JPage) : s.setPage n p = { s with crf := { s.crf with pages := FMap.ins s.crf.pages n p } } :=
  if_pos hn

/-- The register that counts the passed programs of a copy. -/
abbrev Copy.countFld (c : Copy) : Fld := if c.isTwin then CRF_CNT0.TWINS else CRF_CNT0.PAGES

theorem State.copyDone_passed {s : State} {n i : Nat} {p : JPage} {c : Copy} (hn : n < 2 ^ 64) (hpage : FMap.look s.crf.pages n = some p)
    (hcopy : p.copies[i]? = some c) (hst : c.st = .waiting) :
    s.copyDone n i true = (s.setPage n { p with copies := p.copies.set i { c with st := .pass } }).count c.countFld := by
  unfold State.copyDone Copy.countFld
  simp only [s.page_of_lt hn, hpage, hcopy, hst, ne_eq, not_true_eq_false, if_false, if_true]
  split <;> rfl

theorem pageProgramDone_effect {s : State} {d : NandDone} {n i : Nat} {p : JPage} {c : Copy} (hdone : s.nand.done.find? s.isPage = some d) (hst : c.st = .waiting)
    (hstatus : d.status = 0) (htag : d.op.tag = .page n i) (hn : n < 2 ^ 64) (hpage : FMap.look s.crf.pages n = some p) (hcopy : p.copies[i]? = some c)
    (hmark : s.ezn.mark = none) (hlocals : s.crf.locals = []) :
    ∃ u, exec .pageProgramDone s = .next u ∧ u.nand.done = dropFirst s.isPage s.nand.done
      ∧ FMap.look u.crf.pages n = some { p with copies := p.copies.set i { c with st := .pass } } ∧ s.counted u c.countFld 1 := by
  let w : State := { s with nand := { s.nand with done := dropFirst s.isPage s.nand.done } }
  let v : State := (w.setPage n { p with copies := p.copies.set i { c with st := .pass } }).count c.countFld
  have hv : v = { w with regs := v.regs, crf := { w.crf with pages := FMap.ins w.crf.pages n { p with copies := p.copies.set i { c with st := .pass } } } } := by
    simp only [v, w.setPage_of_lt hn]
    rfl
  have hexec : exec .pageProgramDone s = .next v.settle := by
    have hcopyDone : w.copyDone n i true = v := State.copyDone_passed (s := w) hn hpage hcopy hst
    show execPageProgramDone s = _
    unfold execPageProgramDone
    simp only [hdone, hstatus, htag, beq_self_eq_true, OfNat.zero_ne_ofNat, if_false]
    exact congrArg (fun x : State => Host.Outcome.next x.settle) hcopyDone
  have hkept : v.journalKept v.settle := .settle (by rw [hv]; exact hmark) (by rw [hv]; exact hlocals)
  refine ⟨_, hexec, ?_, ?_, ?_⟩
  · rw [hkept.done, hv]
  · rw [hkept.pages, hv]
    exact FMap.look_ins_same ..
  · have hkey : journalKey c.countFld.key := by unfold Copy.countFld; split <;> decide
    have hrd : (w.setPage n { p with copies := p.copies.set i { c with st := .pass } }).rd c.countFld = s.rd c.countFld := by rw [w.setPage_of_lt hn]; rfl
    rw [State.counted, hkept.merge.2 _ hkey, State.rd_count, hrd]

/-! ### WATERMARK_PUBLISH -/

/-- Data that one TLP carries. -/
theorem tlps_single {mps a : Nat} {d : List Byte} (hd : d ≠ []) (hmps : d.length ≤ mps) (hpage : a % 4096 + d.length ≤ 4096) : tlps mps d.length a d = [(a, d)] := by
  obtain ⟨k, hk⟩ : ∃ k, d.length = k + 1 := Nat.exists_eq_succ_of_ne_zero (by simpa using hd)
  have hlen : d.length ≤ min mps (4096 - a % 4096) := by omega
  rw [hk, tlps, if_neg (by simpa using hd)]
  dsimp only
  rw [List.take_of_length_le hlen, List.drop_of_length_le hlen]
  cases k <;> rfl

/-- An aligned 8-byte word goes to host memory in one TLP (08 R310). -/
theorem State.hostWrite_word {s : State} (hon : s.pf1On = true) (sl a v : Nat) (hinted : Bool) :
    s.hostWrite sl (a * 8) (leBytes 8 v) false hinted = s.emit (.hostWrite sl (a * 8) (leBytes 8 v) false false (s.pasid sl) (if hinted then s.hint sl else none)) := by
  have hpos : 1 ≤ 2 ^ s.pci.fn1.mps := Nat.one_le_two_pow
  have hne : leBytes 8 v ≠ [] := List.ne_nil_of_length_pos (by rw [length_leBytes]; decide)
  unfold State.hostWrite
  rw [hon, tlps_single hne (by rw [length_leBytes]; omega) (by rw [length_leBytes]; omega)]
  rfl

/-- The step of WATERMARK_PUBLISH for the word of slice `n`. -/
def State.publishWord (w : Nat) (s : State) (n : Nat) : State :=
  if s.wordBehind n && s.wordGap n then
    let s := s.hostWrite n (s.rd (SLC_WM.ADDR n) * 8) (leBytes 8 w) false true
    { s with crf := { s.crf with wordDue := FMap.set false s.crf.wordDue n false, wordVal := FMap.set 0 s.crf.wordVal n (w + 1),
                                 wordAt := FMap.set 0 s.crf.wordAt n (s.ticks + 1) } }
  else s

/-- From `s` to `u` only Carafe's own state changed, and the outputs. -/
def State.crfOnly (s u : State) : Prop := u = { s with crf := u.crf, out := u.out }

theorem State.crfOnly.trans {s u v : State} (h : s.crfOnly u) (h' : u.crfOnly v) : s.crfOnly v := by
  unfold State.crfOnly at *
  rw [h] at h'
  exact h'

/-- From `s` to `u` only watermark words were written, and that of slice `k` was not. -/
structure State.wordKept (k : Nat) (s u : State) : Prop where
  only : s.crfOnly u
  due : FMap.get false u.crf.wordDue k = FMap.get false s.crf.wordDue k
  val : FMap.get 0 u.crf.wordVal k = FMap.get 0 s.crf.wordVal k
  time : FMap.get 0 u.crf.wordAt k = FMap.get 0 s.crf.wordAt k
  out : ∀ o ∈ s.out, o ∈ u.out

section
variable {s u v : State} {k : Nat}

theorem State.wordKept.refl (k : Nat) (s : State) : State.wordKept k s s := ⟨rfl, rfl, rfl, rfl, fun _ h => h⟩

theorem State.wordKept.trans (h : State.wordKept k s u) (h' : State.wordKept k u v) : State.wordKept k s v :=
   ⟨h.only.trans h'.only, h'.due.trans h.due, h'.val.trans h.val, h'.time.trans h.time, fun o ho => h'.out o (h.out o ho)⟩

theorem State.wordKept.behind (h : State.wordKept k s u) : u.wordBehind k = s.wordBehind k := by
  rw [State.wordBehind, h.due, h.val, h.only]
  rfl

theorem State.wordKept.gap (h : State.wordKept k s u) : u.wordGap k = s.wordGap k := by
  rw [State.wordGap, h.time, h.only]
  rfl

end

theorem State.mem_out_hostWrite (s : State) (sl addr : Nat) (data : List Byte) (ro hinted : Bool) {o : Out} (ho : o ∈ s.out) :
    o ∈ (s.hostWrite sl addr data ro hinted).out := by
  unfold State.hostWrite
  split
  · exact ho
  · exact List.foldlRecOn (motive := fun v : State => o ∈ v.out) _ _ ho fun v hv t _ => List.mem_cons_of_mem _ hv

theorem State.wordKept.publishWord (w : Nat) (s : State) {n k : Nat} (hk : k ≠ n) : State.wordKept k s (s.publishWord w n) := by
  have hout := State.onlyOut.hostWrite s n (s.rd (SLC_WM.ADDR n) * 8) (leBytes 8 w) false true
  unfold State.publishWord
  split
  · extract_lets v e
    have hv : v = { s with out := v.out } := hout
    have he : e = s.crf := by rw [show e = v.crf from rfl, hv]
    refine ⟨?_, ?_, ?_, ?_, fun o ho => State.mem_out_hostWrite s _ _ _ _ _ ho⟩
    · rw [hv]
      rfl
    · show FMap.get false (FMap.set false e.wordDue n false) k = _
      rw [FMap.get_set_other _ _ _ _ hk, he]
    · show FMap.get 0 (FMap.set 0 e.wordVal n (w + 1)) k = _
      rw [FMap.get_set_other _ _ _ _ hk, he]
    · show FMap.get 0 (FMap.set 0 e.wordAt n (v.ticks + 1)) k = _
      rw [FMap.get_set_other _ _ _ _ hk, he]
  · exact .refl k s

theorem State.wordKept.publishWords (w : Nat) {k : Nat} {l : List Nat} (hk : k ∉ l) (s : State) : State.wordKept k s (l.foldl (State.publishWord w) s) :=
  List.foldlRecOn l _ (.refl k s) fun v hv _ hn => hv.trans (.publishWord w v fun he => hk (he ▸ hn))

/-- The word of slice `k` now shows W. -/
structure State.wordWritten (w k : Nat) (s u : State) : Prop where
  only : s.crfOnly u
  val : FMap.get 0 u.crf.wordVal k = w + 1
  due : FMap.get false u.crf.wordDue k = false
  time : FMap.get 0 u.crf.wordAt k = s.ticks + 1
  out : s.pf1On = true → ∃ hint, Out.hostWrite k (s.rd (SLC_WM.ADDR k) * 8) (leBytes 8 w) false false (s.pasid k) hint ∈ u.out

theorem State.wordWritten.publishWord (w : Nat) {s : State} {k : Nat} (hbehind : s.wordBehind k = true) (hgap : s.wordGap k = true) :
    State.wordWritten w k s (s.publishWord w k) := by
  have hout := State.onlyOut.hostWrite s k (s.rd (SLC_WM.ADDR k) * 8) (leBytes 8 w) false true
  unfold State.publishWord
  rw [if_pos (by rw [hbehind, hgap]; rfl)]
  extract_lets v e
  have hv : v = { s with out := v.out } := hout
  refine ⟨by rw [hv]; rfl, FMap.get_set_same 0 e.wordVal k (w + 1), FMap.get_set_same false e.wordDue k false, ?_, fun hon => ⟨s.hint k, ?_⟩⟩
  · show FMap.get 0 (FMap.set 0 e.wordAt k (v.ticks + 1)) k = _
    rw [FMap.get_set_same, hv]
  · show _ ∈ v.out
    rw [show v = _ from State.hostWrite_word hon k _ w true]
    exact List.mem_cons_self

/-- A pass over the slices writes each word that is behind, once (06 R228). -/
theorem State.wordWritten.publishWords (w : Nat) {s : State} {k : Nat} (hbehind : s.wordBehind k = true) (hgap : s.wordGap k = true) {l : List Nat}
    (hnodup : l.Nodup) (hk : k ∈ l) : State.wordWritten w k s (l.foldl (State.publishWord w) s) := by
  obtain ⟨l1, l2, rfl⟩ := List.append_of_mem hk
  obtain ⟨-, hright, hdisj⟩ := List.nodup_append.mp hnodup
  have h1 : State.wordKept k s (l1.foldl (State.publishWord w) s) := .publishWords w (fun h => hdisj k h k List.mem_cons_self rfl) s
  rw [List.foldl_append, List.foldl_cons]
  generalize l1.foldl (State.publishWord w) s = u at h1 ⊢
  have h2 : State.wordWritten w k u (u.publishWord w k) := .publishWord w (h1.behind.trans hbehind) (h1.gap.trans hgap)
  have h3 : State.wordKept k (u.publishWord w k) (l2.foldl (State.publishWord w) (u.publishWord w k)) := .publishWords w (List.nodup_cons.mp hright).1 _
  have hticks : u.ticks = s.ticks := by rw [h1.only]
  have hon : u.pf1On = s.pf1On := by rw [h1.only]; rfl
  have haddr : u.rd (SLC_WM.ADDR k) = s.rd (SLC_WM.ADDR k) := by rw [h1.only]; rfl
  have hpasid : u.pasid k = s.pasid k := by rw [h1.only]; rfl
  refine ⟨(h1.only.trans h2.only).trans h3.only, h3.val.trans h2.val, h3.due.trans h2.due, (h3.time.trans h2.time).trans (by rw [hticks]), fun h => ?_⟩
  obtain ⟨hint, hmem⟩ := h2.out (hon.trans h)
  rw [haddr, hpasid] at hmem
  exact ⟨hint, h3.out _ hmem⟩

theorem watermarkPublish_effect {s : State} {k : Nat} (hk : k < 256) (hrun : s.run = true) (hvalid : s.flag CRF_STATUS.WM_VALID = true)
    (hbehind : s.wordBehind k = true) (hgap : s.wordGap k = true) :
    ∃ u, exec .watermarkPublish s = .next u ∧ State.wordWritten (s.rd CRF_WMARK.SEQ) k s u :=
  ⟨_, if_neg (by simp [hrun, hvalid]), .publishWords _ hbehind hgap List.nodup_range (List.mem_range.mpr hk)⟩

end Sys2Proof.Machine

namespace Sys2Proof.Machine
open Sys2Proof

/-! ### ARCHIVE_MIGRATE -/

/-- Every archive stripe stays, with its plan and its pages. -/
def ArchStays (m m' : FMap ArchStripe) : Prop :=
  ∀ i x, FMap.look m i = some x → ∃ y, FMap.look m' i = some y ∧ y.plan = x.plan ∧ y.pages = x.pages

theorem ArchStays.refl (m : FMap ArchStripe) : ArchStays m m := fun _ x h => ⟨x, h, rfl, rfl⟩

theorem ArchStays.trans {m m' m'' : FMap ArchStripe} (h : ArchStays m m') (h' : ArchStays m' m'') : ArchStays m m'' := fun i x hx => by
  obtain ⟨y, hy, hplan, hpages⟩ := h i x hx
  obtain ⟨z, hz, hplan', hpages'⟩ := h' i y hy
  exact ⟨z, hz, hplan'.trans hplan, hpages'.trans hpages⟩

theorem ArchStays.ins {m : FMap ArchStripe} {a : Nat} {x y : ArchStripe} (hx : FMap.look m a = some x) (hplan : y.plan = x.plan) (hpages : y.pages = x.pages) :
    ArchStays m (FMap.ins m a y) := fun i z hz => by
  by_cases hi : i = a
  · subst hi
    obtain rfl : x = z := Option.some.inj (hx.symm.trans hz)
    exact ⟨y, FMap.look_ins_same .., hplan, hpages⟩
  · exact ⟨z, by rw [FMap.look_ins_other _ _ hi, hz], rfl, rfl⟩

/-- From `s` to `u` no archive stripe and no hot stripe was taken or given. -/
structure State.archKept (s u : State) : Prop where
  next : u.crf.nextArch = s.crf.nextArch
  stripes : u.crf.stripes = s.crf.stripes
  arch : ArchStays s.crf.arch u.crf.arch

section
variable {s u v : State}

theorem State.archKept.trans (h : s.archKept u) (h' : u.archKept v) : s.archKept v :=
  ⟨h'.next.trans h.next, h'.stripes.trans h.stripes, h.arch.trans h'.arch⟩

theorem State.archKept.of_crf (h : u.crf = s.crf) : s.archKept u := by
  constructor <;> rw [h]
  exact .refl _

theorem State.takeWl_only {c l b k p : Nat} (h : s.takeWl c l b = some (k, p, u)) : u = { s with nand := u.nand } := by
  unfold State.takeWl at h
  dsimp only at h
  repeat' split at h
  all_goals cases h
  all_goals rfl

theorem State.archKept.programArch {a b c : Nat} (h : s.programArch a b c = some u) : s.archKept u := by
  unfold State.programArch at h
  split at h
  · cases h
  next l _ =>
    obtain ⟨⟨k, p, t⟩, htake, hu⟩ := Option.map_eq_some_iff.mp h
    have ht : t.crf = s.crf := by rw [State.takeWl_only htake]
    dsimp -zeta only at hu
    extract_lets lost data w arch at hu
    rw [← hu]
    have hw : w.crf = s.crf := by
      rw [← ht]
      unfold w
      split <;> rfl
    have harch : ArchStays w.crf.arch arch := by
      refine List.foldlRecOn (motive := ArchStays w.crf.arch) _ _ (.refl _) fun m hm i _ => ?_
      split
      next x hx => exact hm.trans (.ins hx rfl rfl)
      · exact hm
    refine (State.archKept.of_crf hw).trans (State.archKept.trans (u := { w with crf := { w.crf with arch := arch } }) ⟨rfl, rfl, harch⟩ (.of_crf ?_))
    exact (State.queueKept.submit ..).crf

theorem State.archKept.programGroup {a b : Nat} {cs : List Nat} (h : s.programGroup a b cs = some u) : s.archKept u := by
  induction cs generalizing s with
  | nil => cases h; exact .of_crf rfl
  | cons c cs ih =>
    unfold State.programGroup at h
    split at h
    next t ht => exact (State.archKept.programArch ht).trans (ih h)
    · cases h

theorem State.archKept.logLoss (s : State) (ns : List Nat) : s.archKept (s.logLoss ns) := by
  unfold State.logLoss
  split
  · exact .of_crf rfl
  · extract_lets no e
    split
    · exact .of_crf rfl
    · refine State.archKept.trans (u := { s with crf := { s.crf with losses := s.crf.losses ++ [e] } }) ⟨rfl, rfl, .refl _⟩ (.of_crf ?_)
      rw [(State.logKept.logError (low := False) _ nofun _ _ _ _ _ nofun nofun).1]

end

/-- The state in which a group of hot stripes has its archive stripes, before their programs are issued (06 R240). -/
def State.migrateMark (s : State) (b : Nat) (t : Stripe) (ts : List Stripe) : State :=
  let a := s.crf.nextArch
  let put := fun (m : FMap ArchStripe) (i : Nat) =>
    let ps := ((t :: ts)[i]?).elim [] (fun (u : Stripe) => u.pages)
    FMap.ins m (a + i) { plan := t.plan, stripe := ((t :: ts)[i]?).elim 0 (fun (u : Stripe) => u.no), pages := ps, newest := s.newestOf ps,
                         unread := ps.zipIdx.filterMap (fun n => if s.hotGets n.1 then none else some (t.plan.dataChan (a + i) n.2)) }
  { s with crf := { s.crf with
      arch := (List.range b).foldl put s.crf.arch, nextArch := a + b, nextMig := (((t :: ts).getLast?.getD t).no + 1) % 2 ^ 64,
      stripes := s.crf.stripes.map (fun u => if ((t :: ts).map (fun u => u.no)).contains u.no then { u with migrated := true } else u) } }

theorem State.migrate_eq {s v : State} {b : Nat} {t : Stripe} {ts : List Stripe}
    (h : (s.migrateMark b t ts).programGroup s.crf.nextArch b ((s.migrateMark b t ts).archChans t.plan) = some v) :
    s.migrate b t ts = ((t :: ts).foldl (fun s2 u => s2.logLoss (s.lostOf u.pages)) v).space := by
  unfold State.migrate
  extract_lets a put done mark next e s1
  rw [show s1.programGroup a b (s1.archChans t.plan) = some v from h]

theorem FMap.look_foldl_ins {β : Type} (g : Nat → β) (m : FMap β) (a : Nat) {b i : Nat} (hi : i < b) :
    FMap.look ((List.range b).foldl (fun m i => FMap.ins m (a + i) (g i)) m) (a + i) = some (g i) := by
  induction b with
  | zero => omega
  | succ b ih =>
    rw [List.range_succ, List.foldl_append]
    by_cases hib : i = b
    · subst hib
      exact FMap.look_ins_same ..
    · exact (FMap.look_ins_other _ _ (by omega)).trans (ih (by omega))

theorem State.migrate_arch {s v : State} {b : Nat} {t : Stripe} {ts : List Stripe}
    (h : (s.migrateMark b t ts).programGroup s.crf.nextArch b ((s.migrateMark b t ts).archChans t.plan) = some v) :
    (s.migrateMark b t ts).archKept (s.migrate b t ts) := by
  rw [State.migrate_eq h]
  have hloss : v.archKept ((t :: ts).foldl (fun s2 u => s2.logLoss (s.lostOf u.pages)) v) :=
    List.foldlRecOn (motive := v.archKept) _ _ (.of_crf rfl) fun u hu a _ => hu.trans (.logLoss ..)
  exact ((State.archKept.programGroup h).trans hloss).trans (.of_crf rfl)

/-- The mark gives stripe `i` of the group archive stripe `a + i`. -/
theorem State.migrateMark_look (s : State) {b i : Nat} (t : Stripe) (ts : List Stripe) (hi : i < b) :
    ∃ x, FMap.look (s.migrateMark b t ts).crf.arch (s.crf.nextArch + i) = some x ∧ x.plan = t.plan
      ∧ x.pages = ((t :: ts)[i]?).elim [] (fun (u : Stripe) => u.pages) :=
  ⟨_, FMap.look_foldl_ins _ _ _ hi, rfl, rfl⟩

theorem State.queueKept.readPages (s : State) (rs : List (Nat × Nat × OpTag × Nat × Nat)) :
    s.queueKept (rs.foldl (fun s r => s.readPage r.1 r.2.1 r.2.2.1 r.2.2.2.1 r.2.2.2.2 2) s) :=
  .foldl (fun _ _ => .readPage ..) rs s

section
variable {s v : State} {t0 t : Stripe} {ts : List Stripe}

theorem archiveMigrate_eq (hon : s.appending = true) (ht0 : (s.crf.stripes.filter (fun t => !t.migrated)).getLast? = some t0) (hgroup : s.nextGroup (s.bpc t0.plan) = t :: ts) :
    exec .archiveMigrate s = .next (s.afterReads true ((((t :: ts).flatMap (fun u => u.pages)).flatMap s.hotSources).map
      (fun r => (r.2.2.ch, r.2.2.lun, OpTag.hotRead r.1 r.2.1, r.2.2.blk, r.2.2.page))) (fun s' => s'.migrate (s.bpc t0.plan) t ts)) := by
  show execArchiveMigrate s = _
  unfold execArchiveMigrate
  simp only [ht0, hgroup, hon, Bool.not_true, Bool.false_eq_true, if_false]

theorem archiveMigrate_writes (hon : s.appending = true) (ht0 : (s.crf.stripes.filter (fun t => !t.migrated)).getLast? = some t0) (hgroup : s.nextGroup (s.bpc t0.plan) = t :: ts)
    (hreading : s.crf.reading = none) (hstaged : ((t :: ts).flatMap (fun u => u.pages)).flatMap s.hotSources = [])
    (hprog : (s.migrateMark (s.bpc t0.plan) t ts).programGroup s.crf.nextArch (s.bpc t0.plan) ((s.migrateMark (s.bpc t0.plan) t ts).archChans t.plan) = some v) :
    ∃ u, exec .archiveMigrate s = .next u ∧ u.crf.nextArch = s.crf.nextArch + s.bpc t0.plan ∧ u.crf.stripes = (s.migrateMark (s.bpc t0.plan) t ts).crf.stripes
      ∧ ∀ i, i < s.bpc t0.plan → ∃ x, FMap.look u.crf.arch (s.crf.nextArch + i) = some x ∧ x.plan = t.plan
        ∧ x.pages = ((t :: ts)[i]?).elim [] (fun (u : Stripe) => u.pages) := by
  have hkept := State.migrate_arch hprog
  refine ⟨s.migrate (s.bpc t0.plan) t ts, ?_, hkept.next, hkept.stripes, fun i hi => ?_⟩
  · rw [archiveMigrate_eq hon ht0 hgroup, hstaged, State.afterReads, hreading]
    rfl
  · obtain ⟨x, hx, hplan, hpages⟩ := s.migrateMark_look t ts hi
    obtain ⟨y, hy, hplan', hpages'⟩ := hkept.arch _ x hx
    exact ⟨y, hy, hplan'.trans hplan, hpages'.trans hpages⟩

theorem archiveMigrate_reads (hon : s.appending = true) (ht0 : (s.crf.stripes.filter (fun t => !t.migrated)).getLast? = some t0) (hgroup : s.nextGroup (s.bpc t0.plan) = t :: ts)
    (hreading : s.crf.reading = none) (hunstaged : ((t :: ts).flatMap (fun u => u.pages)).flatMap s.hotSources ≠ []) :
    ∃ u, exec .archiveMigrate s = .next u ∧ u.crf = { s.crf with reading := some true } ∧ u.regs = s.regs := by
  rw [archiveMigrate_eq hon ht0 hgroup, State.afterReads, hreading]
  dsimp only
  rw [if_neg (by simpa using hunstaged)]
  exact ⟨_, rfl, (State.queueKept.readPages ..).crf, (State.queueKept.readPages ..).regs⟩

end

/-! ### SEGMENT_ERASE -/

theorem segmentErase_effect {s : State} {k : Nat} (hon : s.appending = true) (hk : s.erasable = some k)
    (hfree : s.exporting (((s.crf.arch.filter (fun e => decide (e.1 / 4096 = k))).filter (fun e => e.2.ranks.isEmpty)).flatMap (fun e => e.2.pages)) = false) :
    ∃ u, exec .segmentErase s = .next u ∧ u.crf.erased = s.crf.erased ++ [k] ∧ u.crf.arch = s.crf.arch.filter (fun e => !decide (e.1 / 4096 = k))
      ∧ u.crf.nextArch = s.crf.nextArch ∧ u.crf.stripes = s.crf.stripes := by
  show ∃ u, execSegmentErase s = .next u ∧ _
  unfold execSegmentErase
  simp only [hon, if_true, hk, hfree, Bool.false_eq_true, if_false]
  refine ⟨_, rfl, ?_⟩
  simp only [State.space, State.wrB, State.wr_fields]
  simp only [(State.queueKept.eraseArch _ _).crf, State.freeRehomes, and_self]

/-! ### REHOME -/

/-- The keys of fields at bit 4 of a byte, as REHOME_DONE: no field of an error log but FIRST and FIRST_VALID is written where one is cleared. -/
abbrev bit4Key (k : Nat) : Prop := k % 8 = 4

theorem State.mergeKept.clearFirst_bit4 (s : State) (n : Nat) : State.mergeKept bit4Key s (s.clearFirst n) := by
  have hclear : ∀ (s : State) (n : Nat), State.mergeKept bit4Key s ((s.wr (ERR_STAT.FIRST_VALID n) 0).wrBit (ERR_SUM.FIRST (n / 64)) (n % 64) false) := fun s n =>
    (State.mergeKept.wr s (ERR_STAT.FIRST_VALID n) 0 (by dsimp only; omega)).trans (.wr _ (ERR_SUM.FIRST (n / 64)) _ (by dsimp only; omega))
  simp only [State.clearFirst]
  split
  · exact (hclear s n).trans (hclear _ 0)
  · exact hclear s n

/-- Carafe's own state and the registers at bit 4 of a byte are kept. -/
def State.rehomeKept (s u : State) : Prop := u.crf = s.crf ∧ State.mergeKept bit4Key s u

section
variable {s u v : State}

theorem State.rehomeKept.trans (h : s.rehomeKept u) (h' : u.rehomeKept v) : s.rehomeKept v := ⟨h'.1.trans h.1, h.2.trans h'.2⟩

theorem State.rehomeKept.refl (s : State) : s.rehomeKept s := ⟨rfl, .refl s⟩

theorem State.rehomeKept.errVector (s : State) (n : Nat) : s.rehomeKept (s.errVector n) :=
  ⟨by rw [State.errVector_only], (s.errVector_fields n).2.1, fun _ _ => State.rd_errVector ..⟩

theorem State.rehomeKept.clearFirst (s : State) (n : Nat) : s.rehomeKept (s.clearFirst n) :=
  ⟨by rw [(State.logKept.clearFirst (low := False) (s := s) (n := n) nofun).1], .clearFirst_bit4 s n⟩

end

/-- A complete re-home event is marked, and shown in REHOME_DONE (07 R292). -/
theorem State.rehomeDone_effect (s : State) (r : Rehome) :
    (s.rehomeDone r).crf.rehomes = (s.crf.rehomes.map (fun x => if x = r then { x with done := 2 } else x)).filter
        (fun x => !(decide (1 ≤ x.done) && x.ranks.all (fun a => s.crf.erased.contains (a / 4096))))
      ∧ (s.rehomeDone r).flag (NDC_STAT.REHOME_DONE r.ch) = true ∧ (s.rehomeDone r).crf.arch = s.crf.arch := by
  unfold State.rehomeDone
  extract_lets e s1 s2 s3 n s4
  have h2 : (s1.wr (NDC_STAT.REHOME_DONE r.ch) 1).rehomeKept s2 := .errVector ..
  have h3 : s2.rehomeKept s3 := by
    unfold s3; split
    · exact ⟨rfl, .wr _ _ _ (by dsimp only; omega)⟩
    · exact .refl s2
  have h4 : s3.rehomeKept s4 := by
    unfold s4; split
    · exact .clearFirst ..
    · exact .refl s3
  obtain ⟨hcrf, -, hrd⟩ := (h2.trans h3).trans h4
  have hcrf : s4.crf = s1.crf := hcrf
  refine ⟨?_, ?_, ?_⟩
  · simp only [State.freeRehomes, hcrf]
    rfl
  · show s4.flag _ = true
    rw [State.flag, hrd _ (by dsimp only; omega), State.rd_wr_same]
    rfl
  · show s4.crf.arch = _
    rw [hcrf]

theorem rehome_effect {s : State} {r : Rehome} (hon : s.appending = true) (hr : s.crf.rehomes.find? (fun r => decide (r.done < 2)) = some r) (hdone : r.done = 1)
    (hpassed : s.rehomePassed r = true) : exec .rehome s = .next (s.rehomeDone r) := by
  show execRehome s = _
  unfold execRehome
  simp only [hr, hon, hdone, hpassed, Bool.not_true, Bool.false_eq_true, if_false, if_true]

end Sys2Proof.Machine

namespace Sys2Proof.Machine
open Sys2Proof

/-! ### What keeps the merge open -/

/-- The merge is open as before, and REPLAYING as before. -/
structure State.openKept (s u : State) : Prop where
  open_ : u.merge.open_ = s.merge.open_
  replaying : u.rd CRF_STATUS.REPLAYING = s.rd CRF_STATUS.REPLAYING

section
variable {s u v : State}

theorem State.openKept.refl (s : State) : s.openKept s := ⟨rfl, rfl⟩

theorem State.openKept.trans (h : s.openKept u) (h' : u.openKept v) : s.openKept v := ⟨h'.open_.trans h.open_, h'.replaying.trans h.replaying⟩

/-- An update of neither the merge's opening nor a register. -/
theorem State.openKept.same (h : s.openKept u) (hm : v.merge.open_ = u.merge.open_ := by rfl) (hr : v.regs = u.regs := by rfl) : s.openKept v :=
  h.trans ⟨hm, by rw [State.rd, hr, State.rd]⟩

theorem State.openKept.foldl {α : Type} (h : s.openKept u) {f : State → α → State} (hf : ∀ (v : State) a, s.openKept v → s.openKept (f v a)) (l : List α) :
    s.openKept (l.foldl f u) :=
  List.foldlRecOn l f h fun v hv a _ => hf v a hv

theorem State.openKept.wr (h : s.openKept u) {f : Fld} {x : Nat} (hf : CRF_STATUS.REPLAYING.key ≠ f.key) : s.openKept (u.wr f x) :=
  h.trans ⟨rfl, State.rd_wr_other u x hf⟩

theorem State.openKept.count (h : s.openKept u) {f : Fld} (hf : CRF_STATUS.REPLAYING.key ≠ f.key) : s.openKept (u.count f) := h.wr hf

theorem State.openKept.journal (h : s.openKept u) (hj : u.journalKept v) : s.openKept v :=
  h.trans ⟨by rw [hj.merge.1], hj.merge.2 _ (by decide)⟩

theorem State.openKept.queue (h : s.openKept u) (hq : u.queueKept v) : s.openKept v := h.journal (.queue (.refl u) hq)

theorem State.openKept.submit (h : s.openKept u) (c l : Nat) (o : NandOp) : s.openKept (u.submit c l o) := h.queue (.submit ..)

theorem State.openKept.errVector (h : s.openKept u) (n : Nat) : s.openKept (u.errVector n) := by
  rw [State.errVector_only]
  exact h.same

theorem State.openKept.setPage (h : s.openKept u) (n : Nat) (p : JPage) : s.openKept (u.setPage n p) := by
  unfold State.setPage
  split
  · exact h.same
  · exact h.same

/-! ### Slots and programs of pages -/

theorem State.takeSlot_only {c l b p : Nat} {side : Bool} (h : s.takeSlot c l side = some (b, p, u)) : u = { s with nand := u.nand } := by
  unfold State.takeSlot at h
  dsimp only at h
  repeat' split at h
  all_goals cases h
  all_goals rfl

theorem State.openKept.nand (h : s.openKept u) (hv : v = { u with nand := v.nand }) : s.openKept v := by
  rw [hv]
  exact h.same

theorem State.sideSlot_only {c st : Nat} {k : Copy} (h : s.sideSlot c st = some (k, u)) : u = { s with nand := u.nand } := by
  unfold State.sideSlot at h
  split at h
  · cases h
  · split at h
    · cases h
    next htake =>
      cases h
      exact State.takeSlot_only htake

theorem State.openKept.programCopy (h : s.openKept u) (n i : Nat) : s.openKept (u.programCopy n i) := by
  unfold State.programCopy
  split
  · exact h
  · split
    · exact h
    · exact h.submit ..

theorem State.openKept.placeCopy (h : s.openKept u) {n i r : Nat} {pl : Plan} {ok : Nat → Bool} {kind : CopyKind} (hv : u.placeCopy n i pl ok kind = some (r, v)) :
    s.openKept v := by
  unfold State.placeCopy at hv
  split at hv
  · cases hv
  · obtain ⟨c, -, hc⟩ := List.exists_of_findSome?_eq_some hv
    split at hc
    · cases hc
    · obtain ⟨⟨k, t⟩, hslot, ht⟩ := Option.map_eq_some_iff.mp hc
      cases ht
      exact ((h.nand (State.sideSlot_only hslot)).setPage ..).programCopy ..

theorem State.openKept.relocate (h : s.openKept u) (n : Nat) : s.openKept (u.relocate n) := by
  unfold State.relocate
  split
  · exact h
  · extract_lets pl bad
    split
    · exact h
    next hplace =>
      have hcount := (h.placeCopy hplace).count (f := CRF_CNT2.RELOCATED) (by decide)
      extract_lets t
      split
      · exact hcount
      next hplace' => exact hcount.placeCopy hplace'

theorem State.openKept.retwin (h : s.openKept u) (n c : Nat) : s.openKept (u.retwin n c) := by
  unfold State.retwin
  split
  · exact h
  · extract_lets pl own
    split
    · exact h
    next hplace => exact h.placeCopy hplace

theorem State.openKept.replaceTwin (h : s.openKept u) (n : Nat) : s.openKept (u.replaceTwin n) := by
  unfold State.replaceTwin
  split
  · exact h
  · split
    · exact h
    · extract_lets pl
      split
      · exact h
      next hplace => exact h.placeCopy hplace

theorem State.openKept.replaceParity (h : s.openKept u) (n : Nat) : s.openKept (u.replaceParity n) := by
  unfold State.replaceParity
  split
  · exact h
  next t _ => exact .foldl (u := u.setStripe { t with replaced := true, parity := { t.parity with st := .fail } }) h.same (fun v a hv => hv.replaceTwin a) _

theorem State.openKept.programParity (h : s.openKept u) (n : Nat) : s.openKept (u.programParity n) := by
  unfold State.programParity
  split
  · exact h
  · extract_lets v
    have hv : s.openKept v := h.same
    split
    · exact hv.submit ..
    · exact hv.replaceParity ..

/-! ### Pages and records of the member's own -/

theorem State.openKept.setCunit (h : s.openKept u) (k : Nat) (x : CUnit) : s.openKept (u.setCunit k x) := h.same

theorem State.openKept.takeNonce (h : s.openKept u) {k : Nat} {n : List Byte} (hv : u.takeNonce k = some (n, v)) : s.openKept v := by
  unfold State.takeNonce at hv
  dsimp only at hv
  split at hv
  · cases hv
  · split at hv
    · cases hv; exact h.setCunit ..
    · split at hv
      · cases hv
      · cases hv
        exact (h.wr (f := CPH_NONCE_NEXT.NEXT) (by decide)).setCunit ..

theorem State.openKept.openPage (h : s.openKept u) (hv : u.openPage = some v) : s.openKept v := by
  unfold State.openPage at hv
  extract_lets lvl c key at hv
  split at hv
  · cases hv; exact h.same
  · split at hv
    · cases hv
    · obtain ⟨⟨n, t⟩, hnonce, ht⟩ := Option.map_eq_some_iff.mp hv
      cases ht
      exact (h.takeNonce hnonce).same

theorem State.openKept.reseal (h : s.openKept u) : s.openKept u.reseal.1 := by
  unfold State.reseal
  extract_lets put
  split
  · exact h
  · split
    · exact h.same
    · split
      · exact h
      · split
        · exact h
        next n t hnonce =>
          exact State.openKept.wr (u := put t _ _) (h.takeNonce hnonce).same (by decide)

theorem State.openKept.taskDone (h : s.openKept u) (k : Nat) : s.openKept (u.taskDone k) := (h.count (f := CPH_CNT0.TASKS) (by decide)).same

theorem State.openKept.closeAs (h : s.openKept u) (t : Stripe) (p : JPage) (nonce : Option (List Byte)) : s.openKept (u.closeAs t p nonce) := by
  unfold State.closeAs
  extract_lets serial pos home twin up p1 p2 s1 s2 e s3 s4 s5 s6 s7
  have h1 : s.openKept s1 := by
    unfold s1; split
    · exact (h.count (f := CPH_CNT1.SEALS) (by decide)).taskDone _
    · exact h
  have h2 : s.openKept s2 := (h1.setPage ..).wr (by decide)
  have h4 : s.openKept s4 := h2.same
  have h5 : s.openKept s5 := by
    unfold s5; split
    · exact h4.foldl (fun v i hv => hv.programCopy ..) _
    · exact h4.relocate _
  have h6 : s.openKept s6 := by
    unfold s6
    clear_value s5 twin
    split
    · split
      · exact h5.retwin ..
      · exact h5
    · exact h5
  have h7 : s.openKept s7 := by
    unfold s7; split
    · exact h6.replaceTwin _
    · exact h6
  split
  · exact h7.programParity _
  · exact h7

theorem State.openKept.closePage (h : s.openKept u) (flushed : Bool) : s.openKept (u.closePage flushed false).1 := by
  unfold State.closePage
  split
  · simp only [Bool.false_and, Bool.false_eq_true, if_false]
    split
    · exact h.reseal
    · exact h.reseal.closeAs ..
  · exact h

theorem State.openKept.markerPage (h : s.openKept u) {block : List Byte} {first last : Seq} (hv : u.markerPage block first last = some v) : s.openKept v := by
  unfold State.markerPage at hv
  extract_lets w at hv
  have hw : s.openKept w := h.closePage false
  split at hv
  next hopen =>
    cases hv
    split at hopen
    · exact (hw.openPage hopen).closeAs ..
    · cases hopen
  · cases hv

theorem State.openKept.tryMark (h : s.openKept u) : s.openKept u.tryMark := by
  unfold State.tryMark
  split
  · exact h
  · split
    · exact h
    next hmark =>
      split at hmark
      · cases hmark
      · exact (h.markerPage hmark).same

theorem State.openKept.writeLocal (h : s.openKept u) (hv : u.writeLocal = some v) : s.openKept v := by
  unfold State.writeLocal at hv
  split at hv
  · cases hv
  · extract_lets after r block at hv
    obtain ⟨t, hmark, ht⟩ := Option.map_eq_some_iff.mp hv
    have h1 := h.markerPage hmark
    extract_lets e t1 at ht
    have ht1 : s.openKept t1 := h1.same
    rw [← ht]
    split
    · exact ht1.same
    · exact ht1

theorem State.openKept.tryLocals (h : s.openKept u) (n : Nat) : s.openKept (u.tryLocals n) := by
  induction n generalizing u with
  | zero => exact h
  | succ n ih =>
    unfold State.tryLocals
    split
    next hwrite => exact ih (h.writeLocal hwrite)
    · exact h

theorem State.openKept.settle (h : s.openKept u) : s.openKept u.settle := by
  rw [State.settle_eq]
  exact (h.tryMark.tryLocals _).journal (.settleW ..)

/-! ### The records that open a run -/

theorem State.openKept.issueEffect (h : s.openKept u) (r : Rec) : s.openKept (u.issueEffect r) := by
  have hanswer : ∀ (v : State) (sl st : Nat) (rsp : List Byte), s.openKept v → s.openKept (v.answer sl st rsp) := fun v sl st rsp hv => by
    rw [State.answer_only]
    exact hv.same
  unfold State.issueEffect
  split
  -- TRACE
  next => exact h.wr (by decide)
  -- EPOCH_ROLL
  next =>
    have hclose : s.openKept (u.closeEpoch { epoch := seqEpoch r.seq, index := seqIndex r.seq, roll := true }) := h.same
    exact (hclose.count (f := SEQ_CNT.ROLLS) (by decide)).wr (by decide)
  -- MODE_CHANGE
  next =>
    extract_lets nm
    split
    · exact h
    · exact ((h.wr (by decide)).wr (by decide)).wr (by decide)
  -- FEATURE_LEVEL
  next =>
    extract_lets e s1
    have h1 : s.openKept s1 := State.openKept.wr (u := { u with ezn := { u.ezn with levels := u.ezn.levels ++ [(field r.payload 1 1, r.seq)] } }) h.same (by decide)
    split
    · exact hanswer _ _ _ _ h1.same
    · exact h1
  -- STRIPE_PLAN
  next =>
    extract_lets mine n s1
    exact .foldl (u := s1) h.same (fun v a hv => hanswer _ _ _ _ hv) mine
  -- EGRESS
  next => exact h.same
  next => exact h

theorem State.openKept.setNext (h : s.openKept u) (n : Seq) : s.openKept (u.setNext n) := (h.wr (f := SEQ_NEXT.NEXT) (by decide)).wr (by decide)

theorem State.openKept.ask (h : s.openKept u) (r : Rec) : s.openKept (u.ask r).2 := by
  unfold State.ask
  extract_lets i
  split
  · exact h
  · split
    · exact h.count (f := CRF_CNT2.VERDICT_NOMAP) (by decide)
    · exact h.same

theorem State.openKept.issueRec (h : s.openKept u) (r : Rec) : s.openKept (u.issueRec r) := by
  let q : Rec := { r with seq := u.rd SEQ_NEXT.NEXT, flags := setBits r.flags 0 1 (b2n (needsVerdict r.typ)) }
  let u1 : State := (u.setNext q.after).count SEQ_ISSUED.ISSUED
  let u2 : State := (u1.ask q).2.issueEffect q
  have h2 : s.openKept u2 := (((h.setNext _).count (by decide)).ask q).issueEffect q
  show s.openKept { (if q.port = 0xFF then u2.setSub q.ring { u2.sub q.ring with last := q.seq } else u2) with crf := _ }
  split
  · exact h2.same
  · exact h2.same

theorem State.openKept.issueNow (h : s.openKept u) (typ : Nat) (payload : List Byte) : s.openKept (u.issueNow typ payload) := by
  have hroll : s.openKept u.roll := by
    unfold State.roll
    split
    · exact (h.wr (f := SEQ_STATUS.EPOCH_EXHAUSTED) (by decide)).journal (.logError (.refl _) ..)
    · exact h.issueRec _
  unfold State.issueNow
  extract_lets v
  have hv : s.openKept v := by
    unfold v; split
    · exact hroll.same
    · exact h
  split
  · exact hv
  · exact (hv.issueRec _).same

theorem State.openKept.localRec (h : s.openKept u) (typ : Nat) (payload : List Byte) : s.openKept (u.localRec typ payload) := by
  unfold State.localRec
  split
  · exact h.same
  · extract_lets p e v
    exact State.openKept.tryLocals (u := v) h.same _

theorem State.openKept.newPlan (h : s.openKept u) (mask reason channel : Nat) : s.openKept (u.newPlan mask reason channel) := by
  unfold State.newPlan
  extract_lets p e
  exact (State.openKept.localRec (u := { u with crf := { e with plan := p } }) h.same _ _).errVector _

theorem State.openKept.startRehome (h : s.openKept u) (c kind lun : Nat) : s.openKept (u.startRehome c kind lun) := by
  unfold State.startRehome
  extract_lets r e s1 s2
  have h1 : s.openKept s1 := State.openKept.wr (u := { u with crf := { e with rehomes := e.rehomes ++ [r] } }) h.same (by dsimp only; omega)
  have h2 : s.openKept s2 := by
    unfold s2; split
    · exact h1.wr (by dsimp only; omega)
    · exact h1
  split
  · exact h2.wr (by decide)
  · exact h2

theorem State.openKept.bootLosses (h : s.openKept u) : s.openKept u.bootLosses := by
  refine h.foldl (fun v g hv => ?_) _
  dsimp only
  split
  · exact (hv.newPlan ..).startRehome ..
  · exact hv

/-! ### The archive goes on -/

theorem State.openKept.programArch (h : s.openKept u) {a b c : Nat} (hv : u.programArch a b c = some v) : s.openKept v := by
  unfold State.programArch at hv
  split at hv
  · cases hv
  · obtain ⟨⟨k, p, t⟩, htake, ht⟩ := Option.map_eq_some_iff.mp hv
    have h1 := h.nand (State.takeWl_only htake)
    dsimp -zeta only at ht
    extract_lets lost data w arch e at ht
    have hw : s.openKept w := by
      unfold w; split
      · exact h1.same
      · exact h1
    rw [← ht]
    exact State.openKept.submit (u := { w with crf := { e with arch := arch } }) hw.same ..

theorem State.openKept.resumeArch (h : s.openKept u) : s.openKept u.resumeArch := by
  refine h.foldl (fun v e hv => ?_) _
  dsimp only
  split
  · exact hv
  · refine hv.foldl (fun w c hw => ?_) _
    cases hprog : w.programArch e.1 (v.bpc e.2.plan) c with
    | none => exact hw
    | some x => exact hw.programArch hprog

theorem State.openKept.reclaim (h : s.openKept u) : s.openKept u.reclaim := (h.queue (.eraseHotBlks ..)).queue (.eraseArch ..)

end

end Sys2Proof.Machine

namespace Sys2Proof.Machine
open Sys2Proof

/-! ### REPLAY reads the journal -/

section
variable {s u v : State}

theorem State.openKept.noW (h : s.openKept u) : s.openKept u.noW := h.journal (.noW (.refl u))

theorem State.openKept.leaveJournal (h : s.openKept u) : s.openKept u.leaveJournal := by
  unfold State.leaveJournal
  split
  · exact h
  · split
    · exact h
    · extract_lets k up arch pages stripes e v
      have hv : s.openKept v := h.same
      exact hv.noW.wr (by decide)

theorem State.openKept.logLoss (h : s.openKept u) (ns : List Nat) : s.openKept (u.logLoss ns) := by
  unfold State.logLoss
  split
  · exact h
  · extract_lets no e
    split
    · exact h
    · exact State.openKept.journal (u := { u with crf := { u.crf with losses := u.crf.losses ++ [e] } }) h.same (.logError (.refl _) ..)

theorem State.openKept.journalLoss (h : s.openKept u) (m : Medium) : s.openKept (u.journalLoss m) := by
  refine List.foldrRecOn (motive := s.openKept) _ _ h fun v hv t _ => ?_
  dsimp only
  split
  · exact hv.logLoss _
  · exact hv

theorem State.openKept.restoreIsland (h : s.openKept u) (a : List Byte) (run : List (Nat × JPage)) : s.openKept (u.restoreIsland a run) := by
  unfold State.restoreIsland
  split
  · exact h
  · extract_lets v
    have hv : s.openKept v := h.foldl (fun w g hw => (hw.wr (f := NDC_LIFE.SLC_ERASES (g / 16) (g % 16)) (by dsimp only; omega)).wr
      (f := NDC_LIFE.NATIVE_ERASES (g / 16) (g % 16)) (by dsimp only; omega)) _
    clear_value v
    exact hv.same

theorem State.journalKept.setNext (h : s.journalKept u) (n : Seq) : s.journalKept (u.setNext n) := (h.wr (f := SEQ_NEXT.NEXT) (by decide)).wr (by decide)

theorem State.journalKept.rehomeStatus (h : s.journalKept u) : s.journalKept u.rehomeStatus := by
  refine h.foldl (fun v r hv => ?_) _
  extract_lets w
  have hw : s.journalKept w := hv.wr_above (by dsimp only; omega)
  split
  · exact hw.wr_above (by dsimp only; omega)
  · exact hw

theorem State.journalKept.resumeFrom (h : s.journalKept u) (l : Seq) (hasL : Bool) : s.journalKept (u.resumeFrom l hasL) :=
  h.foldl (fun _ _ hv => hv.same) _

end

/-- The journal is read, and the member is still in REPLAYING. -/
theorem State.readJournal_effect (s : State) (bad anchors : List (Nat × Nat)) :
    (s.readJournal bad anchors).crf.read = true ∧ (s.readJournal bad anchors).rd CRF_STATUS.REPLAYING = s.rd CRF_STATUS.REPLAYING := by
  unfold State.readJournal
  extract_lets s1 a holes m s2 s3 kept inRange read lost rebuilt top run link hasL l voids found serials prune ckpts level mark isClose next s4 kept' stripes e t s5 e5
    s6 s7 s8 s9 s10 s11 s12 p s13
  have h4 : s.openKept s4 := .restoreIsland (.same (u := s3) (.journalLoss (.same (u := s1) (.leaveJournal (.refl s))) m)) ..
  have h5 : s.openKept s5 := h4.same
  have hread : s5.crf.read = true := rfl
  have h6 : s5.journalKept s6 := .same (.refl s5)
  have h7 : s5.journalKept s7 := ((h6.wr (by decide)).wr (by decide)).wr (by decide)
  have h9 : s5.journalKept s9 := (((h7.wr (by decide)).wr (by decide)).wr (by decide)).wr (by decide)
  have h11 : s5.journalKept s11 := ((((h9.setNext _).wr (by decide)).wr_above (by decide)).wr_above (by decide)).wr_above (by decide)
  have h12 : s5.journalKept s12 := by
    refine .resumeFrom (.rehomeStatus ?_) ..
    split
    · exact h11
    · exact h11.noW
  have hall : ∀ {u : State}, s5.journalKept u → u.crf.read = true ∧ u.rd CRF_STATUS.REPLAYING = s.rd CRF_STATUS.REPLAYING := fun {u} h =>
    ⟨h.read.trans hread, (h5.journal h).replaying⟩
  split
  · exact hall h12
  · have h13 : s5.journalKept s13 := (h12.wr_above (by decide)).wr_above (by decide)
    clear_value s13
    exact hall (.sendState h13.same)

theorem replay_reads {s : State} (bad anchors : List (Nat × Nat)) (hrun : s.run = true) (hreplay : s.flag CRF_STATUS.REPLAYING = true)
    (hpower : s.flag CRF_STATUS.POWER_FAIL = false) (hread : s.crf.read = false) :
    ∃ u, exec (.replay bad anchors) s = .next u ∧ u.crf.read = true ∧ u.flag CRF_STATUS.REPLAYING = true := by
  obtain ⟨hdone, hkept⟩ := s.readJournal_effect bad anchors
  refine ⟨s.readJournal bad anchors, ?_, hdone, by rw [State.flag, hkept]; exact hreplay⟩
  show execReplay bad anchors s = _
  unfold execReplay
  simp only [hrun, hreplay, hpower, hread, Bool.not_true, Bool.not_false, Bool.false_eq_true, or_self, if_false, if_true]

/-! ### REPLAY opens the run -/

/-- The merge is open, and the member has left REPLAYING. -/
theorem State.openRun_effect (s : State) : s.openRun.merge.open_ = true ∧ s.openRun.flag CRF_STATUS.REPLAYING = false := by
  unfold State.openRun
  extract_lets start fresh
  split
  next plan s0 _ =>
    extract_lets first recs e s1 cfg e1 e2 s2
    have hflag : s1.rd CRF_STATUS.REPLAYING = 0 := (State.rd_wr_other _ _ (by decide)).trans ((State.rd_wr_other _ _ (by decide)).trans (State.rd_wr_same ..))
    have h2 : s1.openKept s2 := by
      unfold s2
      split
      · exact .foldl (.refl s1) (fun v r hv => hv.issueNow ..) _
      · exact .same (.refl s1)
    have hmerge : s1.merge.open_ = true := rfl
    clear_value s2 s1
    obtain ⟨hopen, hkept⟩ := h2.bootLosses.resumeArch.reclaim
    rw [hmerge] at hopen
    exact ⟨hopen, by rw [State.flag, hkept, hflag]; rfl⟩

theorem replay_opens {s : State} (bad anchors : List (Nat × Nat)) (hrun : s.run = true) (hreplay : s.flag CRF_STATUS.REPLAYING = true)
    (hpower : s.flag CRF_STATUS.POWER_FAIL = false) (hread : s.crf.read = true) (hresume : s.resumable = true) :
    ∃ u, exec (.replay bad anchors) s = .next u ∧ u.flag CRF_STATUS.REPLAYING = false ∧ u.merge.open_ = true := by
  have hsettle : ∀ t : State, t.openRun.settle.flag CRF_STATUS.REPLAYING = false ∧ t.openRun.settle.merge.open_ = true := fun t => by
    obtain ⟨hopen, hflag⟩ := t.openRun_effect
    obtain ⟨hopen', hrd⟩ := State.openKept.settle (.refl t.openRun)
    exact ⟨by rw [State.flag, hrd]; exact hflag, hopen'.trans hopen⟩
  refine ⟨_, ?_, hsettle (if s.sequencing ∧ s.crf.hasL then (s.setW (s.rd CRF_REPLAY.RESUME)).sendWm (s.rd CRF_REPLAY.RESUME) else s)⟩
  show execReplay bad anchors s = _
  unfold execReplay
  simp only [hrun, hreplay, hpower, hread, hresume, Bool.not_true, Bool.false_eq_true, or_self, if_false]

/-! ### Programs, the watermark, the archive, re-home and replay -/

/-- Settles O32, command by command. -/
theorem programsAndWatermark : Obligations.ProgramsAndWatermark := by
  unfold Obligations.ProgramsAndWatermark
  intro s
  refine ⟨fun _ _ _ _ _ => pageProgramDone_effect, fun k hk hrun hvalid hbehind hgap => ?_,
    fun _ _ _ _ hon ht0 hgroup hreading => ⟨archiveMigrate_writes hon ht0 hgroup hreading, archiveMigrate_reads hon ht0 hgroup hreading⟩,
    fun _ => segmentErase_effect, fun r hon hr hdone hpassed => ?_, replay_reads, replay_opens⟩
  · obtain ⟨u, hexec, hu⟩ := watermarkPublish_effect hk hrun hvalid hbehind hgap
    exact ⟨u, hexec, hu.only, hu.val, hu.due, hu.time, hu.out⟩
  · obtain ⟨hrehomes, hflag, harch⟩ := s.rehomeDone_effect r
    exact ⟨_, rehome_effect hon hr hdone hpassed, hrehomes, fun _ => hflag, harch⟩

end Sys2Proof.Machine

namespace Sys2Proof.Machine
open Sys2Proof

/-! ### Contexts, LUNs and buses -/

@[simp] theorem State.ctx_setCtx_same (s : State) (c l : Nat) (x : Ctx) : (s.setCtx c l x).ctx c l = x := FMap.get_set_same ..

theorem State.ctx_setCtx_other (s : State) {c l c' l' : Nat} (x : Ctx) (h : 16 * c' + l' ≠ 16 * c + l) : (s.setCtx c l x).ctx c' l' = s.ctx c' l' :=
  FMap.get_set_other _ _ _ _ h

@[simp] theorem State.lun_setLun_same (s : State) (c l : Nat) (x : Lun) : (s.setLun c l x).lun c l = x := FMap.get_set_same ..

@[simp] theorem State.busOf_setBus_same (s : State) (c : Nat) (o : Option Nat) : (s.setBus c o).busOf c = o := FMap.get_set_same ..

theorem State.busOf_setBus_other (s : State) {c d : Nat} (o : Option Nat) (h : d ≠ c) : (s.setBus c o).busOf d = s.busOf d := FMap.get_set_other _ _ _ _ h

@[simp] theorem State.busSaucer_setSaucer_same (s : State) (c : Nat) (l : List Nat) : (s.setSaucer c l).busSaucer c = l := FMap.get_set_same ..

/-! ### Bytes cut out of lists of bytes -/

@[simp] theorem length_padTo (n : Nat) (bs : List Byte) : (padTo n bs).length = n := by
  simp [padTo, zeros]

@[simp] theorem length_slice (bs : List Byte) (off n : Nat) : (slice bs off n).length = n := length_padTo ..

theorem padTo_eq_take {n : Nat} {bs : List Byte} (h : n ≤ bs.length) : padTo n bs = bs.take n := List.take_append_of_le_length h

theorem padTo_length (bs : List Byte) : padTo bs.length bs = bs := (padTo_eq_take le_rfl).trans List.take_length

theorem slice_eq_take {bs : List Byte} {off n : Nat} (h : off + n ≤ bs.length) : slice bs off n = (bs.drop off).take n :=
  padTo_eq_take (by rw [List.length_drop]; omega)

theorem slice_append_right (as bs : List Byte) {off n k : Nat} (h : off = as.length + k) : slice (as ++ bs) off n = slice bs k n := by
  rw [slice, slice, h, List.drop_append, List.drop_eq_nil_of_le (by omega), List.nil_append, Nat.add_sub_cancel_left]

theorem slice_zero_append (as bs : List Byte) : slice (as ++ bs) 0 as.length = as := by
  rw [slice_eq_take (by simp), List.drop_zero, List.take_left]

/-- What a patch within the list has put there is read back. -/
theorem slice_patch (bs new : List Byte) {off n : Nat} (hn : new.length = n) (h : off + n ≤ bs.length) : slice (patch bs off new) off n = new := by
  have hnew : new.take (bs.length - off) = new := List.take_of_length_le (by omega)
  have hoff : off = (bs.take off).length + 0 := by rw [List.length_take]; omega
  rw [patch, hnew, List.append_assoc, slice_append_right _ _ hoff, ← hn, slice_zero_append]

/-- Bytes placed at an offset of a buffer, which grows where they end past it, are read back. -/
theorem slice_placed (buf : List Byte) (off : Nat) {data : List Byte} {n : Nat} (h : data.length = n) :
    slice (patch (padTo (max buf.length (off + n)) buf) off (padTo n data)) off n = data := by
  subst h
  rw [padTo_length]
  exact slice_patch _ _ rfl (by rw [length_padTo]; omega)

end Sys2Proof.Machine

namespace Sys2Proof.Machine
open Sys2Proof

/-! ### The issue of a microword -/

/-- The opcode of the microword with given fields. -/
theorem bits_microword {uop a b w : Nat} (huop : uop < 64) (ha : a < 1024) (hb : b < 65536) (hw : w < 2 ^ 32) :
    bits (uop * 2 ^ 58 + a * 2 ^ 48 + b * 2 ^ 32 + w) 58 6 = uop := by
  unfold bits
  omega

/-- A word that uses the bus, ready to issue with legal operands, takes the bus, and its context goes on to the next PC (07 R262, R263). -/
theorem State.micro_bus {s : State} {c l uop a b w : Nat} (h : s.dripReady c l uop a b w) (hbus : usesBus uop = true) (ha : a < 1024) (hb : b < 65536)
    (hw : w < 2 ^ 32) {ok : Bool} (hok : ok = true) (f : State → Ctx → State) :
    s.micro c l uop a b w ok f = f (s.setBus c (some l)) { s.ctx c l with pc := (s.ctx c l).pc + 1 } := by
  obtain ⟨hready, hon, hpc, hword, hturn, hfree⟩ := h
  have huop : uop < 0x10 := by
    simp only [usesBus, List.contains_iff_mem, List.mem_cons, List.not_mem_nil, or_false] at hbus
    omega
  have hbits : bits (s.wordAt c l) 58 6 = uop := by rw [hword, bits_microword (by omega) ha hb hw]
  have hparked : ¬(usesBus uop = true ∧ s.busOf c ≠ some l ∧ ((s.busOf c).isSome = true ∨ (!(s.busSaucer c).isEmpty) = true)) := by
    rintro ⟨-, hother, hwait⟩
    rcases hfree hbus with hown | ⟨hnone, hempty⟩
    · exact hother hown
    · simp [hnone, hempty] at hwait
  unfold State.micro
  dsimp only
  rw [if_neg (by simp [hready, hon]), if_neg (by omega), if_neg (by omega), if_neg (not_not_intro hword), if_neg hparked, if_neg (by simp [hturn]),
    if_neg (by simp [hok]), if_pos hbus]

/-- A context that took the bus and became `z`; the interfaces and the free values drawn apart. -/
theorem CtxStep.of_bus {s u : State} {c l : Nat} {z : Ctx} (h : u = { (s.setBus c (some l)).setCtx c l z with out := u.out, free := u.free }) :
    CtxStep s u c l z ∧ u.busOf c = some l := by
  rw [h]
  exact ⟨⟨FMap.get_set_same .., fun j hj => FMap.get_set_other _ _ _ _ hj, rfl, fun d hd => s.busOf_setBus_other (some l) hd⟩, s.busOf_setBus_same c (some l)⟩

/-- The bus word that `i` issues puts `o` on the bus, and its context becomes `z`. -/
theorem busWord_effect {s v : State} {i : Instr} {c l uop a b w : Nat} {ok : Bool} {f : State → Ctx → State} (hexec : exec i s = .next (s.micro c l uop a b w ok f))
    (h : s.dripReady c l uop a b w) (hbus : usesBus uop = true) (ha : a < 1024) (hb : b < 65536) (hw : w < 2 ^ 32) (hok : ok = true)
    (hf : f (s.setBus c (some l)) { s.ctx c l with pc := (s.ctx c l).pc + 1 } = v) {z : Ctx} {o : List Out}
    (hv : v = { (s.setBus c (some l)).setCtx c l z with out := o ++ s.out, free := v.free }) :
    ∃ u, exec i s = .next u ∧ CtxStep s u c l z ∧ u.busOf c = some l ∧ u.out = o ++ s.out := by
  have hout : v.out = o ++ s.out := by rw [hv]
  obtain ⟨hstep, hown⟩ := CtxStep.of_bus (hv.trans (by rw [hout]))
  exact ⟨v, by rw [hexec, State.micro_bus h hbus ha hb hw hok, hf], hstep, hown, hout⟩

/-! ### The words that use the bus -/

theorem State.codewords_only (s : State) (buf : List Byte) (at_ n : Nat) : (s.codewords buf at_ n).2 = { s with free := (s.codewords buf at_ n).2.free } := by
  induction n generalizing s at_ with
  | zero => rfl
  | succ n ih =>
    show (s.drew.codewords buf (at_ + 2048) n).2 = _
    rw [ih]
    rfl

theorem State.length_codewords (s : State) (buf : List Byte) (at_ n : Nat) : (s.codewords buf at_ n).1.length = 2304 * n := by
  induction n generalizing s at_ with
  | zero => rfl
  | succ n ih =>
    show (slice buf at_ 2048 ++ leBytes 256 s.freeVal ++ (s.drew.codewords buf (at_ + 2048) n).1).length = _
    rw [List.length_append, List.length_append, length_slice, length_leBytes, ih]
    omega

/-- Codeword `k` begins with its 2,048 data bytes (07 R249). -/
theorem State.slice_codewords (s : State) (buf : List Byte) (at_ : Nat) {n k : Nat} (hk : k < n) :
    slice (s.codewords buf at_ n).1 (2304 * k) 2048 = slice buf (at_ + 2048 * k) 2048 := by
  induction n generalizing s at_ k with
  | zero => omega
  | succ n ih =>
    show slice (slice buf at_ 2048 ++ leBytes 256 s.freeVal ++ (s.drew.codewords buf (at_ + 2048) n).1) (2304 * k) 2048 = _
    cases k with
    | zero =>
      rw [List.append_assoc]
      have h := slice_zero_append (slice buf at_ 2048) (leBytes 256 s.freeVal ++ (s.drew.codewords buf (at_ + 2048) n).1)
      rwa [length_slice] at h
    | succ k =>
      rw [slice_append_right _ _ (k := 2304 * k) (by rw [List.length_append, length_slice, length_leBytes]; omega), ih _ _ (by omega)]
      congr 1
      omega

section
variable {s : State} {c : Fin 32} {l : Fin 16}

theorem dripCmd_effect {w : BitVec 32} (h : s.dripReady c l 1 0 0 w.toNat) (hw : w.toNat < 256) :
    ∃ u, exec (.dripCmd c l 0 0 w) s = .next u
      ∧ CtxStep s u c l { s.ctx c l with pc := (s.ctx c l).pc + 1, cmdAt := s.ticks } ∧ u.busOf c = some l.val
      ∧ u.out = [.nandCmd c (l.val / 2) (BitVec.ofNat 8 w.toNat)] ++ s.out :=
  busWord_effect rfl h rfl (by decide) (by decide) w.isLt (by simp [hw]) rfl rfl

/-- ADDR drives the bytes of its source, padded or cut to A (07 R263). -/
theorem dripAddr_effect {a : Fin 1024} {b : Fin 65536} {w : BitVec 32} {o : NandOp} (ho : (s.ctx c l).op = some o) (h : s.dripReady c l 2 a b w.toNat) (ha : 1 ≤ a.val)
    (ha' : a.val ≤ 8) (hb : b.val < 4) (hbw : b = 3 ∨ w = 0) :
    ∃ u, exec (.dripAddr c l a b w) s = .next u ∧ CtxStep s u c l { s.ctx c l with pc := (s.ctx c l).pc + 1 } ∧ u.busOf c = some l.val
      ∧ u.out = [.nandAddr c (l.val / 2) (padTo a (s.addrBytes c l o b w.toNat))] ++ s.out := by
  obtain rfl : (s.ctx c l).op.getD { kind := 0, tag := .own 0 } = o := by rw [ho, Option.getD_some]
  exact busWord_effect rfl h rfl a.isLt b.isLt w.isLt (by simpa [ha, ha', hb] using hbw) rfl rfl

theorem dripLit_effect {a : Fin 1024} {w : BitVec 32} (h : s.dripReady c l 3 a 0 w.toNat) (ha : 1 ≤ a.val) (ha' : a.val ≤ 4) :
    ∃ u, exec (.dripLit c l a 0 w) s = .next u ∧ CtxStep s u c l { s.ctx c l with pc := (s.ctx c l).pc + 1 } ∧ u.busOf c = some l.val
      ∧ u.out = [.nandData c (l.val / 2) ((leBytes 4 w.toNat).take a)] ++ s.out :=
  busWord_effect rfl h rfl a.isLt (by decide) w.isLt (by simp [ha, ha']) rfl rfl

/-- TBL drives A bytes of the row that LC0 names (07 R263). -/
theorem dripTbl_effect {a : Fin 1024} {b : Fin 65536} {w : BitVec 32} (h : s.dripReady c l 4 a b w.toNat) (ha : 1 ≤ a.val) (ha' : a.val ≤ 8) (hb : b.val < 32)
    (hw : w.toNat < 8) (hrow : (s.ctx c l).lc.headD 0 < FMap.get 0 (s.bank c (s.ctx c l).bank).rows b) :
    ∃ u, exec (.dripTbl c l a b w) s = .next u ∧ CtxStep s u c l { s.ctx c l with pc := (s.ctx c l).pc + 1 } ∧ u.busOf c = some l.val
      ∧ u.out = [.nandData c (l.val / 2) (s.tableBytes c l b ((s.ctx c l).lc.headD 0) w.toNat a)] ++ s.out := by
  refine busWord_effect rfl h rfl a.isLt b.isLt w.isLt (by simp [ha, ha', hb, hw]) (if_neg ?_) ?_
  · exact Nat.not_le_of_lt hrow
  · split <;> rfl

theorem State.tableBytes_of_row (s : State) (c l t r : Nat) {k n : Nat} (h : k + n ≤ 8) :
    s.tableBytes c l t r k n = (List.range n).map (fun i => BitVec.ofNat 8 (FMap.get 0 (s.bank c (s.ctx c l).bank).table (512 * t + 8 * r + k + i))) :=
  List.map_congr_left fun i hi => if_pos (by rw [List.mem_range] at hi; omega)

/-- DOUT drives the buffer from the cursor, and its transfer starts (07 R263). -/
theorem dripDout_effect {w : BitVec 32} (h : s.dripReady c l 6 0 0 w.toNat) (hw : w.toNat < 2 ^ 18) :
    ∃ u, exec (.dripDout c l 0 0 w) s = .next u
      ∧ CtxStep s u c l { s.ctx c l with pc := (s.ctx c l).pc + 1, cursor := (s.ctx c l).cursor + w.toNat, st := .transfer, din := none } ∧ u.busOf c = some l.val
      ∧ u.out = [.nandData c (l.val / 2) (slice (s.ctx c l).buf (s.ctx c l).cursor w.toNat)] ++ s.out :=
  busWord_effect rfl h rfl (by decide) (by decide) w.isLt (by simpa using hw) rfl rfl

/-- With ENC, DOUT drives codewords that hold the buffer's bytes (07 R249, R263). -/
theorem dripDout_enc_effect {w : BitVec 32} (h : s.dripReady c l 6 1 0 w.toNat) (hw : w.toNat < 2 ^ 18) (hwhole : w.toNat % 2304 = 0) :
    ∃ u, exec (.dripDout c l 1 0 w) s = .next u
      ∧ CtxStep s u c l { s.ctx c l with pc := (s.ctx c l).pc + 1, cursor := (s.ctx c l).cursor + w.toNat / 2304 * 2048, st := .transfer, din := none }
      ∧ u.busOf c = some l.val
      ∧ u.out = [.nandData c (l.val / 2) ((s.setBus c (some l)).codewords (s.ctx c l).buf (s.ctx c l).cursor (w.toNat / 2304)).1] ++ s.out := by
  refine busWord_effect rfl h rfl (by decide) (by decide) w.isLt (by simpa [hwhole] using hw) rfl ?_
  have hcode := State.codewords_only (s.setBus c (some l)) (s.ctx c l).buf (s.ctx c l).cursor (w.toNat / 2304)
  dsimp only
  rw [if_pos rfl, if_pos rfl, hcode]
  rfl

theorem dripDin_effect {a : Fin 1024} {w : BitVec 32} (h : s.dripReady c l 7 a 0 w.toNat) (ha : a.val < 4) (hw : w.toNat < 2 ^ 18) :
    ∃ u, exec (.dripDin c l a 0 w) s = .next u
      ∧ CtxStep s u c l { s.ctx c l with pc := (s.ctx c l).pc + 1, st := .transfer, din := some (a.val, w.toNat, (s.ctx c l).cursor) } ∧ u.busOf c = some l.val
      ∧ u.out = [] ++ s.out :=
  busWord_effect rfl h rfl a.isLt (by decide) w.isLt (by simpa [ha] using hw) rfl rfl

/-- The cycles of a status read, in the order in which they leave. -/
def State.statusCycles (s : State) (c l : Nat) (enh : Bool) (o : NandOp) : List Out :=
  if enh then [.nandAddr c (l / 2) (leBytes 3 (s.rowAddr c l o)), .nandCmd c (l / 2) 0x78] else [.nandCmd c (l / 2) 0x70]

theorem State.statusRead_only (s : State) (c l : Nat) (enh : Bool) (o : NandOp) : s.statusRead c l enh o = { s with out := s.statusCycles c l enh o ++ s.out } := by
  cases enh <;> rfl

/-- SRD reads the status, plain or enhanced (07 R263). -/
theorem dripSrd_effect {a : Fin 1024} {sr : Byte} {o : NandOp} (ho : (s.ctx c l).op = some o) (h : s.dripReady c l 15 a 0 0) (ha : a.val < 2) :
    ∃ u, exec (.dripSrd c l a 0 0 sr) s = .next u ∧ CtxStep s u c l { s.ctx c l with pc := (s.ctx c l).pc + 1, sr := sr.toNat } ∧ u.busOf c = some l.val
      ∧ u.out = s.statusCycles c l (a == 1) o ++ s.out := by
  obtain rfl : (s.ctx c l).op.getD { kind := 0, tag := .own 0 } = o := by rw [ho, Option.getD_some]
  exact busWord_effect rfl h rfl a.isLt (by decide) (by decide) (by simp [ha]) rfl (by rw [State.statusRead_only]; rfl)

end

/-- Settles O35: each bus word by its own lemma. -/
theorem dripBusWords : Obligations.DripBusWords := by
  unfold Obligations.DripBusWords
  intro s c l a b w x y ce rdy did
  refine ⟨dripCmd_effect, fun o ho ha ha' => ⟨fun h => ?_, fun h => ?_, fun h => ?_, fun h => ?_⟩, dripLit_effect, fun h ha ha' hb hw hrow => ⟨fun hin => ?_, ?_⟩,
    dripDout_effect, fun h hw hwhole => ?_, dripDin_effect, fun sr o ho => ⟨fun h => ?_, fun h => ?_⟩⟩
  · exact dripAddr_effect (b := 0) (w := 0) ho h ha ha' (by decide) (.inr rfl)
  · exact dripAddr_effect (b := 1) (w := 0) ho h ha ha' (by decide) (.inr rfl)
  · exact dripAddr_effect (b := 2) (w := 0) ho h ha ha' (by decide) (.inr rfl)
  · exact dripAddr_effect (b := 3) ho h ha ha' (by decide) (.inl rfl)
  · have heffect := dripTbl_effect h ha ha' hb hw hrow
    rwa [State.tableBytes_of_row s c l b _ hin] at heffect
  · exact ⟨_, by simp [State.tableBytes], dripTbl_effect h ha ha' hb hw hrow⟩
  · refine ⟨_, ?_, fun k hk => State.slice_codewords _ _ _ hk, dripDout_enc_effect h hw hwhole⟩
    rw [State.length_codewords]
    omega
  · exact dripSrd_effect (a := 0) ho h (by decide)
  · exact dripSrd_effect (a := 1) ho h (by decide)

end Sys2Proof.Machine

namespace Sys2Proof.Machine
open Sys2Proof

/-! ### Queues that grow -/

/-- From `s` to `u` the queues of contexts grew at their ends, and no context changed otherwise. -/
def State.queuesGrow (s u : State) : Prop :=
  ∀ j, ∃ more, FMap.get {} u.nand.ctx j = { FMap.get {} s.nand.ctx j with queue := (FMap.get {} s.nand.ctx j).queue ++ more }

section
variable {s u v : State}

theorem State.queuesGrow.of_ctx (h : u.nand.ctx = s.nand.ctx) : s.queuesGrow u := fun j => ⟨[], by rw [h, List.append_nil]⟩

theorem State.queuesGrow.refl (s : State) : s.queuesGrow s := .of_ctx rfl

theorem State.queuesGrow.trans (h : s.queuesGrow u) (h' : u.queuesGrow v) : s.queuesGrow v := fun j => by
  obtain ⟨more, hu⟩ := h j
  obtain ⟨more', hv⟩ := h' j
  exact ⟨more ++ more', by rw [hv, hu, List.append_assoc]⟩

theorem State.queuesGrow.setCtx (s : State) (c l : Nat) (more : List NandOp) : s.queuesGrow (s.setCtx c l { s.ctx c l with queue := (s.ctx c l).queue ++ more }) := fun j => by
  by_cases hj : j = 16 * c + l
  · subst hj
    exact ⟨more, FMap.get_set_same ..⟩
  · exact ⟨[], by rw [List.append_nil]; exact FMap.get_set_other _ _ _ _ hj⟩

theorem State.queuesGrow.fillQueues (s : State) : s.queuesGrow s.fillQueues := by
  unfold State.fillQueues
  split
  · exact .refl s
  · refine List.foldlRecOn _ _ (.of_ctx rfl) fun u h t _ => h.trans ?_
    split
    dsimp only
    split
    · exact State.queuesGrow.setCtx u _ _ _
    · exact .of_ctx rfl

theorem State.queuesGrow.ctx (h : s.queuesGrow u) (c l : Nat) : ∃ more, u.ctx c l = { s.ctx c l with queue := (s.ctx c l).queue ++ more } := h (16 * c + l)

end

/-! ### DRIP_DISPATCH -/

/-- A boundary at which nothing is aborted leaves the context as it is (07 R269). -/
theorem State.boundary_quiet {s : State} {c l : Nat} (haborts : (s.ctx c l).aborts = 0) (hfailing : s.failing = false) :
    s.boundary c l = s.setCtx c l (s.ctx c l) := by
  unfold State.boundary
  simp only [haborts, hfailing, Bool.not_false, Bool.true_or, Bool.not_true, List.take_zero, List.drop_zero, List.filter_true, List.filter_false, List.append_nil,
    List.foldl_nil]
  rw [← haborts]

theorem State.nextOp_setCtx (s : State) (c l : Nat) : (s.setCtx c l (s.ctx c l)).nextOp c l = s.nextOp c l := by
  unfold State.nextOp
  simp only [State.ctx_setCtx_same]
  rfl

/-- Context `l` of channel `c` has begun operation `o` under the bank that is active in `s` (07 R261, R274). -/
structure State.began (s u : State) (c l : Nat) (o : NandOp) : Prop where
  op : (u.ctx c l).op = some o
  st : (u.ctx c l).st = .issuing
  bank : (u.ctx c l).bank = s.rd (DRP_STAT.ACTIVE_BANK c)
  pc : (u.ctx c l).pc = FMap.get 0 (s.bank c (s.rd (DRP_STAT.ACTIVE_BANK c))).entry o.kind % 4096
  buf : (u.ctx c l).buf = o.data
  lc : (u.ctx c l).lc = [0, 0, 0, 0]
  stack : (u.ctx c l).stack = []
  cursor : (u.ctx c l).cursor = 0

/-- The entry of an operation kind in the bank in use is valid (07 R274). -/
abbrev State.entryOk (s : State) (c kind : Nat) : Prop := bitAt (FMap.get 0 (s.bank c (s.rd (DRP_STAT.ACTIVE_BANK c))).entry kind) 12 = true

/-- An operation with a valid entry begins, and the queue of its context stays. -/
theorem State.start_effect {s : State} {c l : Nat} {o : NandOp} (hentry : s.entryOk c o.kind) :
    s.began (s.start c l o) c l o ∧ ((s.start c l o).ctx c l).queue = (s.ctx c l).queue := by
  unfold State.start
  extract_lets b e x s1
  have hctx : s1.ctx c l = _ := s.ctx_setCtx_same c l _
  rw [if_pos hentry, hctx]
  exact ⟨by constructor <;> rw [hctx], rfl⟩

theorem State.began.grow {s u v : State} {c l : Nat} {o : NandOp} (h : s.began u c l o) (hgrow : u.queuesGrow v) : s.began v c l o := by
  obtain ⟨more, hv⟩ := hgrow.ctx c l
  obtain ⟨hop, hst, hbank, hpc, hbuf, hlc, hstack, hcursor⟩ := h
  constructor <;> rw [hv] <;> assumption

theorem State.began.of_setCtx {s u : State} {c l c' l' : Nat} {x : Ctx} {o : NandOp} (h : (s.setCtx c' l' x).began u c l o) : s.began u c l o :=
  ⟨h.op, h.st, h.bank, h.pc, h.buf, h.lc, h.stack, h.cursor⟩

section
variable {s : State} {c : Fin 32} {l : Fin 16}

/-- A context that may dispatch: the Drip runs, no operation is in progress or aborted, and nothing holds operations back (07 R261, R269, R270). -/
structure State.mayDispatch (s : State) (c l : Nat) : Prop where
  on : s.dripOn c = true
  idle : (s.ctx c l).op = none
  aborts : (s.ctx c l).aborts = 0
  failing : s.failing = false
  reset : s.err.pend = none
  suspend : s.flag (DRP_CTRL.SUSPEND c) = false
  lun : s.lunLost c l = false

/-- What DRIP_DISPATCH does past the boundary. -/
theorem dripDispatch_eq (h : s.mayDispatch c l) : exec (.dripDispatch c l) s =
    let w := s.setCtx c l (s.ctx c l)
    let x := s.ctx c l
    if (x.needReset ∨ x.needIdent) ∧ !s.dispatches c { kind := 3, tag := .own 0 } then .next w
    else if x.needReset then .next (w.start c l { kind := 0, tag := .own 0 })
    else if x.needIdent then .next (w.start c l { kind := 1, tag := .own 0 })
    else match s.nextOp c l with
      | none => .next w
      | some i => match x.queue[i]? with
        | none => .next w
        | some o => .next ((w.setCtx c l { x with queue := x.queue.eraseIdx i }).start c l o).fillQueues := by
  obtain ⟨hon, hidle, haborts, hfailing, hreset, hsuspend, hlun⟩ := h
  have hboundary : (if s.dripOn c && (s.ctx c l).op.isNone then s.boundary c l else s) = s.setCtx c l (s.ctx c l) := by
    rw [hon, hidle, State.boundary_quiet haborts hfailing]
    rfl
  have hopen : ¬((s.ctx c l).op.isSome = true ∨ (!(s.setCtx c l (s.ctx c l)).dripOn c) = true ∨ (s.setCtx c l (s.ctx c l)).err.pend.isSome = true
      ∨ (s.setCtx c l (s.ctx c l)).flag (DRP_CTRL.SUSPEND c) = true ∨ (s.setCtx c l (s.ctx c l)).lunLost c l = true) := by
    rintro (h | h | h | h | h)
    · rw [hidle] at h; cases h
    · rw [show (s.setCtx c l (s.ctx c l)).dripOn c = s.dripOn c from rfl, hon] at h; cases h
    · rw [show (s.setCtx c l (s.ctx c l)).err = s.err from rfl, hreset] at h; cases h
    · rw [State.flag_setCtx, hsuspend] at h; cases h
    · rw [show (s.setCtx c l (s.ctx c l)).lunLost c l = s.lunLost c l from rfl, hlun] at h; cases h
  show execDripDispatch c l s = _
  unfold execDripDispatch
  dsimp only
  rw [hboundary, State.ctx_setCtx_same, State.nextOp_setCtx, if_neg hopen]
  rfl

/-- The recovery RESET_LUN comes first (07 R266). -/
theorem dripDispatch_reset (h : s.mayDispatch c l) (hreads : s.dispatches c { kind := 3, tag := .own 0 } = true) (hneed : (s.ctx c l).needReset = true)
    (hentry : s.entryOk c 0) : ∃ u, exec (.dripDispatch c l) s = .next u ∧ s.began u c l { kind := 0, tag := .own 0 } := by
  refine ⟨_, (dripDispatch_eq h).trans ?_, (State.start_effect (s := s.setCtx c l (s.ctx c l)) (o := { kind := 0, tag := .own 0 }) hentry).1.of_setCtx⟩
  dsimp only
  rw [if_neg (by simp [hreads]), if_pos hneed]

/-- Then comes the recovery IDENT (07 R266). -/
theorem dripDispatch_ident (h : s.mayDispatch c l) (hreads : s.dispatches c { kind := 3, tag := .own 0 } = true) (hreset : (s.ctx c l).needReset = false)
    (hneed : (s.ctx c l).needIdent = true) (hentry : s.entryOk c 1) :
    ∃ u, exec (.dripDispatch c l) s = .next u ∧ s.began u c l { kind := 1, tag := .own 0 } := by
  refine ⟨_, (dripDispatch_eq h).trans ?_, (State.start_effect (s := s.setCtx c l (s.ctx c l)) (o := { kind := 1, tag := .own 0 }) hentry).1.of_setCtx⟩
  dsimp only
  rw [if_neg (by simp [hreads]), if_neg (by simp [hreset]), if_pos hneed]

/-- The operation that is next leaves the queue and begins (07 R261). -/
theorem dripDispatch_next (h : s.mayDispatch c l) {i : Nat} {o : NandOp} (hreset : (s.ctx c l).needReset = false) (hident : (s.ctx c l).needIdent = false)
    (hnext : s.nextOp c l = some i) (ho : (s.ctx c l).queue[i]? = some o) (hentry : s.entryOk c o.kind) :
    ∃ u, exec (.dripDispatch c l) s = .next u ∧ s.began u c l o ∧ ∃ more, (u.ctx c l).queue = (s.ctx c l).queue.eraseIdx i ++ more := by
  let w := (s.setCtx c l (s.ctx c l)).setCtx c l { s.ctx c l with queue := (s.ctx c l).queue.eraseIdx i }
  obtain ⟨hbegan, hqueue⟩ := State.start_effect (s := w) (l := l) hentry
  have hgrow := State.queuesGrow.fillQueues (w.start c l o)
  refine ⟨(w.start c l o).fillQueues, (dripDispatch_eq h).trans ?_, (hbegan.grow hgrow).of_setCtx.of_setCtx, ?_⟩
  · dsimp only
    rw [if_neg (by simp [hreset, hident]), if_neg (by simp [hreset]), if_neg (by simp [hident]), hnext]
    dsimp only
    rw [ho]
  · obtain ⟨more, hmore⟩ := hgrow.ctx c l
    refine ⟨more, ?_⟩
    rw [hmore, hqueue, State.ctx_setCtx_same]

/-! ### The ends of waits and transfers -/

theorem CtxStep.of_setCtx {u : State} {c l : Nat} {z : Ctx} (h : u = { s.setCtx c l z with out := u.out }) : CtxStep s u c l z ∧ u.busOf c = s.busOf c := by
  rw [h]
  exact ⟨⟨FMap.get_set_same .., fun j hj => FMap.get_set_other _ _ _ _ hj, rfl, fun _ _ => rfl⟩, rfl⟩

/-- A command after which the context is `z`, and nothing else has changed but the bus cycles put out. -/
theorem ctx_effect {i : Instr} {c l : Nat} {z : Ctx} {u : State} (hexec : exec i s = .next u) (hu : u = { s.setCtx c l z with out := u.out }) :
    ∃ u, exec i s = .next u ∧ CtxStep s u c l z ∧ u.busOf c = s.busOf c :=
  ⟨u, hexec, CtxStep.of_setCtx hu⟩

variable (hon : s.dripOn c = true)
include hon

theorem dripWaitcDone_effect (hst : (s.ctx c l).st = .waiting) (hholds : s.waitHolds c (s.ctx c l) = true) :
    ∃ u, exec (.dripWaitcDone c l) s = .next u ∧ CtxStep s u c l { s.ctx c l with st := .issuing, wait := none } ∧ u.busOf c = s.busOf c :=
  ctx_effect (if_pos ⟨hst, hholds, hon⟩) rfl

/-- A TIME wait that runs out lets the context issue again (07 R264). -/
theorem dripWaitcTimeout_time (hst : (s.ctx c l).st = .waiting) (hover : s.waitOver (s.ctx c l) = true) {b t : Nat} (hwait : (s.ctx c l).wait = some (2, b, t)) :
    ∃ u, exec (.dripWaitcTimeout c l) s = .next u ∧ CtxStep s u c l { s.ctx c l with st := .issuing, wait := none } ∧ u.busOf c = s.busOf c := by
  refine ctx_effect (u := s.setCtx c l { s.ctx c l with st := .issuing, wait := none }) ?_ rfl
  show execDripWaitcTimeout c l s = _
  unfold execDripWaitcTimeout
  dsimp only
  rw [if_neg (by simp [hst, hon, hover]), hwait]
  rfl

theorem dripDelayExpire_effect (hst : (s.ctx c l).st = .waiting) (hover : s.waitOver (s.ctx c l) = true) {b t : Nat} (hwait : (s.ctx c l).wait = some (16, b, t)) :
    ∃ u, exec (.dripDelayExpire c l) s = .next u ∧ CtxStep s u c l { s.ctx c l with st := .issuing, wait := none } ∧ u.busOf c = s.busOf c := by
  refine ctx_effect (u := s.setCtx c l { s.ctx c l with st := .issuing, wait := none }) ?_ rfl
  show execDripDelayExpire c l s = _
  unfold execDripDelayExpire
  dsimp only
  rw [hwait]
  exact if_pos ⟨hst, hon, hover⟩

/-- The first status read of a wait, or one that POLL_NS have passed since (07 R264). -/
theorem statusPoll_effect (hst : (s.ctx c l).st = .waiting) {b t : Nat} {o : NandOp} (sr : Byte) (hwait : (s.ctx c l).wait = some (1, b, t))
    (ho : (s.ctx c l).op = some o)
    (hdue : (s.ctx c l).polled = false ∨ (s.ctx c l).pollAt + ceilDiv (s.rd (NDC_TIMING.POLL_NS c) * 5) 4 ≤ s.ticks) :
    ∃ u, exec (.statusPoll c l sr) s = .next u ∧ CtxStep s u c l { s.ctx c l with sr := sr.toNat, polled := true, pollAt := s.ticks } ∧ u.busOf c = s.busOf c := by
  refine ctx_effect (u := (s.setCtx c l { s.ctx c l with sr := sr.toNat, polled := true, pollAt := s.ticks }).statusRead c l (bitAt b 15) o) ?_
    (by rw [State.statusRead_only])
  show execStatusPoll c l sr s = _
  unfold execStatusPoll
  dsimp only
  simp only [hwait, ho]
  exact if_pos ⟨hst, hon, hdue.imp_left fun h => by rw [h]; rfl⟩

theorem dripTransferDone_out (hst : (s.ctx c l).st = .transfer) (data : List Byte) (hdin : (s.ctx c l).din = none) :
    ∃ u, exec (.dripTransferDone c l data) s = .next u ∧ CtxStep s u c l { s.ctx c l with st := .issuing } ∧ u.busOf c = s.busOf c := by
  refine ctx_effect (u := s.setCtx c l { s.ctx c l with st := .issuing }) ?_ rfl
  show execDripTransferDone c l data s = _
  unfold execDripTransferDone
  dsimp only
  rw [if_neg (by simp [hst, hon]), hdin]

/-- The bytes of a DIN land where it began, or go to the decoder (07 R263). -/
theorem dripTransferDone_in (hst : (s.ctx c l).st = .transfer) (data : List Byte) {m n at_ : Nat} (hdin : (s.ctx c l).din = some (m, n, at_)) :
    ∃ z, (∃ u, exec (.dripTransferDone c l data) s = .next u ∧ CtxStep s u c l z ∧ u.busOf c = s.busOf c) ∧ z.st = .issuing ∧ z.din = none ∧ z.pc = (s.ctx c l).pc
      ∧ z.erased = (decide (2304 ≤ n) && erasedCodewords (n / 2304) (padTo n data))
      ∧ (m % 2 = 1 → z.cursor = at_ + n / 2304 * 2048 ∧ z.decs = (s.ctx c l).decs ++ [(m, n, at_, s.ticks)] ∧ z.buf = (s.ctx c l).buf)
      ∧ (m % 2 = 0 → z.cursor = at_ + n ∧ z.decs = (s.ctx c l).decs ∧ (data.length = n → slice z.buf at_ n = data)) := by
  have hexec : exec (.dripTransferDone c l data) s = execDripTransferDone c l data s := rfl
  unfold execDripTransferDone at hexec
  dsimp only at hexec
  rw [if_neg (by simp [hst, hon]), hdin] at hexec
  dsimp only at hexec
  by_cases hm : m % 2 = 1
  · rw [if_pos hm] at hexec
    exact ⟨_, ctx_effect hexec rfl, rfl, rfl, rfl, rfl, fun _ => ⟨rfl, rfl, rfl⟩, fun h => by omega⟩
  · rw [if_neg hm] at hexec
    exact ⟨_, ctx_effect hexec rfl, rfl, rfl, rfl, rfl, fun h => absurd h hm, fun _ => ⟨rfl, rfl, slice_placed _ _⟩⟩

/-- A decode gives its result, and a correctable one places its data where the DIN put it (07 R249, R265). -/
theorem dripDecodeReady_effect {m n at_ t : Nat} {ds : List (Nat × Nat × Nat × Nat)} (errors : Fin 18433) (data : List Byte)
    (hdecs : (s.ctx c l).decs = (m, n, at_, t) :: ds) (htime : t + (if m = 1 then 2500 else 25000) ≤ s.ticks) {good : Bool}
    (hgood : good = decide (errors.val ≤ if m = 1 ∨ (s.ctx c l).senses < 2 then 120 else 180)) :
    ∃ z, (∃ u, exec (.dripDecodeReady c l errors data) s = .next u ∧ CtxStep s u c l z ∧ u.busOf c = s.busOf c) ∧ z.decs = ds ∧ z.decOk = good
      ∧ (good = true → z.decBits = errors.val) ∧ (good = false → z.buf = (s.ctx c l).buf)
      ∧ (good = true → data.length = n / 2304 * 2048 → slice z.buf at_ (n / 2304 * 2048) = data) ∧ z.pc = (s.ctx c l).pc ∧ z.st = (s.ctx c l).st
      ∧ z.cursor = (s.ctx c l).cursor := by
  have hexec : exec (.dripDecodeReady c l errors data) s = execDripDecodeReady c l errors data s := rfl
  unfold execDripDecodeReady at hexec
  dsimp only at hexec
  rw [hdecs] at hexec
  dsimp only at hexec
  rw [if_neg (by simpa [hon] using htime), ← hgood] at hexec
  refine ⟨_, ctx_effect hexec rfl, rfl, rfl, fun h => by rw [h]; rfl, fun h => by rw [h]; rfl, fun h hlen => ?_, rfl, rfl, rfl⟩
  rw [h]
  exact slice_placed _ _ hlen

/-- The context parked longest takes the free bus (07 R262). -/
theorem dripBusGrant_effect {ls : List Nat} (hsaucer : s.busSaucer c = l.val :: ls) (hfree : s.busOf c = none) :
    ∃ u, exec (.dripBusGrant c) s = .next u ∧ u.busOf c = some l.val ∧ u.busSaucer c = ls ∧ u.ctx c l = { s.ctx c l with st := .issuing } := by
  refine ⟨((s.setSaucer c ls).setBus c (some l.val)).setCtx c l { s.ctx c l with st := .issuing }, ?_, State.busOf_setBus_same (s.setSaucer c ls) c (some l.val),
    State.busSaucer_setSaucer_same s c ls, State.ctx_setCtx_same ..⟩
  show execDripBusGrant c s = _
  unfold execDripBusGrant
  rw [hsaucer, hfree]
  exact if_pos hon

end

end Sys2Proof.Machine

namespace Sys2Proof.Machine
open Sys2Proof

/-! ### What losing a part of a channel keeps -/

/-- What is watched besides the operations in progress: the retired channels and the stripe plan; or the lost LUNs. -/
inductive Watch where
  | operations | plan | luns

/-- The keys of the fields watched: RETIRED or LUN_LOST of the channels' status registers, or none. -/
def Watch.key : Watch → Nat → Prop
  | .operations, _ => False
  | .plan, k => 0x800000 ≤ k ∧ k % 1024 = 193
  | .luns, k => 0x800000 ≤ k ∧ k % 1024 = 208

/-- The field is neither RETIRED nor LUN_LOST of a channel. -/
abbrev offStat (k : Nat) : Prop := k < 0x800000 ∨ (k % 1024 ≠ 193 ∧ k % 1024 ≠ 208)

theorem Watch.not_key {k : Nat} (w : Watch) (h : offStat k) : ¬w.key k := by
  cases w with
  | operations => exact not_false
  | plan => exact fun ⟨hlow, hk⟩ => by omega
  | luns => exact fun ⟨hlow, hk⟩ => by omega

/-- From `s` to `u` every context has kept its operation and its need of a RESET_LUN, no result and no re-home event has gone, no request is untaken again, and what
is watched has stayed. -/
structure State.nandKept (w : Watch) (s u : State) : Prop where
  op : ∀ j, (FMap.get {} u.nand.ctx j).op = (FMap.get {} s.nand.ctx j).op
  needReset : ∀ j, (FMap.get {} u.nand.ctx j).needReset = (FMap.get {} s.nand.ctx j).needReset
  done : ∀ d ∈ s.nand.done, d ∈ u.nand.done
  rehomes : ∀ r ∈ s.crf.rehomes, r ∈ u.crf.rehomes
  taken : ∀ sl, (s.mb sl).taken = true → (u.mb sl).taken = true
  rd : ∀ f : Fld, w.key f.key → u.rd f = s.rd f
  plan : w = .plan → u.crf.plan = s.crf.plan

section
variable {w : Watch} {s u v : State}

theorem State.nandKept.refl (w : Watch) (s : State) : State.nandKept w s s :=
  ⟨fun _ => rfl, fun _ => rfl, fun _ h => h, fun _ h => h, fun _ h => h, fun _ _ => rfl, fun _ => rfl⟩

theorem State.nandKept.trans (h : State.nandKept w s u) (h' : State.nandKept w u v) : State.nandKept w s v :=
  ⟨fun j => (h'.op j).trans (h.op j), fun j => (h'.needReset j).trans (h.needReset j), fun d hd => h'.done d (h.done d hd),
    fun r hr => h'.rehomes r (h.rehomes r hr), fun sl hsl => h'.taken sl (h.taken sl hsl), fun f hf => (h'.rd f hf).trans (h.rd f hf),
    fun hw => (h'.plan hw).trans (h.plan hw)⟩

/-- The parts of the state that hold what is kept. -/
def State.watched (s : State) : FMap Ctx × List NandDone × List Rehome × FMap Mailbox × FMap Nat × Plan :=
  (s.nand.ctx, s.nand.done, s.crf.rehomes, s.mbox, s.regs, s.crf.plan)

/-- An update of none of what is kept. -/
theorem State.nandKept.same (h : State.nandKept w s u) (heq : v.watched = u.watched) : State.nandKept w s v := by
  simp only [State.watched, Prod.mk.injEq] at heq
  obtain ⟨hctx, hdone, hrehomes, hmbox, hregs, hplan⟩ := heq
  exact h.trans ⟨fun j => by rw [hctx], fun j => by rw [hctx], fun d hd => by rwa [hdone], fun r hr => by rwa [hrehomes],
    fun sl hsl => by rw [State.mb] at hsl ⊢; rwa [hmbox], fun f _ => by rw [State.rd, hregs, State.rd], fun _ => hplan⟩

theorem State.nandKept.foldl {α : Type} (h : State.nandKept w s u) {f : State → α → State} (hf : ∀ (v : State) a, State.nandKept w s v → State.nandKept w s (f v a))
    (l : List α) : State.nandKept w s (l.foldl f u) :=
  List.foldlRecOn l f h fun v hv a _ => hf v a hv

/-- A write of a field that is not watched. -/
theorem State.nandKept.wr_unwatched (h : State.nandKept w s u) {f : Fld} {x : Nat} (hf : ¬w.key f.key) : State.nandKept w s (u.wr f x) :=
  h.trans ⟨fun _ => rfl, fun _ => rfl, fun _ h => h, fun _ h => h, fun _ h => h, fun _ hg => State.rd_wr_other u x fun he => hf (he ▸ hg), fun _ => rfl⟩

theorem State.nandKept.wr (h : State.nandKept w s u) {f : Fld} {x : Nat} (hf : offStat f.key) : State.nandKept w s (u.wr f x) :=
  h.wr_unwatched (w.not_key hf)

theorem State.nandKept.wrB (h : State.nandKept w s u) {f : Fld} {b : Bool} (hf : offStat f.key) : State.nandKept w s (u.wrB f b) := h.wr hf

theorem State.nandKept.wrBit (h : State.nandKept w s u) {f : Fld} {i : Nat} {b : Bool} (hf : offStat f.key) :
    State.nandKept w s (u.wrBit f i b) := h.wr hf

theorem State.nandKept.count (h : State.nandKept w s u) {f : Fld} (hf : offStat f.key) : State.nandKept w s (u.count f) := h.wr hf

theorem State.nandKept.setCtx (h : State.nandKept w s u) {c l : Nat} {x : Ctx} (hop : x.op = (u.ctx c l).op) (hneed : x.needReset = (u.ctx c l).needReset) :
    State.nandKept w s (u.setCtx c l x) := by
  have hget : ∀ j, FMap.get {} (u.setCtx c l x).nand.ctx j = if j = 16 * c + l then x else FMap.get {} u.nand.ctx j := fun j => by
    split
    next hj => rw [hj]; exact FMap.get_set_same ..
    next hj => exact FMap.get_set_other _ _ _ _ hj
  refine h.trans ⟨fun j => ?_, fun j => ?_, fun _ h => h, fun _ h => h, fun _ h => h, fun _ _ => rfl, fun _ => rfl⟩ <;> rw [hget]
  · split
    next hj => rw [hop, hj]; rfl
    · rfl
  · split
    next hj => rw [hneed, hj]; rfl
    · rfl

theorem State.nandKept.addDone (h : State.nandKept w s u) (ds : List NandDone) : State.nandKept w s { u with nand := { u.nand with done := u.nand.done ++ ds } } :=
  h.trans ⟨fun _ => rfl, fun _ => rfl, fun _ hd => List.mem_append_left _ hd, fun _ h => h, fun _ h => h, fun _ _ => rfl, fun _ => rfl⟩

theorem State.nandKept.queue (h : State.nandKept w s u) (hq : u.queueKept v) (hgrow : u.queuesGrow v) : State.nandKept w s v := by
  have hnand : ∀ j, (FMap.get {} v.nand.ctx j).op = (FMap.get {} u.nand.ctx j).op ∧ (FMap.get {} v.nand.ctx j).needReset = (FMap.get {} u.nand.ctx j).needReset := fun j => by
    obtain ⟨more, hmore⟩ := hgrow j
    rw [hmore]
    exact ⟨rfl, rfl⟩
  exact h.trans ⟨fun j => (hnand j).1, fun j => (hnand j).2, fun d hd => by rwa [hq.done], fun r hr => by rwa [hq.crf],
    fun sl hsl => by rw [hq] ; exact hsl, fun f _ => by rw [State.rd, hq.regs, State.rd], fun _ => by rw [hq.crf]⟩

theorem State.nandKept.fillQueues (h : State.nandKept w s u) : State.nandKept w s u.fillQueues := h.queue (.fillQueues u) (.fillQueues u)

theorem State.nandKept.submit (h : State.nandKept w s u) (c l : Nat) (o : NandOp) : State.nandKept w s (u.submit c l o) :=
  State.nandKept.fillQueues (u := { u with nand := { u.nand with todo := u.nand.todo ++ [(c, l, o)] } }) (h.same (by rfl))

/-! ### Error records -/

theorem State.nandKept.errVector (h : State.nandKept w s u) (n : Nat) : State.nandKept w s (u.errVector n) := by
  rw [State.errVector_only]
  exact h.same rfl

theorem State.nandKept.warn (h : State.nandKept w s u) (n code sub info : Nat) : State.nandKept w s (u.warn n code sub info) := by
  unfold State.warn
  obtain ⟨sec, ns⟩ := u.timeWord
  refine .errVector (.count (.wr (.wr (.wr (.wr (.wr (h.wr ?_) ?_) ?_) ?_) ?_) ?_) ?_) 3
  all_goals (dsimp only; omega)

theorem State.nandKept.firstRecord (h : State.nandKept w s u) (n code cls sub info : Nat) (inj : Bool) : State.nandKept w s (u.firstRecord n code cls sub info inj) := by
  unfold State.firstRecord
  obtain ⟨sec, ns⟩ := u.timeWord
  dsimp -zeta only
  extract_lets s1 s2 s3 e s4
  have h3 : State.nandKept w s s3 := by
    refine .wrBit (.wr (.wr (.wr (.wr (.wr (.wr (.wrB (.wr (h.wr ?_) ?_) ?_) ?_) ?_) ?_) ?_) ?_) ?_) ?_
    all_goals (dsimp only; omega)
  refine .errVector ?_ 0
  unfold s4
  split
  · exact h3.same rfl
  · exact h3

theorem State.nandKept.secondRecord (h : State.nandKept w s u) (n code cls sub info : Nat) (inj : Bool) : State.nandKept w s (u.secondRecord n code cls sub info inj) := by
  unfold State.secondRecord
  obtain ⟨sec, ns⟩ := u.timeWord
  refine .errVector (.wr (.wr (.wr (.wr (.wr (.wr (.wrB (.wr (h.wr ?_) ?_) ?_) ?_) ?_) ?_) ?_) ?_) ?_) 1
  all_goals (dsimp only; omega)

theorem State.nandKept.declareFatal (h : State.nandKept w s u) (x : FatalUnit) : State.nandKept w s (u.declareFatal x) := by
  unfold State.declareFatal
  split
  · exact h
  · extract_lets n e s1 s2 s3
    have h1 : State.nandKept w s s1 := h.same rfl
    have h3 : State.nandKept w s s3 := (h1.wrBit (by dsimp only; omega)).wrB (by dsimp only; omega)
    refine .errVector ?_ 2
    split
    · exact h3.wrBit (by dsimp only; omega)
    · exact h3

theorem State.nandKept.clearFirst (h : State.nandKept w s u) (n : Nat) : State.nandKept w s (u.clearFirst n) := by
  have h1 : State.nandKept w s ((u.wr (ERR_STAT.FIRST_VALID n) 0).wrBit (ERR_SUM.FIRST (n / 64)) (n % 64) false) := (h.wr (by dsimp only; omega)).wrBit (by dsimp only; omega)
  unfold State.clearFirst
  extract_lets v
  split
  · exact (h1.wr (by dsimp only; omega)).wrBit (by dsimp only; omega)
  · exact h1

theorem State.nandKept.logCore (h : State.nandKept w s u) (n code cls sub info : Nat) (inj : Bool) : State.nandKept w s (u.logCore n code cls sub info inj) := by
  unfold State.logCore
  extract_lets s1 x s2
  have h1 : State.nandKept w s s1 := (h.count (by dsimp only; omega)).count (by dsimp only; omega)
  have h2 : State.nandKept w s s2 := h1.secondRecord ..
  split
  · exact h1
  · split
    · exact h1.firstRecord ..
    · split
      · split
        · split
          · exact h2.warn ..
          · exact h2.declareFatal _
        · exact h2.wrB (by dsimp only; omega)
      · exact h1.count (by dsimp only; omega)

theorem State.nandKept.logError (h : State.nandKept w s u) (n code cls sub info : Nat) (inj : Bool) : State.nandKept w s (u.logError n code cls sub info inj) := by
  unfold State.logError
  extract_lets second s1 s2 s3
  have h1 : State.nandKept w s s1 := h.logCore ..
  have h2 : State.nandKept w s s2 := by
    unfold s2; split
    · exact h1.logCore ..
    · exact h1
  have h3 : State.nandKept w s s3 := by
    unfold s3; split
    · split
      · exact h2.warn ..
      · exact h2.declareFatal _
    · exact h2
  split
  · exact h3.clearFirst _
  · exact h3

/-- POISON on what a lost LUN held changes the map and the logs of deferred errors (10 R398). -/
theorem State.nandKept.poisonLun (h : State.nandKept w s u) (c l : Nat) : State.nandKept w s (u.poisonLun c l) := by
  unfold State.poisonLun State.poison
  split
  · refine .foldl (.foldl h (fun v x hv => hv.same (by rfl)) _) (fun v r hv => ?_) _
    unfold State.deferred
    exact State.nandKept.count (hv.same (by rfl)) (by dsimp only; omega)
  · exact h

end

end Sys2Proof.Machine

namespace Sys2Proof.Machine
open Sys2Proof

/-! ### What settling W keeps of the channels -/

section
variable {w : Watch} {s u v : State}

theorem State.nandKept.drainLink (h : State.nandKept w s u) (k n : Nat) : State.nandKept w s (u.drainLink k n) := by
  induction n generalizing u with
  | zero => exact h
  | succ n ih =>
    unfold State.drainLink
    extract_lets x c
    split
    · exact h
    · split
      · exact h
      · have hcredit : State.nandKept w s (u.wr (EZN_LINK_STAT.CREDITS k) (c - 1)) := h.wr (by dsimp only; omega)
        exact ih (hcredit.same rfl)

theorem State.nandKept.sendOn (h : State.nandKept w s u) (k : Nat) (f : LinkFrame) : State.nandKept w s (u.sendOn k f) := by
  unfold State.sendOn
  split
  · exact .drainLink (h.same (by rfl)) ..
  · exact h

theorem State.nandKept.sendWm (h : State.nandKept w s u) (q : Seq) : State.nandKept w s (u.sendWm q) := by
  unfold State.sendWm
  split
  · exact h
  · refine h.foldl (fun v m hv => ?_) _
    split
    · exact hv
    · dsimp only
      split
      · exact .sendOn (hv.same (by rfl)) ..
      · exact hv.same rfl

theorem State.nandKept.sendConfirm (h : State.nandKept w s u) : State.nandKept w s u.sendConfirm := by
  unfold State.sendConfirm
  split
  · exact h
  · split
    · exact h
    · dsimp only
      split
      · exact .sendOn (h.same (by rfl)) ..
      · exact h.same rfl

theorem State.nandKept.levelsInForce (h : State.nandKept w s u) (q : Seq) : State.nandKept w s (u.levelsInForce q) := by
  unfold State.levelsInForce
  extract_lets due e u1
  split
  · exact h
  · have h1 : State.nandKept w s u1 := h.same rfl
    exact (h1.foldl (fun v l hv => hv.wr (by dsimp only; omega)) due).wrB (by dsimp only; omega)

theorem State.nandKept.setW (h : State.nandKept w s u) (q : Seq) : State.nandKept w s (u.setW q) :=
  (((h.wr (by dsimp only; omega)).wr (by dsimp only; omega)).wr (by dsimp only; omega)).levelsInForce q

theorem State.nandKept.advanceW (h : State.nandKept w s u) : State.nandKept w s u.advanceW := by
  unfold State.advanceW
  extract_lets u1 b u2
  have h1 : State.nandKept w s u1 := h.wrB (by dsimp only; omega)
  split
  · exact h
  · split
    · exact h1
    · split
      next q ends _ =>
        extract_lets u3
        have h3 : State.nandKept w s u3 := by
          unfold u3; split
          · exact (h1.wr (by dsimp only; omega)).wr (by dsimp only; omega)
          · exact h1
        split
        · exact h3
        · split
          · exact (h3.setW _).sendWm _
          · exact h3

theorem State.nandKept.advanceEpoch (h : State.nandKept w s u) (n : Nat) (point : Option Seq) : State.nandKept w s (u.advanceEpoch n point) := by
  have hcount : State.nandKept w s (u.count (SLC_STAT.DELIVERY_EPOCH n)) := h.count (by dsimp only; omega)
  have hrings : State.nandKept w s ((u.count (SLC_STAT.DELIVERY_EPOCH n)).stopRings n point) :=
    (hcount.foldl (fun v r hv => hv.same (v := v.stopSub r) rfl) _).foldl (fun v q hv => hv.same (v := v.stopDlv q point) rfl) _
  exact (hrings.same rfl)

theorem State.nandKept.advanceAllEpochs (h : State.nandKept w s u) (point : Option Seq) : State.nandKept w s (u.advanceAllEpochs point) := by
  refine h.foldl (fun v n hv => ?_) _
  split
  · exact hv.advanceEpoch ..
  · exact hv.count (by dsimp only; omega)

theorem State.nandKept.markerOk (h : State.nandKept w s u) : State.nandKept w s u.markerOk := by
  unfold State.markerOk
  split
  · exact h
  next n c primary _ =>
    have h1 : State.nandKept w s ({ u with ezn := { u.ezn with closing := none } }.closeEpoch c) := h.same rfl
    split_ifs
    · exact h
    · exact ((h1.setW _).sendWm _).advanceAllEpochs _
    · exact h1.sendConfirm

theorem State.nandKept.advanceL (h : State.nandKept w s u) (n : Nat) : State.nandKept w s (u.advanceL n) := by
  induction n generalizing u with
  | zero => exact h
  | succ n ih =>
    unfold State.advanceL
    split
    · exact h
    next k p _ =>
      split
      · exact h
      · extract_lets isRec e u1 u2
        have h1 : State.nandKept w s u1 := h.same rfl
        have h2 : State.nandKept w s u2 := by
          unfold u2; split
          · exact h1.wr (by dsimp only; omega)
          · exact h1
        exact ih (h2.wr (by dsimp only; omega))

theorem State.nandKept.putAnchor (h : State.nandKept w s u) (serial c : Nat) (data : List Byte) : State.nandKept w s (u.putAnchor serial c data) := by
  unfold State.putAnchor
  split
  · exact h
  next l _ =>
    extract_lets x full b p u1 a e u2
    have h1 : State.nandKept w s u1 := by
      unfold u1; split
      · exact h.submit ..
      · exact h
    have h2 : State.nandKept w s (u2.setLun c l { u2.lun c l with anchorBlk := b, anchorPg := p + 1 }) := h1.same rfl
    exact h2.submit ..

theorem State.nandKept.writeAnchor (h : State.nandKept w s u) : State.nandKept w s u.writeAnchor := by
  have hanchor : ∀ (v : State) (k : Ckpt), State.nandKept w s v → State.nandKept w s (v.anchorFor k) := fun v k hv =>
    .foldl (u := { v with crf := { v.crf with island := some (v.nextAnchor, (v.anchorBytes v.nextAnchor k).take 64) } }) (hv.same (by rfl)) (fun v c hv => hv.putAnchor ..) _
  unfold State.writeAnchor
  extract_lets due e u1
  split
  · exact h
  · exact .foldl (u := u1) (h.same (by rfl)) hanchor due

theorem State.nandKept.settleW (h : State.nandKept w s u) (t : State) : State.nandKept w s (t.settleW u) := by
  have h1 : State.nandKept w s (u.advanceL u.crf.pages.length).freeStaging := (h.advanceL _).same rfl
  unfold State.settleW
  extract_lets t1
  have h2 : State.nandKept w s t1 := h1.markerOk.writeAnchor
  refine .advanceW ?_
  split
  · exact h2.sendConfirm
  · exact h2

end

end Sys2Proof.Machine

namespace Sys2Proof.Machine
open Sys2Proof

/-! ### What placing and closing pages keeps of the channels -/

section
variable {w : Watch} {s u v : State}

theorem State.nandKept.setPage (h : State.nandKept w s u) (n : Nat) (p : JPage) : State.nandKept w s (u.setPage n p) := by
  unfold State.setPage
  split
  · exact h.same rfl
  · exact h.same rfl

/-- A slot is taken from its LUN alone. -/
theorem State.takeSlot_lun {c l b p : Nat} {side : Bool} (h : s.takeSlot c l side = some (b, p, u)) : u = { s with nand := { s.nand with lun := u.nand.lun } } := by
  unfold State.takeSlot at h
  dsimp only at h
  repeat' split at h
  all_goals cases h
  all_goals rfl

theorem State.nandKept.sideSlot (h : State.nandKept w s u) {c st : Nat} {k : Copy} (hv : u.sideSlot c st = some (k, v)) : State.nandKept w s v := by
  unfold State.sideSlot at hv
  split at hv
  · cases hv
  · split at hv
    · cases hv
    next htake =>
      cases hv
      rw [State.takeSlot_lun htake]
      exact h.same rfl

theorem State.nandKept.programCopy (h : State.nandKept w s u) (n i : Nat) : State.nandKept w s (u.programCopy n i) := by
  unfold State.programCopy
  split
  · exact h
  · split
    · exact h
    · exact h.submit ..

theorem State.nandKept.placeCopy (h : State.nandKept w s u) {n i r : Nat} {pl : Plan} {ok : Nat → Bool} {kind : CopyKind} (hv : u.placeCopy n i pl ok kind = some (r, v)) :
    State.nandKept w s v := by
  unfold State.placeCopy at hv
  split at hv
  · cases hv
  · obtain ⟨c, -, hc⟩ := List.exists_of_findSome?_eq_some hv
    split at hc
    · cases hc
    · obtain ⟨⟨k, t⟩, hslot, ht⟩ := Option.map_eq_some_iff.mp hc
      cases ht
      exact ((h.sideSlot hslot).setPage ..).programCopy ..

theorem State.nandKept.relocate (h : State.nandKept w s u) (n : Nat) : State.nandKept w s (u.relocate n) := by
  unfold State.relocate
  split
  · exact h
  · extract_lets pl bad
    split
    · exact h
    next hplace =>
      have hcount := (h.placeCopy hplace).count (f := CRF_CNT2.RELOCATED) (by dsimp only; omega)
      extract_lets t
      split
      · exact hcount
      next hplace' => exact hcount.placeCopy hplace'

theorem State.nandKept.retwin (h : State.nandKept w s u) (n c : Nat) : State.nandKept w s (u.retwin n c) := by
  unfold State.retwin
  split
  · exact h
  · extract_lets pl own
    split
    · exact h
    next hplace => exact h.placeCopy hplace

theorem State.nandKept.replaceTwin (h : State.nandKept w s u) (n : Nat) : State.nandKept w s (u.replaceTwin n) := by
  unfold State.replaceTwin
  split
  · exact h
  · split
    · exact h
    · extract_lets pl
      split
      · exact h
      next hplace => exact h.placeCopy hplace

theorem State.nandKept.replaceParity (h : State.nandKept w s u) (n : Nat) : State.nandKept w s (u.replaceParity n) := by
  unfold State.replaceParity
  split
  · exact h
  next t _ => exact .foldl (u := u.setStripe { t with replaced := true, parity := { t.parity with st := .fail } }) (h.same (by rfl)) (fun v a hv => hv.replaceTwin a) _

theorem State.nandKept.programParity (h : State.nandKept w s u) (n : Nat) : State.nandKept w s (u.programParity n) := by
  unfold State.programParity
  split
  · exact h
  · extract_lets v
    have hv : State.nandKept w s v := h.same rfl
    split
    · exact hv.submit ..
    · exact hv.replaceParity ..

theorem State.nandKept.setCunit (h : State.nandKept w s u) (k : Nat) (x : CUnit) : State.nandKept w s (u.setCunit k x) := h.same rfl

theorem State.nandKept.takeNonce (h : State.nandKept w s u) {k : Nat} {n : List Byte} (hv : u.takeNonce k = some (n, v)) : State.nandKept w s v := by
  unfold State.takeNonce at hv
  dsimp only at hv
  split at hv
  · cases hv
  · split at hv
    · cases hv; exact h.setCunit ..
    · split at hv
      · cases hv
      · cases hv
        exact .setCunit (h.wr (by dsimp only; omega)) ..

theorem State.nandKept.openPage (h : State.nandKept w s u) (hv : u.openPage = some v) : State.nandKept w s v := by
  unfold State.openPage at hv
  extract_lets lvl c key at hv
  split at hv
  · cases hv; exact h.same rfl
  · split at hv
    · cases hv
    · obtain ⟨⟨n, t⟩, hnonce, ht⟩ := Option.map_eq_some_iff.mp hv
      cases ht
      exact (h.takeNonce hnonce).same rfl

theorem State.nandKept.reseal (h : State.nandKept w s u) : State.nandKept w s u.reseal.1 := by
  unfold State.reseal
  extract_lets put
  split
  · exact h
  · split
    · exact h.same rfl
    · split
      · exact h
      · split
        · exact h
        next n t hnonce => exact State.nandKept.wr (u := put t _ _) ((h.takeNonce hnonce).same (by rfl)) (by dsimp only; omega)

theorem State.nandKept.closeAs (h : State.nandKept w s u) (t : Stripe) (p : JPage) (nonce : Option (List Byte)) : State.nandKept w s (u.closeAs t p nonce) := by
  unfold State.closeAs
  extract_lets serial pos home twin up p1 p2 s1 s2 e s3 s4 s5 s6 s7
  have h1 : State.nandKept w s s1 := by
    unfold s1; split
    · exact State.nandKept.same (u := (u.count CPH_CNT1.SEALS).count CPH_CNT0.TASKS) ((h.count (by dsimp only; omega)).count (by dsimp only; omega)) rfl
    · exact h
  have h2 : State.nandKept w s s2 := (h1.setPage ..).wr (by dsimp only; omega)
  have h4 : State.nandKept w s s4 := h2.same rfl
  have h5 : State.nandKept w s s5 := by
    unfold s5; split
    · exact h4.foldl (fun v i hv => hv.programCopy ..) _
    · exact h4.relocate _
  have h6 : State.nandKept w s s6 := by
    unfold s6
    clear_value s5 twin
    split
    · split
      · exact h5.retwin ..
      · exact h5
    · exact h5
  have h7 : State.nandKept w s s7 := by
    unfold s7; split
    · exact h6.replaceTwin _
    · exact h6
  split
  · exact h7.programParity _
  · exact h7

theorem State.nandKept.closePage (h : State.nandKept w s u) (flushed : Bool) : State.nandKept w s (u.closePage flushed false).1 := by
  unfold State.closePage
  split
  · simp only [Bool.false_and, Bool.false_eq_true, if_false]
    split
    · exact h.reseal
    · exact h.reseal.closeAs ..
  · exact h

theorem State.nandKept.markerPage (h : State.nandKept w s u) {block : List Byte} {first last : Seq} (hv : u.markerPage block first last = some v) :
    State.nandKept w s v := by
  unfold State.markerPage at hv
  extract_lets t at hv
  have ht : State.nandKept w s t := h.closePage false
  split at hv
  next hopen =>
    cases hv
    split at hopen
    · exact (ht.openPage hopen).closeAs ..
    · cases hopen
  · cases hv

theorem State.nandKept.tryMark (h : State.nandKept w s u) : State.nandKept w s u.tryMark := by
  unfold State.tryMark
  split
  · exact h
  · split
    · exact h
    next hmark =>
      split at hmark
      · cases hmark
      · exact (h.markerPage hmark).same rfl

theorem State.nandKept.writeLocal (h : State.nandKept w s u) (hv : u.writeLocal = some v) : State.nandKept w s v := by
  unfold State.writeLocal at hv
  split at hv
  · cases hv
  · extract_lets after r block at hv
    obtain ⟨t, hmark, ht⟩ := Option.map_eq_some_iff.mp hv
    have h1 := h.markerPage hmark
    extract_lets e t1 at ht
    have ht1 : State.nandKept w s t1 := h1.same rfl
    rw [← ht]
    split
    · exact ht1.same rfl
    · exact ht1

theorem State.nandKept.tryLocals (h : State.nandKept w s u) (n : Nat) : State.nandKept w s (u.tryLocals n) := by
  induction n generalizing u with
  | zero => exact h
  | succ n ih =>
    unfold State.tryLocals
    split
    next hwrite => exact ih (h.writeLocal hwrite)
    · exact h

theorem State.nandKept.settle (h : State.nandKept w s u) : State.nandKept w s u.settle := by
  rw [State.settle_eq]
  exact .settleW (h.tryMark.tryLocals _) _

theorem State.nandKept.localRec (h : State.nandKept w s u) (typ : Nat) (payload : List Byte) : State.nandKept w s (u.localRec typ payload) := by
  unfold State.localRec
  split
  · exact h.same rfl
  · extract_lets p e v
    exact State.nandKept.tryLocals (u := v) (h.same (by rfl)) _

/-! ### Program results, and operations that are dropped -/

theorem State.nandKept.copyDone (h : State.nandKept w s u) (n i : Nat) (ok : Bool) : State.nandKept w s (u.copyDone n i ok) := by
  unfold State.copyDone
  split
  · exact h
  next p _ =>
    split
    · exact h
    next k _ =>
      split
      · exact h
      · extract_lets u1 u2
        have h1 : State.nandKept w s u1 := h.setPage ..
        have h2 : State.nandKept w s u2 := h1.count (by dsimp only; omega)
        split
        · split
          · exact h1.count (by dsimp only; omega)
          · exact h1.count (by dsimp only; omega)
        · split
          · exact h2.retwin ..
          · exact h2.relocate _

theorem State.nandKept.parityDone (h : State.nandKept w s u) (no : Nat) (ok : Bool) : State.nandKept w s (u.parityDone no ok) := by
  unfold State.parityDone
  split
  · exact h
  next t _ =>
    split
    · exact h
    · split
      · exact State.nandKept.count (u := u.setStripe { t with parity := { t.parity with st := .pass } }) (h.same (by rfl)) (by dsimp only; omega)
      · exact .replaceParity (h.count (by dsimp only; omega)) _

theorem State.nandKept.failCopies (h : State.nandKept w s u) (gone : Copy → Bool) : State.nandKept w s (u.failCopies gone) :=
  .settle (.foldl (.foldl h (fun _ p hv => hv.copyDone p.1 p.2 false) _) (fun _ t hv => hv.parityDone t.no false) _)

theorem State.nandKept.dropOps (h : State.nandKept w s u) (c : Nat) (gone : Nat → Bool) (p : NandOp → Bool) : State.nandKept w s (u.dropOps c gone p) := by
  unfold State.dropOps
  extract_lets todo queued u1 ends
  have h1 : State.nandKept w s u1 := by
    refine h.foldl (fun v l hv => ?_) _
    split
    · exact hv.setCtx rfl rfl
    · exact hv
  exact State.nandKept.same (u := { u1 with nand := { u1.nand with done := u1.nand.done ++ ends } }) (h1.addDone ends) rfl

/-! ### Plans, re-home events, and parts that are lost -/

/-- A plan change: the plan in force from the next stripe on. -/
def State.withMask (s : State) (mask : Nat) : State :=
  { s with crf := { s.crf with plan := { id := (s.crf.plan.id + 1) % 2 ^ 32, mask := mask, width := ((List.range 32).filter (bitAt mask)).length } } }

theorem State.nandKept.newPlan (s : State) (w : Watch) (mask reason channel : Nat) : State.nandKept w (s.withMask mask) (s.newPlan mask reason channel) :=
  .errVector (.localRec (.refl w _) ..) 4

/-- The first step of a plan change leaves all but the plan. -/
theorem State.nandKept.withMask (h : State.nandKept w s u) (hw : w ≠ .plan) (mask : Nat) : State.nandKept w s (u.withMask mask) :=
  h.trans ⟨fun _ => rfl, fun _ => rfl, fun _ h => h, fun _ h => h, fun _ h => h, fun _ _ => rfl, fun he => absurd he hw⟩

theorem State.nandKept.startRehome (h : State.nandKept w s u) {kind : Nat} (hkind : kind = 2 → w ≠ .plan) (c lun : Nat) : State.nandKept w s (u.startRehome c kind lun) := by
  unfold State.startRehome
  extract_lets r e s1 s2
  have h0 : State.nandKept w s { u with crf := { e with rehomes := e.rehomes ++ [r] } } :=
    h.trans ⟨fun _ => rfl, fun _ => rfl, fun _ h => h, fun _ hr => List.mem_append_left _ hr, fun _ h => h, fun _ _ => rfl, fun _ => rfl⟩
  have h1 : State.nandKept w s s1 := h0.wr (by dsimp only; omega)
  have h2 : State.nandKept w s s2 := by
    unfold s2; split
    next hk =>
      refine h1.wr_unwatched ?_
      have hw := hkind hk
      cases w with
      | operations => exact not_false
      | plan => exact absurd rfl hw
      | luns => exact fun ⟨_, h208⟩ => by dsimp only at h208; omega
    · exact h1
  split
  · exact h2.wr (by dsimp only; omega)
  · exact h2

/-- The event that begins is listed. -/
theorem State.mem_startRehome (s : State) (c kind lun : Nat) : ∃ r ∈ (s.startRehome c kind lun).crf.rehomes, r.ch = c ∧ r.kind = kind := by
  unfold State.startRehome
  extract_lets r e s1 s2
  have hmem : r ∈ s1.crf.rehomes := List.mem_append_right _ List.mem_cons_self
  have h2 : s2.crf = s1.crf := by unfold s2; split <;> rfl
  refine ⟨r, ?_, rfl, rfl⟩
  split
  · rwa [show (s2.wr _ 1).crf = s2.crf from rfl, h2]
  · rwa [h2]

section
variable (hw : w ≠ .plan)
include hw

theorem State.nandKept.retire (h : State.nandKept w s u) (c reason : Nat) : State.nandKept w s (u.retire c reason) := by
  unfold State.retire
  extract_lets s1 member s2
  have h0 : State.nandKept w s (u.wr (NDC_STAT.RETIRED c) 1) := by
    refine h.wr_unwatched ?_
    cases w with
    | operations => exact not_false
    | plan => exact absurd rfl hw
    | luns => exact fun ⟨_, h208⟩ => by dsimp only at h208; omega
  have h1 : State.nandKept w s s1 := h0.dropOps ..
  refine .failCopies ?_ _
  unfold s2
  split
  · exact .startRehome ((h1.withMask hw _).trans (.newPlan ..)) (fun _ => hw) ..
  · exact h1

theorem State.nandKept.loseChannel (h : State.nandKept w s u) (c info : Nat) : State.nandKept w s (u.loseChannel c info) := by
  unfold State.loseChannel
  split
  · exact h
  · extract_lets e s1 s2 s3 s4
    have h1 : State.nandKept w s s1 := h.same rfl
    have h2 : State.nandKept w s s2 := by
      refine h1.foldl (fun v l hv => ?_) _
      split
      · exact hv.poisonLun ..
      · exact hv
    have h3 : State.nandKept w s s3 := h2.logError ..
    have h4 : State.nandKept w s s4 := by
      unfold s4; split
      · exact h3.wr (by dsimp only; omega)
      · exact h3
    split
    · exact h4
    · exact h4.retire hw ..

end

/-- What follows once LUN_LOST shows a LUN lost (07 R286, R289). -/
def State.afterLunLost (s : State) (c l info : Nat) : State :=
  let s := (s.wr (NDC_LUN_STAT.LOST c l) 1).logError (16 + c) 0x1002 3 l info
  let s := (s.dropOps c (· == l) (fun _ => true)).poisonLun c l
  let s := if bitAt s.crf.plan.mask c ∧ !s.flag (NDC_STAT.RETIRED c) then (s.newPlan s.crf.plan.mask 4 c).startRehome c 2 l else s
  let s := s.failCopies (fun k => k.ch == c && k.lun == l)
  if s.regionGone c 1 ∨ s.regionGone c 2 then s.loseChannel c 2 else s

theorem State.loseLun_eq (s : State) (c l info : Nat) :
    s.loseLun c l info = if s.lunLost c l then s else (s.wrBit (NDC_STAT.LUN_LOST c) l true).afterLunLost c l info := rfl

theorem State.nandKept.afterLunLost (h : State.nandKept w s u) (hw : w ≠ .plan) (c l info : Nat) : State.nandKept w s (u.afterLunLost c l info) := by
  unfold State.afterLunLost
  extract_lets s1 s2 s3 s4
  have h1 : State.nandKept w s s1 := .logError (h.wr (by dsimp only; omega)) ..
  have h2 : State.nandKept w s s2 := (h1.dropOps ..).poisonLun ..
  have h3 : State.nandKept w s s3 := by
    unfold s3; split
    · exact .startRehome ((h2.withMask hw _).trans (.newPlan ..)) (fun _ => hw) ..
    · exact h2
  have h4 : State.nandKept w s s4 := h3.failCopies _
  split
  · exact h4.loseChannel hw ..
  · exact h4

theorem State.nandKept.loseLun (h : State.nandKept .operations s u) (c l info : Nat) : State.nandKept .operations s (u.loseLun c l info) := by
  rw [State.loseLun_eq]
  split
  · exact h
  · exact .afterLunLost (h.wr_unwatched not_false) nofun ..

theorem State.nandKept.loseFatal (h : State.nandKept .operations s u) : State.nandKept .operations s u.loseFatal :=
  h.foldl (fun _ c hv => hv.loseChannel (by nofun) c 3) _

/-- A LUN that is lost is shown so in LUN_LOST, whatever follows from its loss (07 R286). -/
theorem State.lunLost_loseLun (s : State) (c : Nat) {l : Nat} (hl : l < 16) (info : Nat) : (s.loseLun c l info).lunLost c l = true := by
  rw [State.loseLun_eq]
  split
  next h => exact h
  · have hkept : State.nandKept .luns (s.wrBit (NDC_STAT.LUN_LOST c) l true) ((s.wrBit (NDC_STAT.LUN_LOST c) l true).afterLunLost c l info) := .afterLunLost (.refl ..) (by nofun) ..
    unfold State.lunLost
    rw [hkept.rd _ ⟨by dsimp only; omega, by dsimp only; omega⟩, State.wrBit, State.rd_wr_same, bitAt_eq_testBit, Nat.testBit_mod_two_pow, decide_eq_true hl,
      ← bitAt_eq_testBit]
    exact bitAt_setBits_one ..

end

end Sys2Proof.Machine

namespace Sys2Proof.Machine
open Sys2Proof

/-! ### The end of an operation that ran out or was illegal -/

section
variable {s u : State}

theorem State.nandKept.abortOp {w : Watch} (h : State.nandKept w s u) (c l : Nat) (o : NandOp) : State.nandKept w s (u.abortOp c l o) := by
  unfold State.abortOp
  split
  · exact h.submit ..
  · exact h.addDone _

theorem State.nandKept.boundary {w : Watch} (h : State.nandKept w s u) (c l : Nat) : State.nandKept w s (u.boundary c l) := by
  unfold State.boundary
  extract_lets x k rest keep gone v
  have hv : State.nandKept w s v := h.setCtx rfl rfl
  exact hv.foldl (fun _ o hv => hv.abortOp c l o) gone

/-- A recovery operation that did not end OK leaves the need of a RESET_LUN (07 R266). -/
theorem State.nandKept.recovered (h : State.nandKept .operations s u) {status : Nat} (hstatus : status ≠ 0) (c l kind : Nat) (buf : List Byte) :
    State.nandKept .operations s (u.recovered c l kind status buf) := by
  unfold State.recovered
  extract_lets x m v v2
  split
  · have hreset : State.nandKept .operations s (u.setCtx c l { x with resetFails := x.resetFails + 1 }) := h.setCtx rfl rfl
    split
    · exact hreset.loseLun ..
    · exact hreset
  · have hv : State.nandKept .operations s v := h.setCtx rfl rfl
    split
    · split
      · exact hv
      · split
        · exact hv
        · exact .foldl (hv.wrBit (by dsimp only; omega)) (fun _ k hv => hv.loseLun c k 2) _
    · exact h

theorem State.ctx_freeBus (c l c' l' : Nat) : (s.freeBus c l).ctx c' l' = s.ctx c' l' := by
  unfold State.freeBus
  split
  · rfl
  · rfl

theorem State.done_freeBus (c l : Nat) : (s.freeBus c l).nand.done = s.nand.done := by
  unfold State.freeBus
  split
  · rfl
  · rfl

/-- The result that the end of an operation leaves for its owner (07 R263). -/
def Ctx.result (x : Ctx) (c l status : Nat) (o : NandOp) : NandDone :=
  { ch := c, lun := l, op := o, status := status, corrected := x.decBits, level := x.lc.headD 0, data := x.buf }

theorem OpTag.not_free_of_owned (t : OpTag) (b : Nat) (h : t.owned = true) : ¬(t.owner = 2 ∨ t = .erase b) := by
  simp only [OpTag.owned, Bool.and_eq_true, bne_iff_ne, ne_eq] at h
  obtain ⟨howner, herase⟩ := h
  rintro (h | rfl)
  · exact howner h
  · cases herase

/-- The context after the end of its operation (07 R263, R266). -/
def Ctx.ended (x : Ctx) (needReset : Bool) : Ctx :=
  { x with op := none, st := .idle, wait := none, din := none, decs := [], stack := [], needReset := needReset }

/-- The state with the result of an ended operation, where its owner collects it. -/
def State.addResult (s : State) (o : NandOp) (e : NandDone) : State :=
  if o.tag.owner = 2 ∨ o.tag = .erase o.blk then s else { s with nand := { s.nand with done := s.nand.done ++ [e] } }

/-- The state of an end of operation `o`, before the recovery that may follow it (07 R263). -/
def State.ending (s : State) (c l status : Nat) (o : NandOp) : State :=
  let x := s.ctx c l
  let t := ((s.countOp c l o x status).lunEnd c l o status (x.lc.headD 0) x.decBits).addResult o (x.result c l status o)
  (t.setCtx c l ((t.ctx c l).ended (x.needReset || status == 3 || status == 5))).freeBus c l

theorem State.endOp_eq {c l : Nat} {o : NandOp} (hop : (s.ctx c l).op = some o) (status : Nat) :
    s.endOp c l status =
      ((((s.ending c l status o).setSaucer c (((s.ending c l status o).busSaucer c).filter (· != l))).recovered c l o.kind status
        (s.ctx c l).buf).boundary c l).fillQueues.loseFatal := by
  unfold State.endOp
  dsimp only
  rw [hop]
  rfl

/-- An operation that ends with TIMEOUT or ILLEGAL leaves its context, which needs a RESET_LUN then, and its result goes to its owner (07 R264, R266). -/
theorem State.endOp_failed {c l status : Nat} {o : NandOp} (hop : (s.ctx c l).op = some o) (hstatus : status = 3 ∨ status = 5) :
    ((s.endOp c l status).ctx c l).op = none ∧ ((s.endOp c l status).ctx c l).needReset = true
      ∧ (o.tag.owned = true → (s.ctx c l).result c l status o ∈ (s.endOp c l status).nand.done) := by
  rw [State.endOp_eq hop]
  have hkept : State.nandKept .operations (s.ending c l status o)
      ((((s.ending c l status o).setSaucer c (((s.ending c l status o).busSaucer c).filter (· != l))).recovered c l o.kind status
        (s.ctx c l).buf).boundary c l).fillQueues.loseFatal :=
    .loseFatal (.fillQueues (.boundary (.recovered (.same (.refl _ _) (by rfl)) (by omega) ..) ..))
  refine ⟨(hkept.op (16 * c + l)).trans ?_, (hkept.needReset (16 * c + l)).trans ?_, fun howned => hkept.done _ ?_⟩
  all_goals unfold State.ending; extract_lets x t
  · show ((State.ctx _ c l).op) = _
    rw [State.ctx_freeBus, State.ctx_setCtx_same]
    rfl
  · show ((State.ctx _ c l).needReset) = _
    rw [State.ctx_freeBus, State.ctx_setCtx_same]
    rcases hstatus with rfl | rfl
    · simp [Ctx.ended]
    · simp [Ctx.ended]
  · rw [State.done_freeBus]
    show _ ∈ t.nand.done
    unfold t State.addResult
    rw [if_neg (o.tag.not_free_of_owned o.blk howned)]
    exact List.mem_append_right _ List.mem_cons_self

/-- A fault or a timeout of a context ends its operation (07 R264, R266). -/
theorem State.dripFault_effect {c l : Nat} {o : NandOp} (hop : (s.ctx c l).op = some o) (pc hi cause : Nat) {status : Nat} (hstatus : status = 3 ∨ status = 5) :
    ((s.dripFault c l pc hi cause status).ctx c l).op = none ∧ ((s.dripFault c l pc hi cause status).ctx c l).needReset = true
      ∧ (o.tag.owned = true → (s.ctx c l).result c l status o ∈ (s.dripFault c l pc hi cause status).nand.done) := by
  unfold State.dripFault
  extract_lets x v s1 s2
  have h1 : s1.nand = s.nand := by unfold s1; split <;> rfl
  have h2 : s2.nand = s1.nand := by
    unfold s2
    split
    · rw [(State.logKept.logError (low := False) s1 nofun _ _ _ _ _ nofun nofun).1]
    · rw [(State.logKept.logError (low := False) s1 nofun _ _ _ _ _ nofun nofun).1]
  have hctx : s2.ctx c l = s.ctx c l := by rw [State.ctx, h2, h1, State.ctx]
  have heffect := State.endOp_failed (s := s2) (by rw [hctx]; exact hop) hstatus
  rwa [hctx] at heffect

end

/-- Any wait but TIME that runs out ends the operation with TIMEOUT (07 R264). -/
theorem dripWaitcTimeout_fails {s : State} {c : Fin 32} {l : Fin 16} {k b t : Nat} {o : NandOp} (hon : s.dripOn c = true) (hst : (s.ctx c l).st = .waiting)
    (hover : s.waitOver (s.ctx c l) = true) (hwait : (s.ctx c l).wait = some (k, b, t)) (hk : k < 4) (htime : k ≠ 2) (hop : (s.ctx c l).op = some o) :
    ∃ u, exec (.dripWaitcTimeout c l) s = .next u ∧ (u.ctx c l).op = none ∧ (u.ctx c l).needReset = true
      ∧ (o.tag.owned = true → ∃ e ∈ u.nand.done, e.op = o ∧ e.status = 3) := by
  obtain ⟨hnone, hneed, hdone⟩ := s.dripFault_effect hop ((s.ctx c l).pc - 1) (8 * 2 ^ 26 + k * 2 ^ 16 + b) 5 (.inl rfl)
  refine ⟨_, ?_, hnone, hneed, fun howned => ⟨_, hdone howned, rfl, rfl⟩⟩
  show execDripWaitcTimeout c l s = _
  unfold execDripWaitcTimeout
  dsimp only
  rw [if_neg (by simp [hst, hon, hover]), hwait]
  split
  next h => cases h; exact absurd rfl htime
  next h => cases h; exact if_pos hk
  next h => cases h

/-- Settles O37, command by command. -/
theorem dripWaitsAndDispatch : Obligations.DripWaitsAndDispatch := by
  unfold Obligations.DripWaitsAndDispatch
  intro s c l hon x did start entry
  have hstart : ∀ {u : State} {o : NandOp}, s.began u c l o → start u o := fun h => ⟨h.op, h.st, h.bank, h.pc, h.buf, h.lc, h.stack, h.cursor⟩
  refine ⟨fun hop haborts hfailing hreset hsuspend hlun => ?_, fun hst => ⟨dripWaitcDone_effect hon hst, fun hover => ⟨fun _ _ => dripWaitcTimeout_time hon hst hover,
    fun k b t o hwait hk htime hop => dripWaitcTimeout_fails hon hst hover hwait hk htime hop, fun _ _ => dripDelayExpire_effect hon hst hover⟩,
    fun b t o sr hwait hop hdue => statusPoll_effect hon hst sr hwait hop hdue⟩,
    fun hst data => ⟨dripTransferDone_out hon hst data, fun _ _ _ => dripTransferDone_in hon hst data⟩,
    fun m n at_ t ds errors data hdecs htime => dripDecodeReady_effect hon errors data hdecs htime rfl, fun _ => dripBusGrant_effect hon⟩
  have hmay : s.mayDispatch c l := ⟨hon, hop, haborts, hfailing, hreset, hsuspend, hlun⟩
  refine ⟨fun hreads => ⟨fun hneed hentry => ?_, fun hneed hident hentry => ?_⟩, fun i o hneed hident hnext ho hentry => ?_⟩
  · obtain ⟨u, hexec, hbegan⟩ := dripDispatch_reset hmay hreads hneed hentry
    exact ⟨u, hexec, hstart hbegan⟩
  · obtain ⟨u, hexec, hbegan⟩ := dripDispatch_ident hmay hreads hneed hident hentry
    exact ⟨u, hexec, hstart hbegan⟩
  · obtain ⟨u, hexec, hbegan, hmore⟩ := dripDispatch_next hmay hneed hident hnext ho hentry
    exact ⟨u, hexec, hstart hbegan, hmore⟩

end Sys2Proof.Machine

namespace Sys2Proof.Machine
open Sys2Proof

/-! ### SUSPEND and SWAP -/

theorem dripSuspend_effect {s : State} {c : Fin 32} (on : Bool) (hchannel : s.hasChannel c = true) :
    ∃ u, exec (.dripSuspend c on) s = .next u ∧ u.flag (DRP_CTRL.SUSPEND c) = on ∧ u = { s with regs := u.regs } :=
  ⟨_, if_pos hchannel, State.flag_wrB_same s (DRP_CTRL.SUSPEND c) on rfl, rfl⟩

/-- The entries of the bank that becomes active are shown in the entry registers, and nothing else changes (07 R274). -/
theorem State.swap_entries (s : State) (c : Nat) (pc valid : Nat → Nat) :
    let u : State := (List.range 16).foldl (fun (s : State) i => (s.wr (DRP_ENTRY.PC c i) (pc i)).wr (DRP_ENTRY.VALID c i) (valid i)) s
    u = { s with regs := u.regs } ∧ u.rd (DRP_STAT.ACTIVE_BANK c) = s.rd (DRP_STAT.ACTIVE_BANK c)
      ∧ u.rd (DRP_STAT.STANDBY_VALID c) = s.rd (DRP_STAT.STANDBY_VALID c) := by
  refine List.foldlRecOn (motive := fun (u : State) => u = { s with regs := u.regs } ∧ u.rd (DRP_STAT.ACTIVE_BANK c) = s.rd (DRP_STAT.ACTIVE_BANK c)
      ∧ u.rd (DRP_STAT.STANDBY_VALID c) = s.rd (DRP_STAT.STANDBY_VALID c)) _ _ ⟨rfl, rfl, rfl⟩ fun u ⟨hregs, hbank, hvalid⟩ i hi => ⟨?_, ?_, ?_⟩
  · rw [hregs]
    rfl
  · rw [State.rd_wr_other _ _ (by dsimp only; omega), State.rd_wr_other _ _ (by dsimp only; omega), hbank]
  · rw [State.rd_wr_other _ _ (by dsimp only; omega), State.rd_wr_other _ _ (by dsimp only; omega), hvalid]

theorem dripSwap_effect {s : State} {c : Fin 32} (hchannel : s.hasChannel c = true) (hvalid : s.flag (DRP_STAT.STANDBY_VALID c) = true) :
    ∃ u, exec (.dripSwap c) s = .next u ∧ u.rd (DRP_STAT.ACTIVE_BANK c) = 1 - s.rd (DRP_STAT.ACTIVE_BANK c) ∧ u.flag (DRP_STAT.STANDBY_VALID c) = false
      ∧ u = { s with regs := u.regs } := by
  refine ⟨s.swapBank c, if_pos hchannel, ?_⟩
  unfold State.swapBank
  simp only [hvalid, Bool.not_true, Bool.false_eq_true, if_false]
  generalize s.bank c (1 - s.rd (DRP_STAT.ACTIVE_BANK c)) = k
  obtain ⟨hregs, hbank, hstandby⟩ := State.swap_entries
    (((s.wr (DRP_STAT.ACTIVE_BANK c) (1 - s.rd (DRP_STAT.ACTIVE_BANK c))).wr (DRP_STAT.STANDBY_VALID c) 0).wr (DRP_STAT.UCODE_ID c) k.id) c
    (fun i => FMap.get 0 k.entry i) (fun i => FMap.get 0 k.entry i / 4096)
  refine ⟨hbank.trans ?_, ?_, hregs⟩
  · rw [State.rd_wr_other _ _ (by dsimp only; omega), State.rd_wr_other _ _ (by dsimp only; omega), State.rd_wr_same]
    exact Nat.mod_eq_of_lt (by dsimp only; omega)
  · rw [State.flag, hstandby, State.rd_wr_other _ _ (by dsimp only; omega), State.rd_wr_same]
    rfl

/-! ### ABORT -/

/-- A fold over a list brings about what no step undoes and the step of some element brings about. -/
theorem foldl_reaches {σ α : Type} {f : σ → α → σ} {P : σ → Prop} (hkeep : ∀ s a, P s → P (f s a)) {l : List α} {a : α} (ha : a ∈ l) (hstep : ∀ s, P (f s a)) (s : σ) :
    P (l.foldl f s) := by
  obtain ⟨before, after, rfl⟩ := List.append_of_mem ha
  rw [List.foldl_append, List.foldl_cons]
  exact List.foldlRecOn after f (hstep _) fun s h b _ => hkeep s b h

/-- From `u` to `v`, operations of channel `c` itself were queued again, on contexts that `p` names; those that wait for a queue in `v` are of that kind too. -/
structure State.requeued (c : Nat) (p : Nat → Prop) (u v : State) : Prop where
  todo : ∀ e ∈ v.nand.todo, e.1 = c ∧ p e.2.1 ∧ e.2.2.tag.owner = 2
  ctx : ∀ l, ∃ more, v.ctx c l = { u.ctx c l with queue := (u.ctx c l).queue ++ more } ∧ (∀ o ∈ more, o.tag.owner = 2) ∧ (¬p l → more = [])
  done : ∀ d ∈ u.nand.done, d ∈ v.nand.done

section
variable {c : Nat} {p : Nat → Prop} {s u v : State}

theorem State.requeued.of_same (hctx : ∀ l, v.ctx c l = u.ctx c l) (hdone : ∀ d ∈ u.nand.done, d ∈ v.nand.done) (htodo : ∀ e ∈ v.nand.todo, e.1 = c ∧ p e.2.1 ∧ e.2.2.tag.owner = 2) :
    State.requeued c p u v :=
  ⟨htodo, fun l => ⟨[], by rw [hctx, List.append_nil], nofun, fun _ => rfl⟩, hdone⟩

theorem State.requeued.trans (h : State.requeued c p s u) (h' : State.requeued c p u v) : State.requeued c p s v := by
  refine ⟨h'.todo, fun l => ?_, fun d hd => h'.done d (h.done d hd)⟩
  obtain ⟨more, hu, hown, hnone⟩ := h.ctx l
  obtain ⟨more', hv, hown', hnone'⟩ := h'.ctx l
  refine ⟨more ++ more', by rw [hv, hu, List.append_assoc], fun o ho => ?_, fun hp => by rw [hnone hp, hnone' hp, List.append_nil]⟩
  exact (List.mem_append.mp ho).elim (hown o) (hown' o)

/-- An operation of the channel itself joins the queue of its context. -/
theorem State.requeued.enqueue (h : State.requeued c p u v) {l : Nat} (hl : p l) {o : NandOp} (ho : o.tag.owner = 2) :
    State.requeued c p u (v.setCtx c l { v.ctx c l with queue := (v.ctx c l).queue ++ [o] }) := by
  refine h.trans ⟨h.todo, fun l' => ?_, fun _ h => h⟩
  by_cases heq : l' = l
  · subst heq
    exact ⟨[o], State.ctx_setCtx_same .., fun _ hmem => by rwa [List.mem_singleton.mp hmem], fun hp => absurd hl hp⟩
  · exact ⟨[], by rw [State.ctx_setCtx_other _ _ (by omega), List.append_nil], nofun, fun _ => rfl⟩

theorem State.requeued.fillQueues (h : State.requeued c p u v) : State.requeued c p u v.fillQueues := by
  unfold State.fillQueues
  split
  · exact h
  · refine List.foldlRecOn _ _ (h.trans (.of_same (fun _ => rfl) (fun _ h => h) nofun)) fun w hw t ht => ?_
    obtain ⟨c', l', o⟩ := t
    obtain ⟨hc, hp, hown⟩ := h.todo _ ht
    dsimp only at hc hp hown ⊢
    split
    · rw [hc]
      exact hw.enqueue hp hown
    · refine hw.trans (.of_same (fun _ => rfl) (fun _ h => h) fun e he => ?_)
      rcases List.mem_append.mp he with he | he
      · exact hw.todo e he
      · rw [List.mem_singleton.mp he]
        exact ⟨hc, hp, hown⟩

theorem State.requeued.submit (h : State.requeued c p u v) {l : Nat} (hl : p l) {o : NandOp} (ho : o.tag.owner = 2) : State.requeued c p u (v.submit c l o) := by
  refine State.requeued.fillQueues (h.trans (.of_same (fun _ => rfl) (fun _ h => h) fun e he => ?_))
  rcases List.mem_append.mp he with he | he
  · exact h.todo e he
  · rw [List.mem_singleton.mp he]
    exact ⟨rfl, hl, ho⟩

theorem State.requeued.abortOp (h : State.requeued c p u v) {l : Nat} (hl : p l) (o : NandOp) : State.requeued c p u (v.abortOp c l o) := by
  unfold State.abortOp
  split
  next ho => exact h.submit hl ho
  · exact h.trans (.of_same (fun _ => rfl) (fun _ hd => List.mem_append_left _ hd) h.todo)

end

/-- The result of an operation that was aborted before it began (07 R270). -/
abbrev NandOp.aborted (o : NandOp) (c l : Nat) : NandDone := { ch := c, lun := l, op := o, status := 4 }

/-- An operation of another owner than the channel that is aborted completes with ABORTED. -/
theorem State.mem_done_abortOp (s : State) (c l : Nat) {o : NandOp} (ho : o.tag.owner ≠ 2) : o.aborted c l ∈ (s.abortOp c l o).nand.done := by
  unfold State.abortOp
  split
  next h => exact absurd h ho
  · exact List.mem_append_right _ List.mem_cons_self

/-- A boundary of a context whose whole queue is to be aborted. -/
theorem State.boundary_all {s : State} {c l : Nat} (haborts : (s.ctx c l).aborts = (s.ctx c l).queue.length) :
    s.boundary c l = (s.ctx c l).queue.foldl (fun s o => s.abortOp c l o) (s.setCtx c l { s.ctx c l with queue := [], aborts := 0 }) := by
  unfold State.boundary
  simp only [haborts, List.take_length, List.drop_length, List.filter_nil, List.append_nil]

/-- ABORT at one context. -/
def State.abortCtx (s : State) (c l : Nat) : State :=
  let x := s.ctx c l
  if x.queue.isEmpty then s
  else
    let s := s.setCtx c l { x with aborts := x.queue.length }
    if x.op.isNone then (s.boundary c l).fillQueues else s

theorem State.abortAll_eq (s : State) (c : Nat) : s.abortAll c = (List.range 16).foldl (fun s l => s.abortCtx c l) s := rfl

section
variable {c n : Nat} {p : Nat → Prop} {s v : State}

theorem State.abortCtx_empty (hq : (v.ctx c n).queue = []) : v.abortCtx c n = v := if_pos (List.isEmpty_iff.mpr hq)

theorem State.abortCtx_busy (hq : (v.ctx c n).queue ≠ []) (hop : (v.ctx c n).op.isSome = true) :
    v.abortCtx c n = v.setCtx c n { v.ctx c n with aborts := (v.ctx c n).queue.length } := by
  unfold State.abortCtx
  rw [if_neg (by simpa using hq), if_neg (by simpa using Option.isSome_iff_ne_none.mp hop)]

/-- At an idle context the queue is emptied, and what was in it is queued again or completes with ABORTED (07 R270). -/
theorem State.abortCtx_idle (htodo : ∀ e ∈ v.nand.todo, e.1 = c ∧ p e.2.1 ∧ e.2.2.tag.owner = 2) (hn : p n) (hq : (v.ctx c n).queue ≠ []) (hop : (v.ctx c n).op = none) :
    State.requeued c p (v.setCtx c n { v.ctx c n with queue := [], aborts := 0 }) (v.abortCtx c n)
      ∧ ∀ o ∈ (v.ctx c n).queue, o.tag.owner ≠ 2 → o.aborted c n ∈ (v.abortCtx c n).nand.done := by
  unfold State.abortCtx
  extract_lets x s1
  have hctx : s1.ctx c n = { x with aborts := x.queue.length } := State.ctx_setCtx_same ..
  rw [if_neg (by simpa using hq), if_pos (Option.isNone_iff_eq_none.mpr hop), State.boundary_all (by rw [hctx]), hctx]
  refine ⟨.fillQueues (List.foldlRecOn _ _ (.of_same (fun l => ?_) (fun _ h => h) htodo) fun w hw o _ => hw.abortOp hn o), fun o ho hne => ?_⟩
  · by_cases hl : l = n
    · subst hl
      exact (State.ctx_setCtx_same ..).trans (State.ctx_setCtx_same ..).symm
    · rw [State.ctx_setCtx_other _ _ (by omega), State.ctx_setCtx_other _ _ (by omega), State.ctx_setCtx_other _ _ (by omega)]
  · rw [(State.queueKept.fillQueues _).done]
    exact foldl_reaches (fun w a => (State.nandKept.abortOp (.refl .operations w) c n a).done _) ho (fun w => w.mem_done_abortOp c n hne) _

/-- ABORT of channel `c`, begun in `s`, has come to context `n` in `v`. -/
structure State.aborting (c n : Nat) (s v : State) : Prop where
  todo : ∀ e ∈ v.nand.todo, e.1 = c ∧ (e.2.1 < n ∧ (s.ctx c e.2.1).op = none) ∧ e.2.2.tag.owner = 2
  later : ∀ l, n ≤ l → v.ctx c l = s.ctx c l
  busy : ∀ l, l < n → (s.ctx c l).op.isSome = true → (s.ctx c l).queue ≠ [] → v.ctx c l = { s.ctx c l with aborts := (s.ctx c l).queue.length }
  idle : ∀ l, l < n → (s.ctx c l).op = none → (s.ctx c l).queue ≠ [] → (∀ o ∈ (v.ctx c l).queue, o.tag.owner = 2)
    ∧ ∀ o ∈ (s.ctx c l).queue, o.tag.owner ≠ 2 → o.aborted c l ∈ v.nand.done

theorem State.aborting.todo_next (h : State.aborting c n s v) : ∀ e ∈ v.nand.todo, e.1 = c ∧ (e.2.1 < n + 1 ∧ (s.ctx c e.2.1).op = none) ∧ e.2.2.tag.owner = 2 := fun e he =>
  have ⟨hc, ⟨hlt, hop⟩, hown⟩ := h.todo e he
  ⟨hc, ⟨by omega, hop⟩, hown⟩

theorem State.aborting.step_empty (h : State.aborting c n s v) (hq : (s.ctx c n).queue = []) : State.aborting c (n + 1) s (v.abortCtx c n) := by
  rw [State.abortCtx_empty (by rwa [h.later n le_rfl])]
  refine ⟨h.todo_next, fun l hl => h.later l (by omega), fun l hl hop hl' => ?_, fun l hl hop hl' => ?_⟩
  · exact h.busy l (Nat.lt_of_le_of_ne (by omega) fun he => hl' (he ▸ hq)) hop hl'
  · exact h.idle l (Nat.lt_of_le_of_ne (by omega) fun he => hl' (he ▸ hq)) hop hl'

theorem State.aborting.step_busy (h : State.aborting c n s v) (hq : (s.ctx c n).queue ≠ []) (hop : (s.ctx c n).op.isSome = true) :
    State.aborting c (n + 1) s (v.abortCtx c n) := by
  have hn : v.ctx c n = s.ctx c n := h.later n le_rfl
  rw [State.abortCtx_busy (by rwa [hn]) (by rwa [hn]), hn]
  have hother : ∀ (y : Ctx) {l : Nat}, l ≠ n → (v.setCtx c n y).ctx c l = v.ctx c l := fun y l hl => State.ctx_setCtx_other _ _ (by omega)
  refine ⟨h.todo_next, fun l hl => ?_, fun l hl hop' hl' => ?_, fun l hl hop' hl' => ?_⟩
  · rw [hother _ (by omega), h.later l (by omega)]
  · by_cases heq : l = n
    · subst heq
      exact State.ctx_setCtx_same ..
    · rw [hother _ heq]
      exact h.busy l (by omega) hop' hl'
  · have hne : l ≠ n := fun he => by rw [← he, hop'] at hop; cases hop
    rw [hother _ hne]
    exact h.idle l (by omega) hop' hl'

theorem State.aborting.step_idle (h : State.aborting c n s v) (hq : (s.ctx c n).queue ≠ []) (hop : (s.ctx c n).op = none) :
    State.aborting c (n + 1) s (v.abortCtx c n) := by
  have hn : v.ctx c n = s.ctx c n := h.later n le_rfl
  obtain ⟨hkept, hdone⟩ := State.abortCtx_idle (p := fun l => l < n + 1 ∧ (s.ctx c l).op = none) h.todo_next ⟨n.lt_succ_self, hop⟩ (by rwa [hn]) (by rwa [hn])
  rw [hn] at hkept hdone
  have hother : ∀ (y : Ctx) {l : Nat}, l ≠ n → (v.setCtx c n y).ctx c l = v.ctx c l := fun y l hl => State.ctx_setCtx_other _ _ (by omega)
  have hstay : ∀ l, l ≠ n → (¬(l < n + 1 ∧ (s.ctx c l).op = none)) → (v.abortCtx c n).ctx c l = v.ctx c l := fun l hl hp => by
    obtain ⟨more, hmore, -, hnil⟩ := hkept.ctx l
    rw [hmore, hnil hp, List.append_nil, hother _ hl]
  refine ⟨hkept.todo, fun l hl => ?_, fun l hl hop' hl' => ?_, fun l hl hop' hl' => ?_⟩
  · rw [hstay l (by omega) (by omega), h.later l (by omega)]
  · have hne : l ≠ n := fun he => by rw [he, hop] at hop'; cases hop'
    rw [hstay l hne fun hp => by rw [hp.2] at hop'; cases hop']
    exact h.busy l (by omega) hop' hl'
  · obtain ⟨more, hmore, hown, -⟩ := hkept.ctx l
    rw [hmore]
    by_cases heq : l = n
    · subst heq
      rw [State.ctx_setCtx_same]
      exact ⟨hown, hdone⟩
    · obtain ⟨howned, hdone'⟩ := h.idle l (by omega) hop' hl'
      rw [hother _ heq]
      exact ⟨fun o ho => (List.mem_append.mp ho).elim (howned o) (hown o), fun o ho hne => hkept.done _ (hdone' o ho hne)⟩

theorem State.aborting.step (h : State.aborting c n s v) : State.aborting c (n + 1) s (v.abortCtx c n) := by
  by_cases hq : (s.ctx c n).queue = []
  · exact h.step_empty hq
  · cases hop : (s.ctx c n).op with
    | none => exact h.step_idle hq hop
    | some o => exact h.step_busy hq (by rw [hop]; rfl)

end

theorem State.aborting.range {c : Nat} {s : State} (htodo : s.nand.todo = []) (n : Nat) : State.aborting c n s ((List.range n).foldl (fun s l => s.abortCtx c l) s) := by
  induction n with
  | zero => exact ⟨by rw [List.range_zero, List.foldl_nil, htodo]; nofun, fun _ _ => rfl, nofun, nofun⟩
  | succ n ih =>
    rw [List.range_succ, List.foldl_concat]
    exact ih.step

theorem dripAbort_effect {s : State} {c : Fin 32} {l : Fin 16} (hchannel : s.hasChannel c = true) (htodo : s.nand.todo = []) (hqueue : (s.ctx c l).queue ≠ []) :
    ∃ u, exec (.dripAbort c) s = .next u
      ∧ ((s.ctx c l).op = none → (∀ o ∈ (u.ctx c l).queue, o.tag.owner = 2)
        ∧ ∀ o ∈ (s.ctx c l).queue, o.tag.owner ≠ 2 → ∃ e ∈ u.nand.done, e.op = o ∧ e.status = 4 ∧ e.ch = c.val ∧ e.lun = l.val)
      ∧ ((s.ctx c l).op.isSome = true → u.ctx c l = { s.ctx c l with aborts := (s.ctx c l).queue.length }) := by
  have h : State.aborting c 16 s (s.abortAll c) := State.abortAll_eq s c ▸ State.aborting.range htodo 16
  refine ⟨s.abortAll c, if_pos hchannel, fun hop => ?_, fun hop => h.busy l l.isLt hop hqueue⟩
  obtain ⟨howned, hdone⟩ := h.idle l l.isLt hop hqueue
  exact ⟨howned, fun o ho hne => ⟨_, hdone o ho hne, rfl, rfl, rfl, rfl⟩⟩

end Sys2Proof.Machine

namespace Sys2Proof.Machine
open Sys2Proof

/-! ### Operations that wait -/

/-- An operation with tag `t` waits for a queue or in one. -/
def State.waits (s : State) (t : OpTag) : Prop :=
  (∃ e ∈ s.nand.todo, e.2.2.tag = t) ∨ ∃ j, ∃ o ∈ (FMap.get {} s.nand.ctx j).queue, o.tag = t

theorem FMap.mem_of_look {β : Type} {m : FMap β} {k : Nat} {v : β} (h : FMap.look m k = some v) : (k, v) ∈ m := by
  induction m with
  | nil => cases h
  | cons e m ih =>
    obtain ⟨j, w⟩ := e
    unfold FMap.look at h
    split at h
    next hj =>
      cases hj
      cases h
      exact List.mem_cons_self
    · exact List.mem_cons_of_mem _ (ih h)

section
variable {s u : State} {t : OpTag}

theorem State.waits.waitsFor (h : s.waits t) {p : OpTag → Bool} (hp : p t = true) : s.waitsFor p = true := by
  unfold State.waitsFor
  rw [Bool.or_eq_true, List.any_eq_true, List.any_eq_true]
  obtain ⟨e, he, rfl⟩ | ⟨j, o, ho, rfl⟩ := h
  · exact .inl ⟨e, he, hp⟩
  · right
    unfold FMap.get at ho
    cases hlook : FMap.look s.nand.ctx j with
    | none =>
      rw [hlook] at ho
      cases ho
    | some x =>
      rw [hlook] at ho
      exact ⟨(j, x), FMap.mem_of_look hlook, List.any_eq_true.mpr ⟨o, List.mem_append_left _ ho, hp⟩⟩

theorem State.waits.grow (h : s.waits t) (htodo : ∀ e ∈ s.nand.todo, e ∈ u.nand.todo) (hgrow : s.queuesGrow u) : u.waits t := by
  obtain ⟨e, he, htag⟩ | ⟨j, o, ho, htag⟩ := h
  · exact .inl ⟨e, htodo e he, htag⟩
  · obtain ⟨more, hmore⟩ := hgrow j
    exact .inr ⟨j, o, by rw [hmore]; exact List.mem_append_left _ ho, htag⟩

theorem State.waits_enqueue (s : State) (c l : Nat) (o : NandOp) : (s.setCtx c l { s.ctx c l with queue := (s.ctx c l).queue ++ [o] }).waits o.tag :=
  .inr ⟨16 * c + l, o, by
    show o ∈ ((s.setCtx c l { s.ctx c l with queue := (s.ctx c l).queue ++ [o] }).ctx c l).queue
    rw [State.ctx_setCtx_same]
    exact List.mem_append_right _ List.mem_cons_self, rfl⟩

/-- An operation that waits for its queue joins it or waits on. -/
theorem State.waits.fillQueues (h : s.waits t) : s.fillQueues.waits t := by
  obtain ⟨e, he, htag⟩ | ⟨j, o, ho, htag⟩ := h
  · unfold State.fillQueues
    split
    · exact .inl ⟨e, he, htag⟩
    · refine foldl_reaches (P := fun v => State.waits v t) (fun v a hv => ?_) he (fun v => ?_) _
      · dsimp only
        split
        · exact hv.grow (fun _ h => h) (State.queuesGrow.setCtx v _ _ _)
        · exact hv.grow (fun _ h => List.mem_append_left _ h) (.of_ctx rfl)
      · dsimp only
        split
        · exact htag ▸ State.waits_enqueue v e.1 e.2.1 { e.2.2 with at_ := v.ticks }
        · exact .inl ⟨e, List.mem_append_right _ List.mem_cons_self, htag⟩
  · obtain ⟨more, hmore⟩ := State.queuesGrow.fillQueues s j
    exact .inr ⟨j, o, by rw [hmore]; exact List.mem_append_left _ ho, htag⟩

theorem State.waits.submit (h : s.waits t) (c l : Nat) (o : NandOp) : (s.submit c l o).waits t :=
  State.waits.fillQueues (h.grow (fun _ h => List.mem_append_left _ h) (.of_ctx rfl))

/-- An operation that is submitted waits. -/
theorem State.waits_submit (s : State) (c l : Nat) (o : NandOp) : (s.submit c l o).waits o.tag :=
  State.waits.fillQueues (.inl ⟨(c, l, o), List.mem_append_right _ List.mem_cons_self, rfl⟩)

end

theorem State.queueKept.lun {s u : State} (h : s.queueKept u) (c l : Nat) : u.lun c l = s.lun c l := by
  rw [h]
  rfl

/-! ### Records of LUNs -/

/-- The pages of a record version that `writeRecord` writes, from the state in which the version is listed. -/
theorem State.writeRecord_effect (s : State) (c l : Nat) (y : Lun) :
    let x := s.lun c l
    let u := s.writeRecord c l y
    (∃ (r : LunRec) (k n : Nat), r.serial = x.serial + 1 ∧ r.left = 10 ∧ r.failed = false ∧ r.defects = y.defects ∧ r.map = y.map
      ∧ u.lun c l = { x with serial := r.serial, recBlk := k, recUsed := n, recs := r :: x.recs })
    ∧ ∀ i, i < 10 → u.waits (.record (x.serial + 1) i) := by
  unfold State.writeRecord
  extract_lets x full k n r p s1 s2 u
  have hs2 : s1.queueKept s2 := by
    unfold s2
    split
    · exact .submit ..
    · exact .refl s1
  have hu : s1.queueKept u := hs2.trans (.foldl (fun _ _ => .submit ..) _ _)
  refine ⟨⟨r, k, n + 1, rfl, rfl, rfl, rfl, rfl, ?_⟩, fun i hi => ?_⟩
  · rw [hu.lun]
    exact State.lun_setLun_same ..
  · exact foldl_reaches (P := fun v => State.waits v (.record r.serial i)) (fun v a hv => hv.submit ..) (List.mem_range.mpr hi) (fun v => State.waits_submit ..) _

/-! ### Erases counted -/

/-- From `s` to `u` LUN `l` of channel `c` changed in its life warnings alone. -/
def State.lifeOnly (c l : Nat) (s u : State) : Prop := ∃ a b, u.lun c l = { s.lun c l with warned80 := a, warned95 := b }

section
variable {c l : Nat} {s u v : State}

theorem State.lifeOnly.of_nand (h : u.nand = s.nand) : State.lifeOnly c l s u := ⟨_, _, by rw [State.lun, State.lun, h]⟩

theorem State.lifeOnly.trans (h : State.lifeOnly c l s u) (h' : State.lifeOnly c l u v) : State.lifeOnly c l s v := by
  obtain ⟨a, b, hu⟩ := h
  obtain ⟨a', b', hv⟩ := h'
  exact ⟨a', b', by rw [hv, hu]⟩

theorem State.lifeOnly.warn (h : State.lifeOnly c l s u) (n code sub info : Nat) : State.lifeOnly c l s (u.warn n code sub info) :=
  h.trans (.of_nand (by rw [(State.logKept.warn (low := False) u nofun code sub info).1]))

theorem State.showLife_lifeOnly (s : State) (c l : Nat) : State.lifeOnly c l s (s.showLife c l) := by
  unfold State.showLife
  extract_lets p s1 x s2
  have h1 : State.lifeOnly c l s s1 := .of_nand rfl
  have h2 : State.lifeOnly c l s s2 := by
    unfold s2
    split
    · exact .warn (h1.trans ⟨_, _, State.lun_setLun_same ..⟩) ..
    · exact h1
  split
  · exact .warn (h2.trans ⟨_, _, State.lun_setLun_same ..⟩) ..
  · exact h2

theorem State.countErases_lifeOnly (s : State) (c l n : Nat) (native : Bool) : State.lifeOnly c l s (s.countErases c l n native) := by
  unfold State.countErases
  extract_lets s1
  refine State.lifeOnly.trans (.of_nand ?_) (State.showLife_lifeOnly ..)
  split
  · rfl
  · rfl

end

/-! ### LUN_FORMAT -/

/-- In a table that lists one entry, or none, for each key of a list, a key of the list has the value of its entry. -/
theorem FMap.look_filterMap {β : Type} {f : Nat → Option (Nat × β)} (hkey : ∀ k e, f k = some e → e.1 = k) {k : Nat} {v : β} (hk : f k = some (k, v)) {ks : List Nat}
    (hmem : k ∈ ks) : FMap.look (ks.filterMap f) k = some v := by
  induction ks with
  | nil => cases hmem
  | cons j ks ih =>
    by_cases hj : j = k
    · subst hj
      rw [List.filterMap_cons_some hk]
      exact if_pos rfl
    · have hrest := ih ((List.mem_cons.mp hmem).resolve_left (Ne.symm hj))
      cases hf : f j with
      | none => rwa [List.filterMap_cons_none hf]
      | some e =>
        rw [List.filterMap_cons_some hf]
        exact (if_neg (by rw [hkey j e hf]; exact hj)).trans hrest

section
variable (s : State) (c l : Nat) (marks : List MarkByte) (fails : List Nat)

/-- The blocks whose marker bytes are those of a good block, and among them those that erase (07 R279). -/
def State.markedGood : List Nat := (List.range (s.rd (NDC_GEOM.BLOCKS c))).filter (fun p => p == 0 || !s.factoryBad c p marks)
def State.formatGood : List Nat := (s.markedGood c marks).filter (fun p => !fails.contains p || p == 0)

/-- The second record block: the first good block after block 0. -/
def State.formatSecond : Nat := (((s.formatGood c marks fails).filter (· != 0)).head?).getD 0

/-- The entry of a block in the defect table that LUN_FORMAT makes: record block, factory-bad, failed, or none. -/
def State.defectEntry (p : Nat) : Option (Nat × Nat) :=
  if p = 0 ∨ p = s.formatSecond c marks fails then some (p, 3)
  else if !(s.markedGood c marks).contains p then some (p, 1) else if fails.contains p then some (p, 2) else none

theorem State.defectEntry_key (p : Nat) (e : Nat × Nat) (h : s.defectEntry c marks fails p = some e) : e.1 = p := by
  unfold State.defectEntry at h
  split at h
  · cases h; rfl
  · split at h
    · cases h; rfl
    · split at h
      · cases h; rfl
      · cases h

/-- The second record block is not one that the factory marked bad, unless there is none and it stands at 0. -/
theorem State.formatSecond_good (hblk : s.formatSecond c marks fails ≠ 0) : s.factoryBad c (s.formatSecond c marks fails) marks = false := by
  unfold State.formatSecond at *
  cases hhead : ((s.formatGood c marks fails).filter (· != 0)).head? with
  | none => exact absurd (by rw [hhead]; rfl) hblk
  | some p =>
    rw [hhead] at hblk
    have hmem : p ∈ s.markedGood c marks := (List.mem_filter.mp (List.mem_filter.mp (List.mem_of_head? hhead)).1).1
    have hgood := (List.mem_filter.mp hmem).2
    rw [Bool.or_eq_true] at hgood
    exact Bool.not_eq_true' _ ▸ hgood.resolve_left fun h0 => hblk (beq_iff_eq.mp h0)

/-- The defect table that LUN_FORMAT makes. -/
def State.formatDefects : FMap Nat := (List.range (s.rd (NDC_GEOM.BLOCKS c))).filterMap (s.defectEntry c marks fails)

theorem State.formatDefects_zero : FMap.get 0 (s.formatDefects c marks fails) 0 = if s.rd (NDC_GEOM.BLOCKS c) = 0 then 0 else 3 := by
  unfold FMap.get State.formatDefects
  split
  next h => rw [h]; rfl
  next h => rw [FMap.look_filterMap (s.defectEntry_key c marks fails) (if_pos (.inl rfl)) (List.mem_range.mpr (Nat.pos_of_ne_zero h))]; rfl

theorem State.formatDefects_bad {p : Nat} (h0 : p ≠ 0) (hp : p < s.rd (NDC_GEOM.BLOCKS c)) (hbad : s.factoryBad c p marks = true) :
    FMap.get 0 (s.formatDefects c marks fails) p = 1 := by
  have hsecond : p ≠ s.formatSecond c marks fails := fun he => by
    have hgood := s.formatSecond_good c marks fails (he ▸ h0)
    rw [← he, hbad] at hgood
    cases hgood
  have hunmarked : (s.markedGood c marks).contains p = false := by
    rw [Bool.eq_false_iff]
    intro h
    have hgood := (List.mem_filter.mp (List.contains_iff_mem.mp h)).2
    rw [hbad, Bool.not_true, Bool.or_false] at hgood
    exact h0 (beq_iff_eq.mp hgood)
  have hentry : s.defectEntry c marks fails p = some (p, 1) := by
    unfold State.defectEntry
    rw [if_neg (by simp [h0, hsecond]), if_pos (by rw [hunmarked]; rfl)]
  unfold FMap.get State.formatDefects
  rw [FMap.look_filterMap (s.defectEntry_key c marks fails) hentry (List.mem_range.mpr hp)]
  rfl

end

section
variable {s : State} {c : Fin 32} {l : Fin 16}

/-- LUN_FORMAT takes a LUN that is in use, has no map, and writes no record (07 R279). -/
structure State.mayFormat (s : State) (c l : Nat) : Prop where
  run : s.run = true
  up : s.chanUp c = true
  lost : s.lunLost c l = false
  present : s.flag (NDC_LUN_CFG.PRESENT c l) = true
  region : s.rd (NDC_LUN_CFG.REGION c l) ≠ 0
  valid : (s.lun c l).valid = false
  recs : (s.lun c l).recs.any (fun r => r.serial == (s.lun c l).serial && r.left != 0 && !r.failed) = false

theorem State.lun_setLun_wr (s : State) (c l : Nat) (x : Lun) (f : Fld) (n : Nat) : ((s.setLun c l x).wr f n).lun c l = x := State.lun_setLun_same ..

/-- The counts that LUN_FORMAT makes change the LUN in its life warnings alone. -/
theorem State.formatCounted_lun (v : State) (c l : Nat) (x : Lun) (n k y z : Nat) (native : Bool) (f g h : Fld) :
    ∃ a b, (((((v.setLun c l x).countErases c l n native).countBy f k).wr g y).wr h z).lun c l = { x with warned80 := a, warned95 := b } := by
  obtain ⟨a, b, hlife⟩ := State.countErases_lifeOnly (v.setLun c l x) c l n native
  refine ⟨a, b, ?_⟩
  rw [State.lun_setLun_same] at hlife
  exact hlife

/-- LUN_FORMAT writes a record version of a LUN that has the serial number of the old one and the defects found. -/
theorem lunFormat_writesRecord (marks : List MarkByte) (fails : List Nat) (h : s.mayFormat c l) :
    ∃ (v : State) (x : Lun), execLunFormat c l marks fails s = .next (v.writeRecord c l x) ∧ (∃ a b, v.lun c l = { x with warned80 := a, warned95 := b })
      ∧ x.serial = (s.lun c l).serial ∧ x.defects = s.formatDefects c marks fails := by
  obtain ⟨hrun, hup, hlost, hpresent, hregion, hvalid, hrecs⟩ := h
  unfold execLunFormat
  extract_lets old blocks marked good second rest n defects x s1 s2 s3
  refine ⟨s3, x, if_neg (by simp [old, hrun, hup, hlost, hpresent, hregion, hvalid, hrecs]), ?_, rfl, rfl⟩
  exact State.formatCounted_lun ..

theorem lunFormat_effect (marks : List MarkByte) (fails : List Nat) (h : s.mayFormat c l) :
    ∃ u, exec (.lunFormat c l marks fails) s = .next u ∧ (u.lun c l).serial = (s.lun c l).serial + 1
      ∧ (u.lun c l).defects = s.formatDefects c marks fails
      ∧ (∃ r ∈ (u.lun c l).recs, r.serial = (s.lun c l).serial + 1 ∧ r.left = 10 ∧ r.failed = false ∧ r.defects = (u.lun c l).defects ∧ r.map = (u.lun c l).map)
      ∧ ∀ i, i < 10 → u.waitsFor (fun t => t == .record ((s.lun c l).serial + 1) i) = true := by
  obtain ⟨v, x, hexec, ⟨a, b, hv⟩, hserial, hdefects⟩ := lunFormat_writesRecord marks fails h
  obtain ⟨⟨r, k, n, hrserial, hleft, hfailed, hrdefects, hmap, hu⟩, hwaits⟩ := v.writeRecord_effect c l x
  rw [hv] at hrserial hu hwaits
  dsimp only at hrserial hu hwaits
  rw [hserial] at hrserial hwaits
  refine ⟨_, hexec, ?_, ?_, ⟨r, ?_, hrserial, hleft, hfailed, ?_, ?_⟩, fun i hi => (hwaits i hi).waitsFor (beq_self_eq_true _)⟩
  · rw [hu]; exact hrserial
  · rw [hu]; exact hdefects
  · rw [hu]; exact List.mem_cons_self
  · rw [hu]; exact hrdefects
  · rw [hu]; exact hmap

/-! ### BLOCK_SUBSTITUTE -/

/-- The count of an erase changes the LUN in its erase counts and life warnings alone. -/
theorem State.eraseCount_lun (s : State) (c l p : Nat) (native : Bool) :
    ∃ e a b, (s.eraseCount c l p native).lun c l = { s.lun c l with erases := e, warned80 := a, warned95 := b } := by
  unfold State.eraseCount
  extract_lets x
  obtain ⟨a, b, h⟩ := State.countErases_lifeOnly (s.setLun c l { x with erases := FMap.set 0 x.erases p (min (FMap.get 0 x.erases p + 1) 65535) }) c l 1 native
  exact ⟨_, a, b, h.trans (by rw [State.lun_setLun_same])⟩

theorem State.countedErase_lun (s : State) (c l p k m : Nat) (native : Bool) (f g : Fld) :
    ∃ e a b, (((s.countBy f k).countBy g m).eraseCount c l p native).lun c l = { s.lun c l with erases := e, warned80 := a, warned95 := b } :=
  State.eraseCount_lun ((s.countBy f k).countBy g m) c l p native

/-- A block is substituted when it is broken or to be refreshed, on a LUN that has its record and that nothing is being substituted on (07 R280). -/
structure State.maySubstitute (s : State) (c l b : Nat) : Prop where
  run : s.run = true
  up : s.chanUp c = true
  lost : s.lunLost c l = false
  valid : (s.lun c l).valid = true
  blk : b < (s.lun c l).logical
  subst : (s.lun c l).subst = none
  due : FMap.get 0 (s.lun c l).defects ((s.lun c l).phys b) = 2 ∨ (s.lun c l).refresh.contains b = true

theorem State.maySubstitute.guard {b : Nat} (h : s.maySubstitute c l b) :
    ¬((!s.run) = true ∨ (!s.chanUp c) = true ∨ (!(s.lun c l).valid) = true ∨ s.lunLost c l = true ∨ (s.lun c l).logical ≤ b ∨ (s.lun c l).subst.isSome = true
      ∨ ((!(FMap.get 0 (s.lun c l).defects ((s.lun c l).phys b) == 2)) = true ∧ (!(s.lun c l).refresh.contains b) = true)) := by
  obtain ⟨hrun, hup, hlost, hvalid, hblk, hsubst, hdue⟩ := h
  rcases hdue with hdue | hdue
  · simp [hrun, hup, hlost, hvalid, hblk, hsubst, hdue]
  · simp [hrun, hup, hlost, hvalid, hblk, hsubst, List.contains_iff_mem.mp hdue]

theorem blockSubstitute_none {b : Fin 16384} (h : s.maySubstitute c l b) (hspares : (s.lun c l).spares = []) :
    ∃ u, exec (.blockSubstitute c l b 0 0 []) s = .next u ∧ u.lunLost c l = true := by
  refine ⟨(s.wr (NDC_LUN_STAT.SPARE_FREE c l) 0).loseLun c l 3, ?_, State.lunLost_loseLun _ _ l.isLt _⟩
  show execBlockSubstitute c l b 0 0 [] s = _
  unfold execBlockSubstitute
  dsimp only
  rw [if_neg h.guard, hspares]
  rfl

theorem blockSubstitute_spare {b : Fin 16384} (h : s.maySubstitute c l b) {p : Nat} {rest : List Nat} (hspares : (s.lun c l).spares = p :: rest) (hp : p ∉ rest) :
    ∃ u, exec (.blockSubstitute c l b 0 0 []) s = .next u
      ∧ (u.lun c l).subst = some { blk := b, old := (s.lun c l).phys b, new := p, serial := (s.lun c l).serial + 1, broken := FMap.get 0 (s.lun c l).defects ((s.lun c l).phys b) == 2 }
      ∧ (u.lun c l).spares = rest ∧ (u.lun c l).serial = (s.lun c l).serial + 1
      ∧ ∃ r ∈ (u.lun c l).recs, r.serial = (s.lun c l).serial + 1 ∧ r.left = 10 ∧ FMap.get 0 r.map b = p + 1 := by
  suffices ∃ (v : State) (y : Lun), exec (.blockSubstitute c l b 0 0 []) s = .next (v.writeRecord c l { y with map := FMap.set 0 y.map b (p + 1) }) ∧ v.lun c l = y
      ∧ y.subst = some { blk := b, old := (s.lun c l).phys b, new := p, serial := (s.lun c l).serial + 1, broken := FMap.get 0 (s.lun c l).defects ((s.lun c l).phys b) == 2 }
      ∧ y.spares = rest ∧ y.serial = (s.lun c l).serial by
    obtain ⟨v, y, hexec, hv, hsubst, hrest, hserial⟩ := this
    obtain ⟨⟨r, k, n, hrserial, hleft, -, -, hmap, hu⟩, -⟩ := v.writeRecord_effect c l { y with map := FMap.set 0 y.map b (p + 1) }
    rw [hv] at hrserial hu
    rw [hserial] at hrserial
    refine ⟨_, hexec, ?_, ?_, ?_, r, ?_, hrserial, hleft, ?_⟩
    · rw [hu]; exact hsubst
    · rw [hu]; exact hrest
    · rw [hu]; exact hrserial
    · rw [hu]; exact List.mem_cons_self
    · rw [hmap]
      exact FMap.get_set_same 0 y.map b (p + 1)
  show ∃ v y, execBlockSubstitute c l b 0 0 [] s = _ ∧ _
  unfold execBlockSubstitute
  extract_lets x old broken s1 n s2 s3
  have hhead : (x.spares.drop (0 + 0)).head? = some p := by rw [show x.spares = p :: rest from hspares]; rfl
  rw [if_neg h.guard, hhead]
  dsimp -zeta only
  extract_lets s4 x' y s5
  have hs2 : s2 = s := rfl
  obtain ⟨e, a, w, hlun⟩ : ∃ e a w, x' = { s.lun c l with erases := e, warned80 := a, warned95 := w } := hs2 ▸ State.countedErase_lun s2 ..
  have hs5 : s5 = (s4.setLun c l y).wr (NDC_LUN_STAT.SPARE_FREE c l) y.spares.length := rfl
  have hsubst : y.subst = some { blk := b.val, old := old, new := p, serial := x'.serial + 1, broken := broken } := rfl
  have hrest : y.spares = x'.spares.filter (· != p) := by with_reducible rfl
  have hserial : y.serial = x'.serial := by with_reducible rfl
  clear_value s5 y x'
  subst hlun
  refine ⟨s5, y, rfl, by rw [hs5, State.lun_setLun_wr], hsubst, ?_, hserial⟩
  rw [hrest, hspares, List.filter_cons_of_neg (by simp)]
  exact List.filter_eq_self.mpr fun q hq => bne_iff_ne.mpr fun he => hp (he ▸ hq)

end

end Sys2Proof.Machine

namespace Sys2Proof.Machine
open Sys2Proof

/-! ### RETENTION_SWEEP -/

section
variable {s : State} {c : Fin 32} {l : Fin 16}

/-- RETENTION_SWEEP on a LUN whose sweep is under way and has come to block `b` (07 R281). -/
structure State.maySweep (s : State) (c l d b : Nat) : Prop where
  run : s.run = true
  up : s.chanUp c = true
  lost : s.lunLost c l = false
  valid : (s.lun c l).valid = true
  left : (s.lun c l).sweepLeft = 0
  day : (s.lun c l).sweepDay = some d
  next : (s.lun c l).nextSwept = some b

/-- The state in which the sweep of block `b` begins. -/
def State.sweepSet (s : State) (c l b n : Nat) : State := s.setLun c l { s.lun c l with sweepAt := if n = 0 then b + 1 else b, sweepLeft := n }

theorem retentionSweep_eq {d b : Nat} (h : s.maySweep c l d b) :
    exec (.retentionSweep c l) s = .next ((List.range (s.progPages c l b)).foldl (fun s g => s.readPage c l .sweep b g 2) (s.sweepSet c l b (s.progPages c l b))) := by
  obtain ⟨hrun, hup, hlost, hvalid, hleft, hday, hnext⟩ := h
  show execRetentionSweep c l s = _
  unfold execRetentionSweep
  extract_lets x due x'
  have hx' : x' = x := by
    unfold x' due
    rw [show x.sweepDay = some d from hday, show x.nextSwept = some b from hnext]
    rfl
  rw [if_neg (by simp [x, hrun, hup, hlost, hvalid, hleft]), hx', show x.nextSwept = some b from hnext]
  rfl

theorem retentionSweep_effect {d b : Nat} (h : s.maySweep c l d b) :
    ∃ u, exec (.retentionSweep c l) s = .next u ∧ (u.lun c l).sweepLeft = s.progPages c l b
      ∧ (u.lun c l).sweepAt = (if s.progPages c l b = 0 then b + 1 else b) ∧ (0 < s.progPages c l b → u.waitsFor (fun t => t == .sweep) = true) := by
  refine ⟨_, retentionSweep_eq h, ?_⟩
  generalize s.progPages c l b = n
  have hlun : ∀ m, ((List.range m).foldl (fun (s : State) g => s.readPage c l .sweep b g 2) (s.sweepSet c l b n)).lun c l = (s.sweepSet c l b n).lun c l := fun m =>
    (State.queueKept.foldl (fun _ _ => .readPage ..) _ _).lun c l
  have hset : (s.sweepSet c l b n).lun c l = { s.lun c l with sweepAt := if n = 0 then b + 1 else b, sweepLeft := n } := State.lun_setLun_same ..
  rw [hlun, hset]
  refine ⟨rfl, rfl, fun hn => State.waits.waitsFor (t := .sweep) ?_ rfl⟩
  exact foldl_reaches (P := fun v => State.waits v .sweep) (fun v g hv => hv.submit ..) (List.mem_range.mpr hn) (fun v => State.waits_submit ..) _

end

/-! ### NAND_RETIRE_CHANNEL -/

/-- A channel that is retired is shown so; one that the plan still names leaves it, and its data begin to move (07 R286, R287). -/
theorem State.retire_effect {s : State} {c : Nat} (hmember : bitAt s.crf.plan.mask c = true) (reason : Nat) :
    (s.retire c reason).flag (NDC_STAT.RETIRED c) = true ∧ (s.retire c reason).crf.plan.mask = setBits s.crf.plan.mask c 1 0
      ∧ (s.retire c reason).crf.plan.id = (s.crf.plan.id + 1) % 2 ^ 32 ∧ (∀ sl, (s.mb sl).taken = true → ((s.retire c reason).mb sl).taken = true)
      ∧ ∃ r ∈ (s.retire c reason).crf.rehomes, r.ch = c ∧ r.kind = 1 := by
  unfold State.retire
  extract_lets s1 member s2
  have h1 : State.nandKept .plan (s.wr (NDC_STAT.RETIRED c) 1) s1 := .dropOps (.refl ..) ..
  have hplan : s1.crf.plan = s.crf.plan := h1.plan rfl
  have hin : bitAt s1.crf.plan.mask c = true := by rw [hplan, hmember]
  have hs2 : s2 = (s1.newPlan (setBits s1.crf.plan.mask c 1 0) reason c).startRehome c 1 0xFF := if_pos hin
  have hnew : State.nandKept .plan (s1.withMask (setBits s1.crf.plan.mask c 1 0)) s2 := by
    rw [hs2]
    exact .startRehome (.newPlan ..) (fun h => absurd h (by decide)) ..
  have hend : State.nandKept .plan s2 (s2.failCopies (fun k => k.ch == c)) := .failCopies (.refl ..) _
  have hkept := hnew.trans hend
  obtain ⟨r, hr, hch, hkind⟩ := (s1.newPlan (setBits s1.crf.plan.mask c 1 0) reason c).mem_startRehome c 1 0xFF
  rw [← hs2] at hr
  have hkey : Watch.key .plan (NDC_STAT.RETIRED c).key := ⟨by dsimp only; omega, by dsimp only; omega⟩
  clear_value s2
  clear_value s1
  refine ⟨?_, ?_, ?_, fun sl hsl => hkept.taken sl (h1.taken sl hsl), r, hend.rehomes r hr, hch, hkind⟩
  · rw [State.flag, hkept.rd _ hkey, show (s1.withMask _).rd (NDC_STAT.RETIRED c) = s1.rd (NDC_STAT.RETIRED c) from rfl, h1.rd _ hkey, State.rd_wr_same]
    rfl
  · rw [hkept.plan rfl, ← hplan]
    rfl
  · rw [hkept.plan rfl, ← hplan]
    rfl

section
variable {s u : State} {c : Fin 32} {sl : Fin 256}

/-- A request to retire a channel that the device has, and that has not left the plan, while fewer than 8 re-home events are listed (07 R287). -/
structure State.mayRetire (s : State) (sl c : Nat) : Prop where
  request : s.request sl 0x0300 4
  channel : s.arg sl 0 1 = c
  reserved : s.arg sl 1 3 = 0
  has : s.hasChannel c = true
  active : s.flag (NDC_STAT.RETIRED c) = false
  kept : s.nand.lost.contains c = false
  member : bitAt s.crf.plan.mask c = true
  rehomes : s.crf.rehomes.length < 8

/-- The end of serving a request: an answer, or none yet. -/
def State.respond (sl : Nat) : State × Option (Nat × List Byte) → State
  | (s, some (st, rsp)) => s.answer sl st rsp
  | (s, none) => s

theorem State.respond_some (s : State) (sl st : Nat) (rsp : List Byte) : State.respond sl (s, some (st, rsp)) = s.answer sl st rsp := rfl
theorem State.respond_none (s : State) (sl : Nat) : State.respond sl (s, none) = s := rfl

/-- A request that is answered once the plan change is recorded. -/
def State.retirePending (s : State) (sl : Nat) : State := { s with nand := { s.nand with retireAns := s.nand.retireAns ++ [(sl, s.crf.plan.id)] } }

/-- What is done for a request to retire channel `c` that passes its checks. -/
def State.retireRequest (s : State) (sl c : Nat) : State × Option (Nat × List Byte) :=
  if s.crf.plan.width < 4 then (s, some (0x0101, []))
  else
    let s := s.retire c 2
    if s.sequencing then (s.retirePending sl, none)
    else (s, some (0, leBytes 4 s.crf.plan.id ++ zeros 4))

theorem State.serve_respond {op len : Nat} (h : s.request sl op len) (lenOk : Nat → Bool) (hlen : lenOk len = true) (admin recOk : Bool)
    (f : State → List Byte → State × Option (Nat × List Byte)) : s.serve sl op lenOk admin recOk f = State.respond sl (f (s.served sl) (s.mb sl).payload) := by
  obtain ⟨hready, hon, hadmin, hrec, hl⟩ := h
  simp only [State.serve, hready, hon, hadmin, hrec, hl, hlen, Bool.not_true, Bool.false_and, Bool.and_false, Bool.false_eq_true, if_false]
  rfl

theorem nandRetireChannel_eq (h : s.mayRetire sl c) : exec (.nandRetireChannel sl) s = .next (State.respond sl ((s.served sl).retireRequest sl c)) := by
  obtain ⟨hrequest, hc, hzero, hhas, hactive, hkept, hmember, hrehomes⟩ := h
  have hchannel : field (s.mb sl).payload 0 1 = c := hc
  have hreserved : field (s.mb sl).payload 1 3 = 0 := hzero
  have hchecks : ¬(32 ≤ c.val ∨ (!(s.served sl).hasChannel c) = true ∨ (s.served sl).flag (NDC_STAT.RETIRED c) = true ∨ (s.served sl).nand.lost.contains c.val = true
      ∨ (!bitAt (s.served sl).crf.plan.mask c) = true) := by
    rw [show (s.served sl).hasChannel c = true from hhas, show (s.served sl).flag (NDC_STAT.RETIRED c) = false from hactive,
      show (s.served sl).nand.lost.contains c.val = false from hkept, show bitAt (s.served sl).crf.plan.mask c = true from hmember]
    simp
  have hroom : ¬8 ≤ (s.served sl).crf.rehomes.length := Nat.not_le.mpr hrehomes
  refine congrArg _ ((State.serve_respond hrequest _ rfl _ _ _).trans (congrArg _ ?_))
  rw [hchannel, hreserved]
  dsimp only
  rw [if_neg (fun h => h rfl), if_neg hchecks, if_neg hroom]
  rfl

/-- A plan of fewer than 4 channels keeps them: the request is refused with WIDTH (07 R287). -/
theorem nandRetireChannel_narrow (h : s.mayRetire sl c) (hwidth : s.crf.plan.width < 4) :
    ∃ u, exec (.nandRetireChannel sl) s = .next u ∧ u.answered sl 0x0101 [] := by
  refine ⟨_, nandRetireChannel_eq h, ?_⟩
  rw [State.retireRequest, if_pos (show (s.served sl).crf.plan.width < 4 from hwidth)]
  exact State.answered_answer h.request rfl _ _ (.inr rfl)

theorem State.respond_retire (hwidth : ¬s.crf.plan.width < 4) (n c : Nat) :
    State.respond n (s.retireRequest n c) = (s.retire c 2).retirePending n ∨ ∃ rsp, State.respond n (s.retireRequest n c) = (s.retire c 2).answer n 0 rsp := by
  unfold State.retireRequest
  rw [if_neg hwidth]
  dsimp only
  split
  · exact .inl (State.respond_none ..)
  · exact .inr ⟨_, State.respond_some ..⟩

/-- The response to a request that is taken leaves it taken. -/
theorem State.taken_answer (n st : Nat) (rsp : List Byte) (h : (s.mb n).taken = true) : ((s.answer n st rsp).mb n).taken = true := by
  unfold State.answer
  extract_lets m
  split
  · rw [State.mb_setMb_same]
  · exact h

theorem nandRetireChannel_retires (h : s.mayRetire sl c) (hwidth : 4 ≤ s.crf.plan.width) :
    ∃ u, exec (.nandRetireChannel sl) s = .next u ∧ u.flag (NDC_STAT.RETIRED c) = true ∧ u.crf.plan.mask = setBits s.crf.plan.mask c 1 0
      ∧ u.crf.plan.id = (s.crf.plan.id + 1) % 2 ^ 32 ∧ (u.mb sl).taken = true ∧ ∃ r ∈ u.crf.rehomes, r.ch = c.val ∧ r.kind = 1 := by
  refine ⟨_, nandRetireChannel_eq h, ?_⟩
  obtain ⟨hretired, hmask, hid, hmb, hrehome⟩ := State.retire_effect (s := s.served sl) (c := c) h.member 2
  have htaken := hmb sl (by rw [State.served, State.mb_setMb_same])
  obtain hpending | ⟨rsp, hanswer⟩ := State.respond_retire (s := s.served sl) (Nat.not_lt.mpr hwidth) sl c
  all_goals generalize (s.served sl).retire c 2 = v at *
  · rw [hpending]
    exact ⟨hretired, hmask, hid, htaken, hrehome⟩
  · rw [hanswer]
    refine ⟨?_, ?_, ?_, State.taken_answer _ _ _ htaken, ?_⟩
    all_goals rw [State.answer_only]
    · exact hretired
    · exact hmask
    · exact hid
    · exact hrehome

end

/-- Settles O38, command by command. -/
theorem channelsAndTheirLuns : Obligations.ChannelsAndTheirLuns := by
  unfold Obligations.ChannelsAndTheirLuns
  intro s c l x works
  refine ⟨fun on => dripSuspend_effect on, dripAbort_effect, dripSwap_effect, fun marks fails hworks hpresent hregion hvalid hrecs => ?_,
    fun b hworks hvalid hblk hsubst hdue => ?_, fun b d hworks hvalid hleft hday hnext => ?_, fun sl hrequest hc hzero hhas hactive hlost hmember hrehomes => ?_⟩
  · obtain ⟨hrun, hup, hlost⟩ := hworks
    obtain ⟨u, hexec, hserial, hdefects, hrecord, hwaits⟩ := lunFormat_effect marks fails ⟨hrun, hup, hlost, hpresent, hregion, hvalid, hrecs⟩
    refine ⟨u, hexec, hserial, ?_, fun p h0 hp hbad => ?_, hrecord, hwaits⟩
    · rw [hdefects]
      exact s.formatDefects_zero ..
    · rw [hdefects]
      exact s.formatDefects_bad c marks fails h0 hp hbad
  · obtain ⟨hrun, hup, hlost⟩ := hworks
    have hmay : s.maySubstitute c l b := ⟨hrun, hup, hlost, hvalid, hblk, hsubst, hdue⟩
    exact ⟨fun p rest hspares hp => blockSubstitute_spare hmay hspares hp, fun hspares => blockSubstitute_none hmay hspares⟩
  · obtain ⟨hrun, hup, hlost⟩ := hworks
    exact retentionSweep_effect ⟨hrun, hup, hlost, hvalid, hleft, hday, hnext⟩
  · have hmay : s.mayRetire sl c := ⟨hrequest, hc, hzero, hhas, hactive, hlost, hmember, hrehomes⟩
    exact ⟨nandRetireChannel_narrow hmay, nandRetireChannel_retires hmay⟩

end Sys2Proof.Machine

namespace Sys2Proof.Machine
open Sys2Proof

/-! ### The mailbox handshake (08 R319 to R323, R332) -/

section
variable {s : State} {sl : Nat}

/-- Of the state, only mailbox `sl` and the count of GO writes changed. -/
def State.mailboxOnly (s u : State) (sl : Nat) : Prop := u = { s with mbox := u.mbox, goCount := u.goCount } ∧ ∀ j, j ≠ sl → u.mb j = s.mb j

theorem State.mailboxOnly_setMb (s : State) (sl : Nat) (m : Mailbox) : s.mailboxOnly (s.setMb sl m) sl := ⟨rfl, fun _ hj => State.mb_setMb_other s m hj⟩

/-- A mailbox that has taken the request that its page holds, by the `n`-th GO (08 R320). -/
def Mailbox.accepted (m : Mailbox) (n : Nat) : Mailbox :=
  let env := Memory.readBytes m.req 0 16
  { m with st := .busy, cur := env ++ Memory.readBytes m.req 16 (min (field env 2 2) 1008), order := n, taken := false, ans := none, cut := false,
           lastOp := field env 0 2, requests := satInc 32 m.requests }

theorem State.goWrite_idle (h : (s.mb sl).st = .idle) : s.goWrite sl = { s.setMb sl ((s.mb sl).accepted s.goCount) with goCount := s.goCount + 1 } :=
  if_neg (fun hne => hne h)

theorem State.goWrite_overrun (h : (s.mb sl).st ≠ .idle) : s.goWrite sl = s.setMb sl { s.mb sl with overrun := true } := if_pos h

theorem State.ackNow_done (hdone : (s.mb sl).st = .done) (hask : ∀ a t, s.err.ask = some (a, t) → a ≠ sl) :
    s.ackNow sl = s.setMb sl { s.mb sl with st := .idle } := by
  have hack : s.ackWrite sl = s.setMb sl { s.mb sl with st := .idle } := if_pos hdone
  unfold State.ackNow
  split
  · next a t h => rw [if_neg (fun hboth => hask a t h hboth.1), hack]
  · exact hack

/-- The first bytes of a list that begins with a memory's bytes. -/
theorem field_readBytes_append (m : Memory) (n k : Nat) (bs : List Byte) : field (m.readBytes 0 (n + k) ++ bs) 0 n = leNat (m.readBytes 0 n) := by
  rw [field, List.drop_zero, Memory.readBytes_add, List.append_assoc, List.take_left' (Memory.length_readBytes ..)]

theorem Mailbox.op_accepted (m : Mailbox) (n : Nat) : (m.accepted n).op = leNat (m.req.readBytes 0 2) := field_readBytes_append m.req 2 14 _

theorem Mailbox.lastOp_accepted (m : Mailbox) (n : Nat) : (m.accepted n).lastOp = leNat (m.req.readBytes 0 2) := by
  rw [← field_readBytes_append m.req 2 14 [], List.append_nil]
  rfl

theorem go_idle {sl : Fin 256} (hon : s.pf0On = true) (h : (s.mb sl).st = .idle) :
    ∃ u, exec (.go sl) s = .next u ∧ s.mailboxOnly u sl ∧ u.mb sl = (s.mb sl).accepted s.goCount ∧ u.goCount = s.goCount + 1 := by
  refine ⟨{ s.setMb sl ((s.mb sl).accepted s.goCount) with goCount := s.goCount + 1 }, ?_, ⟨rfl, fun _ hj => State.mb_setMb_other s _ hj⟩,
    State.mb_setMb_same .., rfl⟩
  rw [← State.goWrite_idle h]
  exact congrArg _ (if_pos hon)

theorem go_overrun {sl : Fin 256} (hon : s.pf0On = true) (h : (s.mb sl).st ≠ .idle) :
    exec (.go sl) s = .next (s.setMb sl { s.mb sl with overrun := true }) :=
  congrArg _ ((if_pos hon).trans (State.goWrite_overrun h))

theorem ack_done {sl : Fin 256} (hon : s.pf0On = true) (hdone : (s.mb sl).st = .done) (hask : ∀ a t, s.err.ask = some (a, t) → a ≠ sl.val) :
    exec (.ack sl) s = .next (s.setMb sl { s.mb sl with st := .idle }) :=
  congrArg _ ((if_pos hon).trans (State.ackNow_done hdone hask))

/-! #### The response -/

/-- A request that its owner has answered is no orphan. -/
theorem State.orphan_answered {a : Nat × List Byte} (h : (s.mb sl).ans = some a) : s.orphan sl = s :=
  if_neg fun ⟨_, hnone, _⟩ => by rw [h] at hnone; exact Bool.noConfusion hnone

/-- A vector is sent or held back whatever the mailboxes and the error records hold. -/
theorem State.msix_mbox_err (s : State) (fn v : Nat) (b : FMap Mailbox) (e : Errs) :
    ({ s with mbox := b, err := e } : State).msix fn v = { s.msix fn v with mbox := b, err := e } := by
  have hen : ({ s with mbox := b, err := e } : State).pcieFn fn = s.pcieFn fn := rfl
  have hmask : ({ s with mbox := b, err := e } : State).vectorMasked fn v = s.vectorMasked fn v := rfl
  unfold State.msix State.setPend
  rw [hen, hmask]
  split
  · rfl
  · split
    · split <;> rfl
    · rfl

/-- The response as the mailbox page holds it: the envelope, then the payload (08 R321). -/
def Mailbox.response (m : Mailbox) (st : Nat) (pl : List Byte) : List Byte :=
  leBytes 2 m.op ++ leBytes 2 pl.length ++ slice m.cur 4 4 ++ leBytes 2 st ++ zeros 6 ++ pl

theorem Mailbox.length_response (m : Mailbox) (st : Nat) (pl : List Byte) : (m.response st pl).length = 16 + pl.length := by
  simp [Mailbox.response, zeros]
  omega

/-- A mailbox whose response has been written (08 R320). -/
def Mailbox.responded (m : Mailbox) (st : Nat) (pl : List Byte) : Mailbox :=
  { m with st := .done, rsp := m.rsp.writeBytes 0 (m.response st pl), taken := false, ans := none, cur := [] }

theorem Mailbox.readBytes_responded (m : Mailbox) (st : Nat) (pl : List Byte) :
    Memory.readBytes (m.responded st pl).rsp 0 (16 + pl.length) = m.response st pl := by
  rw [← m.length_response st pl]
  exact Memory.readBytes_writeBytes ..

/-- A mailbox whose request was cut off: no response is left (08 R332). -/
def Mailbox.dropped (m : Mailbox) : Mailbox := { m with st := .idle, cut := false, taken := false, ans := none, cur := [] }

/-- DEVICE_RESET waits on the response of mailbox `sl` (14 R541). -/
def State.resetAsks (s : State) (sl : Nat) : Bool := s.err.ask.any (fun a => a.1 == sl)

variable {st : Nat} {pl : List Byte}

/-- The response of slice `sl` starts the clock of the DEVICE_RESET that waits on it, if one does (14 R541). -/
def State.resetClocked (s : State) (sl : Nat) : State := if s.resetAsks sl then { s with err := { s.err with askAt := some s.ticks } } else s

/-- The DEVICE_RESET that waits on slice `sl`'s response, if one does, is dropped with it. -/
def State.resetDropped (s : State) (sl : Nat) : State := if s.resetAsks sl then { s with err := { s.err with ask := none } } else s

theorem State.resetClocked_eq (s : State) (sl : Nat) :
    s.resetClocked sl = { s with err := if s.resetAsks sl then { s.err with askAt := some s.ticks } else s.err } := by
  unfold State.resetClocked
  cases s.resetAsks sl <;> rfl

theorem State.resetDropped_eq (s : State) (sl : Nat) : s.resetDropped sl = { s with err := if s.resetAsks sl then { s.err with ask := none } else s.err } := by
  unfold State.resetDropped
  cases s.resetAsks sl <;> rfl

/-- The end of a request that its owner has answered (08 R320, R332). -/
theorem mailboxDone_eq {sl : Fin 256} (hbusy : (s.mb sl).st = .busy) (hans : (s.mb sl).ans = some (st, pl)) :
    exec (.mailboxDone sl) s = .next (if (s.mb sl).cut then (s.resetDropped sl).setMb sl (s.mb sl).dropped
      else if (s.mb sl).irqEn then ((s.setMb sl ((s.mb sl).responded st pl)).resetClocked sl).msix 0 sl
      else (s.setMb sl ((s.mb sl).responded st pl)).resetClocked sl) := by
  show execMailboxDone sl s = _
  unfold execMailboxDone
  rw [State.orphan_answered hans]
  extract_lets
  split
  next st' pl' hst hsome =>
    obtain ⟨rfl, rfl⟩ : st' = st ∧ pl' = pl := Prod.mk.inj (Option.some.inj (hsome.symm.trans hans))
    extract_lets
    split <;> rfl
  next hnone => exact absurd hans (hnone st pl hbusy)

theorem mailboxDone_responds {sl : Fin 256} (hbusy : (s.mb sl).st = .busy) (hans : (s.mb sl).ans = some (st, pl)) (hcut : (s.mb sl).cut = false) :
    exec (.mailboxDone sl) s = .next { (if (s.mb sl).irqEn then s.msix 0 sl else s) with
      mbox := (s.setMb sl ((s.mb sl).responded st pl)).mbox, err := if s.resetAsks sl then { s.err with askAt := some s.ticks } else s.err } := by
  rw [mailboxDone_eq hbusy hans, hcut, if_neg Bool.false_ne_true, State.resetClocked_eq]
  refine congrArg _ ?_
  split
  · exact s.msix_mbox_err ..
  · rfl

theorem mailboxDone_drops {sl : Fin 256} (hbusy : (s.mb sl).st = .busy) (hans : (s.mb sl).ans = some (st, pl)) (hcut : (s.mb sl).cut = true) :
    exec (.mailboxDone sl) s = .next { s with
      mbox := (s.setMb sl (s.mb sl).dropped).mbox, err := if s.resetAsks sl then { s.err with ask := none } else s.err } := by
  rw [mailboxDone_eq hbusy hans, hcut, if_pos rfl, State.resetDropped_eq]
  rfl

/-! #### Requests of the slice manager -/

/-- A request that every slice in use may send, answered OK from the state in which it was taken (08 R322). -/
theorem State.serve_ok {op : Nat} {lenOk : Nat → Bool} (hready : s.mbReady sl op = true) (hon : s.sliceOn sl = true) (hlen : lenOk (s.mb sl).len = true)
    {f : State → List Byte → State × Option (Nat × List Byte)} {rsp : List Byte} (hf : f (s.served sl) (s.mb sl).payload = (s.served sl, some (0, rsp))) :
    s.serve sl op lenOk false true f = s.setMb sl { s.mb sl with taken := true, ans := some (0, rsp) } := by
  have hbusy := (State.busy_of_ready hready).1
  have hserved : s.serve sl op lenOk false true f = State.respond sl (f (s.served sl) (s.mb sl).payload) := by
    simp only [State.serve, hready, hon, hlen, Bool.not_true, Bool.false_and, Bool.and_false, Bool.false_eq_true, if_false]
    rfl
  have hne : ({ s.mb sl with taken := true } : Mailbox) ≠ {} := fun h => Bool.noConfusion (congrArg Mailbox.taken h)
  rw [hserved, hf, State.respond_some, State.served, State.answer, State.mb_setMb_same]
  dsimp only
  rw [if_pos (beq_iff_eq.mpr hbusy), State.setMb_setMb _ _ _ _ hne]
  rfl

theorem State.answered_setMb (s : State) (sl st : Nat) (rsp : List Byte) (m : Mailbox) :
    (s.setMb sl { m with taken := true, ans := some (st, rsp) }).answered sl st rsp := by
  rw [State.answered, State.mb_setMb_same]
  exact ⟨rfl, rfl⟩

theorem echo_effect {sl : Fin 256} (hready : s.mbReady sl 0x0001 = true) (hon : s.sliceOn sl = true) (hlen : (s.mb sl).len ≤ 1008) :
    ∃ u, exec (.echo sl) s = .next u ∧ s.mailboxOnly u sl ∧ u.answered sl 0 (s.mb sl).payload :=
  ⟨_, congrArg Host.Outcome.next (State.serve_ok hready hon (decide_eq_true hlen) rfl), State.mailboxOnly_setMb .., State.answered_setMb ..⟩

theorem sliceInfo_effect {sl : Fin 256} (hready : s.mbReady sl 0x0002 = true) (hon : s.sliceOn sl = true) (hlen : (s.mb sl).len = 0) :
    ∃ u, exec (.sliceInfo sl) s = .next u ∧ s.mailboxOnly u sl
      ∧ u.answered sl 0 (leBytes 1 sl ++ leBytes 1 (b2n (s.sliceAdmin sl)) ++ zeros 2 ++ leBytes 4 (s.rd (SLC_STAT.DELIVERY_EPOCH sl))
        ++ leBytes 4 (s.rd (SLC_CFG.PASID sl)) ++ leBytes 1 (s.slc sl).st) :=
  ⟨_, congrArg Host.Outcome.next (State.serve_ok (lenOk := (· == 0)) hready hon (beq_iff_eq.mpr hlen) rfl), State.mailboxOnly_setMb .., State.answered_setMb ..⟩

end

/-- Settles O39: one lemma for each command and state of the mailbox. -/
theorem mailboxHandshake : Obligations.MailboxHandshake := by
  unfold Obligations.MailboxHandshake
  intro s sl m asks only
  refine ⟨fun hon => ⟨fun hidle => ?_, fun hbusy => ?_, fun hdone hask => ?_⟩, fun st pl hbusy hans => ⟨fun hcut => ?_, fun hcut => ?_⟩, echo_effect, sliceInfo_effect⟩
  · obtain ⟨u, hexec, honly, hmb, hcount⟩ := go_idle hon hidle
    refine ⟨u, hexec, honly, ?_⟩
    rw [hmb]
    exact ⟨rfl, rfl, rfl, Mailbox.op_accepted .., Mailbox.lastOp_accepted .., rfl, hcount, rfl⟩
  · exact ⟨_, go_overrun hon hbusy, State.mailboxOnly_setMb .., State.mb_setMb_same .., rfl⟩
  · exact ⟨_, ack_done hon hdone hask, State.mailboxOnly_setMb .., State.mb_setMb_same .., rfl⟩
  · refine ⟨_, mailboxDone_responds hbusy hans hcut, rfl, fun _ hj => State.mb_setMb_other s _ hj, ?_⟩
    have hmb : (s.setMb sl (m.responded st pl)).mb sl = m.responded st pl := State.mb_setMb_same ..
    show ((s.setMb sl (m.responded st pl)).mb sl).st = .done
      ∧ Memory.readBytes ((s.setMb sl (m.responded st pl)).mb sl).rsp 0 (16 + pl.length) = m.response st pl
    rw [hmb]
    exact ⟨rfl, Mailbox.readBytes_responded ..⟩
  · refine ⟨_, mailboxDone_drops hbusy hans hcut, rfl, ?_⟩
    have hmb : (s.setMb sl m.dropped).mb sl = m.dropped := State.mb_setMb_same ..
    show ((s.setMb sl m.dropped).mb sl).st = .idle ∧ ((s.setMb sl m.dropped).mb sl).rsp = m.rsp
    rw [hmb]
    exact ⟨rfl, rfl⟩

end Sys2Proof.Machine

namespace Sys2Proof.Machine
open Sys2Proof

/-! ### A masked error vector becomes pending -/

section
variable {s u : State}

/-- What a vector does to the endpoint depends on the endpoint alone. -/
theorem State.pci_msix (hpci : u.pci = s.pci) (fn v : Nat) : (u.msix fn v).pci = (s.msix fn v).pci := by
  have hfn : u.pcieFn fn = s.pcieFn fn := by rw [State.pcieFn, State.pcieFn, hpci]
  have hmask : u.vectorMasked fn v = s.vectorMasked fn v := by rw [State.vectorMasked, State.vectorMasked, hfn, hpci]
  unfold State.msix State.setPend
  rw [hfn, hmask]
  split
  · exact hpci
  · split
    · rw [hpci]
      split <;> rfl
    · exact hpci

theorem State.pci_errVector (hpci : u.pci = s.pci) (hen : u.rd ERR_IRQ.EN = s.rd ERR_IRQ.EN) (v : Nat) : (u.errVector v).pci = (s.errVector v).pci := by
  unfold State.errVector
  rw [hen]
  split
  · exact State.pci_msix hpci ..
  · exact hpci

/-- A first record acts on the endpoint by error vector 256 alone, whatever it records. -/
theorem State.pci_firstRecord (s : State) {n : Nat} (hn : n < 128) (code cls sub info : Nat) (inj : Bool) :
    (s.firstRecord n code cls sub info inj).pci = (s.errVector 0).pci := by
  unfold State.firstRecord
  obtain ⟨sec, ns⟩ := s.timeWord
  dsimp -zeta only
  extract_lets s1 s2 s3 e s4
  have hpci : s3.pci = s.pci := by simp only [s3, s2, s1, State.wrBit, State.wrB, State.wr]
  have h3 : s3.rd ERR_IRQ.EN = s.rd ERR_IRQ.EN := by
    simp (disch := (dsimp only at *; omega)) only [s3, s2, s1, State.wrBit, State.wrB, State.rd_wr_other]
  clear_value s3
  have h4 : s4.pci = s3.pci ∧ s4.rd ERR_IRQ.EN = s3.rd ERR_IRQ.EN := by
    unfold s4
    split <;> exact ⟨rfl, rfl⟩
  exact (State.pci_errVector h4.1 h4.2 0).trans (State.pci_errVector hpci h3 0)

theorem State.pci_clearFirst (s : State) (n : Nat) : (s.clearFirst n).pci = s.pci := by
  simp only [State.clearFirst]
  split <;> rfl

/-- An uncorrected error that takes its log's first record acts on the endpoint by error vector 256 alone (14 R522, R534). -/
theorem State.pci_logError {n : Nat} (hn : n < 128) (code sub info : Nat) (hunit : s.isFatal (unitOfRecord n code sub info) = false)
    (hvalid : s.rd (ERR_STAT.FIRST_VALID n) = 0) : (s.logError n code 3 sub info).pci = (s.errVector 0).pci := by
  have hcore : (s.logCore n code 3 sub info false).pci = (s.errVector 0).pci := by
    have hcounts : ((s.count (ERR_STAT.TOTAL n)).count (ERR_CNT.UNCORRECTED n)).rd (ERR_STAT.FIRST_VALID n) = 0 ∧
        ((s.count (ERR_STAT.TOTAL n)).count (ERR_CNT.UNCORRECTED n)).rd ERR_IRQ.EN = s.rd ERR_IRQ.EN := by
      simp (disch := (dsimp only at *; omega)) only [State.count, State.rd_wr_other, hvalid, and_self]
    unfold State.logCore
    extract_lets s1 unit
    rw [if_neg (by rw [show s1.isFatal unit = false from hunit]; exact nofun), if_pos hcounts.1, State.pci_firstRecord s1 hn]
    exact State.pci_errVector (u := s1) (s := s) rfl hcounts.2 0
  unfold State.logError
  rw [hvalid]
  simp only [show ((0 : Nat) == 1) = false from rfl, Bool.and_false, Bool.false_and, Bool.false_eq_true, if_false, Nat.reduceEqDiff]
  split
  · exact (State.pci_clearFirst ..).trans hcore
  · exact hcore

theorem State.aer_keeps (s : State) (code fn : Nat) : (s.aer code fn).pci = s.pci ∧ (s.aer code fn).regs = s.regs ∧ (s.aer code fn).err = s.err := by
  unfold State.aer
  extract_lets f
  split
  · exact ⟨rfl, rfl, rfl⟩
  · split <;> exact ⟨rfl, rfl, rfl⟩

/-- An endpoint error that takes the first record of log 6 acts on the endpoint by error vector 256 alone (08 R339). -/
theorem State.pci_pcieError (code fn : Nat) (hunit : s.isFatal .pcie = false) (hvalid : s.rd (ERR_STAT.FIRST_VALID 6) = 0) :
    (s.pcieError code fn).pci = (s.errVector 0).pci := by
  obtain ⟨hpci, hregs, herr⟩ := s.aer_keeps code fn
  have hrd : ∀ f, (s.aer code fn).rd f = s.rd f := fun f => congrArg (fun r => FMap.get f.rst r f.key) hregs
  have hfatal : (s.aer code fn).isFatal .pcie = false := (congrArg (fun e => e.fatal.contains FatalUnit.pcie) herr).trans hunit
  exact (State.pci_logError (by decide) code fn _ hfatal ((hrd _).trans hvalid)).trans (State.pci_errVector hpci (hrd _) 0)

end

/-- Error vector 256 is enabled in ERR_IRQ, MSI-X is enabled for PF0, and its table is as it is after reset: every vector is masked. -/
def maskedErrors : State :=
  { State.reset.wr ERR_IRQ.EN 1 with pci := { fn0 := { msixEn := true } } }

/-- A completion for no request takes the first record of log 6, and error vector 256 is held back (08 R315, R339; 14 R534). -/
theorem readCompletion_pending : ∃ u, exec (.readCompletion 0 .failed) maskedErrors = .next u ∧ u.pci = { fn0 := { msixEn := true }, pend0 := [(256, true)] } :=
  ⟨_, rfl, (State.pci_pcieError 0x13 1 (by decide +kernel) (by decide +kernel)).trans (by decide +kernel)⟩

/-- Refutes O40: an unexpected completion makes an error record, whose vector becomes pending in the PBA while it is masked, so that the endpoint's state changes. -/
theorem not_readsAndRegisters : ¬ Obligations.ReadsAndRegisters := by
  unfold Obligations.ReadsAndRegisters
  intro h
  obtain ⟨hnone, -⟩ := h maskedErrors
  obtain ⟨u, hu, -, hpci, -⟩ := hnone 0 .failed rfl
  obtain ⟨v, hv, hpend⟩ := readCompletion_pending
  obtain rfl : u = v := Host.Outcome.next.inj (hu.symm.trans hv)
  exact absurd (hpci.symm.trans hpend) (by decide +kernel)

/-- Slice 0 is enabled and drains, error vector 259 is enabled in ERR_IRQ, MSI-X is enabled for PF0, and every vector is masked. -/
def maskedWarnings : State :=
  { (State.reset.wr ERR_IRQ.EN 8).wr (SLC_CFG.EN 0) 1 with pci := { fn0 := { msixEn := true } }, hq := { slices := [(0, { st := 1 })] } }

/-- The drain becomes a squash with a warning (08 R329, R331), and error vector 259 is held back (14 R534). -/
theorem pf1Flr_pending : ∃ u, exec .pf1Flr maskedWarnings = .next u ∧ u.pci.pend0 = [(259, true)] :=
  ⟨_, rfl, by decide +kernel⟩

/-- Refutes O41: an FLR of PF1 turns a drain into a squash with a warning (08 R329), whose vector becomes pending in the PBA while it is masked, so that more of the
endpoint's state changes than PF1's FLR. -/
theorem not_functionsAndLink : ¬ Obligations.FunctionsAndLink := by
  unfold Obligations.FunctionsAndLink
  intro h
  obtain ⟨hflr, -⟩ := h maskedWarnings
  obtain ⟨u, hu, hpci, -⟩ := hflr rfl
  obtain ⟨v, hv, hpend⟩ := pf1Flr_pending
  obtain rfl : u = v := Host.Outcome.next.inj (hu.symm.trans hv)
  rw [hpci] at hpend
  exact absurd hpend (by decide +kernel)

end Sys2Proof.Machine

namespace Sys2Proof.Machine
open Sys2Proof

/-! ### A delivery ring that takes the groups that wait for it -/

/-- What a ring keeps while it takes groups: its state, its release index, its floor and its losses. -/
def DlvRing.terms (x : DlvRing) : RState × Nat × Seq × Nat := (x.st, x.rd, x.floor, x.lost)

theorem DlvRing.terms_eq_iff {x : DlvRing} {st : RState} {rd lost : Nat} {floor : Seq} :
    x.terms = (st, rd, floor, lost) ↔ x.st = st ∧ x.rd = rd ∧ x.floor = floor ∧ x.lost = lost := by
  simp only [DlvRing.terms, Prod.mk.injEq]

/-- From `s` to `u` delivery ring `q` took groups on its terms; but for the delivery rings only the interfaces, the endpoint and the free values changed. -/
structure State.pumped (s u : State) (q : Nat) : Prop where
  only : u = { s with hq := { s.hq with dlv := u.hq.dlv }, out := u.out, pci := u.pci, free := u.free }
  terms : (u.dlv q).terms = (s.dlv q).terms

section
variable {s u v : State} {q : Nat}

theorem State.pumped.refl (s : State) (q : Nat) : s.pumped s q := ⟨rfl, rfl⟩

theorem State.pumped.trans (h : s.pumped u q) (h' : u.pumped v q) : s.pumped v q := by
  refine ⟨?_, h'.terms.trans h.terms⟩
  have hv := h'.only
  rw [h.only] at hv
  exact hv

/-- What is sent on an interface, and a free value drawn, leave the rings alone. -/
theorem State.pumped.same (h : s.pumped u q) (hv : v = { u with out := v.out, pci := v.pci, free := v.free }) : s.pumped v q :=
  h.trans ⟨by rw [hv], by rw [hv]; rfl⟩

theorem State.pumped.setDlv (h : s.pumped u q) {x : DlvRing} (hx : x.terms = (u.dlv q).terms) : s.pumped (u.setDlv q x) q :=
  h.trans ⟨rfl, by rw [State.dlv_setDlv_same, hx]⟩

theorem State.pumped.hostWrite (h : s.pumped u q) (sl a : Nat) (d : List Byte) (ro hinted : Bool) : s.pumped (u.hostWrite sl a d ro hinted) q :=
  h.same (by rw [State.onlyOut.hostWrite u sl a d ro hinted])

theorem State.pumped.msix (h : s.pumped u q) (fn n : Nat) : s.pumped (u.msix fn n) q := h.same (by rw [State.msix_only])

theorem State.pumped.writeEntries (h : s.pumped u q) (sl a : Nat) (es : List (List Byte)) : s.pumped (u.writeEntries sl a es) q := by
  unfold State.writeEntries
  extract_lets place w
  have hw : s.pumped w q := List.foldlRecOn (motive := fun v => s.pumped v q) _ _ h fun _ hv _ _ => hv.hostWrite ..
  exact List.foldlRecOn (motive := fun v => s.pumped v q) _ _ hw fun _ hv _ _ => hv.hostWrite ..

theorem State.pumped.dlvIrq (h : s.pumped u q) : s.pumped (u.dlvIrq q) q := by
  unfold State.dlvIrq
  extract_lets x d
  split
  · exact .msix (.setDlv h (by rfl)) ..
  · exact h

theorem State.pumped.writePad (h : s.pumped u q) : s.pumped (u.writePad q) q := by
  unfold State.writePad
  extract_lets x d w wd
  have hw : u.pumped w q := (State.pumped.refl u q).hostWrite ..
  exact (h.trans hw).setDlv hw.terms.symm

/-- A group written into the ring (09 R369, R372) moves its write index and leaves its terms. -/
theorem State.pumped.writeGroup (h : s.pumped u q) (g : Group) : s.pumped (u.writeGroup q g) q := by
  unfold State.writeGroup
  extract_lets d s1 x1 s2 s3 wd x2 x3
  have h1 : s.pumped s1 q := by
    unfold s1; split
    · exact h
    · exact h.writePad
  have h3 : s1.pumped s3 q := by
    have h2 : s1.pumped s2 q := (State.pumped.refl s1 q).writeEntries ..
    unfold s3; split
    · split
      · exact h2.same rfl
      · exact h2
    · exact h2
  have hx : x3.terms = x1.terms := by unfold x3; cases g <;> rfl
  exact ((h1.trans h3).setDlv (hx.trans h3.terms.symm)).dlvIrq

theorem State.pumped.pump (h : s.pumped u q) (n : Nat) : s.pumped (u.pump q n) q := by
  induction n generalizing u with
  | zero => exact h
  | succ n ih =>
    unfold State.pump
    extract_lets x
    split
    · split
      · exact ih (.writeGroup (.setDlv h (by rfl)) _)
      · exact h
    · split
      · exact ih (.writeGroup (.setDlv h (by rfl)) _)
      · exact h
    · exact h

theorem State.pumped.pumpAll (h : s.pumped u q) : s.pumped (u.pumpAll q) q := by
  unfold State.pumpAll
  split
  · exact h.pump _
  · exact h

end

/-! ### Rings that go on -/

/-- From `s` to `u` the mailboxes and the slices' delivery epochs stay as they are. -/
structure State.ringServed (s u : State) : Prop where
  mbox : u.mbox = s.mbox
  epoch : ∀ d : RDesc, u.rd (SLC_STAT.DELIVERY_EPOCH d.slice) = s.rd (SLC_STAT.DELIVERY_EPOCH d.slice)

theorem RDesc.slice_lt (d : RDesc) : d.slice < 256 := Nat.mod_lt _ (by decide)

/-- The acknowledgement of a ring's error record changes the error logs and their vectors alone (14 Table 14-4). -/
theorem State.ackRing_keeps (s : State) (r : Nat) : s.ringServed (s.ackRing r) ∧ (s.ackRing r).hq = s.hq := by
  unfold State.ackRing
  extract_lets c
  split
  · obtain ⟨honly, -⟩ := State.logKept.clearFirst (low := False) s (n := 5) nofun
    obtain ⟨-, hrd⟩ := State.mergeKept.clearFirst s 5
    exact ⟨⟨by rw [honly], fun d => hrd _ (by have := d.slice_lt; unfold belowLogs; dsimp only; omega)⟩, by rw [honly]⟩
  · exact ⟨⟨rfl, fun _ => rfl⟩, rfl⟩

/-- The last steps of a restart: the ring's slice leaves STOPPED and the ring's error record is acknowledged (08 R325; 14 Table 14-4). -/
theorem State.leaveStopped_ackRing (s : State) (n r : Nat) :
    s.ringServed ((s.leaveStopped n).ackRing r) ∧ ((s.leaveStopped n).ackRing r).hq.sub = s.hq.sub ∧ ((s.leaveStopped n).ackRing r).hq.dlv = s.hq.dlv
      ∧ ((s.slc n).st = 3 → (((s.leaveStopped n).ackRing r).slc n).st = 0) := by
  obtain ⟨⟨hmbox, hepoch⟩, hhq⟩ := (s.leaveStopped n).ackRing_keeps r
  have hleave : s.ringServed (s.leaveStopped n) ∧ (s.leaveStopped n).hq.sub = s.hq.sub ∧ (s.leaveStopped n).hq.dlv = s.hq.dlv := by
    unfold State.leaveStopped
    split <;> exact ⟨⟨rfl, fun _ => rfl⟩, rfl, rfl⟩
  obtain ⟨⟨hmbox', hepoch'⟩, hsub, hdlv⟩ := hleave
  refine ⟨⟨hmbox.trans hmbox', fun d => (hepoch d).trans (hepoch' d)⟩, by rw [hhq, hsub], by rw [hhq, hdlv], fun hst => ?_⟩
  rw [State.slc, hhq, State.leaveStopped, if_pos hst]
  exact congrArg SliceRun.st (s.slc_setSlc_same n _)

/-- A restarted delivery ring runs from the index given, and delivers from the floor given (09 R380). -/
theorem State.restartDlv_effect (s : State) (q index : Nat) (p floor : Seq) :
    s.ringServed (s.restartDlv q index p floor) ∧ ((s.restartDlv q index p floor).dlv q).terms = (.run, index, floor, 0) := by
  unfold State.restartDlv
  extract_lets x e s1 s2
  obtain ⟨honly, hterms⟩ := (State.pumped.refl s2 q).pumpAll
  refine ⟨⟨by rw [honly]; rfl, fun d => by rw [honly]; rfl⟩, hterms.trans ?_⟩
  rw [State.dlv_setDlv_same]
  rfl

/-! ### The requests' ring -/

/-- The ring that a request names by its number, and by bit 15 its direction (09 R384). -/
theorem submissionRing_number (r : Fin 32768) : r.val % 32768 = r.val ∧ bitAt r.val 15 = false := by
  have hr := r.isLt
  simp only [bitAt, beq_eq_false_iff_ne]
  omega

theorem deliveryRing_number (r : Fin 32768) : (2 ^ 15 + r.val) % 32768 = r.val ∧ bitAt (2 ^ 15 + r.val) 15 = true := by
  have hr := r.isLt
  simp only [bitAt, beq_iff_eq]
  omega

/-- Whatever becomes of a cursor (09 R381), the response carries the resume point. -/
theorem State.cursorFor_payload (s : State) (q : Nat) (fromStart : Bool) (cursor : Seq) : hasPayload 0x0400 (s.cursorFor q fromStart cursor).1 = true := by
  unfold State.cursorFor
  extract_lets p above
  split
  · rfl
  · split
    · rfl
    · split
      · rfl
      · split
        · rfl
        · split <;> rfl

/-! ### RING_RESTART, RING_STATE and RING_RESUME -/

/-- Submission ring `r`, restarted at an index (09 R379). -/
def State.subRestarted (s : State) (r index : Nat) : State := ((s.restartSub r index).leaveStopped (s.sdesc r).slice).ackRing r

/-- Delivery ring `q`, restarted at an index from a floor (09 R380). -/
def State.dlvRestarted (s : State) (q index : Nat) (p floor : Seq) : State := ((s.restartDlv q index p floor).leaveStopped (s.ddesc q).slice).ackRing q

/-- The response to a restart: the resume point and the delivery epoch of the ring's slice (09 R379, R380). -/
def State.restartRsp (s : State) (d : RDesc) (p : Seq) : List Byte := leBytes 8 p ++ leBytes 4 (s.rd (SLC_STAT.DELIVERY_EPOCH d.slice)) ++ zeros 4

theorem State.ringServed.restartRsp {s u : State} (h : s.ringServed u) (d : RDesc) (p : Seq) : u.restartRsp d p = s.restartRsp d p := by
  rw [State.restartRsp, h.epoch, State.restartRsp]

theorem State.subRestarted_effect (s : State) (r index : Nat) :
    s.ringServed (s.subRestarted r index) ∧ (s.subRestarted r index).sub r = (s.restartSub r index).sub r
      ∧ ((s.slc (s.sdesc r).slice).st = 3 → ((s.subRestarted r index).slc (s.sdesc r).slice).st = 0) := by
  obtain ⟨⟨hmbox, hepoch⟩, hsub, -, hleave⟩ := (s.restartSub r index).leaveStopped_ackRing (s.sdesc r).slice r
  exact ⟨⟨hmbox, hepoch⟩, by rw [State.sub, State.subRestarted, hsub, State.sub], hleave⟩

theorem State.dlvRestarted_effect (s : State) (q index : Nat) (p floor : Seq) :
    s.ringServed (s.dlvRestarted q index p floor) ∧ ((s.dlvRestarted q index p floor).dlv q).terms = (.run, index, floor, 0) := by
  obtain ⟨⟨hmbox, hepoch⟩, -, hdlv, -⟩ := (s.restartDlv q index p floor).leaveStopped_ackRing (s.ddesc q).slice q
  obtain ⟨hserved, hterms⟩ := s.restartDlv_effect q index p floor
  exact ⟨⟨hmbox.trans hserved.mbox, fun d => (hepoch d).trans (hserved.epoch d)⟩, by rw [State.dlv, State.dlvRestarted, hdlv]; exact hterms⟩

section
variable {s : State} {sl : Fin 256} {r : Fin 32768}

theorem State.ownsRing_admin (h : s.sliceAdmin sl = true) (d : RDesc) : (s.served sl).ownsRing sl d = true := by
  rw [State.ownsRing, show (s.served sl).sliceAdmin sl = true from h, Bool.true_or]

/-- A request that is answered, and changes nothing else. -/
theorem State.answer_served_only (s : State) (sl st : Nat) (rsp : List Byte) :
    (s.served sl).answer sl st rsp = { s with mbox := ((s.served sl).answer sl st rsp).mbox } := by
  rw [State.answer_only]
  rfl

/-- A response leaves the rings and the slices alone. -/
theorem State.answer_rings (s : State) (sl st : Nat) (rsp : List Byte) (r : Nat) :
    (s.answer sl st rsp).sub r = s.sub r ∧ (s.answer sl st rsp).dlv r = s.dlv r ∧ (s.answer sl st rsp).slc r = s.slc r := by
  rw [State.answer_only]
  exact ⟨rfl, rfl, rfl⟩

/-- What the served state shows of the rings is what the state shows. -/
theorem State.served_rings (s : State) (sl : Nat) :
    (s.served sl).sdesc = s.sdesc ∧ (s.served sl).ddesc = s.ddesc ∧ (s.served sl).sub = s.sub ∧ (s.served sl).dlv = s.dlv ∧ (s.served sl).slc = s.slc
      ∧ (s.served sl).cursorFor = s.cursorFor ∧ (s.served sl).gone = s.gone ∧ (s.served sl).lowest = s.lowest := ⟨rfl, rfl, rfl, rfl, rfl, rfl, rfl, rfl⟩

theorem ringRestart_submission_eq (hreq : s.request sl 0x0400 16) (hring : s.arg sl 0 2 = r.val) (hflags : s.arg sl 2 2 = 0) (hcursor : s.arg sl 8 8 = 0)
    (hen : (s.sdesc r).en = true) (hdrain : (s.slc (s.sdesc r).slice).st ≠ 1) (hsquash : (s.slc (s.sdesc r).slice).st ≠ 2)
    (hst : (s.sub r).st = .stopped ∨ (s.sub r).st = .error) :
    exec (.ringRestart sl) s = .next (((s.served sl).subRestarted r (s.arg sl 4 4)).answer sl 0
      (((s.served sl).subRestarted r (s.arg sl 4 4)).restartRsp (s.sdesc r) 0)) := by
  obtain ⟨hnum, hdir⟩ := submissionRing_number r
  have hfield : field (s.mb sl).payload 0 2 = r.val := hring
  have hflags' : field (s.mb sl).payload 2 2 = 0 := hflags
  have hcursor' : field (s.mb sl).payload 8 8 = 0 := hcursor
  have hbusy : s.unresumed sl = false := by rw [State.unresumed, hfield, hdir, Bool.and_false]
  have hstopped : ¬((s.sub r).st ≠ .stopped ∧ (s.sub r).st ≠ .error) := by rcases hst with h | h <;> simp [h]
  obtain ⟨hsdesc, -, hsub, -, hslc, -⟩ := s.served_rings sl
  refine (if_neg (by rw [hbusy]; decide)).trans (congrArg _ (State.serve_request hreq _ rfl _ _ _ ?_))
  rw [hfield, hdir, hnum, hflags', hcursor']
  simp only [Bool.false_eq_true, if_false, hsdesc, hsub, hslc, State.ownsRing_admin hreq.2.2.1, hen, hdrain, hsquash, hstopped, ne_eq, not_true_eq_false,
    or_self, and_false, Bool.not_true]
  rfl

/-- RING_RESTART of a submission ring (09 R379). -/
theorem ringRestart_submission (hreq : s.request sl 0x0400 16) (hring : s.arg sl 0 2 = r.val) (hflags : s.arg sl 2 2 = 0) (hcursor : s.arg sl 8 8 = 0)
    (hen : (s.sdesc r).en = true) (hdrain : (s.slc (s.sdesc r).slice).st ≠ 1) (hsquash : (s.slc (s.sdesc r).slice).st ≠ 2)
    (hst : (s.sub r).st = .stopped ∨ (s.sub r).st = .error) :
    ∃ u, exec (.ringRestart sl) s = .next u ∧ (u.sub r).st = .run ∧ (u.sub r).h = s.arg sl 4 4 ∧ (u.sub r).a = s.arg sl 4 4 ∧ (u.sub r).f = s.arg sl 4 4
      ∧ (u.sub r).got = [] ∧ u.answered sl 0 (s.restartRsp (s.sdesc r) 0) ∧ ((s.slc (s.sdesc r).slice).st = 3 → (u.slc (s.sdesc r).slice).st = 0) := by
  obtain ⟨hserved, hsub, hleave⟩ := (s.served sl).subRestarted_effect r (s.arg sl 4 4)
  refine ⟨_, ringRestart_submission_eq hreq hring hflags hcursor hen hdrain hsquash hst, ?_⟩
  rw [(State.answer_rings ..).1, (State.answer_rings ..).2.2, hsub, State.restartSub, State.sub_setSub_same, hserved.restartRsp]
  exact ⟨rfl, rfl, rfl, rfl, rfl, State.answered_answer hreq hserved.mbox 0 _ (.inl rfl), hleave⟩

section
variable (hreq : s.request sl 0x0400 16) (hring : s.arg sl 0 2 = 2 ^ 15 + r.val) (hflags : s.arg sl 2 2 ≤ 1) (hen : (s.ddesc r).en = true)
  (hdrain : (s.slc (s.ddesc r).slice).st ≠ 1) (hsquash : (s.slc (s.ddesc r).slice).st ≠ 2) (hst : (s.dlv r).st = .stopped) (hresumed : s.unresumed sl = false)
  {st : Nat} {p floor : Seq} (hcursor : s.cursorFor r (decide (s.arg sl 2 2 = 1)) (s.arg sl 8 8) = (st, p, floor))
include hreq hring hflags hen hdrain hsquash hst hresumed hcursor

theorem ringRestart_delivery_eq : exec (.ringRestart sl) s = .next (if st = 0x0104 then (s.served sl).answer sl st (s.restartRsp (s.ddesc r) p)
    else ((s.served sl).dlvRestarted r (s.arg sl 4 4) p floor).answer sl st (((s.served sl).dlvRestarted r (s.arg sl 4 4) p floor).restartRsp (s.ddesc r) p)) := by
  obtain ⟨hnum, hdir⟩ := deliveryRing_number r
  have hfield : field (s.mb sl).payload 0 2 = 2 ^ 15 + r.val := hring
  have hflag : bitAt (s.arg sl 2 2) 0 = decide (s.arg sl 2 2 = 1) := by
    obtain h | h := Nat.le_one_iff_eq_zero_or_eq_one.mp hflags <;> rw [h] <;> rfl
  have hcursor' : s.cursorFor r (bitAt (field (s.mb sl).payload 2 2) 0) (field (s.mb sl).payload 8 8) = (st, p, floor) := by
    rw [← hcursor, ← hflag]; rfl
  have hflags' : ¬1 < field (s.mb sl).payload 2 2 := not_lt.mpr hflags
  obtain ⟨-, hddesc, -, hdlv, hslc, hcur, -⟩ := s.served_rings sl
  refine (if_neg (by rw [hresumed]; decide)).trans (congrArg _ ?_)
  rw [State.serve_respond hreq _ rfl, hfield, hdir, hnum]
  simp only [Bool.not_true, Bool.false_eq_true, false_and, if_true, if_false, hddesc, hdlv, hslc, hcur, hcursor', State.ownsRing_admin hreq.2.2.1, hen, hdrain,
    hsquash, hst, hflags', ne_eq, not_true_eq_false, or_self]
  split <;> rfl

/-- RING_RESTART of a delivery ring (09 R380, R381). -/
theorem ringRestart_delivery (hkept : st ≠ 0x0104) :
    ∃ u, exec (.ringRestart sl) s = .next u ∧ (u.dlv r).st = .run ∧ (u.dlv r).rd = s.arg sl 4 4 ∧ (u.dlv r).floor = floor
      ∧ u.answered sl st (s.restartRsp (s.ddesc r) p) := by
  obtain ⟨hserved, hterms⟩ := (s.served sl).dlvRestarted_effect r (s.arg sl 4 4) p floor
  obtain ⟨hrun, hrd, hfloor, -⟩ := DlvRing.terms_eq_iff.mp hterms
  have hpayload := s.cursorFor_payload r (decide (s.arg sl 2 2 = 1)) (s.arg sl 8 8)
  rw [hcursor] at hpayload
  have hexec := ringRestart_delivery_eq hreq hring hflags hen hdrain hsquash hst hresumed hcursor
  rw [if_neg hkept, hserved.restartRsp] at hexec
  refine ⟨_, hexec, ?_⟩
  rw [(State.answer_rings ..).2.1]
  exact ⟨hrun, hrd, hfloor, State.answered_answer hreq hserved.mbox st _ (.inl hpayload)⟩

/-- RING_RESTART below what is still held: the ring stays stopped (09 R381). -/
theorem ringRestart_gone (hgone : st = 0x0104) :
    ∃ u, exec (.ringRestart sl) s = .next u ∧ u = { s with mbox := u.mbox } ∧ u.answered sl st (s.restartRsp (s.ddesc r) p) := by
  have hexec := ringRestart_delivery_eq hreq hring hflags hen hdrain hsquash hst hresumed hcursor
  rw [if_pos hgone] at hexec
  exact ⟨_, hexec, State.answer_served_only .., State.answered_answer hreq rfl st _ (.inl (hgone ▸ rfl))⟩

end

/-- RING_STATE of a submission ring (09 R384). -/
theorem ringState_submission (hreq : s.request sl 0x0401 4) (hzero : s.arg sl 2 2 = 0) (hring : s.arg sl 0 2 = r.val) (hen : (s.sdesc r).en = true) :
    ∃ u, exec (.ringState sl) s = .next u ∧ u = { s with mbox := u.mbox }
      ∧ u.answered sl 0 (leBytes 1 (s.sub r).st.code ++ leBytes 1 (s.sub r).cause ++ zeros 2 ++ leBytes 4 (s.sub r).h ++ leBytes 4 (s.sub r).a ++ zeros 4
        ++ leBytes 8 (s.sub r).last ++ zeros 8) := by
  obtain ⟨hnum, hdir⟩ := submissionRing_number r
  have hfield : field (s.mb sl).payload 0 2 = r.val := hring
  have hzero' : field (s.mb sl).payload 2 2 = 0 := hzero
  obtain ⟨hsdesc, -, hsub, -⟩ := s.served_rings sl
  refine ⟨_, congrArg Host.Outcome.next (State.serve_request hreq _ rfl _ _ _ (s' := s.served sl) (st := 0) ?_), State.answer_served_only .., State.answered_answer hreq rfl 0 _ (.inl rfl)⟩
  rw [hfield, hdir, hnum, hzero']
  simp only [Bool.false_eq_true, if_false, hsdesc, hsub, State.ownsRing_admin hreq.2.2.1, hen, ne_eq, not_true_eq_false, Bool.not_true]

/-- RING_STATE of a delivery ring (09 R384). -/
theorem ringState_delivery (hreq : s.request sl 0x0401 4) (hzero : s.arg sl 2 2 = 0) (hring : s.arg sl 0 2 = 2 ^ 15 + r.val) (hen : (s.ddesc r).en = true) :
    ∃ u, exec (.ringState sl) s = .next u ∧ u = { s with mbox := u.mbox }
      ∧ u.answered sl 0 (leBytes 1 (s.dlv r).st.code ++ zeros 3 ++ leBytes 4 (s.dlv r).wd ++ leBytes 4 (s.dlv r).rd ++ zeros 4 ++ leBytes 8 (s.dlv r).last
        ++ leBytes 8 (s.dlv r).backlogBytes) := by
  obtain ⟨hnum, hdir⟩ := deliveryRing_number r
  have hfield : field (s.mb sl).payload 0 2 = 2 ^ 15 + r.val := hring
  have hzero' : field (s.mb sl).payload 2 2 = 0 := hzero
  obtain ⟨-, hddesc, -, hdlv, -⟩ := s.served_rings sl
  refine ⟨_, congrArg Host.Outcome.next (State.serve_request hreq _ rfl _ _ _ (s' := s.served sl) (st := 0) ?_), State.answer_served_only .., State.answered_answer hreq rfl 0 _ (.inl rfl)⟩
  rw [hfield, hdir, hnum, hzero']
  simp only [Bool.false_eq_true, if_true, if_false, hddesc, hdlv, State.ownsRing_admin hreq.2.2.1, hen, ne_eq, not_true_eq_false, Bool.not_true]

/-- Delivery ring `q` in OVERFLOW goes on (09 R382): it runs, reports what it lost, and delivers from the record after the last it took. -/
def State.dlvResumed (s : State) (q : Nat) : State :=
  let x := s.dlv q
  let s := { s with hq := { s.hq with out := s.hq.out.filter (fun e => e.1 != q || (match e.2 with | .record _ => false | _ => true)) } }
  ((s.setDlv q { x with st := .run, lost := 0, redo := x.redo ++ (.event 2 x.lastTaken x.lost) :: s.above q x.nextTaken }).pumpAll q).ackRing q

theorem State.dlvResumed_effect (s : State) (q : Nat) :
    s.ringServed (s.dlvResumed q) ∧ ((s.dlvResumed q).dlv q).terms = (.run, (s.dlv q).rd, (s.dlv q).floor, 0) := by
  unfold State.dlvResumed
  extract_lets x e s1
  generalize hs2 : s1.setDlv q _ = s2
  obtain ⟨honly, hterms⟩ := (State.pumped.refl s2 q).pumpAll
  obtain ⟨⟨hmbox, hepoch⟩, hhq⟩ := (s2.pumpAll q).ackRing_keeps q
  subst hs2
  refine ⟨⟨by rw [hmbox, honly]; rfl, fun d => by rw [hepoch, honly]; rfl⟩, ?_⟩
  rw [State.dlv, hhq]
  exact hterms.trans (congrArg DlvRing.terms (State.dlv_setDlv_same ..))

section
variable (hreq : s.request sl 0x0402 4) (hring : s.arg sl 0 2 = 2 ^ 15 + r.val) (hzero : s.arg sl 2 2 = 0) (hen : (s.ddesc r).en = true)
  (hst : (s.dlv r).st = .overflow)
include hreq hring hzero hen hst

theorem ringResume_eq : exec (.ringResume sl) s = .next (if s.gone (s.dlv r).lastTaken = true then (s.served sl).answer sl 0x0102 (leBytes 8 s.lowest)
    else ((s.served sl).dlvResumed r).answer sl 0 (leBytes 8 (s.dlv r).lastTaken)) := by
  obtain ⟨hnum, hdir⟩ := deliveryRing_number r
  have hfield : field (s.mb sl).payload 0 2 = 2 ^ 15 + r.val := hring
  have hzero' : field (s.mb sl).payload 2 2 = 0 := hzero
  obtain ⟨-, hddesc, -, hdlv, -, -, hgone, hlowest⟩ := s.served_rings sl
  refine congrArg Host.Outcome.next ?_
  rw [State.serve_respond hreq _ rfl, hfield, hdir, hnum, hzero']
  simp only [Bool.not_true, Bool.false_eq_true, if_true, if_false, hddesc, hdlv, hgone, hlowest, State.ownsRing_admin hreq.2.2.1, hen, hst, ne_eq, not_true_eq_false,
    or_self]
  split <;> rfl

/-- RING_RESUME (09 R382). -/
theorem ringResume_resumes (hkept : s.gone (s.dlv r).lastTaken = false) :
    ∃ u, exec (.ringResume sl) s = .next u ∧ (u.dlv r).st = .run ∧ (u.dlv r).lost = 0 ∧ u.answered sl 0 (leBytes 8 (s.dlv r).lastTaken) := by
  obtain ⟨hserved, hterms⟩ := (s.served sl).dlvResumed_effect r
  obtain ⟨hrun, -, -, hlost⟩ := DlvRing.terms_eq_iff.mp hterms
  have hexec := ringResume_eq hreq hring hzero hen hst
  rw [hkept, if_neg Bool.false_ne_true] at hexec
  refine ⟨_, hexec, ?_⟩
  rw [(State.answer_rings ..).2.1]
  exact ⟨hrun, hlost, State.answered_answer hreq hserved.mbox 0 _ (.inl rfl)⟩

/-- RING_RESUME below what is still held (09 R382). -/
theorem ringResume_gone (hgone : s.gone (s.dlv r).lastTaken = true) :
    ∃ u, exec (.ringResume sl) s = .next u ∧ u = { s with mbox := u.mbox } ∧ u.answered sl 0x0102 (leBytes 8 s.lowest) := by
  have hexec := ringResume_eq hreq hring hzero hen hst
  rw [if_pos hgone] at hexec
  exact ⟨_, hexec, State.answer_served_only .., State.answered_answer hreq rfl _ _ (.inl rfl)⟩

end

end

/-- Settles O46: one lemma for each request and outcome. -/
theorem ringRestartStateResume : Obligations.RingRestartStateResume := by
  unfold Obligations.RingRestartStateResume
  intro s sl r epoch mayStart
  refine ⟨fun hreq hring hflags hcursor ⟨hen, hdrain, hsquash⟩ hst => ringRestart_submission hreq hring hflags hcursor hen hdrain hsquash hst,
    fun st p floor hreq hring hflags ⟨hen, hdrain, hsquash⟩ hst hresumed hcursor => ⟨fun hkept => ?_, fun hgone => ?_⟩,
    fun hreq hzero => ⟨fun hring hen => ringState_submission hreq hzero hring hen, fun hring hen => ringState_delivery hreq hzero hring hen⟩,
    fun hreq hring hzero hen hst => ⟨fun hkept => ringResume_resumes hreq hring hzero hen hst hkept, fun hgone => ringResume_gone hreq hring hzero hen hst hgone⟩⟩
  · exact ringRestart_delivery hreq hring hflags hen hdrain hsquash hst hresumed hcursor hkept
  · exact ringRestart_gone hreq hring hflags hen hdrain hsquash hst hresumed hcursor hgone

end Sys2Proof.Machine

namespace Sys2Proof.Machine
open Sys2Proof

/-! ### Words of an entry -/

theorem field_take {bs : List Byte} {off n k : Nat} (h : off + n ≤ k) : field (bs.take k) off n = field bs off n := by
  rw [field, List.drop_take, List.take_take, min_eq_left (by omega), field]

theorem eLen_bounds (e : List Byte) : 1 ≤ eLen e ∧ eLen e ≤ 16 := by
  have h : bits (field e 0 1) 4 4 < 16 := Nat.mod_lt _ (by decide)
  unfold eLen
  extract_lets n
  split <;> omega

section
variable {e : List Byte} {k : Nat} (hk : 8 ≤ k)
include hk

/-- Word 0 is within the bytes taken (09 R347). -/
theorem eLen_take : eLen (e.take k) = eLen e := by rw [eLen, field_take (by omega), eLen]
theorem eOpc_take : eOpc (e.take k) = eOpc e := field_take (by omega)
theorem eOwn_take : field (e.take k) 0 1 = field e 0 1 := field_take (by omega)
theorem eHi_take : eHi (e.take k) = eHi e := field_take (by omega)
theorem eIndirect_take : eIndirect (e.take k) = eIndirect e := by rw [eIndirect, eOpc_take hk, eHi_take hk, eIndirect]

end

/-! ### Doorbells -/

section
variable {s : State} {r : Fin 32768}

variable (hst : (s.sub r).st = .run) (hdrain : (s.slc (s.sdesc r).slice).st ≠ 1) (hsquash : (s.slc (s.sdesc r).slice).st ≠ 2)
include hst hdrain hsquash

/-- A doorbell of a running ring of a running slice is not discarded (08 R330). -/
theorem State.doorbell_kept : ¬(s.discards (s.sdesc r).slice (s.sub r).st && (s.sdesc r).en) = true := by
  simp [State.discards, hst, hdrain, hsquash]

theorem subTail_eq (v : BitVec 64) : exec (.subTail r v) s = .next (s.tail r (v.toNat % 2 ^ 32)) :=
  congrArg Host.Outcome.next ((if_neg (State.doorbell_kept hst hdrain hsquash)).trans (if_neg (not_not.mpr hst)))

/-- SUB_TAIL of a tail in reach (09 R354). -/
theorem subTail_announces {v : BitVec 64} (hne : v.toNat % 2 ^ 32 ≠ (s.sub r).a) (hreach : idxSub (v.toNat % 2 ^ 32) (s.sub r).a ≤ (s.sdesc r).gran
      ∧ idxSub (v.toNat % 2 ^ 32) (s.sub r).h ≤ (s.sdesc r).gran) :
    ∃ u, exec (.subTail r v) s = .next u ∧ u = { s with hq := { s.hq with sub := u.hq.sub } } ∧ u.sub r = { s.sub r with a := v.toNat % 2 ^ 32 } := by
  have htail : s.tail r (v.toNat % 2 ^ 32) = s.setSub r { s.sub r with a := v.toNat % 2 ^ 32 } := (if_neg hne).trans (if_pos hreach)
  exact ⟨_, (subTail_eq hst hdrain hsquash v).trans (congrArg _ htail), rfl, State.sub_setSub_same ..⟩

/-- SUB_TAIL of a tail out of reach (09 R354). -/
theorem subTail_ignored {v : BitVec 64} (hne : v.toNat % 2 ^ 32 ≠ (s.sub r).a) (hreach : ¬(idxSub (v.toNat % 2 ^ 32) (s.sub r).a ≤ (s.sdesc r).gran
      ∧ idxSub (v.toNat % 2 ^ 32) (s.sub r).h ≤ (s.sdesc r).gran)) :
    ∃ u, exec (.subTail r v) s = .next u ∧ u = { s with regs := u.regs } ∧ s.counted u HQ_CNT1.DB_IGNORED 1 := by
  have htail : s.tail r (v.toNat % 2 ^ 32) = s.count HQ_CNT1.DB_IGNORED := (if_neg hne).trans (if_neg hreach)
  exact ⟨_, (subTail_eq hst hdrain hsquash v).trans (congrArg _ htail), rfl, State.rd_count ..⟩

end

/-! ### PUSH_DATA -/

/-- The words marked as written once `n` bytes at `off` have been, beside those in `m` (09 R357). -/
def pushMask (m off n : Nat) : Nat := (List.range (n / 8)).foldl (fun a i => a ||| 2 ^ (off / 8 + i)) m

theorem bitAt_foldl_or (l : List Nat) (m k i : Nat) : bitAt (l.foldl (fun a j => a ||| 2 ^ (k + j)) m) i = (bitAt m i || l.any (fun j => decide (k + j = i))) := by
  induction l generalizing m with
  | nil => rw [List.foldl_nil, List.any_nil, Bool.or_false]
  | cons j l ih =>
    rw [List.foldl_cons, ih, List.any_cons, bitAt_eq_testBit, bitAt_eq_testBit, Nat.testBit_or, Nat.testBit_two_pow, Bool.or_assoc]

theorem bitAt_pushMask (m : Nat) {off n : Nat} (hoff : off % 8 = 0) (i : Nat) :
    bitAt (pushMask m off n) i = (bitAt m i || (decide (off / 8 ≤ i) && decide (i < (off + n) / 8))) := by
  have hany : (List.range (n / 8)).any (fun j => decide (off / 8 + j = i)) = (decide (off / 8 ≤ i) && decide (i < (off + n) / 8)) := by
    rw [Bool.eq_iff_iff, List.any_eq_true, Bool.and_eq_true, decide_eq_true_iff, decide_eq_true_iff]
    constructor
    · rintro ⟨j, hj, h⟩
      have := List.mem_range.mp hj
      have := of_decide_eq_true h
      omega
    · exact fun h => ⟨i - off / 8, List.mem_range.mpr (by omega), decide_eq_true (by omega)⟩
  rw [pushMask, bitAt_foldl_or, hany]

section
variable {s : State} {r : Fin 32768}

/-- PUSH_DATA of whole words (09 R353, R357). -/
theorem pushData_stores (hst : (s.sub r).st = .run) (hdrain : (s.slc (s.sdesc r).slice).st ≠ 1) (hsquash : (s.slc (s.sdesc r).slice).st ≠ 2) {off : Fin 512}
    {data : List Byte} (hformed : off.val % 8 = 0 ∧ data.length % 8 = 0 ∧ data ≠ [] ∧ off.val + data.length ≤ 512) :
    ∃ u, exec (.pushData r off data) s = .next u ∧ u = { s with hq := { s.hq with sub := u.hq.sub } } ∧ Memory.readBytes (u.sub r).push off data.length = data
      ∧ (u.sub r).a = (s.sub r).a
      ∧ ∀ i, bitAt (u.sub r).pushed i = (bitAt (s.sub r).pushed i || (decide (off.val / 8 ≤ i) && decide (i < (off.val + data.length) / 8))) := by
  let y : SubRing := { s.sub r with push := Memory.writeBytes (s.sub r).push off data, pushed := pushMask (s.sub r).pushed off data.length }
  have hexec : exec (.pushData r off data) s = .next (s.setSub r y) := congrArg Host.Outcome.next ((if_pos hformed).trans (if_neg (State.doorbell_kept hst hdrain hsquash)))
  refine ⟨_, hexec, rfl, ?_⟩
  rw [State.sub_setSub_same]
  exact ⟨Memory.readBytes_writeBytes .., rfl, bitAt_pushMask _ hformed.1⟩

/-- PUSH_DATA of anything else (09 R353). -/
theorem pushData_bad {off : Fin 512} {data : List Byte} (hformed : ¬(off.val % 8 = 0 ∧ data.length % 8 = 0 ∧ data ≠ [] ∧ off.val + data.length ≤ 512)) :
    ∃ u, exec (.pushData r off data) s = .next u ∧ u = { s with regs := u.regs } ∧ s.counted u HQ_CNT1.DB_BAD_WRITE 1 :=
  ⟨_, congrArg Host.Outcome.next (if_neg hformed), rfl, State.rd_count ..⟩

end

/-! ### The entry at a ring's head -/

/-- A ring's place: its receive index, its announced tail, and the entries that have been given a number. -/
def SubRing.place (x : SubRing) : Nat × Nat × Nat := (x.h, x.a, x.count)

theorem SubRing.place_eq_iff {x : SubRing} {h a n : Nat} : x.place = (h, a, n) ↔ x.h = h ∧ x.a = a ∧ x.count = n := by
  simp only [SubRing.place, Prod.mk.injEq]

theorem State.sub_produce (s : State) (q : Nat) (g : Group) (r : Nat) : (s.produce q g).sub r = s.sub r := rfl

/-- FENCE_DONE of the fences at a ring's front leaves its place. -/
theorem State.fences_place (s : State) (r n : Nat) : ((s.fences r n).sub r).place = (s.sub r).place := by
  induction n generalizing s with
  | zero => rfl
  | succ n ih =>
    unfold State.fences
    extract_lets x
    split
    · split
      · rw [ih, State.sub_produce, State.sub_setSub_same]
        rfl
      · rfl
    · rfl

/-- A completion leaves the ring's place. -/
theorem State.complete_place (s : State) (r entry : Nat) (g : Group) : ((s.complete r entry g).sub r).place = (s.sub r).place := by
  unfold State.complete State.fenceAll
  extract_lets x
  split
  · rw [State.fences_place, State.sub_produce, State.sub_setSub_same]
    rfl
  · rfl

/-- The entry `e` at the head of ring `r` has arrived and been returned, where a return is due (09 R355, R356); it is refused, or still to be accepted. -/
def State.passHead (s : State) (r : Nat) (e : List Byte) (refused : Bool) : State :=
  let x := s.sub r
  let d := s.sdesc r
  let opn : OpenEntry := { entry := x.count, fence := eOpc e == 3 && !refused, index := x.h, tag := eTag e, stamp := s.nowStamp }
  let x' := { x with h := idxAdd x.h (eLen e), got := x.got.drop (32 * eLen e), count := x.count + 1, indirect := none, indData := none, retries := 0,
                     reserved := x.reserved - eLen e, open_ := if d.cls = 2 then x.open_ else x.open_ ++ [opn] }
  let t := (s.setSub r x').count HQ_CNT0.ARRIVED
  if d.cls ≠ 2 then t.returnEntry r x.h e else if !refused then t else t.returnThread r x.h e

/-- What `passHead` changes: the ring, the count of arrivals, and what is sent. -/
structure State.headPassed (s u : State) (r : Nat) (e : List Byte) : Prop where
  only : u = { s with regs := (s.count HQ_CNT0.ARRIVED).regs, hq := { s.hq with sub := u.hq.sub }, out := u.out }
  place : (u.sub r).place = (idxAdd (s.sub r).h (eLen e), (s.sub r).a, (s.sub r).count + 1)

theorem State.passHead_effect (s : State) (r : Nat) (e : List Byte) (refused : Bool) : s.headPassed (s.passHead r e refused) r e := by
  unfold State.passHead
  extract_lets x d opn x' t
  have ht : s.headPassed t r e := ⟨rfl, congrArg SubRing.place (s.sub_setSub_same r x')⟩
  have hreturn : s.headPassed (t.returnEntry r x.h e) r e := by
    have hout := State.onlyOut.returnEntry t r x.h e
    exact ⟨by rw [hout]; rfl, by rw [hout]; exact ht.place⟩
  split
  · exact hreturn
  · split
    · exact ht
    · unfold State.returnThread
      extract_lets y
      split
      · exact hreturn
      · refine ⟨rfl, ?_⟩
        rw [State.sub_setSub_same]
        exact ht.place

section
variable {s u : State} {r : Nat} {e : List Byte}

theorem State.headPassed.arrived (h : s.headPassed u r e) : s.counted u HQ_CNT0.ARRIVED 1 := by
  rw [State.counted, h.only]
  exact State.rd_count ..

theorem State.headPassed.rd_other (h : s.headPassed u r e) {f : Fld} (hf : f.key ≠ HQ_CNT0.ARRIVED.key) : u.rd f = s.rd f := by
  rw [h.only]
  exact State.rd_wr_other s _ hf

theorem State.headPassed.nowStamp (h : s.headPassed u r e) : u.nowStamp = s.nowStamp := by
  rw [State.nowStamp, h.rd_other (by decide), h.only, State.nowStamp]

theorem State.arrive_refused (s : State) (r : Nat) (e data : List Byte) (c : Nat) : s.arrive r e data (some c) =
    if (s.sdesc r).cls = 2 then (s.passHead r e true).count HQ_CNT0.REFUSED
    else ((s.passHead r e true).count HQ_CNT0.REFUSED).complete r (s.sub r).count (.done 0x92 (c + eOpc e * 256) (eTag e) (s.sub r).h s.nowStamp r) := rfl

theorem State.arrive_accepted (s : State) (r : Nat) (e data : List Byte) :
    s.arrive r e data none = (s.passHead r e false).accept r (s.sub r).h e data (s.sub r).count := rfl

/-- A refused entry is counted, and its refusal goes to the ring's delivery ring (09 R351). -/
theorem State.arrive_refused_effect (s : State) (r : Nat) (e data : List Byte) (c : Nat) :
    ((s.arrive r e data (some c)).sub r).place = (idxAdd (s.sub r).h (eLen e), (s.sub r).a, (s.sub r).count + 1)
      ∧ s.counted (s.arrive r e data (some c)) HQ_CNT0.ARRIVED 1 ∧ s.counted (s.arrive r e data (some c)) HQ_CNT0.REFUSED 1
      ∧ (s.arrive r e data (some c)).merge = s.merge ∧ (s.arrive r e data (some c)).blk = s.blk := by
  have h := s.passHead_effect r e true
  rw [State.arrive_refused]
  generalize s.passHead r e true = v at h ⊢
  generalize hu : (if (s.sdesc r).cls = 2 then _ else _) = u
  have hkept : u = { v.count HQ_CNT0.REFUSED with hq := u.hq } ∧ (u.sub r).place = (v.sub r).place := by
    rw [← hu]
    split
    · exact ⟨rfl, rfl⟩
    · exact ⟨State.complete_only .., State.complete_place ..⟩
  obtain ⟨honly, hplace⟩ := hkept
  have hregs : ∀ f, u.rd f = (v.count HQ_CNT0.REFUSED).rd f := fun f => by rw [honly]; rfl
  refine ⟨hplace.trans h.place, ?_, ?_, by rw [honly, h.only]; rfl, by rw [honly, h.only]; rfl⟩
  · rw [State.counted, hregs, State.count, State.rd_wr_other _ _ (by decide)]
    exact h.arrived
  · rw [State.counted, hregs, State.rd_count, h.rd_other (by decide)]

/-- An inline CTRL entry of a HOSTLANE ring becomes a host-lane record (09 R348, R355). -/
theorem State.arrive_ctrl_effect {data : List Byte} (hcls : (s.sdesc r).cls = 0) (hopc : eOpc e = 1) :
    ((s.arrive r e data none).sub r).place = (idxAdd (s.sub r).h (eLen e), (s.sub r).a, (s.sub r).count + 1)
      ∧ s.counted (s.arrive r e data none) HQ_CNT0.ARRIVED 1
      ∧ (s.arrive r e data none).merge.host = insertHost (ctrlRec (s.sdesc r).slice r (s.sub r).count s.nowStamp e data) s.merge.host := by
  have h := s.passHead_effect r e false
  rw [State.arrive_accepted]
  generalize s.passHead r e false = v at h ⊢
  have hdesc : v.sdesc r = s.sdesc r := by rw [h.only]; rfl
  have haccept : v.accept r (s.sub r).h e data (s.sub r).count = v.offerHost (ctrlRec (s.sdesc r).slice r (s.sub r).count s.nowStamp e data) := by
    unfold State.accept
    extract_lets d st
    have hd : d = s.sdesc r := hdesc
    have hst : st = s.nowStamp := h.nowStamp
    rw [hd, hst, hcls, hopc]
    rfl
  rw [haccept]
  refine ⟨h.place, h.arrived, ?_⟩
  show insertHost _ v.merge.host = _
  rw [h.only]

/-- Ring `r` runs and its head entry is whole: its bytes are in the device, its OWN bit is set, it is no PAD and it ends within the ring (09 R347, R355). -/
structure State.headWhole (s : State) (r : Nat) : Prop where
  st : (s.sub r).st = .run
  refetch : (s.sub r).refetch = false
  len : 32 * eLen (s.sub r).got ≤ (s.sub r).got.length
  own : bitAt (field (s.sub r).got 0 1) 0 = true
  opc : eOpc (s.sub r).got ≠ 0
  fits : (s.sub r).h % (s.sdesc r).gran + eLen (s.sub r).got ≤ (s.sdesc r).gran

/-- The bytes of the head entry. -/
def SubRing.head (x : SubRing) : List Byte := x.got.take (32 * eLen x.got)

theorem SubRing.eLen_head (x : SubRing) : eLen x.head = eLen x.got := eLen_take (by have := eLen_bounds x.got; omega)

/-- A whole entry meets none of the cases in which the ring waits, reads again or fails (09 R343, R360, R361). -/
theorem State.headWhole.checks (h : s.headWhole r) : ¬((s.sub r).st ≠ .run ∨ (s.sub r).got.length < 8 ∨ (s.sub r).refetch = true)
    ∧ ¬(!bitAt (field (s.sub r).got 0 1) 0) = true ∧ ¬(s.sdesc r).gran < (s.sub r).h % (s.sdesc r).gran + eLen (s.sub r).got
    ∧ ¬(s.sub r).got.length < 32 * eLen (s.sub r).got := by
  have hlen := h.len
  have := eLen_bounds (s.sub r).got
  refine ⟨?_, by rw [h.own]; decide, not_lt.mpr h.fits, not_lt.mpr hlen⟩
  rintro (hst | hshort | hagain)
  · exact hst h.st
  · omega
  · exact Bool.false_ne_true (h.refetch.symm.trans hagain)

/-- A whole head entry that is refused arrives at once (09 R351). -/
theorem State.headEntry_refused (h : s.headWhole r) {c : Nat} (hc : s.refuse r (s.sub r).head = some c) :
    s.headEntry r = s.arrive r (s.sub r).head [] (some c) := by
  obtain ⟨hruns, hown, hfits, hlen⟩ := h.checks
  have hc' : s.refuse r ((s.sub r).got.take (32 * eLen (s.sub r).got)) = some c := hc
  unfold State.headEntry
  extract_lets x d e e'
  rw [if_neg hruns, if_neg hown, if_neg h.opc, if_neg hfits, if_neg hlen, hc']
  rfl

/-- A whole head entry that is accepted and carries its data arrives (09 R355). -/
theorem State.headEntry_inline (h : s.headWhole r) (hc : s.refuse r (s.sub r).head = none) (hin : eIndirect (s.sub r).head = false) :
    s.headEntry r = s.arrive r (s.sub r).head (inlineData (s.sub r).head) none := by
  obtain ⟨hruns, hown, hfits, hlen⟩ := h.checks
  have hc' : s.refuse r ((s.sub r).got.take (32 * eLen (s.sub r).got)) = none := hc
  have hin' : ¬((s.sdesc r).cls = 0 ∧ eOpc (s.sub r).head ≠ 3 ∧ eIndirect (s.sub r).head = true ∧ 0 < eDataLen (s.sub r).head) := by rw [hin]; simp
  unfold State.headEntry
  extract_lets x d e e'
  rw [if_neg hruns, if_neg hown, if_neg h.opc, if_neg hfits, if_neg hlen, hc']
  exact if_neg hin'

end

/-! ### ENTRY_ARRIVE -/

section
variable {s : State} {r : Fin 32768}

/-- ENTRY_ARRIVE of an inline CTRL entry (09 R348, R355). -/
theorem entryArrive_ctrl (h : s.headWhole r) (hc : s.refuse r (s.sub r).head = none) (hcls : (s.sdesc r).cls = 0) (hopc : eOpc (s.sub r).head = 1)
    (hin : eIndirect (s.sub r).head = false) :
    ∃ u, exec (.entryArrive r) s = .next u ∧ ((u.sub r).h = idxAdd (s.sub r).h (eLen (s.sub r).got) ∧ (u.sub r).count = (s.sub r).count + 1
        ∧ s.counted u HQ_CNT0.ARRIVED 1)
      ∧ u.merge.host = insertHost (ctrlRec (s.sdesc r).slice r (s.sub r).count s.nowStamp (s.sub r).head (inlineData (s.sub r).head)) s.merge.host := by
  obtain ⟨hplace, harrived, hhost⟩ := State.arrive_ctrl_effect (data := inlineData (s.sub r).head) hcls hopc
  obtain ⟨hh, -, hcount⟩ := SubRing.place_eq_iff.mp hplace
  rw [SubRing.eLen_head] at hh
  exact ⟨_, congrArg Host.Outcome.next (State.headEntry_inline h hc hin), ⟨hh, hcount, harrived⟩, hhost⟩

/-- ENTRY_ARRIVE of a refused entry (09 R351). -/
theorem entryArrive_refused (h : s.headWhole r) {c : Nat} (hc : s.refuse r (s.sub r).head = some c) :
    ∃ u, exec (.entryArrive r) s = .next u ∧ ((u.sub r).h = idxAdd (s.sub r).h (eLen (s.sub r).got) ∧ (u.sub r).count = (s.sub r).count + 1
        ∧ s.counted u HQ_CNT0.ARRIVED 1) ∧ s.counted u HQ_CNT0.REFUSED 1 ∧ u.merge = s.merge ∧ u.blk = s.blk := by
  obtain ⟨hplace, harrived, hrefused, hmerge, hblk⟩ := s.arrive_refused_effect r (s.sub r).head [] c
  obtain ⟨hh, -, hcount⟩ := SubRing.place_eq_iff.mp hplace
  rw [SubRing.eLen_head] at hh
  exact ⟨_, congrArg Host.Outcome.next (State.headEntry_refused h hc), ⟨hh, hcount, harrived⟩, hrefused, hmerge, hblk⟩

section
variable (hst : (s.sub r).st = .run) (hrefetch : (s.sub r).refetch = false) (hlen : 8 ≤ (s.sub r).got.length) (hown : bitAt (field (s.sub r).got 0 1) 0 = false)
include hst hrefetch hlen hown

theorem entryArrive_unowned_eq : exec (.entryArrive r) s = .next (if s.rd HQ_CFG.RETRY_MAX ≤ (s.sub r).retries then s.ringError r 2 (s.sub r).h
    else (s.dropReads r).setSub r { s.sub r with refetch := true, readAt := s.ticks, got := [], f := (s.sub r).h, grants := 0, reserved := 0 }) := by
  have hruns : ¬((s.sub r).st ≠ .run ∨ (s.sub r).got.length < 8 ∨ (s.sub r).refetch = true) := by
    rw [hst, hrefetch]
    simpa using hlen
  exact congrArg Host.Outcome.next ((if_neg hruns).trans (if_pos (by rw [hown]; rfl)))

/-- ENTRY_ARRIVE of an entry without its OWN bit, which is to be read again (09 R360). -/
theorem entryArrive_discards (hretry : (s.sub r).retries < s.rd HQ_CFG.RETRY_MAX) : ∃ u, exec (.entryArrive r) s = .next u
    ∧ u.sub r = { s.sub r with refetch := true, readAt := s.ticks, got := [], f := (s.sub r).h, grants := 0, reserved := 0 } ∧ u.regs = s.regs
    ∧ u.merge = s.merge ∧ u.out = s.out := by
  have hexec := entryArrive_unowned_eq hst hrefetch hlen hown
  rw [if_neg (Nat.not_le.mpr hretry)] at hexec
  exact ⟨_, hexec, State.sub_setSub_same .., rfl, rfl, rfl⟩

/-- ENTRY_ARRIVE of an entry whose OWN bit stays clear: the ring enters ERROR with OWN_LATE (09 R360). -/
theorem entryArrive_late (hretry : s.rd HQ_CFG.RETRY_MAX ≤ (s.sub r).retries) :
    ∃ u, exec (.entryArrive r) s = .next u ∧ (u.sub r).st = .error ∧ (u.sub r).cause = 2 ∧ (u.sub r).h = (s.sub r).h := by
  have hexec := entryArrive_unowned_eq hst hrefetch hlen hown
  rw [if_pos hretry] at hexec
  refine ⟨_, hexec, ?_⟩
  unfold State.ringError
  extract_lets x v
  obtain ⟨honly, -⟩ := State.logKept.logError (low := False) (v.dropReads r) (n := 5) nofun (0x0500 + 2) 3 0 (r + (s.sub r).h * 2 ^ 32) false nofun nofun
  have hsub : ((v.dropReads r).logError 5 (0x0500 + 2) 3 0 (r + (s.sub r).h * 2 ^ 32)).sub r = v.sub r := by rw [honly]; rfl
  rw [hsub, State.sub_setSub_same]
  exact ⟨rfl, rfl, rfl⟩

end

/-- REFETCH when RETRY_NS has passed (09 R360). -/
theorem refetch_reads (hst : (s.sub r).st = .run) (hrefetch : (s.sub r).refetch = true) (hdue : (s.sub r).readAt + nsTicks (s.rd HQ_CFG.RETRY_NS) ≤ s.ticks) :
    ∃ u, exec (.refetch r) s = .next u ∧ u.sub r = { s.sub r with refetch := false, retries := (s.sub r).retries + 1 } ∧ s.counted u HQ_CNT1.REFETCH 1
      ∧ u.pci = s.pci := by
  have hwaits : ¬((s.sub r).st ≠ .run ∨ (!(s.sub r).refetch) = true ∨ s.ticks < (s.sub r).readAt + nsTicks (s.rd HQ_CFG.RETRY_NS)) := by
    rw [hst, hrefetch]
    simpa using hdue
  exact ⟨_, if_neg hwaits, State.sub_setSub_same .., State.rd_count .., rfl⟩

end

/-! ### Device reads -/

/-- What a read is for, and the slice it is read for. -/
def HostRead.aim (h : HostRead) : Purpose × Nat := (h.purpose, h.slice)

/-- From `s` to `u` only what the endpoint sends and its reads changed, and these keep their aims. -/
structure State.readsKept (s u : State) : Prop where
  only : u = { s with pci := u.pci, out := u.out }
  aims : u.pci.reads.map HostRead.aim = s.pci.reads.map HostRead.aim

theorem State.readsKept.refl (s : State) : s.readsKept s := ⟨rfl, rfl⟩

theorem State.readsKept.trans {s u v : State} (h : s.readsKept u) (h' : u.readsKept v) : s.readsKept v := by
  refine ⟨?_, h'.aims.trans h.aims⟩
  have hv := h'.only
  rw [h.only] at hv
  exact hv

/-- An element replaced by one with the same image leaves the images as they are. -/
theorem map_set_same {α β : Type} {f : α → β} {l : List α} {i : Nat} {a b : α} (h : l[i]? = some a) (hf : f b = f a) : (l.set i b).map f = l.map f := by
  obtain ⟨hi, rfl⟩ := List.getElem?_eq_some_iff.mp h
  rw [List.map_set, hf, ← List.getElem_map f (h := by simpa using hi), List.set_getElem_self]

theorem State.readsKept.issueReqs (s : State) (i n : Nat) : s.readsKept (s.issueReqs i n) := by
  induction n generalizing s with
  | zero => exact .refl s
  | succ n ih =>
    unfold State.issueReqs
    split
    · exact .refl s
    next h hread =>
      split
      · exact .refl s
      · split
        · exact .refl s
        · extract_lets h' q p v
          exact .trans ⟨rfl, map_set_same (f := HostRead.aim) (b := h') hread rfl⟩ (ih _)

theorem State.readsKept.issueReads (s : State) : s.readsKept s.issueReads := by
  unfold State.issueReads
  split
  · exact .refl s
  · exact List.foldlRecOn (motive := fun v => s.readsKept v) _ _ (.refl s) fun v hv i _ => hv.trans (.issueReqs v i _)

/-- A read of host memory is asked for (08 R311): the endpoint holds it, and nothing else changes but what the endpoint sends. -/
theorem State.askRead_effect (s : State) (p : Purpose) (sl a n : Nat) :
    s.askRead p sl a n = { s with pci := (s.askRead p sl a n).pci, out := (s.askRead p sl a n).out }
      ∧ ∃ h ∈ (s.askRead p sl a n).pci.reads, h.purpose = p ∧ h.slice = sl := by
  unfold State.askRead
  extract_lets q e
  obtain ⟨honly, haims⟩ := State.readsKept.issueReads { s with pci := { e with reads := e.reads ++ [q] } }
  refine ⟨honly, ?_⟩
  have hmem : (p, sl) ∈ (e.reads ++ [q]).map HostRead.aim := List.mem_map_of_mem (f := HostRead.aim) (a := q) (List.mem_append_right _ List.mem_cons_self)
  rw [← haims] at hmem
  obtain ⟨h, hh, haim⟩ := List.mem_map.mp hmem
  exact ⟨h, hh, congrArg (·.1) haim, congrArg (·.2) haim⟩

/-- FETCH_GRANT of the ring that the arbiter names (09 R358, R362). -/
theorem fetchGrant_reads {s : State} {r left : Nat} (hgrant : s.nextGrant = some (r, left)) :
    ∃ u, exec .fetchGrant s = .next u ∧ (u.sub r).f = idxAdd (s.sub r).f (s.grantSize r) ∧ (u.sub r).grants = (s.sub r).grants + 1 ∧ u.hq.arbRing = r
      ∧ u.hq.arbLeft = left - 1 ∧ ∃ h ∈ u.pci.reads, h.purpose = .grant r (s.sub r).f (s.grantSize r) ∧ h.slice = (s.sdesc r).slice := by
  let d := s.sdesc r
  let x := s.sub r
  let n := s.grantSize r
  let y : SubRing := { x with f := idxAdd x.f n, grants := x.grants + 1, reserved := if d.cls = 0 ∧ d.gated then x.reserved + n else x.reserved }
  let v := { s with hq := { s.hq with arbRing := r, arbLeft := left - 1 } }.setSub r y
  let len := 32 * n + if d.ahead && n == s.unread r && (x.f + n) % d.gran != 0 then 8 else 0
  have hexec : exec .fetchGrant s = .next (v.askRead (.grant r x.f n) d.slice (d.addr x.f) len) := by
    show execFetchGrant s = _
    rw [execFetchGrant, hgrant]
  obtain ⟨honly, hread⟩ := v.askRead_effect (.grant r x.f n) d.slice (d.addr x.f) len
  have hring : (v.askRead (.grant r x.f n) d.slice (d.addr x.f) len).sub r = y := by rw [honly]; exact State.sub_setSub_same ..
  exact ⟨_, hexec, congrArg SubRing.f hring, congrArg SubRing.grants hring, by rw [honly]; rfl, by rw [honly]; rfl, hread⟩

/-- AHEAD_POLL at its interval (09 R359). -/
theorem aheadPoll_reads {s : State} {r : Fin 32768} (hruns : s.ringRuns r = true) (hen : (s.sdesc r).en = true) (hahead : (s.sdesc r).ahead = true)
    (hroom : s.mayReceive r 1 = true) (hunread : s.unread r = 0) (hgrants : (s.sub r).grants = 0) (hpolling : (s.sub r).polling = false)
    (hrefetch : (s.sub r).refetch = false) (hdue : ∀ t, (s.sub r).polledAt = some t → t + nsTicks (bits (s.sdesc r).w2 11 16) ≤ s.ticks) :
    ∃ u, exec (.aheadPoll r) s = .next u ∧ u.sub r = { s.sub r with polling := true }
      ∧ ∃ h ∈ u.pci.reads, h.purpose = .poll r (s.sub r).h ∧ h.slice = (s.sdesc r).slice := by
  have hinterval : (s.sub r).polledAt.elim true (fun t => decide (t + nsTicks (bits (s.sdesc r).w2 11 16) ≤ s.ticks)) = true := by
    cases hp : (s.sub r).polledAt with
    | none => rfl
    | some t => exact decide_eq_true (hdue t hp)
  let v := s.setSub r { s.sub r with polling := true }
  have hexec : exec (.aheadPoll r) s = .next (v.askRead (.poll r (s.sub r).h) (s.sdesc r).slice ((s.sdesc r).addr (s.sub r).h) 8) := by
    refine if_pos ?_
    simp only [hruns, hen, hahead, hroom, hunread, hgrants, hpolling, hrefetch, hinterval, beq_self_eq_true, Bool.not_false, Bool.and_self]
  obtain ⟨honly, hread⟩ := v.askRead_effect (.poll r (s.sub r).h) (s.sdesc r).slice ((s.sdesc r).addr (s.sub r).h) 8
  refine ⟨_, hexec, ?_, hread⟩
  rw [honly]
  exact State.sub_setSub_same ..

/-! ### PUSH_GO -/

/-- The pushed entry `e` at index `i` stands at the head of ring `r`, and a poll's result is dropped (09 R357). -/
def State.pushHead (s : State) (r i : Nat) (e : List Byte) : State :=
  let x := s.sub r
  let d := s.sdesc r
  (if x.polling then s.dropReads r else s).setSub r
    { x with a := idxAdd i (eLen e), f := idxAdd i (eLen e), got := e, polling := false,
             reserved := if d.cls = 0 ∧ d.gated then x.reserved + eLen e else x.reserved }

/-- What the page holds of a push is cleared (09 R357). -/
def State.clearPush (s : State) (r : Nat) : State := s.setSub r { s.sub r with push := [], pushed := 0 }

theorem State.clearPush_effect (s : State) (r : Nat) : ((s.clearPush r).sub r).place = (s.sub r).place ∧ ((s.clearPush r).sub r).pushed = 0
    ∧ (s.clearPush r).regs = s.regs ∧ (s.clearPush r).merge = s.merge := by
  rw [State.clearPush, State.sub_setSub_same]
  exact ⟨rfl, rfl, rfl, rfl⟩

/-- A push that is taken stands at the ring's receive index, and the ring does not wait to read again (09 R357). -/
theorem State.pushTaken_place {s : State} {r i : Nat} {e : List Byte} (h : s.pushTaken r i e = true) : i = (s.sub r).h ∧ (s.sub r).refetch = false := by
  simp only [State.pushTaken, Bool.and_eq_true, beq_iff_eq, Bool.not_eq_true'] at h
  obtain ⟨⟨⟨⟨⟨⟨⟨⟨-, hindex⟩, -⟩, -⟩, hrefetch⟩, -⟩, -⟩, -⟩, -⟩ := h
  exact ⟨hindex, hrefetch⟩

section
variable {s : State} {r : Fin 32768} {e : List Byte} {i : Nat}

/-- Placing the pushed entry changes the ring, and the reads that are dropped. -/
theorem State.pushHead_only (s : State) (r i : Nat) (e : List Byte) :
    s.pushHead r i e = { s with hq := { s.hq with sub := (s.pushHead r i e).hq.sub }, pci := (s.pushHead r i e).pci } := by
  unfold State.pushHead
  extract_lets x d
  split <;> rfl

theorem State.pushHead_kept (s : State) (r i : Nat) (e e' : List Byte) :
    (s.pushHead r i e).sdesc r = s.sdesc r ∧ (s.pushHead r i e).nowStamp = s.nowStamp ∧ (s.pushHead r i e).refuse r e' = s.refuse r e' := by
  rw [State.pushHead_only]
  exact ⟨rfl, rfl, rfl⟩

theorem State.pushHead_sub (s : State) (r i : Nat) (e : List Byte) : ((s.pushHead r i e).sub r).st = (s.sub r).st
    ∧ ((s.pushHead r i e).sub r).refetch = (s.sub r).refetch ∧ ((s.pushHead r i e).sub r).got = e
    ∧ ((s.pushHead r i e).sub r).place = ((s.sub r).h, idxAdd i (eLen e), (s.sub r).count) := by
  rw [State.pushHead, State.sub_setSub_same]
  exact ⟨rfl, rfl, rfl, rfl⟩

theorem pushGo_eq {v : BitVec 64} (hst : (s.sub r).st = .run) (hdrain : (s.slc (s.sdesc r).slice).st ≠ 1) (hsquash : (s.slc (s.sdesc r).slice).st ≠ 2)
    (he : Memory.readBytes (s.sub r).push 0 512 = e) (hfirst : bitAt (s.sub r).pushed 0 = true) (htaken : s.pushTaken r (v.toNat % 2 ^ 32) e = true) :
    exec (.pushGo r v) s = .next (((s.pushHead r (v.toNat % 2 ^ 32) (e.take (32 * eLen e))).headEntry r).clearPush r) := by
  have hpush : ¬((s.sub r).st ≠ .run ∨ (!bitAt (s.sub r).pushed 0) = true) := by rw [hst, hfirst]; decide
  subst he
  exact congrArg Host.Outcome.next ((if_neg (not_or.mpr ⟨hdrain, hsquash⟩)).trans ((if_neg hpush).trans (if_pos htaken)))

/-- An inline CTRL entry of the whole bytes `e`, pushed at the ring's receive index, becomes a host-lane record in its place (09 R348, R357). -/
theorem State.pushHead_ctrl {s : State} {r i : Nat} {e : List Byte} (hst : (s.sub r).st = .run) (hrefetch : (s.sub r).refetch = false)
    (hlen : e.length = 32 * eLen e) (hown : bitAt (field e 0 1) 0 = true) (hopc : eOpc e = 1) (hfits : (s.sub r).h % (s.sdesc r).gran + eLen e ≤ (s.sdesc r).gran)
    (hcls : (s.sdesc r).cls = 0) (hin : eIndirect e = false) (hc : s.refuse r e = none) :
    (((s.pushHead r i e).headEntry r).sub r).place = (idxAdd (s.sub r).h (eLen e), idxAdd i (eLen e), (s.sub r).count + 1)
      ∧ s.counted ((s.pushHead r i e).headEntry r) HQ_CNT0.ARRIVED 1
      ∧ ((s.pushHead r i e).headEntry r).merge.host
        = insertHost (ctrlRec (s.sdesc r).slice r (s.sub r).count s.nowStamp e (inlineData e)) s.merge.host := by
  obtain ⟨hdesc, hstamp, hrefuse⟩ := s.pushHead_kept r i e e
  obtain ⟨hst', hrefetch', hgot, hplace⟩ := s.pushHead_sub r i e
  have hmerge : (s.pushHead r i e).merge = s.merge := by rw [State.pushHead_only]
  have hcount : s.counted = (s.pushHead r i e).counted := by rw [State.pushHead_only]; rfl
  generalize s.pushHead r i e = t at *
  obtain ⟨hh, ha, hn⟩ := SubRing.place_eq_iff.mp hplace
  have hhead : (t.sub r).head = e := by rw [SubRing.head, hgot, ← hlen, List.take_length]
  have hwhole : t.headWhole r := by
    refine ⟨hst'.trans hst, hrefetch'.trans hrefetch, ?_, ?_, ?_, ?_⟩
    · rw [hgot, hlen]
    · rw [hgot]; exact hown
    · rw [hgot, hopc]; decide
    · rw [hh, hdesc, hgot]; exact hfits
  have harrive := State.headEntry_inline hwhole (by rw [hhead, hrefuse, hc]) (by rw [hhead, hin])
  rw [hhead] at harrive
  rw [harrive, hcount, ← hh, ← ha, ← hn, ← hdesc, ← hstamp, ← hmerge]
  exact State.arrive_ctrl_effect (by rw [hdesc, hcls]) hopc

/-- PUSH_GO of a whole inline CTRL entry that the ring takes (09 R348, R357). -/
theorem pushGo_ctrl {v : BitVec 64} (hst : (s.sub r).st = .run) (hdrain : (s.slc (s.sdesc r).slice).st ≠ 1) (hsquash : (s.slc (s.sdesc r).slice).st ≠ 2)
    (he : Memory.readBytes (s.sub r).push 0 512 = e) (hfirst : bitAt (s.sub r).pushed 0 = true) (htaken : s.pushTaken r (v.toNat % 2 ^ 32) e = true)
    (hown : bitAt (field e 0 1) 0 = true) (hopc : eOpc e = 1) (hfits : (s.sub r).h % (s.sdesc r).gran + eLen e ≤ (s.sdesc r).gran)
    (hcls : (s.sdesc r).cls = 0) (hin : eIndirect e = false) (hc : s.refuse r (e.take (32 * eLen e)) = none) :
    ∃ u, exec (.pushGo r v) s = .next u ∧ ((u.sub r).h = idxAdd (v.toNat % 2 ^ 32) (eLen e) ∧ (u.sub r).count = (s.sub r).count + 1
        ∧ s.counted u HQ_CNT0.ARRIVED 1) ∧ (u.sub r).a = idxAdd (v.toNat % 2 ^ 32) (eLen e) ∧ (u.sub r).pushed = 0
      ∧ u.merge.host = insertHost (ctrlRec (s.sdesc r).slice r (s.sub r).count s.nowStamp (e.take (32 * eLen e)) (inlineData (e.take (32 * eLen e)))) s.merge.host := by
  obtain ⟨hindex, hrefetch⟩ := State.pushTaken_place htaken
  have hbounds := eLen_bounds e
  have hlong : 8 ≤ 32 * eLen e := by omega
  have hlen : (e.take (32 * eLen e)).length = 32 * eLen (e.take (32 * eLen e)) := by
    rw [eLen_take hlong, List.length_take, ← he, Memory.length_readBytes, he]; omega
  obtain ⟨hplace, harrived, hhost⟩ := State.pushHead_ctrl (i := v.toNat % 2 ^ 32) hst hrefetch hlen (by rw [eOwn_take hlong, hown]) (by rw [eOpc_take hlong, hopc])
    (by rw [eLen_take hlong]; exact hfits) hcls (by rw [eIndirect_take hlong, hin]) hc
  obtain ⟨hclear, hpushed, hregs, hmerge⟩ := ((s.pushHead r (v.toNat % 2 ^ 32) (e.take (32 * eLen e))).headEntry r).clearPush_effect r
  obtain ⟨hh, ha, hcount⟩ := SubRing.place_eq_iff.mp (hclear.trans hplace)
  rw [eLen_take hlong] at hh ha
  refine ⟨_, pushGo_eq hst hdrain hsquash he hfirst htaken, ⟨hh.trans (by rw [hindex]), hcount, ?_⟩, ha, hpushed, by rw [hmerge, hhost]⟩
  rw [State.counted, State.rd, hregs]
  exact harrived

end

/-- Settles O44: one lemma for each command and outcome. -/
theorem submissionRings : Obligations.SubmissionRings := by
  unfold Obligations.SubmissionRings
  intro s r x d arrives whole
  refine ⟨fun hst hdrain hsquash => ⟨fun v hne => ⟨subTail_announces hst hdrain hsquash hne, subTail_ignored hst hdrain hsquash hne⟩,
      fun off data => ⟨pushData_stores hst hdrain hsquash, pushData_bad⟩, ?_⟩,
    fun hst hrefetch hlen ⟨hown, hopc, hfits⟩ => ?_, fun left hgrant => fetchGrant_reads hgrant, fun hruns hen hahead hroom hunread hgrants hpolling hrefetch hdue =>
      aheadPoll_reads hruns hen hahead hroom hunread hgrants hpolling hrefetch hdue,
    fun hst hrefetch hlen hown => ⟨entryArrive_discards hst hrefetch hlen hown, entryArrive_late hst hrefetch hlen hown⟩,
    fun hst hrefetch hdue => refetch_reads hst hrefetch hdue⟩
  · intro v e e' hfirst htaken hwhole hcls hopc hin hc
    obtain ⟨hown, -, hfits⟩ := hwhole
    exact pushGo_ctrl hst hdrain hsquash rfl hfirst htaken hown hopc hfits hcls hin hc
  · have hwhole : s.headWhole r := ⟨hst, hrefetch, hlen, hown, hopc, hfits⟩
    exact ⟨fun hc hcls hctrl hin => entryArrive_ctrl hwhole hc hcls hctrl hin, fun c hc => entryArrive_refused hwhole hc⟩

end Sys2Proof.Machine
